-- ==== Sys2Proof/Word.lean ====
section
/-! DEFINITION. The word types of the register interface (R6) and the plainest operations on them. -/

namespace Sys2Proof

/-- A register is 32 bits wide (R6). -/
abbrev Word := BitVec 32

/-- One byte of a frame, of host memory or of an image. -/
abbrev Byte := BitVec 8

/-- A PCIe function: the PF is 0 and VFs are 1 to 63 (chapter 00, Terms). -/
abbrev Fn := Fin 64

/-- A logical port, lane p and port one to one (chapter 00). -/
abbrev Port := Fin 160

/-- A BAR0 page ID (R32). -/
abbrev PageId := Fin 256

/-- A port group, or a piste of one direction (chapter 00). -/
abbrev PgIx := Fin 20

/-- A DRAM channel (chapter 00). -/
abbrev Chan := Fin 64

/-- A half: East is 0 and West is 1 (chapter 00). -/
abbrev Half := Fin 2

/-- An egress queue of TMG (R179). -/
abbrev QId := Fin 131072

/-- A byte offset within a BAR; BAR0 is 16 MiB (R30). -/
abbrev Offset := BitVec 24

end Sys2Proof
end

