-- ==== Sys2Proof/Syntax.lean ====
section
/-! DEFINITION. The commands of the block: one constructor per row of the table of operations and events. -/

namespace Sys2Proof

/-- The memory windows of a function (R30). -/
inductive Bar where
  | bar0 | bar2 | bar4
  deriving DecidableEq, Repr

/-- What ends the lock of an UP port (R79). -/
inductive LinkFault where
  | lockLost | localFault | remoteFault
  deriving DecidableEq, Repr

/-- The side of a port an injected flap acts on (R94). -/
inductive Dir where
  | rx | tx
  deriving DecidableEq, Repr

/-- The completion of a read from host memory: its bytes, or what fails the read (R326). -/
inductive Cpl where
  | data (bytes : List Byte)
  | ur
  | ca
  | poisoned
  | timeout
  deriving DecidableEq, Repr

/-- What a PCIe configuration read names (R324 to R327, R346). -/
inductive CfgReg where
  | ids | classCode | busMaster | totalVfs | vfOffsetStride | vfEnable | numVfs | maxPayload | maxReadReq | cplTimeout | d3hot
  | msixSize | msixEnable | msixFnMask
  | msixMask (vec : Fin 64)
  | msixPending (vec : Fin 64)
  | aerCorrectable | aerUncorrectable
  deriving DecidableEq, Repr

/-- A PCIe configuration request (R324 to R327, R346): a read, or a write by the field it sets. Max Payload Size is
128 * 2^code bytes, and Max Read Request Size likewise; AER bits are cleared by writing 1. -/
inductive CfgReq where
  | read (r : CfgReg)
  | vfEnable (v : Bool)
  | numVfs (n : BitVec 16)
  | busMaster (v : Bool)
  | maxPayload (code : Fin 3)
  | maxReadReq (code : Fin 6)
  | cplTimeout (code : Fin 16)
  | powerState (d3hot : Bool)
  | msixEnable (v : Bool)
  | msixFnMask (v : Bool)
  | msixMask (vec : Fin 64) (v : Bool)
  | aerCorrectable (w : Word)
  | aerUncorrectable (w : Word)
  deriving DecidableEq, Repr

/-- The JTAG instructions R414 names; `priv` is any private one. -/
inductive JtagInstr where
  | bypass | idcode | samplePreload | extest | extestPulse | extestTrain | clamp | highz | priv
  deriving DecidableEq, Repr, Inhabited

/-- An access that R31 calls malformed: a write, or a read of so many bytes, at most the 4,096 that a PCIe request can ask
for. -/
inductive BadAccess where
  | write
  | read (len : Fin 4097)
  deriving DecidableEq, Repr

/-- The levels that the pins have at the rising edge of RESET_N (R55, R413): the straps and the I2C address. -/
structure ResetPins where
  straps : BitVec 16
  i2c : Fin 8
  deriving DecidableEq, Repr

/-- What FEC says of a frame it carries (R75, R76): whether an uncorrectable codeword overlaps it, and how many codewords
were corrected. -/
structure FecMark where
  bad : Bool := false
  corr : Nat := 0
  deriving DecidableEq, Repr

/-- A packet whose first cell reaches TMG (R183): the piste it comes from, and whether that piste has reported the packet's
length. -/
structure FirstCell where
  ix : PgIx
  known : Bool
  deriving DecidableEq, Repr

/-- A write transaction on the I2C bus (R413): the slave address and the bytes after it. -/
structure I2cWrite where
  addr : Fin 128
  bytes : List Byte
  deriving DecidableEq, Repr

/-- A read transaction on the I2C bus (R413): the slave address and the words read. -/
structure I2cFetch where
  addr : Fin 128
  words : Nat
  deriving DecidableEq, Repr

inductive Instr where
  /-- REG_WRITE (R8). -/
  | regWrite (fn : Fn) (bar : Bar) (off : Offset) (w : Word)
  /-- MALFORMED_ACCESS (R31). -/
  | malformedAccess (fn : Fn) (access : BadAccess)
  /-- PAIR_LOW_READ (R7). -/
  | pairLowRead (fn : Fn) (bar : Bar) (off : Offset)
  /-- PAIR_LOW_WRITE (R7). -/
  | pairLowWrite (fn : Fn) (bar : Bar) (off : Offset) (w : Word)
  /-- PAIR_HIGH_WRITE (R7). -/
  | pairHighWrite (fn : Fn) (bar : Bar) (off : Offset) (w : Word)
  /-- BLOCK_ENABLE_WRITE (R44). -/
  | blockEnableWrite (page : PageId) (w : Word)
  /-- QUIESCE_REQUEST (R43). -/
  | quiesceRequest (page : PageId) (w : Word)
  /-- SOFT_RESET (R46). -/
  | softReset (page : PageId) (w : Word)
  /-- DRAIN_COMPLETE (R44). -/
  | drainComplete (page : PageId)
  /-- QUIESCE_TIMEOUT (R44). -/
  | quiesceTimeout (page : PageId)
  /-- RESET_COMPLETE (R44). -/
  | resetComplete (page : PageId)
  /-- COUNTER_CLEAR (R38). -/
  | counterClear (fn : Fn) (bar : Bar) (off : Offset) (w : Word)
  /-- COUNTER_SELECT_WRITE (R389). -/
  | counterSelectWrite (page : PageId) (n : Fin 8) (w : Word)
  /-- RESET_N_ASSERT (R51). -/
  | resetNAssert
  /-- RESET_N_RISE (R52). -/
  | resetNRise (pins : ResetPins)
  /-- FUSE_READ (R52). -/
  | fuseRead (avsOk : Bool)
  /-- PCIE_DETECT (R52). -/
  | pcieDetect
  /-- INIT_COMPLETE (R57). -/
  | initComplete
  /-- PCIE_CONFIG_READY (R52). -/
  | pcieConfigReady
  /-- FULL_RESET (R53). -/
  | fullReset (w : Word)
  /-- HOT_RESET (R54). -/
  | hotReset
  /-- PCIE_LINK_DOWN (R54). -/
  | pcieLinkDown
  /-- FUNCTION_LEVEL_RESET (R344). -/
  | functionLevelReset (fn : Fn)
  /-- IMAGE_READ_DONE (R61). -/
  | imageReadDone (image : List Byte)
  /-- WRITE32 (R62). -/
  | write32
  /-- WRITE64 (R62). -/
  | write64
  /-- RMW32 (R62). -/
  | rmw32
  /-- FILL32 (R62). -/
  | fill32
  /-- DATA (R62). -/
  | dataRecord
  /-- POLL32 (R62). -/
  | poll32
  /-- POLL32_LIMIT (R63). -/
  | poll32Limit
  /-- DELAY (R62). -/
  | delayRecord
  /-- DELAY_EXPIRE (R62). -/
  | delayExpire
  /-- RECORD_END (R62). -/
  | recordEnd
  /-- LOAD_ABORT (R57). -/
  | loadAbort (w : Word)
  /-- VALIDATE_GO (R67). -/
  | validateGo (w : Word)
  /-- VALIDATION_END (R67). -/
  | validationEnd
  /-- SEAL (R70). -/
  | sealConfig (w : Word)
  /-- RUN_GO (R57). -/
  | runGo (w : Word)
  /-- CFGCRC_RECHECK (R362). -/
  | cfgcrcRecheck
  /-- PORT_ENABLE (R79). -/
  | portEnable (p : Port)
  /-- PORT_DISABLE (R79). -/
  | portDisable (p : Port)
  /-- TRAINING_COMPLETE (R79). -/
  | trainingComplete (p : Port)
  /-- TRAIN_TIMEOUT (R79). -/
  | trainTimeout (p : Port)
  /-- UPHOLD_EXPIRE (R79). -/
  | upholdExpire (p : Port)
  /-- LOCK_LOST (R79). -/
  | lockLost (p : Port) (cause : LinkFault)
  /-- DOWNHOLD_EXPIRE (R79). -/
  | downholdExpire (p : Port)
  /-- FRAME_RECEIVED (R76). -/
  | frameReceived (p : Port) (frame : List Byte) (fec : FecMark)
  /-- ICV_COMPLETE (R279). -/
  | icvComplete (p : Port)
  /-- PFC_RECEIVED (R77). -/
  | pfcReceived (p : Port) (frame : List Byte) (fec : FecMark)
  /-- PAUSE_RECEIVED (R77). -/
  | pauseReceived (p : Port) (frame : List Byte) (fec : FecMark)
  /-- PAUSE_EXPIRE (R77). -/
  | pauseExpire (p : Port) (c : Fin 8)
  /-- PFC_SEND (R77). -/
  | pfcSend (p : Port)
  /-- PFC_REFRESH (R77). -/
  | pfcRefresh (p : Port)
  /-- VERIFY_SEND (R78). -/
  | verifySend (p : Port)
  /-- VERIFY_RESPONSE (R78). -/
  | verifyResponse (p : Port)
  /-- VERIFY_FAIL (R78). -/
  | verifyFail (p : Port)
  /-- FRAME_TRANSMIT (R87). -/
  | frameTransmit (p : Port)
  /-- TSF_TAG_READ (R89). -/
  | tsfTagRead (g : PgIx)
  /-- TSF_POP (R89). -/
  | tsfPop (g : PgIx) (w : Word)
  /-- MOGUL_ARM (R92). -/
  | mogulArm (g : PgIx) (w : Word)
  /-- MOGUL_DELAY_EXPIRE (R94). -/
  | mogulDelayExpire (g : PgIx)
  /-- MOGUL_REORDER_RELEASE (R94). -/
  | mogulReorderRelease (g : PgIx)
  /-- MOGUL_FLAP_END (R94). -/
  | mogulFlapEnd (p : Port) (dir : Dir)
  /-- STEP_GO (R83). -/
  | stepGo (w : Word)
  /-- STEP_APPLY (R84). -/
  | stepApply
  /-- HOLDOVER_ENTRY (R82). -/
  | holdoverEntry
  /-- HOLDOVER_EXIT (R82). -/
  | holdoverExit
  /-- PPS_CAPTURE (R85). -/
  | ppsCapture
  /-- PPS_OUT_RISE (R85). -/
  | ppsOutRise
  /-- PPS_OUT_FALL (R85). -/
  | ppsOutFall
  /-- TIMER_ARM (R90). -/
  | timerArm (n : Fin 16) (w : Word)
  /-- TIMER_FIRE (R90). -/
  | timerFire (n : Fin 16)
  /-- INGRESS_PACKET (R420). -/
  | ingressPacket (i : PgIx)
  /-- LEARN_INSERT (R143). -/
  | learnInsert (h : Half)
  /-- LEARN_NOTICE_WRITE (R144). -/
  | learnNoticeWrite (h : Half)
  /-- HOLDOFF_EXPIRE (R143). -/
  | holdoffExpire (h : Half)
  /-- PACKET_ADMIT (R184). -/
  | packetAdmit (c : FirstCell)
  /-- LAST_CELL_ARRIVAL (R200). -/
  | lastCellArrival (i : PgIx)
  /-- REPLICATE (R195). -/
  | replicateCopies
  /-- SPILL_WRITE_DONE (R189). -/
  | spillWriteDone
  /-- REFILL_RETURN (R190). -/
  | refillReturn
  /-- AGING_DUE (R193). -/
  | agingDue (q : Fin 131584)
  /-- MC_ENTRY_COMMIT (R197). -/
  | mcEntryCommit (w : Word)
  /-- RINK_ENABLE (R198). -/
  | rinkEnable (k : Fin 8) (w : Word)
  /-- PC_LATCH (R184). -/
  | pcLatch (w : Word)
  /-- SCH_GRANT (R221). -/
  | schGrant (p : Port)
  /-- SHAPER_COMMIT (R227). -/
  | shaperCommit (off : Offset) (w : Word)
  /-- POLICER_COMMIT (R227). -/
  | policerCommit (w : Word)
  /-- GATE_GO (R235). -/
  | gateGo (p : Port) (w : Word)
  /-- GATE_LIST_START (R235). -/
  | gateListStart (p : Port)
  /-- GATE_ENTRY_CHANGE (R234). -/
  | gateEntryChange (p : Port)
  /-- EGRESS_PACKET (R170). -/
  | egressPacket (i : PgIx)
  /-- EOB_HEARTBEAT (R258). -/
  | eobHeartbeat (g : Fin 32)
  /-- HEARTBEAT_SEND (R257). -/
  | heartbeatSend (g : Fin 32) (m : Fin 16)
  /-- NOTICE_RECEIVED (R249). -/
  | noticeReceived (k : Fin 4) (bytes : List Byte)
  /-- NOTICE_TRUNCATED (R246). -/
  | noticeTruncated (k : Fin 4)
  /-- HOST_NOTICE (R252). -/
  | hostNotice (w : Word)
  /-- CAPACITY_APPLY (R250). -/
  | capacityApply (g : Fin 32) (m : Fin 16)
  /-- MEMBER_JOIN (R254). -/
  | memberJoin (g : Fin 32) (m : Fin 16)
  /-- MEMBER_EXCLUDE (R254). -/
  | memberExclude (g : Fin 32) (m : Fin 16) (w : Word)
  /-- SHIMMED_FRAME_RECEIVED (R261). -/
  | shimmedFrameReceived (p : Port)
  /-- EDDY_DELIVER (R263). -/
  | eddyDeliver (g : Fin 32)
  /-- GAP_LOSS_TIMEOUT (R264). -/
  | gapLossTimeout (g : Fin 32)
  /-- SYNC_TIMEOUT (R265). -/
  | syncTimeout (g : Fin 32)
  /-- RX_ACTIVE_TIMEOUT (R262). -/
  | rxActiveTimeout (g : Fin 32) (m : Fin 16)
  /-- EDDY_SPILL_DONE (R266). -/
  | eddySpillDone
  /-- EDDY_REFILL_RETURN (R266). -/
  | eddyRefillReturn
  /-- PAGE_GRANT (R209). -/
  | pageGrant
  /-- PAGE_RETURN (R211). -/
  | pageReturn
  /-- HOSTALLOC (R212). -/
  | hostalloc
  /-- HOST_PAGE_RETURN (R212). -/
  | hostPageReturn (w : Word)
  /-- CACHE_REFILL (R207). -/
  | cacheRefill
  /-- RING_READ_RETURN (R206). -/
  | ringReadReturn
  /-- CACHE_WRITEBACK (R207). -/
  | cacheWriteback
  /-- RING_BUILD_START (R214). -/
  | ringBuildStart
  /-- RING_BUILD_END (R214). -/
  | ringBuildEnd
  /-- RECLAIM_HOST (R215). -/
  | reclaimHost (w : Word)
  /-- RECLAIM_END (R215). -/
  | reclaimEnd (o : Fin 4)
  /-- ADD (R134). -/
  | addEntry
  /-- DEL (R134). -/
  | delEntry
  /-- FIND (R134). -/
  | findEntry
  /-- ROWREAD (R134). -/
  | rowread
  /-- ROWWRITE (R134). -/
  | rowwrite
  /-- ROOTSET (R128). -/
  | rootset
  /-- PONDWR (R151). -/
  | pondwr
  /-- PONDDEL (R134). -/
  | ponddel
  /-- LOCK (R139). -/
  | lockRow
  /-- UNLOCK (R134). -/
  | unlockRow
  /-- FLUSH (R134). -/
  | flushPort
  /-- COMMAND_RESUME (R123). -/
  | commandResume
  /-- TBL_COMPLETE (R136). -/
  | tblComplete
  /-- COMPLETION_READ (R133). -/
  | completionRead
  /-- COMPLETION_POP (R133). -/
  | completionPop (w : Word)
  /-- FOLD_START (R123). -/
  | foldStart
  /-- FOLD_END (R123). -/
  | foldEnd
  /-- AGING_PASS (R145). -/
  | agingPass (h : Half)
  /-- TABLE_SCRUB (R155). -/
  | tableScrub (h : Half) (row : Nat) (flip : List Nat)
  /-- SHADOW_COMPARE (R152). -/
  | shadowCompare (h : Half) (bank : Fin 96) (row : Fin 2048) (err : Fin 3)
  /-- BACKGROUND_SLOT (R154). -/
  | backgroundSlot (i : PgIx)
  /-- COMMIT (R161). -/
  | commitOpen (w : Word)
  /-- COMMIT_REFUSED (R161). -/
  | commitRefused
  /-- COMMIT_SWITCH (R161). -/
  | commitSwitch
  /-- ABORT (R162). -/
  | abortCommit (w : Word)
  /-- ABORT_UNDO_END (R162). -/
  | abortUndoEnd
  /-- CPU_TX_INJECT (R331). -/
  | cpuTxInject (fn : Fn) (q : Fin 8) (desc : Cpl) (buf : Cpl)
  /-- CPU_RX_DELIVER (R332). -/
  | cpuRxDeliver (fn : Fn) (q : Fin 8) (ring : List Byte)
  /-- QP_HOLDOFF_EXPIRE (R328). -/
  | qpHoldoffExpire (fn : Fn) (q : Fin 8)
  /-- DMA_DESC_FETCH (R334). -/
  | dmaDescFetch (ch : Fin 32) (cpl : Cpl)
  /-- DMA_ENABLE (R338). -/
  | dmaEnable (fn : Fn) (w : Word)
  /-- DMA_START (R339). -/
  | dmaStart
  /-- DMA_READ_RETURN (R340). -/
  | dmaReadReturn (cpl : Cpl)
  /-- DMA_COMPLETE (R341). -/
  | dmaComplete
  /-- DMA_STOP (R342). -/
  | dmaStop (fn : Fn) (w : Word)
  /-- KEY_IMPORT (R286). -/
  | keyImport (fn : Fn) (w : Word)
  /-- IMPORT_RESULT (R287). -/
  | importResult (fn : Fn)
  /-- KEY_ERASE (R283). -/
  | keyErase (fn : Fn) (bar : Bar) (w : Word)
  /-- OLD_KEY_RELEASE (R283). -/
  | oldKeyRelease (slot : BitVec 16)
  /-- ZEROIZE (R291). -/
  | zeroize (w : Word)
  /-- SPI_LOAD (R288). -/
  | spiLoad (frame : List Byte)
  /-- SPI_ERASE (R288). -/
  | spiErase (frame : List Byte)
  /-- SPI_RESULT (R289). -/
  | spiResult (frame : List Byte)
  /-- PROGDS (R290). -/
  | progds (frame : List Byte)
  /-- ENCODING_SA_SET (R292). -/
  | encodingSaSet (fn : Fn) (w : Word)
  /-- CHANNEL_BRINGUP (R304). -/
  | channelBringup (n : Chan)
  /-- TRAINING_DONE (R305). -/
  | trainingDone (n : Chan) (step : Fin 10)
  /-- RETRAIN_DONE (R305). -/
  | retrainDone (n : Chan) (step : Fin 10)
  /-- DRAM_REQUEST (R309). -/
  | dramRequest (port : Fin 6)
  /-- DRAM_READ_COMPLETE (R313): the bursts of the request with a codeword corrected, and those with an uncorrectable one. -/
  | dramReadComplete (tag : Nat) (corr unc : List (Fin 64))
  /-- DRAM_WRITE_COMPLETE (R309). -/
  | dramWriteComplete (tag : Nat) (errs : List (Fin 64 × Bool))
  /-- READ_URGENT (R311). -/
  | readUrgent (tag : Nat)
  /-- READ_PANIC (R311). -/
  | readPanic (tag : Nat)
  /-- REFRESH (R314). -/
  | refreshGroup (k : Fin 8)
  /-- ROW_IDLE_CLOSE (R312). -/
  | rowIdleClose (n : Chan) (bank : Fin 16)
  /-- MR4_READ (R315). -/
  | mr4Read (n : Chan) (tref : Fin 3)
  /-- ZQ_LATCH (R306). -/
  | zqLatch (n : Chan)
  /-- PHY_TRACKING (R306). -/
  | phyTracking (n : Chan) (ds : List (Fin 48 × Bool))
  /-- DRAM_SCRUB (R307). -/
  | dramScrub (n : Chan) (corr : Fin 9) (unc : Bool)
  /-- FORCED_MAINT_SLOT (R307). -/
  | forcedMaintSlot (n : Chan)
  /-- SELF_REFRESH_ENTRY (R317). -/
  | selfRefreshEntry (n : Chan)
  /-- SELF_REFRESH_EXIT (R317). -/
  | selfRefreshExit (n : Chan)
  /-- FREQ_CHANGE_GO (R319). -/
  | freqChangeGo (w : Word)
  /-- FREQ_GROUP_START (R319). -/
  | freqGroupStart
  /-- FREQ_GROUP_DONE (R319). -/
  | freqGroupDone
  /-- FAULT_EVENT (R350). -/
  | faultEvent (det : Option (PageId × Fin 32 × Word))
  /-- FAULT_INJECT (R358). -/
  | faultInject (page : PageId) (w : Word)
  /-- FAULT_ACK (R352). -/
  | faultAck (w : Word)
  /-- REACTION_WRITE (R349). -/
  | reactionWrite (w : Word)
  /-- RECORD_READ (R351). -/
  | recordRead (frozen : Bool)
  /-- CONSEQ_WINDOW_END (R354). -/
  | conseqWindowEnd (page : PageId)
  /-- FENCE_COUNT_DECAY (R357). -/
  | fenceCountDecay (page : PageId)
  /-- FAULT_PIN_SAMPLE (R360). -/
  | faultPinSample (p : Bool) (n : Bool)
  /-- LEGACY_CLEAR (R361). -/
  | legacyClear (w : Word)
  /-- SUPPLY_SAMPLE (R363). -/
  | supplySample (core : Nat) (vmon : List Nat)
  /-- HOLD_RESUME (R364). -/
  | holdResume
  /-- THERMAL_READ (R366). -/
  | thermalRead (temps : List Nat)
  /-- AVS_STEP (R367). -/
  | avsStep
  /-- AVS_CURRENT_READ (R368). -/
  | avsCurrentRead (amps : Nat) (ok : Bool)
  /-- SNOWPLOUGH_WINDOW (R368). -/
  | snowploughWindow
  /-- GAUGE_SWEEP (R391). -/
  | gaugeSweep
  /-- SNAPSHOT_GO (R395). -/
  | snapshotGo (w : Word)
  /-- SNAPSHOT_LATCH (R394). -/
  | snapshotLatch
  /-- SNAPSHOT_DONE (R394). -/
  | snapshotDone
  /-- FREEZE_GO (R396). -/
  | freezeGo (w : Word)
  /-- FREEZE_APPLY (R396). -/
  | freezeApply
  /-- I2C_OFFSET_WRITE (R413). -/
  | i2cOffsetWrite (t : I2cWrite)
  /-- I2C_READ (R413). -/
  | i2cRead (t : I2cFetch)
  /-- EVT_LANE_UP (R371). -/
  | evtLaneUp (l : Fin 4)
  /-- EVT_LANE_DOWN (R371). -/
  | evtLaneDown (l : Fin 4)
  /-- HELLO_SEND (R373). -/
  | helloSend
  /-- HELLO_RECEIVED (R377). -/
  | helloReceived (frame : List Byte)
  /-- JOURNAL_SEND (R373). -/
  | journalSend
  /-- JOURNAL_RECEIVED (R381). -/
  | journalReceived (frame : List Byte)
  /-- ACK_SEND (R373). -/
  | ackSend
  /-- ACK_RECEIVED (R380). -/
  | ackReceived (frame : List Byte)
  /-- ROLE_REQUEST (R384). -/
  | roleRequest (frame : List Byte)
  /-- ROLE_ACCEPT (R384). -/
  | roleAccept (frame : List Byte)
  /-- ROLE_REFUSE (R384). -/
  | roleRefuse (frame : List Byte)
  /-- SYNCREQ (R380). -/
  | syncreq (frame : List Byte)
  /-- ROLE_DECISION (R376). -/
  | roleDecision
  /-- CLAIM_START (R376). -/
  | claimStart
  /-- CLAIM_RAISE (R378). -/
  | claimRaise
  /-- CLAIM_SUCCESS (R378). -/
  | claimSuccess
  /-- PEER_PIN_CHANGE (R375). -/
  | peerPinChange (samples : List Bool)
  /-- TAKEOVER (R383). -/
  | takeOver
  /-- HANDOFF (R384). -/
  | handoffRequest (w : Word)
  /-- HANDOFF_TIMEOUT (R384). -/
  | handoffTimeout
  /-- FORCE (R376). -/
  | forceRole (w : Word)
  /-- RESYNC (R386). -/
  | resyncRequest (w : Word)
  /-- BULK_ROW (R386). -/
  | bulkRow
  /-- RETRANSMIT (R380). -/
  | retransmit
  /-- ACK_TIMEOUT (R380). -/
  | ackTimeout
  /-- DEAD_TIMEOUT (R382). -/
  | deadTimeout
  /-- RESET_INTERNAL_ELAPSED (R57). -/
  | resetInternalElapsed
  /-- PLLS_LOCKED (R52). -/
  | pllsLocked
  /-- PCS_FEC_LOCK (R79). -/
  | pcsFecLock (p : Port)
  /-- PCIE_LINK_UP (R324). -/
  | pcieLinkUp (speed : Fin 6) (width : Fin 4) (flit : Bool)
  /-- CONFIG_REQUEST (R327). -/
  | configRequest (fn : Fn) (c : CfgReq)
  /-- COMPLETION_TIMEOUT (R326). -/
  | completionTimeout
  /-- BUCKET_CREDIT (R225). -/
  | bucketCredit
  /-- DRCPLL_RELOCK (R362). -/
  | drcpllRelock (k : Fin 16)
  /-- JOURNAL_GAP_TIMEOUT (R382). -/
  | journalGapTimeout
  /-- KEYSPI_FORMAT (R288). -/
  | keyspiFormat (frame : List Byte)
  /-- EVT_BADFRAME (R373). -/
  | evtBadframe (frame : List Byte)
  /-- BADARG_OP (R134). -/
  | badargOp
  /-- JTAG_INSTRUCTION (R414). -/
  | jtagInstruction (i : JtagInstr)
  deriving DecidableEq, Repr

end Sys2Proof
end

