-- ==== Sys2Proof/Config.lean ====
section
/-! DEFINITION. What an implementation fixes and the values the spec leaves open. Every opaque constant here has
no body: nothing can evaluate it, and a statement about it holds for every value (log entry 3). -/

namespace Sys2Proof.Config

/-- A value the spec leaves open. The state's counter `free` gives a fresh argument each time (log entry 3). -/
opaque freeValue : Nat → BitVec 64

/-- All RWS field values in page and offset order, as the bytes that CFGCRC is taken over (R67): the spec states neither
the width in which a field is laid out nor the order of the fields behind an index register (log entry 4). The argument
lists the register keys and values that differ from reset. -/
opaque cfgBytes : List (Nat × Word) → List (BitVec 8)

/-- The JEDEC manufacturer code in the JTAG IDCODE (R414), which the spec does not give (log entry 5). -/
opaque jtagManufacturer : BitVec 11

/-- The key the cipher engines use where a slot's key has not the length of the suite (R271, R282): the spec states
none (log entry 25). -/
opaque suiteKey (key : List (BitVec 8)) (len : Nat) : List (BitVec 8)

/-- The salt an XPN suite uses where the slot holds none (R282; log entry 25). -/
opaque missingSalt (key : List (BitVec 8)) : List (BitVec 8)

/-- Togralar's PCI-SIG vendor ID (R325), which the spec does not give (log entry 123). -/
opaque vendorId : BitVec 16

/-- How many activates of a bank the DRAM of a channel allows before the activation-count refresh management that its mode
registers require (R298, R316); the spec does not give the number (log entry 119). -/
opaque raaLimit (channel : Nat) : Nat

end Sys2Proof.Config
end

