-- ==== Sys2Proof/Machine/RegMap.lean ====
section
/-! DEFINITION. The register map of every page (R36 and the register tables of chapters 02 to 17): for each
register its offset, its repetitions, its fields with access code (R8), reset value and the treatment of values
the tables call illegal. The rows follow the spec's tables one to one; RSV fields are the bits no row names. -/

namespace Sys2Proof.Machine

/-- Access codes of register fields (R8). RSV is every bit that no field covers. -/
inductive Acc where
  | rw | ro | w1c | w1s | wo | rws
  deriving DecidableEq, Repr

/-- What a register table says becomes of a value outside a field's range: `near`, written as the nearer limit;
`sub`, written as a stated value; `keep`, the field stays; `mod`, taken modulo; `align`, low bits written 0. -/
inductive Lim where
  | any
  | near (lo hi : Nat)
  | sub (lo hi v : Nat)
  | keep (lo hi : Nat)
  | mod (n : Nat)
  | align (n : Nat)
  deriving DecidableEq, Repr

/-- One field of a register: its bits [hi:lo], access code, reset value and limit. -/
structure Field where
  hi : Nat
  lo : Nat
  acc : Acc
  reset : Nat
  lim : Lim
  deriving DecidableEq, Repr

/-- One register of a page: `n1` repetitions `s1` bytes apart, each of `n2` repetitions `s2` bytes apart.
`pair` marks the low word of a 64-bit pair (R7): every row whose register map says so; RINGLO of LRN and of the DMA
channels and TSF_SEC_LO, whose maps do not say it, are plain registers (log entry 111). `bank` is the offset of the index register that selects the
entry a windowed register acts on. -/
structure Row where
  name : String
  off : Nat
  n1 : Nat
  s1 : Nat
  n2 : Nat
  s2 : Nat
  pair : Bool
  bank : Option Nat
  fields : List Field
  deriving DecidableEq, Repr

/-- Register rows of page HDR, part 0. -/
def rowsHDR0 : List Row := [
  ⟨"BLKID", 0x0, 1, 0x1, 1, 0x1, false, none, [⟨7, 0, .ro, 0, .any⟩, ⟨15, 8, .ro, 0, .any⟩, ⟨23, 16, .ro, 0, .any⟩, ⟨31, 31, .ro, 0, .any⟩]⟩,
  ⟨"BLKVER", 0x4, 1, 0x1, 1, 0x1, false, none, [⟨7, 0, .ro, 0, .any⟩, ⟨15, 8, .ro, 1, .any⟩]⟩,
  ⟨"BLKCAP0", 0x8, 1, 0x1, 1, 0x1, false, none, [⟨31, 0, .ro, 0, .any⟩]⟩,
  ⟨"BLKCAP1", 0xC, 1, 0x1, 1, 0x1, false, none, [⟨31, 0, .ro, 0, .any⟩]⟩,
  ⟨"BLKCTL", 0x10, 1, 0x1, 1, 0x1, false, none, [⟨0, 0, .rws, 0, .any⟩, ⟨1, 1, .rw, 0, .any⟩, ⟨2, 2, .wo, 0, .any⟩]⟩,
  ⟨"BLKSTAT", 0x14, 1, 0x1, 1, 0x1, false, none, [⟨0, 0, .ro, 0, .any⟩, ⟨1, 1, .ro, 0, .any⟩, ⟨2, 2, .ro, 0, .any⟩, ⟨3, 3, .ro, 0, .any⟩, ⟨4, 4, .ro, 0, .any⟩]⟩,
  ⟨"FLTSTAT", 0x20, 1, 0x1, 1, 0x1, false, none, [⟨31, 0, .w1c, 0, .any⟩]⟩,
  ⟨"FLTMASK", 0x24, 1, 0x1, 1, 0x1, false, none, [⟨31, 0, .rws, 0, .any⟩]⟩,
  ⟨"FLTFORCE", 0x28, 1, 0x1, 1, 0x1, false, none, [⟨31, 0, .wo, 0, .any⟩]⟩,
  ⟨"FLTCNT", 0x2C, 1, 0x1, 1, 0x1, false, none, [⟨15, 0, .ro, 0, .any⟩, ⟨30, 16, .ro, 0, .any⟩, ⟨31, 31, .wo, 0, .any⟩]⟩,
  ⟨"IRQSTAT", 0x40, 1, 0x1, 1, 0x1, false, none, [⟨29, 0, .w1c, 0, .any⟩, ⟨30, 30, .w1c, 0, .any⟩, ⟨31, 31, .w1c, 0, .any⟩]⟩,
  ⟨"IRQMASK", 0x44, 1, 0x1, 1, 0x1, false, none, [⟨31, 0, .rw, 0xFFFFFFFF, .any⟩]⟩,
  ⟨"CSEL", 0x80, 8, 0x4, 1, 0x1, false, none, [⟨15, 0, .rw, 0, .any⟩, ⟨23, 16, .rw, 0, .any⟩, ⟨24, 24, .rw, 0, .any⟩, ⟨25, 25, .wo, 0, .any⟩, ⟨31, 31, .ro, 0, .any⟩]⟩,
  ⟨"CNTLO", 0xC0, 8, 0x8, 1, 0x1, true, none, [⟨31, 0, .ro, 0, .any⟩]⟩,
  ⟨"CNTHI", 0xC4, 8, 0x8, 1, 0x1, false, none, [⟨15, 0, .ro, 0, .any⟩]⟩]

/-- Every register row of page HDR. -/
def rowsHDR : List Row := rowsHDR0

/-- Register rows of page DEV, part 0. -/
def rowsDEV0 : List Row := [
  ⟨"IDENT", 0x100, 1, 0x1, 1, 0x1, false, none, [⟨15, 0, .ro, 0x3200, .any⟩, ⟨23, 16, .ro, 0, .any⟩]⟩,
  ⟨"SERIAL_LO", 0x104, 1, 0x1, 1, 0x1, true, none, [⟨31, 0, .ro, 0, .any⟩]⟩,
  ⟨"SERIAL_HI", 0x108, 1, 0x1, 1, 0x1, false, none, [⟨31, 0, .ro, 0, .any⟩]⟩,
  ⟨"CAP0", 0x10C, 1, 0x1, 1, 0x1, false, none, [⟨0, 0, .ro, 0, .any⟩, ⟨1, 1, .ro, 0, .any⟩, ⟨2, 2, .ro, 0, .any⟩, ⟨3, 3, .ro, 0, .any⟩, ⟨8, 4, .ro, 0, .any⟩, ⟨13, 9, .ro, 0, .any⟩, ⟨20, 14, .ro, 0, .any⟩]⟩,
  ⟨"CAP1", 0x110, 1, 0x1, 1, 0x1, false, none, [⟨5, 0, .ro, 0, .any⟩, ⟨11, 6, .ro, 0, .any⟩, ⟨16, 12, .ro, 0, .any⟩, ⟨19, 17, .ro, 0, .any⟩, ⟨20, 20, .ro, 0, .any⟩]⟩,
  ⟨"ABSENTWR", 0x114, 1, 0x1, 1, 0x1, false, none, [⟨31, 0, .ro, 0, .any⟩]⟩,
  ⟨"ABSENTADDR", 0x118, 1, 0x1, 1, 0x1, false, none, [⟨23, 0, .ro, 0, .any⟩, ⟨24, 24, .ro, 0, .any⟩, ⟨30, 25, .ro, 0, .any⟩]⟩,
  ⟨"BADACC", 0x11C, 1, 0x1, 1, 0x1, false, none, [⟨31, 0, .ro, 0, .any⟩]⟩,
  ⟨"QTIMEOUT", 0x120, 1, 0x1, 1, 0x1, false, none, [⟨19, 0, .rw, 0x3E8, .keep 1 1048575⟩]⟩,
  ⟨"CNTCLR", 0x124, 1, 0x1, 1, 0x1, false, none, [⟨0, 0, .wo, 0, .any⟩, ⟨1, 1, .wo, 0, .any⟩]⟩,
  ⟨"STATE", 0x180, 1, 0x1, 1, 0x1, false, none, [⟨3, 0, .ro, 0, .any⟩, ⟨7, 4, .ro, 0, .any⟩, ⟨8, 8, .ro, 0, .any⟩, ⟨9, 9, .ro, 0, .any⟩]⟩,
  ⟨"STRAP", 0x184, 1, 0x1, 1, 0x1, false, none, [⟨15, 0, .ro, 0, .any⟩]⟩,
  ⟨"FENCE", 0x188, 1, 0x1, 1, 0x1, false, none, [⟨7, 0, .ro, 0, .any⟩]⟩,
  ⟨"LOADCTL", 0x18C, 1, 0x1, 1, 0x1, false, none, [⟨0, 0, .wo, 0, .any⟩]⟩,
  ⟨"LOADSTAT", 0x190, 1, 0x1, 1, 0x1, false, none, [⟨3, 0, .ro, 0, .any⟩, ⟨4, 4, .ro, 0, .any⟩, ⟨5, 5, .ro, 0, .any⟩, ⟨15, 8, .ro, 0, .any⟩, ⟨31, 16, .ro, 0, .any⟩]⟩,
  ⟨"IMGID", 0x194, 1, 0x1, 1, 0x1, false, none, [⟨31, 0, .ro, 0, .any⟩]⟩,
  ⟨"VALIDATE", 0x198, 1, 0x1, 1, 0x1, false, none, [⟨0, 0, .wo, 0, .any⟩]⟩,
  ⟨"VALSTAT", 0x19C, 1, 0x1, 1, 0x1, false, none, [⟨0, 0, .ro, 0, .any⟩, ⟨1, 1, .ro, 0, .any⟩, ⟨2, 2, .ro, 0, .any⟩, ⟨3, 3, .ro, 0, .any⟩, ⟨15, 8, .ro, 0, .any⟩, ⟨23, 16, .ro, 0, .any⟩]⟩,
  ⟨"VALFAILS", 0x1A0, 1, 0x1, 1, 0x1, false, none, [⟨31, 0, .ro, 0, .any⟩]⟩,
  ⟨"VALDETAIL", 0x1A4, 1, 0x1, 1, 0x1, false, none, [⟨15, 0, .ro, 0, .any⟩, ⟨31, 16, .ro, 0, .any⟩]⟩,
  ⟨"CFGGEN", 0x1A8, 1, 0x1, 1, 0x1, false, none, [⟨31, 0, .ro, 0, .any⟩]⟩,
  ⟨"VALGEN", 0x1AC, 1, 0x1, 1, 0x1, false, none, [⟨31, 0, .ro, 0, .any⟩]⟩,
  ⟨"CFGCRC", 0x1B0, 1, 0x1, 1, 0x1, false, none, [⟨31, 0, .ro, 0, .any⟩]⟩,
  ⟨"SEAL", 0x1B4, 1, 0x1, 1, 0x1, false, none, [⟨15, 0, .wo, 0, .any⟩]⟩,
  ⟨"SEALREJ", 0x1B8, 1, 0x1, 1, 0x1, false, none, [⟨30, 0, .ro, 0, .any⟩, ⟨31, 31, .wo, 0, .any⟩]⟩,
  ⟨"SEALREJADDR", 0x1BC, 1, 0x1, 1, 0x1, false, none, [⟨23, 0, .ro, 0, .any⟩, ⟨24, 24, .ro, 0, .any⟩, ⟨30, 25, .ro, 0, .any⟩]⟩,
  ⟨"RUNCTL", 0x1C0, 1, 0x1, 1, 0x1, false, none, [⟨0, 0, .wo, 0, .any⟩, ⟨1, 1, .rws, 0, .any⟩]⟩,
  ⟨"RSTCTL", 0x1C4, 1, 0x1, 1, 0x1, false, none, [⟨15, 0, .wo, 0, .any⟩]⟩]

/-- Every register row of page DEV. -/
def rowsDEV : List Row := rowsDEV0

/-- Register rows of page PG, part 0. -/
def rowsPG0 : List Row := [
  ⟨"MODE", 0x100, 1, 0x1, 1, 0x1, false, none, [⟨3, 0, .rws, 0, .any⟩]⟩,
  ⟨"LANECFG", 0x104, 1, 0x1, 1, 0x1, false, none, [⟨7, 0, .rws, 0, .any⟩, ⟨15, 8, .rws, 0, .any⟩, ⟨23, 16, .rw, 0, .any⟩]⟩,
  ⟨"MOGULPERMIT", 0x108, 1, 0x1, 1, 0x1, false, none, [⟨0, 0, .rws, 0, .any⟩]⟩,
  ⟨"SECEN", 0x10C, 1, 0x1, 1, 0x1, false, none, [⟨7, 0, .rws, 0, .any⟩]⟩,
  ⟨"LANETX", 0x110, 8, 0x4, 1, 0x1, false, none, [⟨3, 0, .rws, 1, .any⟩]⟩,
  ⟨"PCNTCLR", 0x180, 1, 0x1, 1, 0x1, false, none, [⟨7, 0, .wo, 0, .any⟩]⟩,
  ⟨"PFCSA_LO", 0x1C0, 8, 0x8, 1, 0x1, true, none, [⟨31, 0, .rw, 0, .any⟩]⟩,
  ⟨"PFCSA_HI", 0x1C4, 8, 0x8, 1, 0x1, false, none, [⟨15, 0, .rw, 0, .any⟩]⟩,
  ⟨"PORTCFG", 0x200, 8, 0x40, 1, 0x1, false, none, [⟨0, 0, .rw, 0, .any⟩, ⟨1, 1, .rws, 0, .any⟩, ⟨2, 2, .rws, 0, .any⟩, ⟨3, 3, .rws, 0, .any⟩, ⟨4, 4, .rws, 0, .any⟩, ⟨5, 5, .rws, 0, .any⟩, ⟨6, 6, .rws, 1, .any⟩, ⟨8, 7, .rws, 0, .any⟩, ⟨9, 9, .rws, 0, .any⟩, ⟨23, 16, .rws, 0, .any⟩, ⟨31, 24, .rws, 0xA, .any⟩]⟩,
  ⟨"MAXLEN", 0x204, 8, 0x40, 1, 0x1, false, none, [⟨13, 0, .rws, 0x5EE, .any⟩]⟩,
  ⟨"PFCTIME", 0x208, 8, 0x40, 1, 0x1, false, none, [⟨15, 0, .rw, 0xFFFF, .near 1 65535⟩, ⟨31, 16, .rw, 0x7FFF, .any⟩]⟩,
  ⟨"LINKCFG", 0x20C, 8, 0x40, 1, 0x1, false, none, [⟨15, 0, .rw, 0, .any⟩, ⟨31, 16, .rw, 0x64, .near 1 65535⟩]⟩,
  ⟨"PORTSTAT", 0x210, 8, 0x40, 1, 0x1, false, none, [⟨2, 0, .ro, 0, .any⟩, ⟨3, 3, .ro, 0, .any⟩, ⟨4, 4, .ro, 0, .any⟩, ⟨5, 5, .ro, 0, .any⟩, ⟨6, 6, .ro, 0, .any⟩, ⟨8, 7, .ro, 0, .any⟩, ⟨23, 16, .ro, 0, .any⟩]⟩,
  ⟨"TSOFS_RX", 0x214, 8, 0x40, 1, 0x1, false, none, [⟨31, 0, .rw, 0, .any⟩]⟩,
  ⟨"TSOFS_TX", 0x218, 8, 0x40, 1, 0x1, false, none, [⟨31, 0, .rw, 0, .any⟩]⟩,
  ⟨"FECCORR", 0x21C, 8, 0x40, 1, 0x1, false, none, [⟨31, 0, .ro, 0, .any⟩]⟩,
  ⟨"FECUNC", 0x220, 8, 0x40, 1, 0x1, false, none, [⟨31, 0, .ro, 0, .any⟩]⟩,
  ⟨"RXBUFDROP", 0x224, 8, 0x40, 1, 0x1, false, none, [⟨31, 0, .ro, 0, .any⟩]⟩,
  ⟨"NOTRUN", 0x228, 8, 0x40, 1, 0x1, false, none, [⟨31, 0, .ro, 0, .any⟩]⟩,
  ⟨"LINKDROP", 0x22C, 8, 0x40, 1, 0x1, false, none, [⟨31, 0, .ro, 0, .any⟩]⟩,
  ⟨"LENERR", 0x230, 8, 0x40, 1, 0x1, false, none, [⟨31, 0, .ro, 0, .any⟩]⟩,
  ⟨"FCSERR", 0x234, 8, 0x40, 1, 0x1, false, none, [⟨31, 0, .ro, 0, .any⟩]⟩,
  ⟨"TRAINCNT", 0x238, 8, 0x40, 1, 0x1, false, none, [⟨15, 0, .ro, 0, .any⟩, ⟨31, 16, .ro, 0, .any⟩]⟩,
  ⟨"DEMOTED", 0x23C, 8, 0x40, 1, 0x1, false, none, [⟨31, 0, .ro, 0, .any⟩]⟩,
  ⟨"TSF_TAG", 0x400, 1, 0x1, 1, 0x1, false, none, [⟨0, 0, .ro, 0, .any⟩, ⟨3, 1, .ro, 0, .any⟩, ⟨7, 4, .ro, 0, .any⟩, ⟨15, 8, .ro, 0, .any⟩, ⟨31, 16, .ro, 0, .any⟩]⟩,
  ⟨"TSF_NS", 0x404, 1, 0x1, 1, 0x1, false, none, [⟨29, 0, .ro, 0, .any⟩]⟩,
  ⟨"TSF_SEC_LO", 0x408, 1, 0x1, 1, 0x1, false, none, [⟨31, 0, .ro, 0, .any⟩]⟩,
  ⟨"TSF_SEC_HI", 0x40C, 1, 0x1, 1, 0x1, false, none, [⟨15, 0, .ro, 0, .any⟩]⟩,
  ⟨"TSF_POP", 0x410, 1, 0x1, 1, 0x1, false, none, [⟨0, 0, .wo, 0, .any⟩]⟩,
  ⟨"TSFSTAT", 0x414, 1, 0x1, 1, 0x1, false, none, [⟨6, 0, .ro, 0, .any⟩, ⟨15, 8, .ro, 0, .any⟩]⟩,
  ⟨"MOGCTL", 0x500, 1, 0x1, 1, 0x1, false, none, [⟨0, 0, .rw, 0, .any⟩, ⟨1, 1, .ro, 0, .any⟩, ⟨31, 16, .rw, 1, .near 1 65535⟩]⟩,
  ⟨"MOGSTAT", 0x504, 1, 0x1, 1, 0x1, false, none, [⟨7, 0, .ro, 0, .any⟩, ⟨19, 8, .ro, 0, .any⟩, ⟨31, 20, .ro, 0, .any⟩]⟩,
  ⟨"MOG0", 0x600, 8, 0x40, 1, 0x1, false, none, [⟨0, 0, .rw, 0, .any⟩, ⟨1, 1, .rw, 0, .any⟩, ⟨4, 2, .rw, 0, .any⟩, ⟨15, 8, .rw, 0, .any⟩, ⟨23, 16, .rw, 0xFF, .any⟩, ⟨24, 24, .rw, 0, .any⟩]⟩,
  ⟨"MOG1", 0x604, 8, 0x40, 1, 0x1, false, none, [⟨15, 0, .rw, 0, .any⟩]⟩,
  ⟨"MOG2", 0x608, 8, 0x40, 1, 0x1, false, none, [⟨13, 0, .rw, 0x40, .any⟩, ⟨29, 16, .rw, 0x3E80, .any⟩]⟩,
  ⟨"MOG3", 0x60C, 8, 0x40, 1, 0x1, false, none, [⟨1, 0, .rw, 0, .any⟩, ⟨7, 4, .rw, 0, .near 1 15⟩, ⟨31, 16, .rw, 1, .near 1 65535⟩]⟩,
  ⟨"MOGPARAM", 0x610, 8, 0x40, 1, 0x1, false, none, [⟨31, 0, .rw, 0, .any⟩]⟩,
  ⟨"MOGSTART_LO", 0x614, 8, 0x40, 1, 0x1, true, none, [⟨31, 0, .rw, 0, .any⟩]⟩,
  ⟨"MOGSTART_HI", 0x618, 8, 0x40, 1, 0x1, false, none, [⟨31, 0, .rw, 0, .any⟩]⟩,
  ⟨"MOGSTOP_LO", 0x61C, 8, 0x40, 1, 0x1, true, none, [⟨31, 0, .rw, 0, .any⟩]⟩]

/-- Register rows of page PG, part 1. -/
def rowsPG1 : List Row := [
  ⟨"MOGSTOP_HI", 0x620, 8, 0x40, 1, 0x1, false, none, [⟨31, 0, .rw, 0, .any⟩]⟩,
  ⟨"MOGHITS", 0x624, 8, 0x40, 1, 0x1, false, none, [⟨31, 0, .ro, 0, .any⟩]⟩]

/-- Every register row of page PG. -/
def rowsPG : List Row := rowsPG0 ++ rowsPG1

/-- Register rows of page TIM, part 0. -/
def rowsTIM0 : List Row := [
  ⟨"CFG", 0x100, 1, 0x1, 1, 0x1, false, none, [⟨0, 0, .rws, 0, .any⟩]⟩,
  ⟨"NOW_LO", 0x104, 1, 0x1, 1, 0x1, true, none, [⟨31, 0, .ro, 0, .any⟩]⟩,
  ⟨"NOW_HI", 0x108, 1, 0x1, 1, 0x1, false, none, [⟨31, 0, .ro, 0, .any⟩]⟩,
  ⟨"NOW_FRAC", 0x10C, 1, 0x1, 1, 0x1, false, none, [⟨31, 0, .ro, 0, .any⟩]⟩,
  ⟨"RATE", 0x110, 1, 0x1, 1, 0x1, false, none, [⟨31, 0, .rw, 0, .any⟩]⟩,
  ⟨"STEP_LO", 0x114, 1, 0x1, 1, 0x1, true, none, [⟨31, 0, .rw, 0, .any⟩]⟩,
  ⟨"STEP_HI", 0x118, 1, 0x1, 1, 0x1, false, none, [⟨31, 0, .rw, 0, .any⟩]⟩,
  ⟨"STEPAT_LO", 0x11C, 1, 0x1, 1, 0x1, true, none, [⟨31, 0, .rw, 0, .any⟩]⟩,
  ⟨"STEPAT_HI", 0x120, 1, 0x1, 1, 0x1, false, none, [⟨31, 0, .rw, 0, .any⟩]⟩,
  ⟨"STEPCTL", 0x124, 1, 0x1, 1, 0x1, false, none, [⟨0, 0, .wo, 0, .any⟩, ⟨1, 1, .rw, 0, .any⟩, ⟨2, 2, .ro, 0, .any⟩]⟩,
  ⟨"PPSCAP_LO", 0x128, 1, 0x1, 1, 0x1, true, none, [⟨31, 0, .ro, 0, .any⟩]⟩,
  ⟨"PPSCAP_HI", 0x12C, 1, 0x1, 1, 0x1, false, none, [⟨31, 0, .ro, 0, .any⟩]⟩,
  ⟨"PPSCAP_FRAC", 0x130, 1, 0x1, 1, 0x1, false, none, [⟨31, 0, .ro, 0, .any⟩]⟩,
  ⟨"PPSOUT", 0x134, 1, 0x1, 1, 0x1, false, none, [⟨0, 0, .rw, 0, .any⟩, ⟨15, 6, .rw, 0x64, .sub 1 999 100⟩]⟩,
  ⟨"PPSOUT_OFS", 0x138, 1, 0x1, 1, 0x1, false, none, [⟨29, 0, .rw, 0, .mod 1000000000⟩]⟩,
  ⟨"STAT", 0x13C, 1, 0x1, 1, 0x1, false, none, [⟨0, 0, .ro, 0, .any⟩, ⟨1, 1, .ro, 0, .any⟩, ⟨2, 2, .w1c, 0, .any⟩, ⟨3, 3, .w1c, 0, .any⟩, ⟨4, 4, .w1c, 0, .any⟩]⟩,
  ⟨"TGT_LO", 0x200, 16, 0x20, 1, 0x1, true, none, [⟨31, 0, .rw, 0, .any⟩]⟩,
  ⟨"TGT_HI", 0x204, 16, 0x20, 1, 0x1, false, none, [⟨31, 0, .rw, 0, .any⟩]⟩,
  ⟨"PERIOD_LO", 0x208, 16, 0x20, 1, 0x1, true, none, [⟨31, 0, .rw, 0, .any⟩]⟩,
  ⟨"PERIOD_HI", 0x20C, 16, 0x20, 1, 0x1, false, none, [⟨31, 0, .rw, 0, .any⟩]⟩,
  ⟨"TMRCTL", 0x210, 16, 0x20, 1, 0x1, false, none, [⟨0, 0, .rw, 0, .any⟩, ⟨3, 1, .rw, 0, .any⟩, ⟨4, 4, .w1c, 0, .any⟩]⟩,
  ⟨"FIRED", 0x214, 16, 0x20, 1, 0x1, false, none, [⟨31, 0, .ro, 0, .any⟩]⟩]

/-- Every register row of page TIM. -/
def rowsTIM : List Row := rowsTIM0

/-- Register rows of page IP, part 0. -/
def rowsIP0 : List Row := [
  ⟨"IPCFG", 0x100, 1, 0x1, 1, 0x1, false, none, [⟨6, 0, .rws, 0x7F, .any⟩, ⟨14, 8, .rws, 0x7F, .any⟩]⟩,
  ⟨"HASHSEED", 0x104, 1, 0x1, 1, 0x1, false, none, [⟨31, 0, .rws, 0xFFFFFFFF, .any⟩]⟩,
  ⟨"POLCFG", 0x108, 1, 0x1, 1, 0x1, false, none, [⟨1, 0, .rws, 0, .any⟩, ⟨7, 2, .rws, 0, .any⟩, ⟨12, 8, .rws, 0, .any⟩]⟩,
  ⟨"CNTCLR", 0x10C, 1, 0x1, 1, 0x1, false, none, [⟨0, 0, .wo, 0, .any⟩, ⟨1, 1, .wo, 0, .any⟩, ⟨2, 2, .wo, 0, .any⟩]⟩,
  ⟨"HASHPAIR", 0x110, 4, 0x4, 1, 0x1, false, none, [⟨5, 0, .rws, 0, .any⟩, ⟨13, 8, .rws, 0, .any⟩, ⟨17, 16, .rws, 0, .any⟩, ⟨20, 20, .rws, 0, .any⟩, ⟨21, 21, .rws, 0, .any⟩]⟩,
  ⟨"HASHSINGLE", 0x120, 1, 0x1, 1, 0x1, false, none, [⟨5, 0, .rws, 0, .any⟩, ⟨7, 7, .rws, 0, .any⟩, ⟨13, 8, .rws, 0, .any⟩, ⟨15, 15, .rws, 0, .any⟩, ⟨21, 16, .rws, 0, .any⟩, ⟨23, 23, .rws, 0, .any⟩, ⟨29, 24, .rws, 0, .any⟩, ⟨31, 31, .rws, 0, .any⟩]⟩,
  ⟨"EXCPOLDROP", 0x124, 1, 0x1, 1, 0x1, false, none, [⟨31, 0, .ro, 0, .any⟩]⟩,
  ⟨"RSTDROP", 0x128, 1, 0x1, 1, 0x1, false, none, [⟨31, 0, .ro, 0, .any⟩]⟩,
  ⟨"SHADOWED", 0x12C, 1, 0x1, 1, 0x1, false, none, [⟨31, 0, .ro, 0, .any⟩]⟩,
  ⟨"REDDROP", 0x130, 1, 0x1, 1, 0x1, false, none, [⟨31, 0, .ro, 0, .any⟩]⟩,
  ⟨"NOEGRDROP", 0x134, 1, 0x1, 1, 0x1, false, none, [⟨31, 0, .ro, 0, .any⟩]⟩,
  ⟨"ACNTCLR", 0x138, 1, 0x1, 1, 0x1, false, none, [⟨0, 0, .wo, 0, .any⟩]⟩,
  ⟨"PSLOT", 0x140, 8, 0x4, 1, 0x1, false, none, [⟨6, 0, .rws, 0x7F, .any⟩, ⟨10, 8, .rws, 0, .any⟩]⟩,
  ⟨"PRECOLMAP", 0x160, 4, 0x4, 1, 0x1, false, none, [⟨31, 0, .rws, 0, .any⟩]⟩,
  ⟨"STAGECFG", 0x1000, 16, 0x40, 1, 0x1, false, none, [⟨1, 0, .rws, 0, .any⟩, ⟨4, 2, .rws, 0, .any⟩, ⟨10, 5, .rws, 0, .any⟩, ⟨13, 11, .rws, 0, .any⟩, ⟨16, 14, .rws, 0, .any⟩, ⟨20, 17, .rws, 0, .any⟩, ⟨26, 21, .rws, 0, .any⟩]⟩,
  ⟨"STAGEKEYA", 0x1004, 16, 0x40, 1, 0x1, false, none, [⟨31, 0, .rws, 0, .any⟩]⟩,
  ⟨"STAGEKEYB", 0x1008, 16, 0x40, 1, 0x1, false, none, [⟨31, 0, .rws, 0, .any⟩]⟩,
  ⟨"MISSACT", 0x1010, 16, 0x40, 4, 0x4, false, none, [⟨31, 0, .rws, 0, .any⟩]⟩,
  ⟨"HITCNT", 0x1020, 16, 0x40, 1, 0x1, false, none, [⟨31, 0, .ro, 0, .any⟩]⟩,
  ⟨"MISSCNT", 0x1024, 16, 0x40, 1, 0x1, false, none, [⟨31, 0, .ro, 0, .any⟩]⟩,
  ⟨"SNOTRUN", 0x1028, 16, 0x40, 1, 0x1, false, none, [⟨31, 0, .ro, 0, .any⟩]⟩,
  ⟨"PSW0", 0x2000, 126, 0x40, 1, 0x1, false, none, [⟨7, 0, .rws, 0, .any⟩, ⟨8, 8, .rws, 0, .any⟩, ⟨10, 9, .rws, 0, .any⟩, ⟨13, 11, .rws, 0, .any⟩, ⟨19, 14, .rws, 0, .any⟩, ⟨27, 20, .rws, 0, .any⟩, ⟨31, 31, .rws, 0, .any⟩]⟩,
  ⟨"PSW1", 0x2004, 126, 0x40, 1, 0x1, false, none, [⟨7, 0, .rws, 0, .any⟩, ⟨15, 8, .rws, 0, .any⟩, ⟨31, 16, .rws, 0, .any⟩]⟩,
  ⟨"PSW2", 0x2008, 126, 0x40, 1, 0x1, false, none, [⟨6, 0, .rws, 0x7F, .any⟩, ⟨13, 8, .rws, 0x3F, .any⟩, ⟨15, 14, .rws, 0, .any⟩, ⟨23, 16, .rws, 0, .any⟩]⟩,
  ⟨"PXD", 0x2010, 126, 0x40, 8, 0x4, false, none, [⟨7, 0, .rws, 0, .any⟩, ⟨9, 8, .rws, 0, .any⟩, ⟨12, 10, .rws, 0, .any⟩, ⟨14, 13, .rws, 0, .any⟩, ⟨17, 15, .rws, 0, .any⟩, ⟨20, 18, .rws, 0, .any⟩, ⟨26, 21, .rws, 0, .any⟩, ⟨27, 27, .rws, 0, .any⟩]⟩,
  ⟨"TRANS0", 0x4000, 1024, 0x8, 1, 0x1, false, none, [⟨6, 0, .rws, 0, .any⟩, ⟨7, 7, .rws, 0, .any⟩, ⟨14, 8, .rws, 0, .any⟩, ⟨31, 16, .rws, 0, .any⟩]⟩,
  ⟨"TRANS1", 0x4004, 1024, 0x8, 1, 0x1, false, none, [⟨15, 0, .rws, 0, .any⟩]⟩,
  ⟨"EXCMAP0", 0x6000, 256, 0x8, 1, 0x1, false, none, [⟨1, 0, .rws, 1, .any⟩, ⟨7, 2, .rw, 0, .any⟩, ⟨10, 8, .rw, 0, .any⟩]⟩,
  ⟨"EXCMAP1", 0x6004, 256, 0x8, 1, 0x1, false, none, [⟨16, 0, .rw, 0, .any⟩, ⟨17, 17, .rw, 0, .any⟩]⟩,
  ⟨"EXCCNT", 0x7000, 256, 0x4, 1, 0x1, false, none, [⟨31, 0, .ro, 0, .any⟩]⟩,
  ⟨"APROF0", 0x8000, 4096, 0x8, 1, 0x1, false, none, [⟨1, 0, .rws, 0, .any⟩, ⟨7, 2, .rws, 0, .any⟩, ⟨8, 8, .rws, 0, .any⟩, ⟨9, 9, .rws, 0, .any⟩, ⟨10, 10, .rws, 0, .any⟩, ⟨12, 11, .rws, 0, .any⟩, ⟨20, 13, .rws, 0, .any⟩]⟩,
  ⟨"APROF1", 0x8004, 4096, 0x8, 1, 0x1, false, none, [⟨16, 0, .rws, 0, .any⟩]⟩]

/-- Every register row of page IP. -/
def rowsIP : List Row := rowsIP0

/-- Register rows of page TBL, part 0. -/
def rowsTBL0 : List Row := [
  ⟨"CFG", 0x100, 1, 0x1, 1, 0x1, false, none, [⟨5, 0, .rw, 8, .near 1 32⟩]⟩,
  ⟨"CMDGO", 0x104, 1, 0x1, 1, 0x1, false, none, [⟨0, 0, .wo, 0, .any⟩]⟩,
  ⟨"CMDSTAT", 0x108, 1, 0x1, 1, 0x1, false, none, [⟨9, 0, .ro, 0, .any⟩, ⟨10, 10, .ro, 0, .any⟩, ⟨11, 11, .ro, 0, .any⟩, ⟨12, 12, .ro, 0, .any⟩, ⟨23, 13, .ro, 0, .any⟩]⟩,
  ⟨"CMDREJ", 0x10C, 1, 0x1, 1, 0x1, false, none, [⟨31, 0, .ro, 0, .any⟩]⟩,
  ⟨"CMPLPOP", 0x110, 1, 0x1, 1, 0x1, false, none, [⟨0, 0, .wo, 0, .any⟩]⟩,
  ⟨"VERERR", 0x114, 1, 0x1, 1, 0x1, false, none, [⟨15, 0, .ro, 0, .any⟩]⟩,
  ⟨"FOLDSTAT", 0x118, 1, 0x1, 1, 0x1, false, none, [⟨15, 0, .ro, 0, .any⟩]⟩,
  ⟨"FOLDLVL_E", 0x11C, 1, 0x1, 1, 0x1, false, none, [⟨18, 0, .ro, 0, .any⟩]⟩,
  ⟨"FOLDLVL_W", 0x120, 1, 0x1, 1, 0x1, false, none, [⟨18, 0, .ro, 0, .any⟩]⟩,
  ⟨"BGCFG", 0x124, 1, 0x1, 1, 0x1, false, none, [⟨15, 0, .rws, 0x1000, .near 256 65535⟩]⟩,
  ⟨"LPMERR", 0x128, 1, 0x1, 1, 0x1, false, none, [⟨31, 0, .ro, 0, .any⟩]⟩,
  ⟨"DMAERR", 0x12C, 1, 0x1, 1, 0x1, false, none, [⟨31, 0, .ro, 0, .any⟩]⟩,
  ⟨"SCRUBFIX", 0x130, 1, 0x1, 1, 0x1, false, none, [⟨31, 0, .ro, 0, .any⟩]⟩,
  ⟨"SCRUBUNC", 0x134, 1, 0x1, 1, 0x1, false, none, [⟨31, 0, .ro, 0, .any⟩]⟩,
  ⟨"CNTCLR", 0x138, 1, 0x1, 1, 0x1, false, none, [⟨0, 0, .wo, 0, .any⟩, ⟨1, 1, .wo, 0, .any⟩]⟩,
  ⟨"CMDW", 0x200, 20, 0x4, 1, 0x1, false, none, [⟨31, 0, .rw, 0, .any⟩]⟩,
  ⟨"CMPL0", 0x300, 1, 0x1, 1, 0x1, false, none, [⟨0, 0, .ro, 0, .any⟩, ⟨10, 1, .ro, 0, .any⟩, ⟨15, 11, .ro, 0, .any⟩, ⟨19, 16, .ro, 0, .any⟩, ⟨23, 20, .ro, 0, .any⟩, ⟨29, 24, .ro, 0, .any⟩]⟩,
  ⟨"CMPL1", 0x304, 1, 0x1, 1, 0x1, false, none, [⟨22, 0, .ro, 0, .any⟩]⟩,
  ⟨"CMPL2", 0x308, 1, 0x1, 1, 0x1, false, none, [⟨31, 0, .ro, 0, .any⟩]⟩,
  ⟨"CMPL3", 0x30C, 16, 0x4, 1, 0x1, false, none, [⟨31, 0, .ro, 0, .any⟩]⟩,
  ⟨"H_CFG0", 0x1000, 2, 0x800, 16, 0x20, false, none, [⟨0, 0, .rws, 0, .any⟩, ⟨2, 1, .rws, 0, .any⟩, ⟨7, 3, .rws, 0xA, .any⟩, ⟨8, 8, .rws, 0, .any⟩, ⟨9, 9, .rws, 0, .any⟩, ⟨10, 10, .rws, 0, .any⟩, ⟨20, 12, .rws, 0, .any⟩]⟩,
  ⟨"SEED0", 0x1004, 2, 0x800, 16, 0x20, false, none, [⟨31, 0, .rws, 0xFFFFFFFF, .any⟩]⟩,
  ⟨"SEED1", 0x1008, 2, 0x800, 16, 0x20, false, none, [⟨31, 0, .rws, 0x5A5AA5A5, .any⟩]⟩,
  ⟨"LRNBASE", 0x100C, 2, 0x800, 16, 0x20, false, none, [⟨16, 0, .rws, 0, .any⟩]⟩,
  ⟨"ENTRIES", 0x1010, 2, 0x800, 16, 0x20, false, none, [⟨31, 0, .ro, 0, .any⟩]⟩,
  ⟨"AGECFG", 0x1200, 2, 0x800, 1, 0x1, false, none, [⟨15, 0, .rw, 0x64, .near 1 65535⟩, ⟨17, 16, .rw, 3, .near 1 3⟩]⟩,
  ⟨"AGEPASS", 0x1204, 2, 0x800, 1, 0x1, false, none, [⟨31, 0, .ro, 0, .any⟩]⟩,
  ⟨"AGESLIP", 0x1208, 2, 0x800, 1, 0x1, false, none, [⟨31, 0, .ro, 0, .any⟩]⟩,
  ⟨"STRIDE4A", 0x1210, 2, 0x800, 1, 0x1, false, none, [⟨4, 0, .rws, 0x10, .any⟩, ⟨9, 5, .rws, 4, .any⟩, ⟨14, 10, .rws, 4, .any⟩, ⟨19, 15, .rws, 4, .any⟩, ⟨24, 20, .rws, 4, .any⟩, ⟨29, 25, .rws, 0, .any⟩]⟩,
  ⟨"STRIDE4B", 0x1214, 2, 0x800, 1, 0x1, false, none, [⟨4, 0, .rws, 0, .any⟩, ⟨9, 5, .rws, 0, .any⟩, ⟨14, 10, .rws, 0, .any⟩]⟩,
  ⟨"STRIDE6A", 0x1218, 2, 0x800, 1, 0x1, false, none, [⟨4, 0, .rws, 0x10, .any⟩, ⟨9, 5, .rws, 0xC, .any⟩, ⟨14, 10, .rws, 0xC, .any⟩, ⟨19, 15, .rws, 0xC, .any⟩, ⟨24, 20, .rws, 0xC, .any⟩, ⟨29, 25, .rws, 0x10, .any⟩]⟩,
  ⟨"STRIDE6B", 0x121C, 2, 0x800, 1, 0x1, false, none, [⟨4, 0, .rws, 0x10, .any⟩, ⟨9, 5, .rws, 0x10, .any⟩, ⟨14, 10, .rws, 0x10, .any⟩]⟩,
  ⟨"LPMACT4", 0x1220, 2, 0x800, 1, 0x1, false, none, [⟨16, 0, .rws, 0, .any⟩]⟩,
  ⟨"LPMACT6", 0x1224, 2, 0x800, 1, 0x1, false, none, [⟨16, 0, .rws, 0, .any⟩]⟩,
  ⟨"LEAFBASE", 0x1240, 2, 0x800, 9, 0x4, false, none, [⟨15, 0, .rws, 0x4000, .any⟩]⟩]

/-- Every register row of page TBL. -/
def rowsTBL : List Row := rowsTBL0

/-- Register rows of page LRN, part 0. -/
def rowsLRN0 : List Row := [
  ⟨"CFG", 0x100, 1, 0x1, 1, 0x1, false, none, [⟨0, 0, .rws, 0, .any⟩, ⟨4, 1, .rws, 0, .any⟩]⟩,
  ⟨"HOLDOFF", 0x104, 1, 0x1, 1, 0x1, false, none, [⟨15, 0, .rw, 0x40, .near 1 65535⟩]⟩,
  ⟨"CNTCLR", 0x108, 1, 0x1, 1, 0x1, false, none, [⟨0, 0, .wo, 0, .any⟩, ⟨1, 1, .wo, 0, .any⟩]⟩,
  ⟨"RINGLO", 0x200, 2, 0x80, 1, 0x1, false, none, [⟨31, 0, .rw, 0, .align 16⟩]⟩,
  ⟨"RINGHI", 0x204, 2, 0x80, 1, 0x1, false, none, [⟨31, 0, .rw, 0, .any⟩]⟩,
  ⟨"RINGSIZE", 0x208, 2, 0x80, 1, 0x1, false, none, [⟨4, 0, .rw, 8, .sub 8 16 8⟩]⟩,
  ⟨"PIDX", 0x20C, 2, 0x80, 1, 0x1, false, none, [⟨15, 0, .ro, 0, .any⟩]⟩,
  ⟨"CIDX", 0x210, 2, 0x80, 1, 0x1, false, none, [⟨15, 0, .rw, 0, .any⟩]⟩,
  ⟨"QLEVEL", 0x214, 2, 0x80, 1, 0x1, false, none, [⟨13, 0, .ro, 0, .any⟩]⟩,
  ⟨"NEWCNT", 0x218, 2, 0x80, 1, 0x1, false, none, [⟨31, 0, .ro, 0, .any⟩]⟩,
  ⟨"MOVECAND", 0x21C, 2, 0x80, 1, 0x1, false, none, [⟨31, 0, .ro, 0, .any⟩]⟩,
  ⟨"DUPS", 0x220, 2, 0x80, 1, 0x1, false, none, [⟨31, 0, .ro, 0, .any⟩]⟩,
  ⟨"INSFAIL", 0x224, 2, 0x80, 1, 0x1, false, none, [⟨31, 0, .ro, 0, .any⟩]⟩,
  ⟨"QDROP", 0x228, 2, 0x80, 1, 0x1, false, none, [⟨31, 0, .ro, 0, .any⟩]⟩,
  ⟨"CACHEFULL", 0x22C, 2, 0x80, 1, 0x1, false, none, [⟨31, 0, .ro, 0, .any⟩]⟩,
  ⟨"OFFDROP", 0x230, 2, 0x80, 1, 0x1, false, none, [⟨31, 0, .ro, 0, .any⟩]⟩]

/-- Every register row of page LRN. -/
def rowsLRN : List Row := rowsLRN0

/-- Register rows of page VER, part 0. -/
def rowsVER0 : List Row := [
  ⟨"CTL", 0x100, 1, 0x1, 1, 0x1, false, none, [⟨0, 0, .wo, 0, .any⟩, ⟨1, 1, .wo, 0, .any⟩]⟩,
  ⟨"STAT", 0x104, 1, 0x1, 1, 0x1, false, none, [⟨3, 0, .ro, 0, .any⟩, ⟨4, 4, .ro, 0, .any⟩, ⟨8, 5, .ro, 0, .any⟩, ⟨9, 9, .ro, 0, .any⟩, ⟨10, 10, .ro, 0, .any⟩, ⟨12, 11, .ro, 0, .any⟩, ⟨13, 13, .ro, 0, .any⟩]⟩,
  ⟨"SLOTSTATE", 0x108, 1, 0x1, 1, 0x1, false, none, [⟨31, 0, .ro, 0, .any⟩]⟩,
  ⟨"LASTCOMMIT_LO", 0x10C, 1, 0x1, 1, 0x1, true, none, [⟨31, 0, .ro, 0, .any⟩]⟩,
  ⟨"LASTCOMMIT_HI", 0x110, 1, 0x1, 1, 0x1, false, none, [⟨31, 0, .ro, 0, .any⟩]⟩,
  ⟨"COMMITS", 0x114, 1, 0x1, 1, 0x1, false, none, [⟨31, 0, .ro, 0, .any⟩]⟩,
  ⟨"STALLS", 0x118, 1, 0x1, 1, 0x1, false, none, [⟨31, 0, .ro, 0, .any⟩]⟩,
  ⟨"CNTCLR", 0x11C, 1, 0x1, 1, 0x1, false, none, [⟨0, 0, .wo, 0, .any⟩]⟩,
  ⟨"HOLDERS", 0x140, 16, 0x4, 1, 0x1, false, none, [⟨31, 0, .ro, 0, .any⟩]⟩]

/-- Every register row of page VER. -/
def rowsVER : List Row := rowsVER0

/-- Register rows of page EP, part 0. -/
def rowsEP0 : List Row := [
  ⟨"LIFTDROP", 0x100, 1, 0x1, 1, 0x1, false, none, [⟨31, 0, .ro, 0, .any⟩]⟩,
  ⟨"ACTDROP", 0x104, 1, 0x1, 1, 0x1, false, none, [⟨31, 0, .ro, 0, .any⟩]⟩,
  ⟨"RSTDROP", 0x108, 1, 0x1, 1, 0x1, false, none, [⟨31, 0, .ro, 0, .any⟩]⟩,
  ⟨"CNTCLR", 0x10C, 1, 0x1, 1, 0x1, false, none, [⟨0, 0, .wo, 0, .any⟩, ⟨1, 1, .wo, 0, .any⟩]⟩,
  ⟨"LIFTLVL", 0x110, 1, 0x1, 1, 0x1, false, none, [⟨14, 0, .ro, 0, .any⟩]⟩,
  ⟨"STAGECFG", 0x1000, 8, 0x40, 1, 0x1, false, none, [⟨1, 0, .rws, 0, .any⟩, ⟨4, 2, .rws, 0, .any⟩, ⟨10, 5, .rws, 0, .any⟩, ⟨13, 11, .rws, 0, .any⟩, ⟨16, 14, .rws, 0, .any⟩, ⟨19, 17, .rws, 0, .any⟩]⟩,
  ⟨"STAGEKEYA", 0x1004, 8, 0x40, 1, 0x1, false, none, [⟨31, 0, .rws, 0, .any⟩]⟩,
  ⟨"STAGEKEYB", 0x1008, 8, 0x40, 1, 0x1, false, none, [⟨31, 0, .rws, 0, .any⟩]⟩,
  ⟨"MISSACT", 0x1010, 8, 0x40, 4, 0x4, false, none, [⟨31, 0, .rws, 0, .any⟩]⟩,
  ⟨"HITCNT", 0x1020, 8, 0x40, 1, 0x1, false, none, [⟨31, 0, .ro, 0, .any⟩]⟩,
  ⟨"MISSCNT", 0x1024, 8, 0x40, 1, 0x1, false, none, [⟨31, 0, .ro, 0, .any⟩]⟩,
  ⟨"SNOTRUN", 0x1028, 8, 0x40, 1, 0x1, false, none, [⟨31, 0, .ro, 0, .any⟩]⟩,
  ⟨"DBLK", 0x4000, 256, 0x40, 16, 0x4, false, none, [⟨31, 0, .rws, 0, .any⟩]⟩,
  ⟨"TPL_LO", 0x8000, 4096, 0x8, 1, 0x1, true, none, [⟨31, 0, .rws, 0, .any⟩]⟩,
  ⟨"TPL_HI", 0x8004, 4096, 0x8, 1, 0x1, false, none, [⟨31, 0, .rws, 0, .any⟩]⟩]

/-- Every register row of page EP. -/
def rowsEP : List Row := rowsEP0

/-- Register rows of page TMG, part 0. -/
def rowsTMG0 : List Row := [
  ⟨"CFG", 0x100, 1, 0x1, 1, 0x1, false, none, [⟨0, 0, .rws, 1, .any⟩]⟩,
  ⟨"AGE", 0x104, 1, 0x1, 1, 0x1, false, none, [⟨12, 0, .rws, 0x1F4, .any⟩]⟩,
  ⟨"XRES", 0x108, 1, 0x1, 1, 0x1, false, none, [⟨19, 0, .rws, 0x2000, .any⟩]⟩,
  ⟨"REFILLRES", 0x10C, 1, 0x1, 1, 0x1, false, none, [⟨19, 0, .rws, 0x6000, .any⟩]⟩,
  ⟨"HOSTLIM", 0x110, 1, 0x1, 1, 0x1, false, none, [⟨15, 0, .rws, 0x100, .near 1 65535⟩]⟩,
  ⟨"SHAREDFREE", 0x114, 1, 0x1, 1, 0x1, false, none, [⟨19, 0, .ro, 0, .any⟩]⟩,
  ⟨"TARNUSED", 0x118, 1, 0x1, 1, 0x1, false, none, [⟨19, 0, .ro, 0, .any⟩]⟩,
  ⟨"BASINPAGES", 0x11C, 1, 0x1, 1, 0x1, false, none, [⟨25, 0, .ro, 0, .any⟩]⟩,
  ⟨"STAT", 0x120, 1, 0x1, 1, 0x1, false, none, [⟨0, 0, .ro, 0, .any⟩, ⟨1, 1, .ro, 0, .any⟩, ⟨30, 16, .ro, 0, .any⟩]⟩,
  ⟨"CNTCLR", 0x124, 1, 0x1, 1, 0x1, false, none, [⟨0, 0, .wo, 0, .any⟩, ⟨1, 1, .wo, 0, .any⟩, ⟨2, 2, .wo, 0, .any⟩]⟩,
  ⟨"SPILLPAGES", 0x128, 1, 0x1, 1, 0x1, false, none, [⟨31, 0, .ro, 0, .any⟩]⟩,
  ⟨"REFILLPAGES", 0x12C, 1, 0x1, 1, 0x1, false, none, [⟨31, 0, .ro, 0, .any⟩]⟩,
  ⟨"AGEPAGES", 0x130, 1, 0x1, 1, 0x1, false, none, [⟨31, 0, .ro, 0, .any⟩]⟩,
  ⟨"SPILLWAIT", 0x134, 1, 0x1, 1, 0x1, false, none, [⟨31, 0, .ro, 0, .any⟩]⟩,
  ⟨"MCCOPIES", 0x138, 1, 0x1, 1, 0x1, false, none, [⟨31, 0, .ro, 0, .any⟩]⟩,
  ⟨"MCQFULL", 0x13C, 1, 0x1, 1, 0x1, false, none, [⟨31, 0, .ro, 0, .any⟩]⟩,
  ⟨"GLIDEEN", 0x140, 5, 0x4, 1, 0x1, false, none, [⟨31, 0, .rws, 0, .any⟩]⟩,
  ⟨"HOLD", 0x180, 16, 0x4, 1, 0x1, false, none, [⟨31, 0, .ro, 0, .any⟩]⟩,
  ⟨"IPMAP", 0x200, 21, 0x4, 1, 0x1, false, none, [⟨2, 0, .rws, 0, .any⟩, ⟨6, 4, .rws, 0, .any⟩, ⟨10, 8, .rws, 0, .any⟩, ⟨14, 12, .rws, 0, .any⟩, ⟨18, 16, .rws, 0, .any⟩, ⟨22, 20, .rws, 0, .any⟩, ⟨26, 24, .rws, 0, .any⟩, ⟨30, 28, .rws, 0, .any⟩]⟩,
  ⟨"EPMAP", 0x280, 20, 0x4, 1, 0x1, false, none, [⟨2, 0, .rws, 0, .any⟩, ⟨6, 4, .rws, 0, .any⟩, ⟨10, 8, .rws, 0, .any⟩, ⟨14, 12, .rws, 0, .any⟩, ⟨18, 16, .rws, 0, .any⟩, ⟨22, 20, .rws, 0, .any⟩, ⟨26, 24, .rws, 0, .any⟩, ⟨30, 28, .rws, 0, .any⟩]⟩,
  ⟨"XOFFSTATE", 0x300, 40, 0x4, 1, 0x1, false, none, [⟨31, 0, .ro, 0, .any⟩]⟩,
  ⟨"IMIN", 0x400, 8, 0x100, 8, 0x20, false, none, [⟨19, 0, .rws, 0, .any⟩]⟩,
  ⟨"ILIM", 0x404, 8, 0x100, 8, 0x20, false, none, [⟨19, 0, .rws, 0x10000, .any⟩]⟩,
  ⟨"XOFF", 0x408, 8, 0x100, 8, 0x20, false, none, [⟨19, 0, .rws, 0x1000, .any⟩]⟩,
  ⟨"XON", 0x40C, 8, 0x100, 8, 0x20, false, none, [⟨19, 0, .rws, 0xC00, .any⟩]⟩,
  ⟨"HDRM", 0x410, 8, 0x100, 8, 0x20, false, none, [⟨19, 0, .rws, 0x400, .any⟩]⟩,
  ⟨"PORTLIM", 0xC00, 8, 0x40, 1, 0x1, false, none, [⟨19, 0, .rws, 0x20000, .any⟩]⟩,
  ⟨"CLIM", 0xC04, 8, 0x40, 8, 0x4, false, none, [⟨19, 0, .rws, 0x10000, .any⟩]⟩,
  ⟨"QMIN", 0x1000, 64, 0x20, 1, 0x1, false, none, [⟨19, 0, .rws, 0, .any⟩]⟩,
  ⟨"QLIM", 0x1004, 64, 0x20, 1, 0x1, false, none, [⟨19, 0, .rws, 0x1000, .any⟩]⟩,
  ⟨"SPILLON", 0x1008, 64, 0x20, 1, 0x1, false, none, [⟨19, 0, .rws, 0x800, .any⟩]⟩,
  ⟨"SPILLOFF", 0x100C, 64, 0x20, 1, 0x1, false, none, [⟨19, 0, .rws, 0x400, .any⟩]⟩,
  ⟨"PREFETCH", 0x1010, 64, 0x20, 1, 0x1, false, none, [⟨19, 0, .rws, 0x33A, .any⟩]⟩,
  ⟨"BMAX", 0x1014, 64, 0x20, 1, 0x1, false, none, [⟨25, 0, .rws, 0x40000, .any⟩]⟩,
  ⟨"QPCTL", 0x1018, 64, 0x20, 1, 0x1, false, none, [⟨0, 0, .rws, 0, .any⟩, ⟨1, 1, .rws, 0, .any⟩]⟩,
  ⟨"QIDX", 0x1800, 1, 0x1, 1, 0x1, false, none, [⟨16, 0, .rw, 0, .any⟩]⟩,
  ⟨"QCFG", 0x1804, 1, 0x1, 1, 0x1, false, some 0x1800, [⟨5, 0, .rws, 0, .any⟩]⟩,
  ⟨"QCELLS", 0x1808, 1, 0x1, 1, 0x1, false, none, [⟨19, 0, .ro, 0, .any⟩]⟩,
  ⟨"QPAGES", 0x180C, 1, 0x1, 1, 0x1, false, none, [⟨25, 0, .ro, 0, .any⟩]⟩,
  ⟨"QSTATE", 0x1810, 1, 0x1, 1, 0x1, false, none, [⟨0, 0, .ro, 0, .any⟩, ⟨1, 1, .ro, 0, .any⟩, ⟨15, 8, .ro, 0, .any⟩]⟩]

/-- Register rows of page TMG, part 1. -/
def rowsTMG1 : List Row := [
  ⟨"MCIDX", 0x1840, 1, 0x1, 1, 0x1, false, none, [⟨15, 0, .rw, 0, .any⟩]⟩,
  ⟨"MCGRP", 0x1844, 1, 0x1, 1, 0x1, false, some 0x1840, [⟨17, 0, .rw, 0, .any⟩, ⟨28, 18, .rw, 0, .near 0 1024⟩]⟩,
  ⟨"MCEIDX", 0x1848, 1, 0x1, 1, 0x1, false, none, [⟨17, 0, .rw, 0, .any⟩]⟩,
  ⟨"MCENT0", 0x184C, 1, 0x1, 1, 0x1, false, none, [⟨7, 0, .rw, 0, .any⟩, ⟨8, 8, .rw, 0, .any⟩, ⟨31, 16, .rw, 0, .any⟩]⟩,
  ⟨"MCENT1", 0x1850, 1, 0x1, 1, 0x1, false, some 0x1848, [⟨16, 0, .rw, 0, .any⟩]⟩,
  ⟨"RINKCFG", 0x1900, 8, 0x20, 1, 0x1, false, none, [⟨0, 0, .rw, 0, .any⟩, ⟨1, 1, .rw, 0, .any⟩, ⟨6, 2, .rw, 0, .near 0 16⟩, ⟨15, 8, .rw, 0, .any⟩]⟩,
  ⟨"RINKQID", 0x1904, 8, 0x20, 1, 0x1, false, none, [⟨16, 0, .rw, 0, .any⟩]⟩,
  ⟨"RINKEGR", 0x1908, 8, 0x20, 1, 0x1, false, none, [⟨7, 0, .rw, 0, .any⟩, ⟨19, 8, .rw, 0, .any⟩]⟩,
  ⟨"RINKSEED", 0x190C, 8, 0x20, 1, 0x1, false, none, [⟨31, 0, .rw, 1, .near 1 4294967295⟩]⟩,
  ⟨"RINKCOPIES", 0x1910, 8, 0x20, 1, 0x1, false, none, [⟨31, 0, .ro, 0, .any⟩]⟩,
  ⟨"RINKDROPPED", 0x1914, 8, 0x20, 1, 0x1, false, none, [⟨31, 0, .ro, 0, .any⟩]⟩,
  ⟨"PCIDX", 0x1A00, 1, 0x1, 1, 0x1, false, none, [⟨7, 0, .rw, 0, .near 0 160⟩]⟩,
  ⟨"PC", 0x1A04, 15, 0x4, 1, 0x1, false, none, [⟨31, 0, .ro, 0, .any⟩]⟩]

/-- Every register row of page TMG. -/
def rowsTMG : List Row := rowsTMG0 ++ rowsTMG1

/-- Register rows of page BPM, part 0. -/
def rowsBPM0 : List Row := [
  ⟨"CFG", 0x100, 1, 0x1, 1, 0x1, false, none, [⟨14, 0, .rws, 0x1000, .any⟩, ⟨30, 16, .rws, 0x3000, .any⟩]⟩,
  ⟨"LOWFREE", 0x104, 1, 0x1, 1, 0x1, false, none, [⟨25, 0, .rw, 0x10000, .any⟩]⟩,
  ⟨"TOTAL", 0x108, 1, 0x1, 1, 0x1, false, none, [⟨25, 0, .ro, 0, .any⟩]⟩,
  ⟨"MANAGED", 0x10C, 1, 0x1, 1, 0x1, false, none, [⟨25, 0, .ro, 0, .any⟩]⟩,
  ⟨"FREE", 0x110, 1, 0x1, 1, 0x1, false, none, [⟨25, 0, .ro, 0, .any⟩]⟩,
  ⟨"LOST", 0x114, 1, 0x1, 1, 0x1, false, none, [⟨25, 0, .ro, 0, .any⟩]⟩,
  ⟨"STAT", 0x118, 1, 0x1, 1, 0x1, false, none, [⟨0, 0, .ro, 0, .any⟩, ⟨1, 1, .ro, 0, .any⟩, ⟨14, 8, .ro, 0, .any⟩, ⟨30, 16, .ro, 0, .any⟩]⟩,
  ⟨"HOSTALLOC", 0x11C, 1, 0x1, 1, 0x1, false, none, [⟨24, 0, .ro, 0, .any⟩, ⟨31, 31, .ro, 0, .any⟩]⟩,
  ⟨"HOSTRET_LO", 0x120, 1, 0x1, 1, 0x1, true, none, [⟨31, 0, .wo, 0, .any⟩]⟩,
  ⟨"HOSTRET_HI", 0x124, 1, 0x1, 1, 0x1, false, none, [⟨31, 0, .wo, 0, .any⟩]⟩,
  ⟨"HOSTERR", 0x128, 1, 0x1, 1, 0x1, false, none, [⟨31, 0, .ro, 0, .any⟩]⟩,
  ⟨"HOSTERRINFO", 0x12C, 1, 0x1, 1, 0x1, false, none, [⟨3, 0, .ro, 0, .any⟩]⟩,
  ⟨"RECLAIM", 0x130, 1, 0x1, 1, 0x1, false, none, [⟨0, 0, .wo, 0, .any⟩]⟩,
  ⟨"CNTCLR", 0x134, 1, 0x1, 1, 0x1, false, none, [⟨0, 0, .wo, 0, .any⟩, ⟨1, 1, .wo, 0, .any⟩]⟩,
  ⟨"OMIN", 0x220, 1, 0x1, 1, 0x1, false, none, [⟨25, 0, .rws, 0x100000, .any⟩]⟩,
  ⟨"OMIN", 0x240, 1, 0x1, 1, 0x1, false, none, [⟨25, 0, .rws, 0x40000, .any⟩]⟩,
  ⟨"OMIN", 0x260, 1, 0x1, 1, 0x1, false, none, [⟨25, 0, .rws, 0, .any⟩]⟩,
  ⟨"OMAX", 0x224, 1, 0x1, 1, 0x1, false, none, [⟨25, 0, .rws, 0x3FFFFFF, .any⟩]⟩,
  ⟨"OMAX", 0x244, 1, 0x1, 1, 0x1, false, none, [⟨25, 0, .rws, 0x100000, .any⟩]⟩,
  ⟨"OMAX", 0x264, 1, 0x1, 1, 0x1, false, none, [⟨25, 0, .rws, 0x4000, .any⟩]⟩,
  ⟨"OHELD", 0x228, 3, 0x20, 1, 0x1, false, none, [⟨25, 0, .ro, 0, .any⟩]⟩,
  ⟨"OSTAT", 0x22C, 3, 0x20, 1, 0x1, false, none, [⟨0, 0, .ro, 0, .any⟩, ⟨1, 1, .ro, 0, .any⟩]⟩,
  ⟨"OALLOCS", 0x230, 3, 0x20, 1, 0x1, false, none, [⟨31, 0, .ro, 0, .any⟩]⟩,
  ⟨"OREFUSALS", 0x234, 3, 0x20, 1, 0x1, false, none, [⟨31, 0, .ro, 0, .any⟩]⟩,
  ⟨"OPEAK", 0x238, 3, 0x20, 1, 0x1, false, none, [⟨25, 0, .ro, 0, .any⟩]⟩]

/-- Every register row of page BPM. -/
def rowsBPM : List Row := rowsBPM0

/-- Register rows of page SCH, part 0. -/
def rowsSCH0 : List Row := [
  ⟨"GATELEAD", 0x100, 1, 0x1, 1, 0x1, false, none, [⟨29, 0, .rw, 0x186A0, .near 1000 1073741823⟩]⟩,
  ⟨"CNTCLR", 0x104, 1, 0x1, 1, 0x1, false, none, [⟨0, 0, .wo, 0, .any⟩]⟩,
  ⟨"GLATE", 0x108, 1, 0x1, 1, 0x1, false, none, [⟨31, 0, .ro, 0, .any⟩]⟩,
  ⟨"SNOWDEFER", 0x10C, 1, 0x1, 1, 0x1, false, none, [⟨31, 0, .ro, 0, .any⟩]⟩,
  ⟨"XLOSTCNT", 0x110, 1, 0x1, 1, 0x1, false, none, [⟨31, 0, .ro, 0, .any⟩]⟩,
  ⟨"VALQ", 0x114, 1, 0x1, 1, 0x1, false, none, [⟨16, 0, .ro, 0, .any⟩]⟩,
  ⟨"NODEIDX", 0x200, 1, 0x1, 1, 0x1, false, none, [⟨12, 0, .rw, 0, .any⟩]⟩,
  ⟨"NODECFG", 0x204, 1, 0x1, 1, 0x1, false, some 0x200, [⟨12, 0, .rws, 0, .any⟩, ⟨15, 13, .rws, 0, .any⟩, ⟨16, 16, .rws, 0, .any⟩, ⟨17, 17, .rws, 0, .any⟩, ⟨18, 18, .rws, 0, .any⟩, ⟨19, 19, .rws, 0, .any⟩, ⟨27, 20, .rws, 0, .any⟩, ⟨30, 28, .rws, 0, .any⟩]⟩,
  ⟨"NODEW", 0x208, 1, 0x1, 1, 0x1, false, some 0x200, [⟨7, 0, .rw, 1, .near 1 255⟩]⟩,
  ⟨"CIR", 0x20C, 1, 0x1, 1, 0x1, false, some 0x200, [⟨31, 0, .rw, 0, .any⟩]⟩,
  ⟨"PIR", 0x210, 1, 0x1, 1, 0x1, false, some 0x200, [⟨31, 0, .rw, 0xFFFFFFFF, .any⟩]⟩,
  ⟨"CBS", 0x214, 1, 0x1, 1, 0x1, false, some 0x200, [⟨23, 0, .rw, 0x4000, .any⟩]⟩,
  ⟨"PBS", 0x218, 1, 0x1, 1, 0x1, false, some 0x200, [⟨23, 0, .rw, 0x4000, .any⟩]⟩,
  ⟨"SHCTL", 0x21C, 1, 0x1, 1, 0x1, false, some 0x200, [⟨6, 0, .rw, 0, .any⟩, ⟨7, 7, .rw, 0, .any⟩, ⟨8, 8, .rw, 0, .any⟩, ⟨9, 9, .wo, 0, .any⟩]⟩,
  ⟨"CLVL", 0x220, 1, 0x1, 1, 0x1, false, none, [⟨24, 0, .ro, 0, .any⟩]⟩,
  ⟨"PLVL", 0x224, 1, 0x1, 1, 0x1, false, none, [⟨24, 0, .ro, 0, .any⟩]⟩,
  ⟨"SQIDX", 0x240, 1, 0x1, 1, 0x1, false, none, [⟨16, 0, .rw, 0, .any⟩]⟩,
  ⟨"SQMAP", 0x244, 1, 0x1, 1, 0x1, false, some 0x240, [⟨12, 0, .rws, 0, .any⟩, ⟨15, 13, .rws, 4, .any⟩, ⟨18, 16, .rws, 0, .any⟩, ⟨19, 19, .rws, 0, .any⟩]⟩,
  ⟨"SQW", 0x248, 1, 0x1, 1, 0x1, false, some 0x240, [⟨7, 0, .rw, 1, .near 1 255⟩]⟩,
  ⟨"GLIDX", 0x280, 1, 0x1, 1, 0x1, false, none, [⟨7, 0, .rw, 0, .near 0 159⟩, ⟨8, 8, .rw, 0, .any⟩, ⟨23, 16, .rw, 0, .any⟩]⟩,
  ⟨"GLENT", 0x284, 1, 0x1, 1, 0x1, false, some 0x280, [⟨31, 0, .rw, 0, .any⟩]⟩,
  ⟨"POLIDX", 0x2C0, 1, 0x1, 1, 0x1, false, none, [⟨16, 0, .rw, 0, .any⟩, ⟨17, 17, .rw, 0, .any⟩]⟩,
  ⟨"POLCIR", 0x2C4, 1, 0x1, 1, 0x1, false, some 0x2C0, [⟨31, 0, .rw, 0, .any⟩]⟩,
  ⟨"POLPIR", 0x2C8, 1, 0x1, 1, 0x1, false, some 0x2C0, [⟨31, 0, .rw, 0, .any⟩]⟩,
  ⟨"POLCBS", 0x2CC, 1, 0x1, 1, 0x1, false, some 0x2C0, [⟨23, 0, .rw, 0, .any⟩]⟩,
  ⟨"POLPBS", 0x2D0, 1, 0x1, 1, 0x1, false, some 0x2C0, [⟨23, 0, .rw, 0, .any⟩]⟩,
  ⟨"POLCTL", 0x2D4, 1, 0x1, 1, 0x1, false, some 0x2C0, [⟨1, 0, .rw, 0, .any⟩, ⟨2, 2, .rw, 0, .any⟩, ⟨9, 3, .rw, 0, .any⟩, ⟨10, 10, .rw, 0, .any⟩, ⟨11, 11, .wo, 0, .any⟩]⟩,
  ⟨"POLCLVL", 0x2D8, 1, 0x1, 1, 0x1, false, none, [⟨24, 0, .ro, 0, .any⟩]⟩,
  ⟨"POLPLVL", 0x2DC, 1, 0x1, 1, 0x1, false, none, [⟨24, 0, .ro, 0, .any⟩]⟩,
  ⟨"PSHRATE", 0x1000, 160, 0x20, 1, 0x1, false, none, [⟨31, 0, .rw, 0xFFFFFFFF, .any⟩]⟩,
  ⟨"PSHBURST", 0x1004, 160, 0x20, 1, 0x1, false, none, [⟨23, 0, .rw, 0x10000, .near 16064 16777215⟩]⟩,
  ⟨"PSHCTL", 0x1008, 160, 0x20, 1, 0x1, false, none, [⟨6, 0, .rw, 0x14, .any⟩, ⟨7, 7, .rw, 0, .any⟩, ⟨8, 8, .rw, 0, .any⟩, ⟨9, 9, .wo, 0, .any⟩]⟩,
  ⟨"XBE", 0x100C, 160, 0x20, 1, 0x1, false, none, [⟨23, 0, .rw, 0, .any⟩]⟩,
  ⟨"XCIR", 0x1010, 160, 0x20, 1, 0x1, false, none, [⟨31, 0, .rw, 0, .any⟩]⟩,
  ⟨"XSMAX", 0x1014, 160, 0x20, 1, 0x1, false, none, [⟨11, 0, .rw, 0, .any⟩]⟩,
  ⟨"PSTAT", 0x1018, 160, 0x20, 1, 0x1, false, none, [⟨21, 0, .ro, 0, .any⟩, ⟨22, 22, .ro, 0, .any⟩, ⟨29, 23, .ro, 0x7F, .any⟩, ⟨30, 30, .ro, 0, .any⟩]⟩,
  ⟨"DMAX", 0x101C, 160, 0x20, 1, 0x1, false, none, [⟨23, 0, .ro, 0xFFFFFF, .any⟩]⟩,
  ⟨"CAP", 0x3000, 512, 0x10, 1, 0x1, false, none, [⟨10, 0, .ro, 0, .any⟩, ⟨16, 16, .ro, 0, .any⟩, ⟨31, 24, .ro, 0, .any⟩]⟩,
  ⟨"CAPBURST", 0x3004, 512, 0x10, 1, 0x1, false, none, [⟨23, 0, .rw, 0x4000, .near 16064 16777215⟩]⟩,
  ⟨"CAPCTL", 0x3008, 512, 0x10, 1, 0x1, false, none, [⟨6, 0, .rw, 0x14, .any⟩, ⟨7, 7, .rw, 0, .any⟩, ⟨8, 8, .wo, 0, .any⟩]⟩]

/-- Register rows of page SCH, part 1. -/
def rowsSCH1 : List Row := [
  ⟨"CAPLVL", 0x300C, 512, 0x10, 1, 0x1, false, none, [⟨24, 0, .ro, 0, .any⟩]⟩,
  ⟨"GATECTL", 0x6000, 160, 0x20, 1, 0x1, false, none, [⟨0, 0, .wo, 0, .any⟩, ⟨1, 1, .rw, 0, .any⟩, ⟨2, 2, .ro, 0, .any⟩, ⟨3, 3, .ro, 0, .any⟩, ⟨4, 4, .rw, 0, .any⟩]⟩,
  ⟨"GBASE_LO", 0x6004, 160, 0x20, 1, 0x1, true, none, [⟨31, 0, .rw, 0, .any⟩]⟩,
  ⟨"GBASE_HI", 0x6008, 160, 0x20, 1, 0x1, false, none, [⟨31, 0, .rw, 0, .any⟩]⟩,
  ⟨"GCYCLE", 0x600C, 160, 0x20, 1, 0x1, false, none, [⟨29, 0, .rw, 0, .any⟩]⟩,
  ⟨"GLEN", 0x6010, 160, 0x20, 1, 0x1, false, none, [⟨8, 0, .rw, 0, .any⟩, ⟨24, 16, .rw, 0, .any⟩]⟩,
  ⟨"GATESTAT", 0x6014, 160, 0x20, 1, 0x1, false, none, [⟨30, 0, .ro, 0, .any⟩, ⟨31, 31, .ro, 0, .any⟩]⟩,
  ⟨"ACYCLE", 0x6018, 160, 0x20, 1, 0x1, false, none, [⟨29, 0, .ro, 0, .any⟩]⟩]

/-- Every register row of page SCH. -/
def rowsSCH : List Row := rowsSCH0 ++ rowsSCH1

/-- Register rows of page BLG, part 0. -/
def rowsBLG0 : List Row := [
  ⟨"CFG", 0x100, 1, 0x1, 1, 0x1, false, none, [⟨15, 0, .rws, 0x88B5, .any⟩, ⟨23, 16, .rws, 0xA, .near 1 255⟩]⟩,
  ⟨"TIMING", 0x104, 1, 0x1, 1, 0x1, false, none, [⟨15, 0, .rw, 0x3E8, .near 1 65535⟩, ⟨31, 16, .rw, 0x64, .near 1 65535⟩]⟩,
  ⟨"CNEN", 0x108, 1, 0x1, 1, 0x1, false, none, [⟨3, 0, .rws, 0, .any⟩]⟩,
  ⟨"JUMPTH", 0x10C, 1, 0x1, 1, 0x1, false, none, [⟨31, 0, .rw, 0x10000, .near 1 4294967295⟩]⟩,
  ⟨"CNTCLR", 0x110, 1, 0x1, 1, 0x1, false, none, [⟨0, 0, .wo, 0, .any⟩, ⟨1, 1, .wo, 0, .any⟩, ⟨2, 2, .wo, 0, .any⟩]⟩,
  ⟨"EDDYUSE", 0x114, 1, 0x1, 1, 0x1, false, none, [⟨14, 0, .ro, 0, .any⟩]⟩,
  ⟨"HBDA_LO", 0x118, 1, 0x1, 1, 0x1, true, none, [⟨31, 0, .rws, 0x88B5, .any⟩]⟩,
  ⟨"HBDA_HI", 0x11C, 1, 0x1, 1, 0x1, false, none, [⟨15, 0, .rws, 0x300, .any⟩]⟩,
  ⟨"HBSA_LO", 0x120, 1, 0x1, 1, 0x1, true, none, [⟨31, 0, .rws, 0, .any⟩]⟩,
  ⟨"HBSA_HI", 0x124, 1, 0x1, 1, 0x1, false, none, [⟨15, 0, .rws, 0, .any⟩]⟩,
  ⟨"NOGRP", 0x128, 1, 0x1, 1, 0x1, false, none, [⟨31, 0, .ro, 0, .any⟩]⟩,
  ⟨"ETYPE", 0x140, 1, 0x1, 1, 0x1, false, none, [⟨15, 0, .rws, 0x800, .any⟩]⟩,
  ⟨"ETYPE", 0x144, 1, 0x1, 1, 0x1, false, none, [⟨15, 0, .rws, 0x86DD, .any⟩]⟩,
  ⟨"ETYPE", 0x148, 1, 0x1, 1, 0x1, false, none, [⟨15, 0, .rws, 0x8847, .any⟩]⟩,
  ⟨"ETYPE", 0x14C, 1, 0x1, 1, 0x1, false, none, [⟨15, 0, .rws, 0x8848, .any⟩]⟩,
  ⟨"ETYPE", 0x150, 1, 0x1, 1, 0x1, false, none, [⟨15, 0, .rws, 0x8100, .any⟩]⟩,
  ⟨"ETYPE", 0x154, 1, 0x1, 1, 0x1, false, none, [⟨15, 0, .rws, 0x88A8, .any⟩]⟩,
  ⟨"ETYPE", 0x158, 1, 0x1, 1, 0x1, false, none, [⟨15, 0, .rws, 0x806, .any⟩]⟩,
  ⟨"ETYPE", 0x15C, 1, 0x1, 1, 0x1, false, none, [⟨15, 0, .rws, 0, .any⟩]⟩,
  ⟨"ETYPE", 0x160, 1, 0x1, 1, 0x1, false, none, [⟨15, 0, .rws, 0, .any⟩]⟩,
  ⟨"ETYPE", 0x164, 1, 0x1, 1, 0x1, false, none, [⟨15, 0, .rws, 0, .any⟩]⟩,
  ⟨"ETYPE", 0x168, 1, 0x1, 1, 0x1, false, none, [⟨15, 0, .rws, 0, .any⟩]⟩,
  ⟨"ETYPE", 0x16C, 1, 0x1, 1, 0x1, false, none, [⟨15, 0, .rws, 0, .any⟩]⟩,
  ⟨"ETYPE", 0x170, 1, 0x1, 1, 0x1, false, none, [⟨15, 0, .rws, 0, .any⟩]⟩,
  ⟨"ETYPE", 0x174, 1, 0x1, 1, 0x1, false, none, [⟨15, 0, .rws, 0, .any⟩]⟩,
  ⟨"ETYPE", 0x178, 1, 0x1, 1, 0x1, false, none, [⟨15, 0, .rws, 0, .any⟩]⟩,
  ⟨"ETYPE", 0x17C, 1, 0x1, 1, 0x1, false, none, [⟨15, 0, .rws, 0, .any⟩]⟩,
  ⟨"HNOT0", 0x180, 1, 0x1, 1, 0x1, false, none, [⟨31, 0, .rw, 0, .any⟩]⟩,
  ⟨"HNOT1", 0x184, 1, 0x1, 1, 0x1, false, none, [⟨31, 0, .rw, 0, .any⟩]⟩,
  ⟨"HNOT2", 0x188, 1, 0x1, 1, 0x1, false, none, [⟨31, 0, .rw, 0, .any⟩]⟩,
  ⟨"HNSTAT", 0x18C, 1, 0x1, 1, 0x1, false, none, [⟨3, 0, .ro, 0xF, .any⟩]⟩,
  ⟨"CNACC", 0x200, 4, 0x10, 1, 0x1, false, none, [⟨31, 0, .ro, 0, .any⟩]⟩,
  ⟨"CNREJ", 0x204, 4, 0x10, 1, 0x1, false, none, [⟨31, 0, .ro, 0, .any⟩]⟩,
  ⟨"CNTRUNC", 0x208, 4, 0x10, 1, 0x1, false, none, [⟨31, 0, .ro, 0, .any⟩]⟩,
  ⟨"CNLAST", 0x20C, 4, 0x10, 1, 0x1, false, none, [⟨3, 0, .ro, 0xF, .any⟩, ⟨15, 8, .ro, 0, .any⟩]⟩,
  ⟨"GCFG", 0x1000, 32, 0x400, 1, 0x1, false, none, [⟨0, 0, .rws, 0, .any⟩, ⟨4, 1, .rws, 0, .any⟩, ⟨5, 5, .rws, 1, .any⟩]⟩,
  ⟨"LOSSTO", 0x1004, 32, 0x400, 1, 0x1, false, none, [⟨11, 0, .rw, 0x3E8, .near 1 4000⟩]⟩,
  ⟨"EDDYMAX", 0x1008, 32, 0x400, 1, 0x1, false, none, [⟨25, 0, .rws, 0x40000, .any⟩]⟩,
  ⟨"EDDYCFG", 0x100C, 32, 0x400, 1, 0x1, false, none, [⟨13, 0, .rws, 0x280, .any⟩, ⟨29, 16, .rws, 0x1C0, .any⟩]⟩,
  ⟨"TXSEQ", 0x1010, 32, 0x400, 1, 0x1, false, none, [⟨31, 0, .ro, 0, .any⟩]⟩]

/-- Register rows of page BLG, part 1. -/
def rowsBLG1 : List Row := [
  ⟨"RXNEXT", 0x1014, 32, 0x400, 1, 0x1, false, none, [⟨31, 0, .ro, 0, .any⟩]⟩,
  ⟨"GSTAT", 0x1018, 32, 0x400, 1, 0x1, false, none, [⟨1, 0, .ro, 0, .any⟩, ⟨31, 16, .ro, 0, .any⟩]⟩,
  ⟨"MASKS", 0x101C, 32, 0x400, 1, 0x1, false, none, [⟨15, 0, .ro, 0, .any⟩, ⟨31, 16, .ro, 0, .any⟩]⟩,
  ⟨"EDDYPAGES", 0x1020, 32, 0x400, 1, 0x1, false, none, [⟨25, 0, .ro, 0, .any⟩]⟩,
  ⟨"EDDYCELLS", 0x1024, 32, 0x400, 1, 0x1, false, none, [⟨14, 0, .ro, 0, .any⟩]⟩,
  ⟨"GCNT", 0x1028, 32, 0x400, 16, 0x4, false, none, [⟨31, 0, .ro, 0, .any⟩]⟩,
  ⟨"MCFG", 0x1100, 32, 0x400, 16, 0x20, false, none, [⟨0, 0, .rws, 0, .any⟩, ⟨8, 1, .rws, 0, .any⟩, ⟨11, 9, .rws, 0, .any⟩, ⟨12, 12, .rw, 0, .any⟩]⟩,
  ⟨"INITCAP", 0x1104, 32, 0x400, 16, 0x20, false, none, [⟨10, 0, .rws, 0, .any⟩]⟩,
  ⟨"MSTAT", 0x1108, 32, 0x400, 16, 0x20, false, none, [⟨2, 0, .ro, 0, .any⟩, ⟨3, 3, .ro, 0, .any⟩, ⟨6, 4, .ro, 0, .any⟩, ⟨31, 16, .ro, 0, .any⟩]⟩,
  ⟨"RXHIGH", 0x110C, 32, 0x400, 16, 0x20, false, none, [⟨31, 0, .ro, 0, .any⟩]⟩,
  ⟨"CAPECHO", 0x1110, 32, 0x400, 16, 0x20, false, none, [⟨10, 0, .ro, 0, .any⟩, ⟨16, 16, .ro, 0, .any⟩]⟩,
  ⟨"NLATE", 0x1114, 32, 0x400, 16, 0x20, false, none, [⟨31, 0, .ro, 0, .any⟩]⟩,
  ⟨"OVERB_LO", 0x1118, 32, 0x400, 16, 0x20, true, none, [⟨31, 0, .ro, 0, .any⟩]⟩,
  ⟨"OVERB_HI", 0x111C, 32, 0x400, 16, 0x20, false, none, [⟨31, 0, .ro, 0, .any⟩]⟩]

/-- Every register row of page BLG. -/
def rowsBLG : List Row := rowsBLG0 ++ rowsBLG1

/-- Register rows of page MSC, part 0. -/
def rowsMSC0 : List Row := [
  ⟨"BYPASS0", 0x100, 1, 0x1, 1, 0x1, false, none, [⟨15, 0, .rws, 0x888E, .any⟩, ⟨16, 16, .rws, 1, .any⟩]⟩,
  ⟨"BYPASS", 0x104, 3, 0x4, 1, 0x1, false, none, [⟨15, 0, .rws, 0, .any⟩, ⟨16, 16, .rws, 0, .any⟩]⟩,
  ⟨"CNTCLR", 0x110, 1, 0x1, 1, 0x1, false, none, [⟨0, 0, .wo, 0, .any⟩, ⟨1, 1, .wo, 0, .any⟩, ⟨2, 2, .wo, 0, .any⟩]⟩,
  ⟨"NOTRUNDROP", 0x114, 1, 0x1, 1, 0x1, false, none, [⟨31, 0, .ro, 0, .any⟩]⟩,
  ⟨"TXSELERR", 0x118, 1, 0x1, 1, 0x1, false, none, [⟨31, 0, .ro, 0, .any⟩]⟩,
  ⟨"LASTEVT", 0x11C, 1, 0x1, 1, 0x1, false, none, [⟨11, 0, .ro, 0, .any⟩]⟩,
  ⟨"SECYIDX", 0x200, 1, 0x1, 1, 0x1, false, none, [⟨11, 0, .rw, 0, .any⟩]⟩,
  ⟨"SECYCFG", 0x204, 1, 0x1, 1, 0x1, false, some 0x200, [⟨0, 0, .rws, 0, .any⟩, ⟨8, 1, .rws, 0, .any⟩, ⟨10, 9, .rw, 0, .any⟩, ⟨12, 11, .rw, 1, .any⟩, ⟨14, 13, .rw, 0, .any⟩, ⟨15, 15, .rw, 0, .any⟩]⟩,
  ⟨"SCI_LO", 0x208, 1, 0x1, 1, 0x1, true, some 0x200, [⟨31, 0, .rw, 0, .any⟩]⟩,
  ⟨"SCI_HI", 0x20C, 1, 0x1, 1, 0x1, false, some 0x200, [⟨31, 0, .rw, 0, .any⟩]⟩,
  ⟨"PNTHRESH_LO", 0x210, 1, 0x1, 1, 0x1, true, some 0x200, [⟨31, 0, .rw, 0xC0000000, .any⟩]⟩,
  ⟨"PNTHRESH_HI", 0x214, 1, 0x1, 1, 0x1, false, some 0x200, [⟨31, 0, .rw, 0, .any⟩]⟩,
  ⟨"PNLIMIT_LO", 0x218, 1, 0x1, 1, 0x1, true, some 0x200, [⟨31, 0, .rw, 0xFFFFFFFF, .any⟩]⟩,
  ⟨"PNLIMIT_HI", 0x21C, 1, 0x1, 1, 0x1, false, some 0x200, [⟨31, 0, .rw, 0xFFFFFFFF, .any⟩]⟩,
  ⟨"SECYCNT", 0x220, 8, 0x4, 1, 0x1, false, none, [⟨31, 0, .ro, 0, .any⟩]⟩,
  ⟨"RXSCIDX", 0x280, 1, 0x1, 1, 0x1, false, none, [⟨12, 0, .rw, 0, .any⟩]⟩,
  ⟨"RXSCCFG", 0x284, 1, 0x1, 1, 0x1, false, some 0x280, [⟨0, 0, .rw, 0, .any⟩, ⟨12, 1, .rw, 0, .any⟩, ⟨13, 13, .rw, 1, .any⟩, ⟨14, 14, .rw, 0, .any⟩]⟩,
  ⟨"RXSCI_LO", 0x288, 1, 0x1, 1, 0x1, true, some 0x280, [⟨31, 0, .rw, 0, .any⟩]⟩,
  ⟨"RXSCI_HI", 0x28C, 1, 0x1, 1, 0x1, false, some 0x280, [⟨31, 0, .rw, 0, .any⟩]⟩,
  ⟨"REPLAYWIN", 0x290, 1, 0x1, 1, 0x1, false, some 0x280, [⟨31, 0, .rw, 0, .any⟩]⟩,
  ⟨"SAIDX", 0x300, 1, 0x1, 1, 0x1, false, none, [⟨14, 0, .rw, 0, .any⟩, ⟨15, 15, .rw, 0, .any⟩]⟩,
  ⟨"SACFG0", 0x304, 1, 0x1, 1, 0x1, false, some 0x300, [⟨15, 0, .rw, 0, .any⟩, ⟨16, 16, .rw, 0, .any⟩, ⟨17, 17, .rw, 0, .any⟩, ⟨23, 18, .rw, 0, .any⟩]⟩,
  ⟨"SACFG1", 0x308, 1, 0x1, 1, 0x1, false, some 0x300, [⟨11, 0, .rw, 0, .any⟩]⟩,
  ⟨"NEXTPN_LO", 0x30C, 1, 0x1, 1, 0x1, true, some 0x300, [⟨31, 0, .rw, 1, .any⟩]⟩,
  ⟨"NEXTPN_HI", 0x310, 1, 0x1, 1, 0x1, false, some 0x300, [⟨31, 0, .rw, 0, .any⟩]⟩,
  ⟨"SSCI", 0x314, 1, 0x1, 1, 0x1, false, some 0x300, [⟨31, 0, .rw, 0, .any⟩]⟩,
  ⟨"SACNT", 0x320, 4, 0x4, 1, 0x1, false, none, [⟨31, 0, .ro, 0, .any⟩]⟩,
  ⟨"PORT", 0x1000, 160, 0x4, 1, 0x1, false, none, [⟨11, 0, .rws, 0, .any⟩, ⟨13, 12, .rws, 0, .any⟩, ⟨19, 14, .rws, 0, .any⟩, ⟨21, 20, .rws, 2, .any⟩, ⟨22, 22, .rws, 0, .any⟩]⟩]

/-- Every register row of page MSC. -/
def rowsMSC : List Row := rowsMSC0

/-- Register rows of page KEY, part 0. -/
def rowsKEY0 : List Row := [
  ⟨"CFG", 0x100, 1, 0x1, 1, 0x1, false, none, [⟨0, 0, .rws, 0, .any⟩]⟩,
  ⟨"STAT", 0x104, 1, 0x1, 1, 0x1, false, none, [⟨16, 0, .ro, 0, .any⟩, ⟨17, 17, .ro, 0, .any⟩, ⟨18, 18, .ro, 0, .any⟩]⟩,
  ⟨"ERASE", 0x108, 1, 0x1, 1, 0x1, false, none, [⟨15, 0, .rw, 0, .any⟩, ⟨31, 31, .wo, 0, .any⟩]⟩,
  ⟨"ZEROIZE", 0x10C, 1, 0x1, 1, 0x1, false, none, [⟨15, 0, .wo, 0, .any⟩]⟩,
  ⟨"RESULT", 0x110, 1, 0x1, 1, 0x1, false, none, [⟨3, 0, .ro, 0xF, .any⟩]⟩,
  ⟨"SPISTAT", 0x114, 1, 0x1, 1, 0x1, false, none, [⟨3, 0, .ro, 0xF, .any⟩, ⟨15, 8, .ro, 0, .any⟩, ⟨31, 16, .ro, 0, .any⟩]⟩,
  ⟨"SPIERR", 0x118, 1, 0x1, 1, 0x1, false, none, [⟨31, 0, .ro, 0, .any⟩]⟩,
  ⟨"CNTCLR", 0x11C, 1, 0x1, 1, 0x1, false, none, [⟨0, 0, .wo, 0, .any⟩]⟩,
  ⟨"SLOTSEL", 0x120, 1, 0x1, 1, 0x1, false, none, [⟨15, 0, .rw, 0, .any⟩]⟩,
  ⟨"SLOTINFO", 0x124, 1, 0x1, 1, 0x1, false, none, [⟨0, 0, .ro, 0, .any⟩, ⟨1, 1, .ro, 0, .any⟩, ⟨2, 2, .ro, 0, .any⟩, ⟨3, 3, .ro, 0, .any⟩, ⟨5, 4, .ro, 0, .any⟩, ⟨15, 8, .ro, 0, .any⟩, ⟨21, 16, .ro, 0, .any⟩, ⟨22, 22, .ro, 0, .any⟩]⟩,
  ⟨"UMAP0", 0x200, 64, 0x8, 1, 0x1, false, none, [⟨15, 0, .rw, 0, .any⟩]⟩,
  ⟨"UMAP1", 0x204, 64, 0x8, 1, 0x1, false, none, [⟨16, 0, .rw, 0, .any⟩]⟩]

/-- Every register row of page KEY. -/
def rowsKEY : List Row := rowsKEY0

/-- Register rows of page DRC, part 0. -/
def rowsDRC0 : List Row := [
  ⟨"CFG", 0x100, 1, 0x1, 1, 0x1, false, none, [⟨2, 0, .rws, 1, .any⟩, ⟨5, 4, .rws, 1, .any⟩, ⟨8, 8, .rws, 1, .any⟩, ⟨13, 9, .rws, 0xA, .near 4 16⟩, ⟨14, 14, .rws, 0, .any⟩]⟩,
  ⟨"STAT", 0x104, 1, 0x1, 1, 0x1, false, none, [⟨0, 0, .ro, 0, .any⟩, ⟨1, 1, .ro, 0, .any⟩, ⟨2, 2, .ro, 0, .any⟩, ⟨5, 3, .ro, 0, .any⟩, ⟨8, 6, .ro, 0, .any⟩, ⟨15, 9, .ro, 0, .any⟩]⟩,
  ⟨"FCTL", 0x108, 1, 0x1, 1, 0x1, false, none, [⟨0, 0, .wo, 0, .any⟩, ⟨1, 1, .rw, 0, .any⟩, ⟨17, 2, .rw, 0xA, .near 1 65535⟩]⟩,
  ⟨"SRIDLE", 0x10C, 1, 0x1, 1, 0x1, false, none, [⟨15, 0, .rw, 0, .any⟩]⟩,
  ⟨"BGCFG", 0x110, 1, 0x1, 1, 0x1, false, none, [⟨15, 0, .rws, 0x1000, .near 256 65535⟩, ⟨23, 16, .rw, 0x18, .near 1 255⟩]⟩,
  ⟨"CNTCLR", 0x114, 1, 0x1, 1, 0x1, false, none, [⟨0, 0, .wo, 0, .any⟩, ⟨1, 1, .wo, 0, .any⟩]⟩,
  ⟨"ECCCORR", 0x118, 1, 0x1, 1, 0x1, false, none, [⟨31, 0, .ro, 0, .any⟩]⟩,
  ⟨"ECCUNC", 0x11C, 1, 0x1, 1, 0x1, false, none, [⟨31, 0, .ro, 0, .any⟩]⟩,
  ⟨"ADDRERR", 0x120, 1, 0x1, 1, 0x1, false, none, [⟨31, 0, .ro, 0, .any⟩]⟩,
  ⟨"LASTUNC_LO", 0x124, 1, 0x1, 1, 0x1, true, none, [⟨31, 0, .ro, 0, .any⟩]⟩,
  ⟨"LASTUNC_HI", 0x128, 1, 0x1, 1, 0x1, false, none, [⟨31, 0, .ro, 0, .any⟩]⟩,
  ⟨"TAGUSE_E", 0x12C, 1, 0x1, 1, 0x1, false, none, [⟨9, 0, .ro, 0, .any⟩, ⟨25, 16, .ro, 0, .any⟩]⟩,
  ⟨"TAGUSE_W", 0x130, 1, 0x1, 1, 0x1, false, none, [⟨9, 0, .ro, 0, .any⟩, ⟨25, 16, .ro, 0, .any⟩]⟩,
  ⟨"WBUSE_E", 0x134, 1, 0x1, 1, 0x1, false, none, [⟨21, 0, .ro, 0, .any⟩]⟩,
  ⟨"WBUSE_W", 0x138, 1, 0x1, 1, 0x1, false, none, [⟨21, 0, .ro, 0, .any⟩]⟩,
  ⟨"SETA0", 0x200, 1, 0x1, 1, 0x1, false, none, [⟨3, 0, .rws, 0, .any⟩, ⟨10, 4, .rws, 0x28, .any⟩, ⟨17, 11, .rws, 0x14, .any⟩]⟩,
  ⟨"SETB0", 0x240, 1, 0x1, 1, 0x1, false, none, [⟨3, 0, .rws, 3, .any⟩, ⟨10, 4, .rws, 0x1C, .any⟩, ⟨17, 11, .rws, 0xE, .any⟩]⟩,
  ⟨"SET1", 0x204, 2, 0x40, 1, 0x1, false, none, [⟨15, 0, .rws, 0x4650, .any⟩, ⟨31, 16, .rws, 0x4650, .any⟩]⟩,
  ⟨"SET2", 0x208, 2, 0x40, 1, 0x1, false, none, [⟨15, 0, .rws, 0x5208, .any⟩, ⟨31, 16, .rws, 0xA410, .any⟩]⟩,
  ⟨"SET3", 0x20C, 2, 0x40, 1, 0x1, false, none, [⟨15, 0, .rws, 0x84D0, .any⟩, ⟨31, 16, .rws, 0x2EE0, .any⟩]⟩,
  ⟨"SET4", 0x210, 2, 0x40, 1, 0x1, false, none, [⟨15, 0, .rws, 0x1388, .any⟩, ⟨31, 16, .rws, 0x4E20, .any⟩]⟩,
  ⟨"SET5", 0x214, 2, 0x40, 1, 0x1, false, none, [⟨19, 0, .rws, 0x33450, .any⟩]⟩,
  ⟨"SET6", 0x218, 2, 0x40, 1, 0x1, false, none, [⟨15, 0, .rws, 0xF40, .any⟩, ⟨31, 16, .rws, 0xDA, .any⟩]⟩,
  ⟨"SET7", 0x21C, 2, 0x40, 1, 0x1, false, none, [⟨19, 0, .rws, 0x15F90, .any⟩]⟩,
  ⟨"PCFG", 0x400, 1, 0x1, 1, 0x1, false, none, [⟨6, 0, .rws, 0x2B, .any⟩, ⟨17, 8, .rws, 0, .any⟩]⟩,
  ⟨"PCFG", 0x440, 1, 0x1, 1, 0x1, false, none, [⟨6, 0, .rws, 0x2B, .any⟩, ⟨17, 8, .rws, 0x100, .any⟩]⟩,
  ⟨"PCFG", 0x480, 1, 0x1, 1, 0x1, false, none, [⟨6, 0, .rws, 5, .any⟩, ⟨17, 8, .rws, 0, .any⟩]⟩,
  ⟨"PCFG", 0x4C0, 1, 0x1, 1, 0x1, false, none, [⟨6, 0, .rws, 5, .any⟩, ⟨17, 8, .rws, 0x80, .any⟩]⟩,
  ⟨"PCFG", 0x500, 1, 0x1, 1, 0x1, false, none, [⟨6, 0, .rws, 1, .any⟩, ⟨17, 8, .rws, 0x20, .any⟩]⟩,
  ⟨"PCFG", 0x540, 1, 0x1, 1, 0x1, false, none, [⟨6, 0, .rws, 3, .any⟩, ⟨17, 8, .rws, 0x40, .any⟩]⟩,
  ⟨"PLAT", 0x404, 1, 0x1, 1, 0x1, false, none, [⟨15, 0, .rw, 0, .near 0 4000⟩, ⟨31, 16, .rw, 0xFA0, .near 0 4000⟩]⟩,
  ⟨"PLAT", 0x444, 1, 0x1, 1, 0x1, false, none, [⟨15, 0, .rw, 0x5DC, .near 0 4000⟩, ⟨31, 16, .rw, 0xFA0, .near 0 4000⟩]⟩,
  ⟨"PLAT", 0x484, 1, 0x1, 1, 0x1, false, none, [⟨15, 0, .rw, 0, .near 0 4000⟩, ⟨31, 16, .rw, 0xFA0, .near 0 4000⟩]⟩,
  ⟨"PLAT", 0x4C4, 1, 0x1, 1, 0x1, false, none, [⟨15, 0, .rw, 0x5DC, .near 0 4000⟩, ⟨31, 16, .rw, 0xFA0, .near 0 4000⟩]⟩,
  ⟨"PLAT", 0x504, 1, 0x1, 1, 0x1, false, none, [⟨15, 0, .rw, 0x7D0, .near 0 4000⟩, ⟨31, 16, .rw, 0xFA0, .near 0 4000⟩]⟩,
  ⟨"PLAT", 0x544, 1, 0x1, 1, 0x1, false, none, [⟨15, 0, .rw, 0xBB8, .near 0 4000⟩, ⟨31, 16, .rw, 0xFA0, .near 0 4000⟩]⟩,
  ⟨"READS", 0x408, 6, 0x40, 1, 0x1, false, none, [⟨31, 0, .ro, 0, .any⟩]⟩,
  ⟨"WRITES", 0x40C, 6, 0x40, 1, 0x1, false, none, [⟨31, 0, .ro, 0, .any⟩]⟩,
  ⟨"URGENT", 0x410, 6, 0x40, 1, 0x1, false, none, [⟨31, 0, .ro, 0, .any⟩]⟩,
  ⟨"PANICS", 0x414, 6, 0x40, 1, 0x1, false, none, [⟨31, 0, .ro, 0, .any⟩]⟩]

/-- Register rows of page DRC, part 1. -/
def rowsDRC1 : List Row := [
  ⟨"LATEREAD", 0x418, 6, 0x40, 1, 0x1, false, none, [⟨31, 0, .ro, 0, .any⟩]⟩,
  ⟨"MAXLAT", 0x41C, 6, 0x40, 1, 0x1, false, none, [⟨31, 0, .ro, 0, .any⟩]⟩,
  ⟨"INUSE", 0x420, 6, 0x40, 1, 0x1, false, none, [⟨9, 0, .ro, 0, .any⟩, ⟨25, 16, .ro, 0, .any⟩]⟩]

/-- Every register row of page DRC. -/
def rowsDRC : List Row := rowsDRC0 ++ rowsDRC1

/-- Register rows of page DC, part 0. -/
def rowsDC0 : List Row := [
  ⟨"DCSTAT", 0x100, 1, 0x1, 1, 0x1, false, none, [⟨2, 0, .ro, 0, .any⟩, ⟨3, 3, .ro, 0, .any⟩, ⟨5, 4, .ro, 0, .any⟩, ⟨10, 8, .ro, 0, .any⟩]⟩,
  ⟨"TRAINSTAT", 0x104, 1, 0x1, 1, 0x1, false, none, [⟨3, 0, .ro, 0, .any⟩, ⟨5, 4, .ro, 0, .any⟩]⟩,
  ⟨"ECCCORR", 0x108, 1, 0x1, 1, 0x1, false, none, [⟨31, 0, .ro, 0, .any⟩]⟩,
  ⟨"ECCUNC", 0x10C, 1, 0x1, 1, 0x1, false, none, [⟨31, 0, .ro, 0, .any⟩]⟩,
  ⟨"ACTS", 0x110, 1, 0x1, 1, 0x1, false, none, [⟨31, 0, .ro, 0, .any⟩]⟩,
  ⟨"NRCNT", 0x114, 1, 0x1, 1, 0x1, false, none, [⟨31, 0, .ro, 0, .any⟩]⟩,
  ⟨"REFCNT", 0x118, 1, 0x1, 1, 0x1, false, none, [⟨31, 0, .ro, 0, .any⟩]⟩,
  ⟨"SRENTRY", 0x11C, 1, 0x1, 1, 0x1, false, none, [⟨31, 0, .ro, 0, .any⟩]⟩,
  ⟨"SRABANDON", 0x120, 1, 0x1, 1, 0x1, false, none, [⟨31, 0, .ro, 0, .any⟩]⟩,
  ⟨"RETRAINS", 0x124, 1, 0x1, 1, 0x1, false, none, [⟨31, 0, .ro, 0, .any⟩]⟩,
  ⟨"TRAINFAILS", 0x128, 1, 0x1, 1, 0x1, false, none, [⟨31, 0, .ro, 0, .any⟩]⟩,
  ⟨"LASTERR", 0x12C, 1, 0x1, 1, 0x1, false, none, [⟨30, 0, .ro, 0, .any⟩, ⟨31, 31, .ro, 0, .any⟩]⟩,
  ⟨"CNTCLR", 0x130, 1, 0x1, 1, 0x1, false, none, [⟨0, 0, .wo, 0, .any⟩]⟩,
  ⟨"DESKEW", 0x200, 24, 0x4, 1, 0x1, false, none, [⟨15, 0, .ro, 0, .any⟩, ⟨31, 16, .ro, 0, .any⟩]⟩]

/-- Every register row of page DC. -/
def rowsDC : List Row := rowsDC0

/-- Register rows of page HST, part 0. -/
def rowsHST0 : List Row := [
  ⟨"CFG", 0x100, 1, 0x1, 1, 0x1, false, none, [⟨6, 0, .rws, 0x3F, .any⟩]⟩,
  ⟨"LINKSTAT", 0x104, 1, 0x1, 1, 0x1, false, none, [⟨2, 0, .ro, 0, .any⟩, ⟨6, 3, .ro, 0, .any⟩, ⟨7, 7, .ro, 0, .any⟩, ⟨8, 8, .ro, 0, .any⟩]⟩,
  ⟨"FLRSTAT_LO", 0x108, 1, 0x1, 1, 0x1, true, none, [⟨31, 0, .w1c, 0, .any⟩]⟩,
  ⟨"FLRSTAT_HI", 0x10C, 1, 0x1, 1, 0x1, false, none, [⟨31, 0, .w1c, 0, .any⟩]⟩,
  ⟨"CPLERR", 0x110, 1, 0x1, 1, 0x1, false, none, [⟨31, 0, .ro, 0, .any⟩]⟩,
  ⟨"LASTCPLERR", 0x114, 1, 0x1, 1, 0x1, false, none, [⟨5, 0, .ro, 0, .any⟩, ⟨9, 8, .ro, 0, .any⟩, ⟨13, 12, .ro, 0, .any⟩]⟩,
  ⟨"CNTCLR", 0x118, 1, 0x1, 1, 0x1, false, none, [⟨0, 0, .wo, 0, .any⟩]⟩,
  ⟨"BVEC", 0x200, 64, 0x4, 1, 0x1, false, none, [⟨5, 0, .rw, 9, .near 9 63⟩, ⟨13, 8, .rw, 9, .near 9 63⟩, ⟨21, 16, .rw, 9, .near 9 63⟩, ⟨29, 24, .rw, 9, .near 9 63⟩]⟩,
  ⟨"FUNC", 0x1000, 64, 0x20, 1, 0x1, false, none, [⟨4, 0, .rw, 0, .any⟩, ⟨5, 5, .rw, 0, .any⟩, ⟨13, 6, .rw, 0, .any⟩]⟩,
  ⟨"QPISTE0", 0x1004, 64, 0x20, 1, 0x1, true, none, [⟨4, 0, .rws, 0, .any⟩, ⟨9, 5, .rws, 0, .any⟩, ⟨14, 10, .rws, 0, .any⟩, ⟨19, 15, .rws, 0, .any⟩, ⟨24, 20, .rws, 0, .any⟩, ⟨29, 25, .rws, 0, .any⟩, ⟨31, 30, .rws, 0, .any⟩]⟩,
  ⟨"QPISTE1", 0x1008, 64, 0x20, 1, 0x1, false, none, [⟨2, 0, .rws, 0, .any⟩, ⟨7, 3, .rws, 0, .any⟩]⟩,
  ⟨"INJRATE", 0x100C, 64, 0x20, 1, 0x1, false, none, [⟨19, 0, .rw, 0x2710, .any⟩]⟩,
  ⟨"INJBURST", 0x1010, 64, 0x20, 1, 0x1, false, none, [⟨19, 0, .rw, 0x10000, .near 16000 1048575⟩]⟩,
  ⟨"RXNOQP", 0x1014, 64, 0x20, 1, 0x1, false, none, [⟨31, 0, .ro, 0, .any⟩]⟩,
  ⟨"INJPKTS", 0x1018, 64, 0x20, 1, 0x1, false, none, [⟨31, 0, .ro, 0, .any⟩]⟩]

/-- Every register row of page HST. -/
def rowsHST : List Row := rowsHST0

/-- Register rows of page DMA, part 0. -/
def rowsDMA0 : List Row := [
  ⟨"STAT", 0x100, 1, 0x1, 1, 0x1, false, none, [⟨0, 0, .ro, 0, .any⟩, ⟨5, 1, .ro, 0, .any⟩, ⟨6, 6, .ro, 0, .any⟩, ⟨16, 8, .ro, 0, .any⟩]⟩,
  ⟨"XFERS", 0x104, 1, 0x1, 1, 0x1, false, none, [⟨31, 0, .ro, 0, .any⟩]⟩,
  ⟨"FAILS", 0x108, 1, 0x1, 1, 0x1, false, none, [⟨31, 0, .ro, 0, .any⟩]⟩,
  ⟨"LATEERRS", 0x10C, 1, 0x1, 1, 0x1, false, none, [⟨31, 0, .ro, 0, .any⟩]⟩,
  ⟨"CNTCLR", 0x110, 1, 0x1, 1, 0x1, false, none, [⟨0, 0, .wo, 0, .any⟩]⟩,
  ⟨"DCTL", 0x1000, 32, 0x40, 1, 0x1, false, none, [⟨0, 0, .rw, 0, .any⟩]⟩,
  ⟨"RINGLO", 0x1004, 32, 0x40, 1, 0x1, false, none, [⟨31, 0, .rw, 0, .align 32⟩]⟩,
  ⟨"RINGHI", 0x1008, 32, 0x40, 1, 0x1, false, none, [⟨31, 0, .rw, 0, .any⟩]⟩,
  ⟨"RINGSIZE", 0x100C, 32, 0x40, 1, 0x1, false, none, [⟨3, 0, .rw, 4, .sub 4 12 4⟩]⟩,
  ⟨"PIDX", 0x1010, 32, 0x40, 1, 0x1, false, none, [⟨11, 0, .rw, 0, .any⟩]⟩,
  ⟨"CIDX", 0x1014, 32, 0x40, 1, 0x1, false, none, [⟨11, 0, .ro, 0, .any⟩]⟩,
  ⟨"DSTAT", 0x1018, 32, 0x40, 1, 0x1, false, none, [⟨2, 0, .ro, 0, .any⟩, ⟨6, 3, .ro, 0, .any⟩, ⟨7, 7, .ro, 0, .any⟩, ⟨31, 8, .ro, 0, .any⟩]⟩,
  ⟨"DIRQSTAT", 0x101C, 32, 0x40, 1, 0x1, false, none, [⟨0, 0, .w1c, 0, .any⟩, ⟨1, 1, .w1c, 0, .any⟩]⟩,
  ⟨"DIRQMASK", 0x1020, 32, 0x40, 1, 0x1, false, none, [⟨1, 0, .rw, 3, .any⟩]⟩,
  ⟨"COMPLETED", 0x1024, 32, 0x40, 1, 0x1, false, none, [⟨31, 0, .ro, 0, .any⟩]⟩,
  ⟨"TRIGLOST", 0x1028, 32, 0x40, 1, 0x1, false, none, [⟨31, 0, .ro, 0, .any⟩]⟩,
  ⟨"DCNTCLR", 0x102C, 32, 0x40, 1, 0x1, false, none, [⟨0, 0, .wo, 0, .any⟩]⟩,
  ⟨"OWNER", 0x103C, 32, 0x40, 1, 0x1, false, none, [⟨5, 0, .ro, 0, .any⟩]⟩]

/-- Every register row of page DMA. -/
def rowsDMA : List Row := rowsDMA0

/-- Register rows of page FLT, part 0. -/
def rowsFLT0 : List Row := [
  ⟨"CFG", 0x100, 1, 0x1, 1, 0x1, false, none, [⟨1, 0, .rws, 1, .any⟩]⟩,
  ⟨"STAT", 0x104, 1, 0x1, 1, 0x1, false, none, [⟨0, 0, .ro, 0, .any⟩, ⟨1, 1, .ro, 0, .any⟩, ⟨2, 2, .ro, 0, .any⟩, ⟨3, 3, .ro, 0, .any⟩, ⟨4, 4, .ro, 0, .any⟩, ⟨5, 5, .ro, 0, .any⟩, ⟨12, 6, .ro, 0, .any⟩]⟩,
  ⟨"CWIN", 0x108, 1, 0x1, 1, 0x1, false, none, [⟨15, 0, .rws, 0x64, .any⟩]⟩,
  ⟨"QUIET", 0x10C, 1, 0x1, 1, 0x1, false, none, [⟨15, 0, .rw, 0x2710, .near 1 65535⟩, ⟨19, 16, .rws, 3, .any⟩]⟩,
  ⟨"RXIDX", 0x110, 1, 0x1, 1, 0x1, false, none, [⟨7, 0, .rw, 0, .any⟩, ⟨12, 8, .rw, 0, .any⟩]⟩,
  ⟨"RXVAL", 0x114, 1, 0x1, 1, 0x1, false, some 0x110, [⟨2, 0, .rws, 0, .any⟩, ⟨4, 3, .ro, 0, .any⟩, ⟨5, 5, .ro, 0, .any⟩]⟩,
  ⟨"ACK", 0x118, 1, 0x1, 1, 0x1, false, none, [⟨7, 0, .wo, 0, .any⟩]⟩,
  ⟨"LOSTREC", 0x11C, 1, 0x1, 1, 0x1, false, none, [⟨31, 0, .ro, 0, .any⟩]⟩,
  ⟨"FCIDX", 0x120, 1, 0x1, 1, 0x1, false, none, [⟨7, 0, .rw, 0, .any⟩]⟩,
  ⟨"FCVAL", 0x124, 1, 0x1, 1, 0x1, false, none, [⟨3, 0, .ro, 0, .any⟩]⟩,
  ⟨"LEGACY", 0x128, 1, 0x1, 1, 0x1, false, none, [⟨31, 0, .ro, 0, .any⟩]⟩,
  ⟨"LEGCLR", 0x12C, 1, 0x1, 1, 0x1, false, none, [⟨0, 0, .wo, 0, .any⟩, ⟨1, 1, .wo, 0, .any⟩]⟩,
  ⟨"RECSEL", 0x130, 1, 0x1, 1, 0x1, false, none, [⟨5, 0, .rw, 0, .any⟩]⟩,
  ⟨"REC", 0x140, 8, 0x4, 1, 0x1, false, none, [⟨31, 0, .ro, 0, .any⟩]⟩,
  ⟨"FREC", 0x160, 8, 0x4, 1, 0x1, false, none, [⟨31, 0, .ro, 0, .any⟩]⟩]

/-- Every register row of page FLT. -/
def rowsFLT : List Row := rowsFLT0

/-- Register rows of page PWR, part 0. -/
def rowsPWR0 : List Row := [
  ⟨"AVSCFG", 0x100, 1, 0x1, 1, 0x1, false, none, [⟨5, 0, .rw, 0, .any⟩, ⟨6, 6, .rws, 1, .any⟩]⟩,
  ⟨"AVSSTAT", 0x104, 1, 0x1, 1, 0x1, false, none, [⟨10, 0, .ro, 0, .any⟩, ⟨26, 16, .ro, 0, .any⟩, ⟨27, 27, .ro, 0, .any⟩]⟩,
  ⟨"CORE", 0x108, 1, 0x1, 1, 0x1, false, none, [⟨10, 0, .ro, 0, .any⟩, ⟨25, 16, .ro, 0, .any⟩]⟩,
  ⟨"CORETH", 0x10C, 1, 0x1, 1, 0x1, false, none, [⟨7, 0, .rws, 0x2D, .any⟩, ⟨15, 8, .rws, 0x50, .any⟩, ⟨23, 16, .rws, 0x50, .any⟩]⟩,
  ⟨"FILT", 0x110, 1, 0x1, 1, 0x1, false, none, [⟨3, 0, .rws, 2, .near 1 15⟩, ⟨23, 16, .rws, 0xA, .any⟩]⟩,
  ⟨"RESUMEDLY", 0x114, 1, 0x1, 1, 0x1, false, none, [⟨19, 0, .rws, 0x2710, .near 1 1048575⟩]⟩,
  ⟨"BROWNCNT", 0x118, 1, 0x1, 1, 0x1, false, none, [⟨31, 0, .ro, 0, .any⟩]⟩,
  ⟨"CNTCLR", 0x11C, 1, 0x1, 1, 0x1, false, none, [⟨0, 0, .wo, 0, .any⟩]⟩,
  ⟨"VMONTH0", 0x120, 8, 0x8, 1, 0x1, false, none, [⟨11, 0, .rws, 0, .any⟩, ⟨27, 16, .rws, 0, .any⟩]⟩,
  ⟨"VMONTH1", 0x124, 8, 0x8, 1, 0x1, false, none, [⟨11, 0, .rws, 0x4B0, .any⟩, ⟨16, 16, .rws, 0, .any⟩]⟩,
  ⟨"VMONVAL", 0x160, 8, 0x4, 1, 0x1, false, none, [⟨11, 0, .ro, 0, .any⟩]⟩,
  ⟨"TEMP", 0x180, 1, 0x1, 1, 0x1, false, none, [⟨7, 0, .ro, 0, .any⟩, ⟨11, 8, .ro, 0, .any⟩]⟩,
  ⟨"THERM", 0x184, 1, 0x1, 1, 0x1, false, none, [⟨7, 0, .rws, 0x64, .any⟩, ⟨15, 8, .rws, 0x73, .any⟩]⟩,
  ⟨"SPCFG", 0x200, 1, 0x1, 1, 0x1, false, none, [⟨0, 0, .rws, 1, .any⟩, ⟨15, 8, .rws, 0x28, .near 4 40⟩, ⟨24, 16, .rws, 0x78, .near 20 400⟩]⟩,
  ⟨"SPFLOOR", 0x204, 1, 0x1, 1, 0x1, false, none, [⟨9, 0, .rws, 0, .any⟩]⟩,
  ⟨"SPSTAT", 0x208, 1, 0x1, 1, 0x1, false, none, [⟨9, 0, .ro, 0, .any⟩, ⟨25, 16, .ro, 0, .any⟩, ⟨26, 26, .ro, 0, .any⟩]⟩,
  ⟨"SLEWOVER", 0x20C, 1, 0x1, 1, 0x1, false, none, [⟨31, 0, .ro, 0, .any⟩]⟩,
  ⟨"WITHHELD", 0x210, 1, 0x1, 1, 0x1, false, none, [⟨31, 0, .ro, 0, .any⟩]⟩,
  ⟨"DEFERS", 0x214, 1, 0x1, 1, 0x1, false, none, [⟨31, 0, .ro, 0, .any⟩]⟩,
  ⟨"BALLASTUS", 0x218, 1, 0x1, 1, 0x1, false, none, [⟨31, 0, .ro, 0, .any⟩]⟩]

/-- Every register row of page PWR. -/
def rowsPWR : List Row := rowsPWR0

/-- Register rows of page EVT, part 0. -/
def rowsEVT0 : List Row := [
  ⟨"CFG", 0x100, 1, 0x1, 1, 0x1, false, none, [⟨15, 0, .rws, 0, .any⟩, ⟨31, 16, .rws, 0x88B6, .any⟩]⟩,
  ⟨"HELLO", 0x104, 1, 0x1, 1, 0x1, false, none, [⟨7, 0, .rw, 5, .near 1 255⟩, ⟨15, 8, .rw, 0x14, .near 1 255⟩, ⟨31, 16, .rw, 0x64, .near 1 65535⟩]⟩,
  ⟨"ACKCFG", 0x108, 1, 0x1, 1, 0x1, false, none, [⟨7, 0, .rw, 0x14, .near 1 255⟩, ⟨31, 16, .rw, 0x64, .near 1 65535⟩]⟩,
  ⟨"CLAIM", 0x10C, 1, 0x1, 1, 0x1, false, none, [⟨15, 0, .rw, 0x64, .near 1 65535⟩, ⟨31, 16, .rw, 0x64, .near 1 65535⟩]⟩,
  ⟨"PNMARGIN_LO", 0x110, 1, 0x1, 1, 0x1, true, none, [⟨31, 0, .rws, 0x100000, .any⟩]⟩,
  ⟨"PNMARGIN_HI", 0x114, 1, 0x1, 1, 0x1, false, none, [⟨31, 0, .rws, 0, .any⟩]⟩,
  ⟨"SEQMARGIN", 0x118, 1, 0x1, 1, 0x1, false, none, [⟨31, 0, .rws, 0x100000, .any⟩]⟩,
  ⟨"POLICY", 0x11C, 1, 0x1, 1, 0x1, false, none, [⟨0, 0, .rw, 1, .any⟩, ⟨1, 1, .rws, 1, .any⟩, ⟨2, 2, .rws, 0, .any⟩, ⟨16, 8, .rw, 0xC8, .near 10 300⟩]⟩,
  ⟨"CTL", 0x120, 1, 0x1, 1, 0x1, false, none, [⟨0, 0, .wo, 0, .any⟩, ⟨1, 1, .wo, 0, .any⟩, ⟨2, 2, .wo, 0, .any⟩]⟩,
  ⟨"STAT", 0x124, 1, 0x1, 1, 0x1, false, none, [⟨1, 0, .ro, 0, .any⟩, ⟨3, 2, .ro, 0, .any⟩, ⟨5, 4, .ro, 0, .any⟩, ⟨9, 6, .ro, 0, .any⟩, ⟨10, 10, .ro, 0, .any⟩, ⟨11, 11, .ro, 0, .any⟩, ⟨12, 12, .ro, 0, .any⟩, ⟨13, 13, .ro, 0, .any⟩, ⟨14, 14, .w1c, 0, .any⟩, ⟨15, 15, .ro, 0, .any⟩]⟩,
  ⟨"EPOCH", 0x128, 1, 0x1, 1, 0x1, false, none, [⟨31, 0, .ro, 0, .any⟩]⟩,
  ⟨"JLEVEL", 0x12C, 1, 0x1, 1, 0x1, false, none, [⟨14, 0, .ro, 0, .any⟩]⟩,
  ⟨"JSEQTX", 0x130, 1, 0x1, 1, 0x1, false, none, [⟨31, 0, .ro, 0, .any⟩]⟩,
  ⟨"ACKED", 0x134, 1, 0x1, 1, 0x1, false, none, [⟨31, 0, .ro, 0, .any⟩]⟩,
  ⟨"APPLIED", 0x138, 1, 0x1, 1, 0x1, false, none, [⟨31, 0, .ro, 0, .any⟩]⟩,
  ⟨"PEERSERIAL_LO", 0x13C, 1, 0x1, 1, 0x1, true, none, [⟨31, 0, .ro, 0, .any⟩]⟩,
  ⟨"PEERSERIAL_HI", 0x140, 1, 0x1, 1, 0x1, false, none, [⟨31, 0, .ro, 0, .any⟩]⟩,
  ⟨"PEERCRC", 0x144, 1, 0x1, 1, 0x1, false, none, [⟨31, 0, .ro, 0, .any⟩]⟩,
  ⟨"LASTROLE_LO", 0x148, 1, 0x1, 1, 0x1, true, none, [⟨31, 0, .ro, 0, .any⟩]⟩,
  ⟨"LASTROLE_HI", 0x14C, 1, 0x1, 1, 0x1, false, none, [⟨31, 0, .ro, 0, .any⟩]⟩,
  ⟨"BULKROWS", 0x150, 1, 0x1, 1, 0x1, false, none, [⟨21, 0, .ro, 0, .any⟩]⟩,
  ⟨"CNTCLR", 0x154, 1, 0x1, 1, 0x1, false, none, [⟨0, 0, .wo, 0, .any⟩]⟩,
  ⟨"TAKEOVERS", 0x158, 1, 0x1, 1, 0x1, false, none, [⟨31, 0, .ro, 0, .any⟩]⟩,
  ⟨"HOFAIL", 0x15C, 1, 0x1, 1, 0x1, false, none, [⟨31, 0, .ro, 0, .any⟩]⟩,
  ⟨"STALES", 0x160, 1, 0x1, 1, 0x1, false, none, [⟨31, 0, .ro, 0, .any⟩]⟩,
  ⟨"RESYNCS", 0x164, 1, 0x1, 1, 0x1, false, none, [⟨31, 0, .ro, 0, .any⟩]⟩,
  ⟨"RETX", 0x168, 1, 0x1, 1, 0x1, false, none, [⟨31, 0, .ro, 0, .any⟩]⟩,
  ⟨"BADFRAME", 0x16C, 1, 0x1, 1, 0x1, false, none, [⟨31, 0, .ro, 0, .any⟩]⟩,
  ⟨"PINMISM", 0x170, 1, 0x1, 1, 0x1, false, none, [⟨31, 0, .ro, 0, .any⟩]⟩,
  ⟨"SPLITS", 0x174, 1, 0x1, 1, 0x1, false, none, [⟨31, 0, .ro, 0, .any⟩]⟩]

/-- Every register row of page EVT. -/
def rowsEVT : List Row := rowsEVT0

/-- Register rows of page CNT, part 0. -/
def rowsCNT0 : List Row := [
  ⟨"CFG", 0x100, 1, 0x1, 1, 0x1, false, none, [⟨23, 0, .rw, 0x3E8, .near 10 10000000⟩]⟩,
  ⟨"STAT", 0x104, 1, 0x1, 1, 0x1, false, none, [⟨0, 0, .ro, 0, .any⟩, ⟨1, 1, .w1c, 0, .any⟩, ⟨2, 2, .ro, 0, .any⟩, ⟨3, 3, .ro, 0, .any⟩]⟩,
  ⟨"SNAPCTL", 0x108, 1, 0x1, 1, 0x1, false, none, [⟨0, 0, .wo, 0, .any⟩, ⟨1, 1, .rw, 0, .any⟩]⟩,
  ⟨"SNAPAT_LO", 0x10C, 1, 0x1, 1, 0x1, true, none, [⟨31, 0, .rw, 0, .any⟩]⟩,
  ⟨"SNAPAT_HI", 0x110, 1, 0x1, 1, 0x1, false, none, [⟨31, 0, .rw, 0, .any⟩]⟩,
  ⟨"SNAPINST_LO", 0x114, 1, 0x1, 1, 0x1, true, none, [⟨31, 0, .ro, 0, .any⟩]⟩,
  ⟨"SNAPINST_HI", 0x118, 1, 0x1, 1, 0x1, false, none, [⟨31, 0, .ro, 0, .any⟩]⟩,
  ⟨"SNAPSEQ", 0x11C, 1, 0x1, 1, 0x1, false, none, [⟨31, 0, .ro, 0, .any⟩]⟩,
  ⟨"SNAPLOST", 0x120, 1, 0x1, 1, 0x1, false, none, [⟨31, 0, .ro, 0, .any⟩]⟩,
  ⟨"FREEZECTL", 0x124, 1, 0x1, 1, 0x1, false, none, [⟨0, 0, .wo, 0, .any⟩, ⟨1, 1, .rw, 0, .any⟩, ⟨2, 2, .rw, 0, .any⟩]⟩,
  ⟨"FREEZEAT_LO", 0x128, 1, 0x1, 1, 0x1, true, none, [⟨31, 0, .rw, 0, .any⟩]⟩,
  ⟨"FREEZEAT_HI", 0x12C, 1, 0x1, 1, 0x1, false, none, [⟨31, 0, .rw, 0, .any⟩]⟩,
  ⟨"CNTCLR", 0x130, 1, 0x1, 1, 0x1, false, none, [⟨0, 0, .wo, 0, .any⟩]⟩,
  ⟨"GIDX", 0x140, 1, 0x1, 1, 0x1, false, none, [⟨2, 0, .rw, 0, .any⟩, ⟨10, 3, .rw, 0, .any⟩]⟩,
  ⟨"GVAL_LO", 0x144, 1, 0x1, 1, 0x1, true, none, [⟨31, 0, .ro, 0, .any⟩]⟩,
  ⟨"GVAL_HI", 0x148, 1, 0x1, 1, 0x1, false, none, [⟨31, 0, .ro, 0, .any⟩]⟩,
  ⟨"GSNAP_LO", 0x14C, 1, 0x1, 1, 0x1, true, none, [⟨31, 0, .ro, 0, .any⟩]⟩,
  ⟨"GSNAP_HI", 0x150, 1, 0x1, 1, 0x1, false, none, [⟨31, 0, .ro, 0, .any⟩]⟩,
  ⟨"GSTAT", 0x154, 1, 0x1, 1, 0x1, false, some 0x140, [⟨0, 0, .w1c, 0, .any⟩]⟩,
  ⟨"UVIDX", 0x180, 1, 0x1, 1, 0x1, false, none, [⟨10, 0, .rw, 0, .any⟩]⟩,
  ⟨"USERVIS", 0x184, 1, 0x1, 1, 0x1, false, some 0x180, [⟨5, 0, .rw, 0, .any⟩, ⟨13, 6, .rw, 0, .any⟩, ⟨21, 14, .rw, 0, .any⟩, ⟨24, 22, .rw, 0, .any⟩, ⟨25, 25, .rw, 0, .any⟩]⟩]

/-- Every register row of page CNT. -/
def rowsCNT : List Row := rowsCNT0

/-- Register rows of page TCM, part 0. -/
def rowsTCM0 : List Row := [
  ⟨"SHADOWFIX", 0x100, 1, 0x1, 1, 0x1, false, none, [⟨31, 0, .ro, 0, .any⟩]⟩,
  ⟨"SHADOWLOST", 0x104, 1, 0x1, 1, 0x1, false, none, [⟨31, 0, .ro, 0, .any⟩]⟩,
  ⟨"SWEEPUS", 0x108, 1, 0x1, 1, 0x1, false, none, [⟨31, 0, .ro, 0, .any⟩]⟩,
  ⟨"CNTCLR", 0x10C, 1, 0x1, 1, 0x1, false, none, [⟨0, 0, .wo, 0, .any⟩]⟩,
  ⟨"BANKPF", 0x1000, 2, 0x800, 96, 0x4, false, none, [⟨4, 0, .rws, 0, .any⟩, ⟨5, 5, .rws, 0, .any⟩, ⟨15, 8, .rws, 0, .any⟩, ⟨23, 16, .rws, 0, .any⟩]⟩,
  ⟨"CHAIN", 0x1200, 2, 0x800, 64, 0x4, false, none, [⟨6, 0, .rws, 0, .any⟩, ⟨7, 7, .rws, 0, .any⟩, ⟨8, 8, .rws, 0, .any⟩, ⟨14, 9, .rws, 1, .any⟩]⟩]

/-- Every register row of page TCM. -/
def rowsTCM : List Row := rowsTCM0

/-- Register rows of page USER, part 0. -/
def rowsUSER0 : List Row := [
  ⟨"ID", 0x0, 1, 0x1, 1, 0x1, false, none, [⟨5, 0, .ro, 0, .any⟩, ⟨31, 31, .ro, 1, .any⟩]⟩,
  ⟨"CAP", 0x4, 1, 0x1, 1, 0x1, false, none, [⟨0, 0, .ro, 0, .any⟩, ⟨8, 1, .ro, 0, .any⟩, ⟨24, 9, .ro, 0, .any⟩]⟩,
  ⟨"DENIED", 0x8, 1, 0x1, 1, 0x1, false, none, [⟨31, 0, .ro, 0, .any⟩]⟩,
  ⟨"CLR", 0xC, 1, 0x1, 1, 0x1, false, none, [⟨0, 0, .wo, 0, .any⟩]⟩,
  ⟨"DEVSTATE", 0x10, 1, 0x1, 1, 0x1, false, none, [⟨3, 0, .ro, 0, .any⟩]⟩,
  ⟨"DCTL", 0x1000, 1, 0x1, 1, 0x1, false, none, [⟨0, 0, .rw, 0, .any⟩]⟩,
  ⟨"RINGLO", 0x1004, 1, 0x1, 1, 0x1, false, none, [⟨31, 0, .rw, 0, .align 32⟩]⟩,
  ⟨"RINGHI", 0x1008, 1, 0x1, 1, 0x1, false, none, [⟨31, 0, .rw, 0, .any⟩]⟩,
  ⟨"RINGSIZE", 0x100C, 1, 0x1, 1, 0x1, false, none, [⟨3, 0, .rw, 4, .sub 4 12 4⟩]⟩,
  ⟨"PIDX", 0x1010, 1, 0x1, 1, 0x1, false, none, [⟨11, 0, .rw, 0, .any⟩]⟩,
  ⟨"CIDX", 0x1014, 1, 0x1, 1, 0x1, false, none, [⟨11, 0, .ro, 0, .any⟩]⟩,
  ⟨"DSTAT", 0x1018, 1, 0x1, 1, 0x1, false, none, [⟨2, 0, .ro, 0, .any⟩, ⟨6, 3, .ro, 0, .any⟩, ⟨7, 7, .ro, 0, .any⟩, ⟨31, 8, .ro, 0, .any⟩]⟩,
  ⟨"DIRQSTAT", 0x101C, 1, 0x1, 1, 0x1, false, none, [⟨0, 0, .w1c, 0, .any⟩, ⟨1, 1, .w1c, 0, .any⟩]⟩,
  ⟨"DIRQMASK", 0x1020, 1, 0x1, 1, 0x1, false, none, [⟨1, 0, .rw, 3, .any⟩]⟩,
  ⟨"COMPLETED", 0x1024, 1, 0x1, 1, 0x1, false, none, [⟨31, 0, .ro, 0, .any⟩]⟩,
  ⟨"TRIGLOST", 0x1028, 1, 0x1, 1, 0x1, false, none, [⟨31, 0, .ro, 0, .any⟩]⟩,
  ⟨"DCNTCLR", 0x102C, 1, 0x1, 1, 0x1, false, none, [⟨0, 0, .wo, 0, .any⟩]⟩,
  ⟨"QPCFG", 0x2000, 8, 0x400, 1, 0x1, false, none, [⟨0, 0, .rw, 0, .any⟩, ⟨1, 1, .rw, 0, .any⟩, ⟨5, 2, .rw, 4, .sub 4 12 4⟩, ⟨9, 6, .rw, 4, .sub 4 12 4⟩, ⟨16, 10, .rw, 8, .near 1 64⟩]⟩,
  ⟨"TXRING_LO", 0x2004, 8, 0x400, 1, 0x1, true, none, [⟨31, 0, .rw, 0, .align 16⟩]⟩,
  ⟨"TXRING_HI", 0x2008, 8, 0x400, 1, 0x1, false, none, [⟨31, 0, .rw, 0, .any⟩]⟩,
  ⟨"RXRING_LO", 0x200C, 8, 0x400, 1, 0x1, true, none, [⟨31, 0, .rw, 0, .align 16⟩]⟩,
  ⟨"RXRING_HI", 0x2010, 8, 0x400, 1, 0x1, false, none, [⟨31, 0, .rw, 0, .any⟩]⟩,
  ⟨"HOLDOFF", 0x2014, 8, 0x400, 1, 0x1, false, none, [⟨15, 0, .rw, 0, .any⟩]⟩,
  ⟨"QSTAT", 0x2018, 8, 0x400, 1, 0x1, false, none, [⟨0, 0, .ro, 0, .any⟩, ⟨1, 1, .ro, 0, .any⟩, ⟨2, 2, .ro, 0, .any⟩]⟩,
  ⟨"QIRQSTAT", 0x201C, 8, 0x400, 1, 0x1, false, none, [⟨0, 0, .w1c, 0, .any⟩, ⟨1, 1, .w1c, 0, .any⟩, ⟨2, 2, .w1c, 0, .any⟩]⟩,
  ⟨"QIRQMASK", 0x2020, 8, 0x400, 1, 0x1, false, none, [⟨2, 0, .rw, 7, .any⟩]⟩,
  ⟨"TXPKTS", 0x2024, 8, 0x400, 1, 0x1, false, none, [⟨31, 0, .ro, 0, .any⟩]⟩,
  ⟨"TXERRS", 0x2028, 8, 0x400, 1, 0x1, false, none, [⟨31, 0, .ro, 0, .any⟩]⟩,
  ⟨"RXPKTS", 0x202C, 8, 0x400, 1, 0x1, false, none, [⟨31, 0, .ro, 0, .any⟩]⟩,
  ⟨"QCNTCLR", 0x2030, 8, 0x400, 1, 0x1, false, none, [⟨0, 0, .wo, 0, .any⟩]⟩,
  ⟨"KSLOTS", 0x4000, 1, 0x1, 1, 0x1, false, none, [⟨16, 0, .ro, 0, .any⟩]⟩,
  ⟨"KWBLOB", 0x4010, 16, 0x4, 1, 0x1, false, none, [⟨31, 0, .wo, 0, .any⟩]⟩,
  ⟨"KWCTL", 0x4050, 1, 0x1, 1, 0x1, false, none, [⟨15, 0, .rw, 0, .any⟩, ⟨31, 31, .wo, 0, .any⟩]⟩,
  ⟨"KWSTAT", 0x4054, 1, 0x1, 1, 0x1, false, none, [⟨3, 0, .ro, 0xF, .any⟩, ⟨4, 4, .ro, 0, .any⟩]⟩,
  ⟨"KERASE", 0x4058, 1, 0x1, 1, 0x1, false, none, [⟨15, 0, .rw, 0, .any⟩, ⟨31, 31, .wo, 0, .any⟩]⟩,
  ⟨"KSLOTSEL", 0x405C, 1, 0x1, 1, 0x1, false, none, [⟨15, 0, .rw, 0, .any⟩]⟩,
  ⟨"KSLOTINFO", 0x4060, 1, 0x1, 1, 0x1, false, none, [⟨15, 0, .ro, 0, .any⟩]⟩,
  ⟨"CTXIDX", 0x4100, 1, 0x1, 1, 0x1, false, none, [⟨11, 0, .rw, 0, .any⟩]⟩,
  ⟨"CTXINFO", 0x4104, 1, 0x1, 1, 0x1, false, none, [⟨0, 0, .ro, 0, .any⟩, ⟨1, 1, .ro, 0, .any⟩, ⟨3, 2, .ro, 0, .any⟩, ⟨5, 4, .ro, 0, .any⟩]⟩,
  ⟨"CTXCFG", 0x4108, 1, 0x1, 1, 0x1, false, none, [⟨15, 0, .rw, 0, .any⟩, ⟨16, 16, .rw, 0, .any⟩, ⟨17, 17, .wo, 0, .any⟩]⟩]

/-- Register rows of page USER, part 1. -/
def rowsUSER1 : List Row := [
  ⟨"CTXPN_LO", 0x410C, 1, 0x1, 1, 0x1, true, none, [⟨31, 0, .rw, 0, .any⟩]⟩,
  ⟨"CTXPN_HI", 0x4110, 1, 0x1, 1, 0x1, false, none, [⟨31, 0, .rw, 0, .any⟩]⟩,
  ⟨"CTXSSCI", 0x4114, 1, 0x1, 1, 0x1, false, none, [⟨31, 0, .rw, 0, .any⟩]⟩,
  ⟨"CTXCNT", 0x4118, 4, 0x4, 1, 0x1, false, none, [⟨31, 0, .ro, 0, .any⟩]⟩,
  ⟨"GCNT_LO", 0x8000, 256, 0x10, 1, 0x1, true, none, [⟨31, 0, .ro, 0, .any⟩]⟩,
  ⟨"GCNT_HI", 0x8004, 256, 0x10, 1, 0x1, false, none, [⟨31, 0, .ro, 0, .any⟩]⟩,
  ⟨"GSNAP_LO", 0x8008, 256, 0x10, 1, 0x1, true, none, [⟨31, 0, .ro, 0, .any⟩]⟩,
  ⟨"GSNAP_HI", 0x800C, 256, 0x10, 1, 0x1, false, none, [⟨31, 0, .ro, 0, .any⟩]⟩,
  ⟨"SNAPINST_LO", 0x9000, 1, 0x1, 1, 0x1, true, none, [⟨31, 0, .ro, 0, .any⟩]⟩,
  ⟨"SNAPINST_HI", 0x9004, 1, 0x1, 1, 0x1, false, none, [⟨31, 0, .ro, 0, .any⟩]⟩,
  ⟨"SNAPSEQ", 0x9008, 1, 0x1, 1, 0x1, false, none, [⟨31, 0, .ro, 0, .any⟩]⟩]

/-- Every register row of page USER. -/
def rowsUSER : List Row := rowsUSER0 ++ rowsUSER1

/-- Register rows of page IDX, part 0. -/
def rowsIDX0 : List Row := [
  ⟨"TXPIDX", 0x0, 8, 0x2000, 1, 0x1, false, none, [⟨11, 0, .rw, 0, .any⟩]⟩,
  ⟨"TXCIDX", 0x4, 8, 0x2000, 1, 0x1, false, none, [⟨11, 0, .ro, 0, .any⟩]⟩,
  ⟨"RXPIDX", 0x8, 8, 0x2000, 1, 0x1, false, none, [⟨11, 0, .rw, 0, .any⟩]⟩,
  ⟨"RXCIDX", 0xC, 8, 0x2000, 1, 0x1, false, none, [⟨11, 0, .ro, 0, .any⟩]⟩]

/-- Every register row of page IDX. -/
def rowsIDX : List Row := rowsIDX0

end Sys2Proof.Machine
end

