-- ==== Sys2Proof/Machine/RegNames.lean ====
section
/-! DEFINITION. The keys of the register store, one name per register of the spec. A BAR0 register's key is its
BAR0 offset (R32); an entry behind an index register adds (index + 1) * 2^24; a BAR2 register of function u adds
2^60 + u * 2^16 and a BAR4 register 2^61 + u * 2^16 (R30, R47). -/

namespace Sys2Proof.Machine

/-- The key of a windowed register's entry `i`. -/
abbrev bankKey (a i : Nat) : Nat := a + (i + 1) * 16777216

/-- The key of a BAR2 offset of function `u`. -/
abbrev bar2Key (u off : Nat) : Nat := 1152921504606846976 + u * 65536 + off

/-- The key of a BAR4 offset of function `u`. -/
abbrev bar4Key (u off : Nat) : Nat := 2305843009213693952 + u * 65536 + off

abbrev HDR.BLKID (page : Nat) : Nat := page * 65536 + 0
abbrev HDR.BLKVER (page : Nat) : Nat := page * 65536 + 4
abbrev HDR.BLKCAP0 (page : Nat) : Nat := page * 65536 + 8
abbrev HDR.BLKCAP1 (page : Nat) : Nat := page * 65536 + 12
abbrev HDR.BLKCTL (page : Nat) : Nat := page * 65536 + 16
abbrev HDR.BLKSTAT (page : Nat) : Nat := page * 65536 + 20
abbrev HDR.FLTSTAT (page : Nat) : Nat := page * 65536 + 32
abbrev HDR.FLTMASK (page : Nat) : Nat := page * 65536 + 36
abbrev HDR.FLTFORCE (page : Nat) : Nat := page * 65536 + 40
abbrev HDR.FLTCNT (page : Nat) : Nat := page * 65536 + 44
abbrev HDR.IRQSTAT (page : Nat) : Nat := page * 65536 + 64
abbrev HDR.IRQMASK (page : Nat) : Nat := page * 65536 + 68
abbrev HDR.CSEL (page : Nat) (i : Nat) : Nat := page * 65536 + 128 + 4 * i
abbrev HDR.CNTLO (page : Nat) (i : Nat) : Nat := page * 65536 + 192 + 8 * i
abbrev HDR.CNTHI (page : Nat) (i : Nat) : Nat := page * 65536 + 196 + 8 * i

abbrev DEV.IDENT : Nat := 256
abbrev DEV.SERIAL_LO : Nat := 260
abbrev DEV.SERIAL_HI : Nat := 264
abbrev DEV.CAP0 : Nat := 268
abbrev DEV.CAP1 : Nat := 272
abbrev DEV.ABSENTWR : Nat := 276
abbrev DEV.ABSENTADDR : Nat := 280
abbrev DEV.BADACC : Nat := 284
abbrev DEV.QTIMEOUT : Nat := 288
abbrev DEV.CNTCLR : Nat := 292
abbrev DEV.STATE : Nat := 384
abbrev DEV.STRAP : Nat := 388
abbrev DEV.FENCE : Nat := 392
abbrev DEV.LOADCTL : Nat := 396
abbrev DEV.LOADSTAT : Nat := 400
abbrev DEV.IMGID : Nat := 404
abbrev DEV.VALIDATE : Nat := 408
abbrev DEV.VALSTAT : Nat := 412
abbrev DEV.VALFAILS : Nat := 416
abbrev DEV.VALDETAIL : Nat := 420
abbrev DEV.CFGGEN : Nat := 424
abbrev DEV.VALGEN : Nat := 428
abbrev DEV.CFGCRC : Nat := 432
abbrev DEV.SEAL : Nat := 436
abbrev DEV.SEALREJ : Nat := 440
abbrev DEV.SEALREJADDR : Nat := 444
abbrev DEV.RUNCTL : Nat := 448
abbrev DEV.RSTCTL : Nat := 452

abbrev PG.MODE (g : Nat) : Nat := 6291456 + g * 65536 + 256
abbrev PG.LANECFG (g : Nat) : Nat := 6291456 + g * 65536 + 260
abbrev PG.MOGULPERMIT (g : Nat) : Nat := 6291456 + g * 65536 + 264
abbrev PG.SECEN (g : Nat) : Nat := 6291456 + g * 65536 + 268
abbrev PG.LANETX (g : Nat) (i : Nat) : Nat := 6291456 + g * 65536 + 272 + 4 * i
abbrev PG.PCNTCLR (g : Nat) : Nat := 6291456 + g * 65536 + 384
abbrev PG.PFCSA_LO (g : Nat) (i : Nat) : Nat := 6291456 + g * 65536 + 448 + 8 * i
abbrev PG.PFCSA_HI (g : Nat) (i : Nat) : Nat := 6291456 + g * 65536 + 452 + 8 * i
abbrev PG.PORTCFG (g : Nat) (i : Nat) : Nat := 6291456 + g * 65536 + 512 + 64 * i
abbrev PG.MAXLEN (g : Nat) (i : Nat) : Nat := 6291456 + g * 65536 + 516 + 64 * i
abbrev PG.PFCTIME (g : Nat) (i : Nat) : Nat := 6291456 + g * 65536 + 520 + 64 * i
abbrev PG.LINKCFG (g : Nat) (i : Nat) : Nat := 6291456 + g * 65536 + 524 + 64 * i
abbrev PG.PORTSTAT (g : Nat) (i : Nat) : Nat := 6291456 + g * 65536 + 528 + 64 * i
abbrev PG.TSOFS_RX (g : Nat) (i : Nat) : Nat := 6291456 + g * 65536 + 532 + 64 * i
abbrev PG.TSOFS_TX (g : Nat) (i : Nat) : Nat := 6291456 + g * 65536 + 536 + 64 * i
abbrev PG.FECCORR (g : Nat) (i : Nat) : Nat := 6291456 + g * 65536 + 540 + 64 * i
abbrev PG.FECUNC (g : Nat) (i : Nat) : Nat := 6291456 + g * 65536 + 544 + 64 * i
abbrev PG.RXBUFDROP (g : Nat) (i : Nat) : Nat := 6291456 + g * 65536 + 548 + 64 * i
abbrev PG.NOTRUN (g : Nat) (i : Nat) : Nat := 6291456 + g * 65536 + 552 + 64 * i
abbrev PG.LINKDROP (g : Nat) (i : Nat) : Nat := 6291456 + g * 65536 + 556 + 64 * i
abbrev PG.LENERR (g : Nat) (i : Nat) : Nat := 6291456 + g * 65536 + 560 + 64 * i
abbrev PG.FCSERR (g : Nat) (i : Nat) : Nat := 6291456 + g * 65536 + 564 + 64 * i
abbrev PG.TRAINCNT (g : Nat) (i : Nat) : Nat := 6291456 + g * 65536 + 568 + 64 * i
abbrev PG.DEMOTED (g : Nat) (i : Nat) : Nat := 6291456 + g * 65536 + 572 + 64 * i
abbrev PG.TSF_TAG (g : Nat) : Nat := 6291456 + g * 65536 + 1024
abbrev PG.TSF_NS (g : Nat) : Nat := 6291456 + g * 65536 + 1028
abbrev PG.TSF_SEC_LO (g : Nat) : Nat := 6291456 + g * 65536 + 1032
abbrev PG.TSF_SEC_HI (g : Nat) : Nat := 6291456 + g * 65536 + 1036
abbrev PG.TSF_POP (g : Nat) : Nat := 6291456 + g * 65536 + 1040
abbrev PG.TSFSTAT (g : Nat) : Nat := 6291456 + g * 65536 + 1044
abbrev PG.MOGCTL (g : Nat) : Nat := 6291456 + g * 65536 + 1280
abbrev PG.MOGSTAT (g : Nat) : Nat := 6291456 + g * 65536 + 1284
abbrev PG.MOG0 (g : Nat) (i : Nat) : Nat := 6291456 + g * 65536 + 1536 + 64 * i
abbrev PG.MOG1 (g : Nat) (i : Nat) : Nat := 6291456 + g * 65536 + 1540 + 64 * i
abbrev PG.MOG2 (g : Nat) (i : Nat) : Nat := 6291456 + g * 65536 + 1544 + 64 * i
abbrev PG.MOG3 (g : Nat) (i : Nat) : Nat := 6291456 + g * 65536 + 1548 + 64 * i
abbrev PG.MOGPARAM (g : Nat) (i : Nat) : Nat := 6291456 + g * 65536 + 1552 + 64 * i
abbrev PG.MOGSTART_LO (g : Nat) (i : Nat) : Nat := 6291456 + g * 65536 + 1556 + 64 * i
abbrev PG.MOGSTART_HI (g : Nat) (i : Nat) : Nat := 6291456 + g * 65536 + 1560 + 64 * i
abbrev PG.MOGSTOP_LO (g : Nat) (i : Nat) : Nat := 6291456 + g * 65536 + 1564 + 64 * i
abbrev PG.MOGSTOP_HI (g : Nat) (i : Nat) : Nat := 6291456 + g * 65536 + 1568 + 64 * i
abbrev PG.MOGHITS (g : Nat) (i : Nat) : Nat := 6291456 + g * 65536 + 1572 + 64 * i

abbrev TIM.CFG : Nat := 459008
abbrev TIM.NOW_LO : Nat := 459012
abbrev TIM.NOW_HI : Nat := 459016
abbrev TIM.NOW_FRAC : Nat := 459020
abbrev TIM.RATE : Nat := 459024
abbrev TIM.STEP_LO : Nat := 459028
abbrev TIM.STEP_HI : Nat := 459032
abbrev TIM.STEPAT_LO : Nat := 459036
abbrev TIM.STEPAT_HI : Nat := 459040
abbrev TIM.STEPCTL : Nat := 459044
abbrev TIM.PPSCAP_LO : Nat := 459048
abbrev TIM.PPSCAP_HI : Nat := 459052
abbrev TIM.PPSCAP_FRAC : Nat := 459056
abbrev TIM.PPSOUT : Nat := 459060
abbrev TIM.PPSOUT_OFS : Nat := 459064
abbrev TIM.STAT : Nat := 459068
abbrev TIM.TGT_LO (i : Nat) : Nat := 459264 + 32 * i
abbrev TIM.TGT_HI (i : Nat) : Nat := 459268 + 32 * i
abbrev TIM.PERIOD_LO (i : Nat) : Nat := 459272 + 32 * i
abbrev TIM.PERIOD_HI (i : Nat) : Nat := 459276 + 32 * i
abbrev TIM.TMRCTL (i : Nat) : Nat := 459280 + 32 * i
abbrev TIM.FIRED (i : Nat) : Nat := 459284 + 32 * i

abbrev IP.IPCFG (g : Nat) : Nat := 2097152 + g * 65536 + 256
abbrev IP.HASHSEED (g : Nat) : Nat := 2097152 + g * 65536 + 260
abbrev IP.POLCFG (g : Nat) : Nat := 2097152 + g * 65536 + 264
abbrev IP.CNTCLR (g : Nat) : Nat := 2097152 + g * 65536 + 268
abbrev IP.HASHPAIR (g : Nat) (i : Nat) : Nat := 2097152 + g * 65536 + 272 + 4 * i
abbrev IP.HASHSINGLE (g : Nat) : Nat := 2097152 + g * 65536 + 288
abbrev IP.EXCPOLDROP (g : Nat) : Nat := 2097152 + g * 65536 + 292
abbrev IP.RSTDROP (g : Nat) : Nat := 2097152 + g * 65536 + 296
abbrev IP.SHADOWED (g : Nat) : Nat := 2097152 + g * 65536 + 300
abbrev IP.REDDROP (g : Nat) : Nat := 2097152 + g * 65536 + 304
abbrev IP.NOEGRDROP (g : Nat) : Nat := 2097152 + g * 65536 + 308
abbrev IP.ACNTCLR (g : Nat) : Nat := 2097152 + g * 65536 + 312
abbrev IP.PSLOT (g : Nat) (i : Nat) : Nat := 2097152 + g * 65536 + 320 + 4 * i
abbrev IP.PRECOLMAP (g : Nat) (i : Nat) : Nat := 2097152 + g * 65536 + 352 + 4 * i
abbrev IP.STAGECFG (g : Nat) (i : Nat) : Nat := 2097152 + g * 65536 + 4096 + 64 * i
abbrev IP.STAGEKEYA (g : Nat) (i : Nat) : Nat := 2097152 + g * 65536 + 4100 + 64 * i
abbrev IP.STAGEKEYB (g : Nat) (i : Nat) : Nat := 2097152 + g * 65536 + 4104 + 64 * i
abbrev IP.MISSACT (g : Nat) (i : Nat) (j : Nat) : Nat := 2097152 + g * 65536 + 4112 + 64 * i + 4 * j
abbrev IP.HITCNT (g : Nat) (i : Nat) : Nat := 2097152 + g * 65536 + 4128 + 64 * i
abbrev IP.MISSCNT (g : Nat) (i : Nat) : Nat := 2097152 + g * 65536 + 4132 + 64 * i
abbrev IP.SNOTRUN (g : Nat) (i : Nat) : Nat := 2097152 + g * 65536 + 4136 + 64 * i
abbrev IP.PSW0 (g : Nat) (i : Nat) : Nat := 2097152 + g * 65536 + 8192 + 64 * i
abbrev IP.PSW1 (g : Nat) (i : Nat) : Nat := 2097152 + g * 65536 + 8196 + 64 * i
abbrev IP.PSW2 (g : Nat) (i : Nat) : Nat := 2097152 + g * 65536 + 8200 + 64 * i
abbrev IP.PXD (g : Nat) (i : Nat) (j : Nat) : Nat := 2097152 + g * 65536 + 8208 + 64 * i + 4 * j
abbrev IP.TRANS0 (g : Nat) (i : Nat) : Nat := 2097152 + g * 65536 + 16384 + 8 * i
abbrev IP.TRANS1 (g : Nat) (i : Nat) : Nat := 2097152 + g * 65536 + 16388 + 8 * i
abbrev IP.EXCMAP0 (g : Nat) (i : Nat) : Nat := 2097152 + g * 65536 + 24576 + 8 * i
abbrev IP.EXCMAP1 (g : Nat) (i : Nat) : Nat := 2097152 + g * 65536 + 24580 + 8 * i
abbrev IP.EXCCNT (g : Nat) (i : Nat) : Nat := 2097152 + g * 65536 + 28672 + 4 * i
abbrev IP.APROF0 (g : Nat) (i : Nat) : Nat := 2097152 + g * 65536 + 32768 + 8 * i
abbrev IP.APROF1 (g : Nat) (i : Nat) : Nat := 2097152 + g * 65536 + 32772 + 8 * i

abbrev TBL.CFG : Nat := 1048832
abbrev TBL.CMDGO : Nat := 1048836
abbrev TBL.CMDSTAT : Nat := 1048840
abbrev TBL.CMDREJ : Nat := 1048844
abbrev TBL.CMPLPOP : Nat := 1048848
abbrev TBL.VERERR : Nat := 1048852
abbrev TBL.FOLDSTAT : Nat := 1048856
abbrev TBL.FOLDLVL_E : Nat := 1048860
abbrev TBL.FOLDLVL_W : Nat := 1048864
abbrev TBL.BGCFG : Nat := 1048868
abbrev TBL.LPMERR : Nat := 1048872
abbrev TBL.DMAERR : Nat := 1048876
abbrev TBL.SCRUBFIX : Nat := 1048880
abbrev TBL.SCRUBUNC : Nat := 1048884
abbrev TBL.CNTCLR : Nat := 1048888
abbrev TBL.CMDW (i : Nat) : Nat := 1049088 + 4 * i
abbrev TBL.CMPL0 : Nat := 1049344
abbrev TBL.CMPL1 : Nat := 1049348
abbrev TBL.CMPL2 : Nat := 1049352
abbrev TBL.CMPL3 (i : Nat) : Nat := 1049356 + 4 * i
abbrev TBL.H_CFG0 (i : Nat) (j : Nat) : Nat := 1052672 + 2048 * i + 32 * j
abbrev TBL.SEED0 (i : Nat) (j : Nat) : Nat := 1052676 + 2048 * i + 32 * j
abbrev TBL.SEED1 (i : Nat) (j : Nat) : Nat := 1052680 + 2048 * i + 32 * j
abbrev TBL.LRNBASE (i : Nat) (j : Nat) : Nat := 1052684 + 2048 * i + 32 * j
abbrev TBL.ENTRIES (i : Nat) (j : Nat) : Nat := 1052688 + 2048 * i + 32 * j
abbrev TBL.AGECFG (i : Nat) : Nat := 1053184 + 2048 * i
abbrev TBL.AGEPASS (i : Nat) : Nat := 1053188 + 2048 * i
abbrev TBL.AGESLIP (i : Nat) : Nat := 1053192 + 2048 * i
abbrev TBL.STRIDE4A (i : Nat) : Nat := 1053200 + 2048 * i
abbrev TBL.STRIDE4B (i : Nat) : Nat := 1053204 + 2048 * i
abbrev TBL.STRIDE6A (i : Nat) : Nat := 1053208 + 2048 * i
abbrev TBL.STRIDE6B (i : Nat) : Nat := 1053212 + 2048 * i
abbrev TBL.LPMACT4 (i : Nat) : Nat := 1053216 + 2048 * i
abbrev TBL.LPMACT6 (i : Nat) : Nat := 1053220 + 2048 * i
abbrev TBL.LEAFBASE (i : Nat) (j : Nat) : Nat := 1053248 + 2048 * i + 4 * j

abbrev LRN.CFG : Nat := 1114368
abbrev LRN.HOLDOFF : Nat := 1114372
abbrev LRN.CNTCLR : Nat := 1114376
abbrev LRN.RINGLO (i : Nat) : Nat := 1114624 + 128 * i
abbrev LRN.RINGHI (i : Nat) : Nat := 1114628 + 128 * i
abbrev LRN.RINGSIZE (i : Nat) : Nat := 1114632 + 128 * i
abbrev LRN.PIDX (i : Nat) : Nat := 1114636 + 128 * i
abbrev LRN.CIDX (i : Nat) : Nat := 1114640 + 128 * i
abbrev LRN.QLEVEL (i : Nat) : Nat := 1114644 + 128 * i
abbrev LRN.NEWCNT (i : Nat) : Nat := 1114648 + 128 * i
abbrev LRN.MOVECAND (i : Nat) : Nat := 1114652 + 128 * i
abbrev LRN.DUPS (i : Nat) : Nat := 1114656 + 128 * i
abbrev LRN.INSFAIL (i : Nat) : Nat := 1114660 + 128 * i
abbrev LRN.QDROP (i : Nat) : Nat := 1114664 + 128 * i
abbrev LRN.CACHEFULL (i : Nat) : Nat := 1114668 + 128 * i
abbrev LRN.OFFDROP (i : Nat) : Nat := 1114672 + 128 * i

abbrev VER.CTL : Nat := 1245440
abbrev VER.STAT : Nat := 1245444
abbrev VER.SLOTSTATE : Nat := 1245448
abbrev VER.LASTCOMMIT_LO : Nat := 1245452
abbrev VER.LASTCOMMIT_HI : Nat := 1245456
abbrev VER.COMMITS : Nat := 1245460
abbrev VER.STALLS : Nat := 1245464
abbrev VER.CNTCLR : Nat := 1245468
abbrev VER.HOLDERS (i : Nat) : Nat := 1245504 + 4 * i

abbrev EP.LIFTDROP (g : Nat) : Nat := 4194304 + g * 65536 + 256
abbrev EP.ACTDROP (g : Nat) : Nat := 4194304 + g * 65536 + 260
abbrev EP.RSTDROP (g : Nat) : Nat := 4194304 + g * 65536 + 264
abbrev EP.CNTCLR (g : Nat) : Nat := 4194304 + g * 65536 + 268
abbrev EP.LIFTLVL (g : Nat) : Nat := 4194304 + g * 65536 + 272
abbrev EP.STAGECFG (g : Nat) (i : Nat) : Nat := 4194304 + g * 65536 + 4096 + 64 * i
abbrev EP.STAGEKEYA (g : Nat) (i : Nat) : Nat := 4194304 + g * 65536 + 4100 + 64 * i
abbrev EP.STAGEKEYB (g : Nat) (i : Nat) : Nat := 4194304 + g * 65536 + 4104 + 64 * i
abbrev EP.MISSACT (g : Nat) (i : Nat) (j : Nat) : Nat := 4194304 + g * 65536 + 4112 + 64 * i + 4 * j
abbrev EP.HITCNT (g : Nat) (i : Nat) : Nat := 4194304 + g * 65536 + 4128 + 64 * i
abbrev EP.MISSCNT (g : Nat) (i : Nat) : Nat := 4194304 + g * 65536 + 4132 + 64 * i
abbrev EP.SNOTRUN (g : Nat) (i : Nat) : Nat := 4194304 + g * 65536 + 4136 + 64 * i
abbrev EP.DBLK (g : Nat) (i : Nat) (j : Nat) : Nat := 4194304 + g * 65536 + 16384 + 64 * i + 4 * j
abbrev EP.TPL_LO (g : Nat) (i : Nat) : Nat := 4194304 + g * 65536 + 32768 + 8 * i
abbrev EP.TPL_HI (g : Nat) (i : Nat) : Nat := 4194304 + g * 65536 + 32772 + 8 * i

abbrev TMG.CFG : Nat := 786688
abbrev TMG.AGE : Nat := 786692
abbrev TMG.XRES : Nat := 786696
abbrev TMG.REFILLRES : Nat := 786700
abbrev TMG.HOSTLIM : Nat := 786704
abbrev TMG.SHAREDFREE : Nat := 786708
abbrev TMG.TARNUSED : Nat := 786712
abbrev TMG.BASINPAGES : Nat := 786716
abbrev TMG.STAT : Nat := 786720
abbrev TMG.CNTCLR : Nat := 786724
abbrev TMG.SPILLPAGES : Nat := 786728
abbrev TMG.REFILLPAGES : Nat := 786732
abbrev TMG.AGEPAGES : Nat := 786736
abbrev TMG.SPILLWAIT : Nat := 786740
abbrev TMG.MCCOPIES : Nat := 786744
abbrev TMG.MCQFULL : Nat := 786748
abbrev TMG.GLIDEEN (i : Nat) : Nat := 786752 + 4 * i
abbrev TMG.HOLD (i : Nat) : Nat := 786816 + 4 * i
abbrev TMG.IPMAP (i : Nat) : Nat := 786944 + 4 * i
abbrev TMG.EPMAP (i : Nat) : Nat := 787072 + 4 * i
abbrev TMG.XOFFSTATE (i : Nat) : Nat := 787200 + 4 * i
abbrev TMG.IMIN (i : Nat) (j : Nat) : Nat := 787456 + 256 * i + 32 * j
abbrev TMG.ILIM (i : Nat) (j : Nat) : Nat := 787460 + 256 * i + 32 * j
abbrev TMG.XOFF (i : Nat) (j : Nat) : Nat := 787464 + 256 * i + 32 * j
abbrev TMG.XON (i : Nat) (j : Nat) : Nat := 787468 + 256 * i + 32 * j
abbrev TMG.HDRM (i : Nat) (j : Nat) : Nat := 787472 + 256 * i + 32 * j
abbrev TMG.PORTLIM (i : Nat) : Nat := 789504 + 64 * i
abbrev TMG.CLIM (i : Nat) (j : Nat) : Nat := 789508 + 64 * i + 4 * j
abbrev TMG.QMIN (i : Nat) : Nat := 790528 + 32 * i
abbrev TMG.QLIM (i : Nat) : Nat := 790532 + 32 * i
abbrev TMG.SPILLON (i : Nat) : Nat := 790536 + 32 * i
abbrev TMG.SPILLOFF (i : Nat) : Nat := 790540 + 32 * i
abbrev TMG.PREFETCH (i : Nat) : Nat := 790544 + 32 * i
abbrev TMG.BMAX (i : Nat) : Nat := 790548 + 32 * i
abbrev TMG.QPCTL (i : Nat) : Nat := 790552 + 32 * i
abbrev TMG.QIDX : Nat := 792576
abbrev TMG.QCFG (e : Nat) : Nat := bankKey (792580) e
abbrev TMG.QCELLS : Nat := 792584
abbrev TMG.QPAGES : Nat := 792588
abbrev TMG.QSTATE : Nat := 792592
abbrev TMG.MCIDX : Nat := 792640
abbrev TMG.MCGRP (e : Nat) : Nat := bankKey (792644) e
abbrev TMG.MCEIDX : Nat := 792648
abbrev TMG.MCENT0 : Nat := 792652
abbrev TMG.MCENT1 (e : Nat) : Nat := bankKey (792656) e
abbrev TMG.RINKCFG (i : Nat) : Nat := 792832 + 32 * i
abbrev TMG.RINKQID (i : Nat) : Nat := 792836 + 32 * i
abbrev TMG.RINKEGR (i : Nat) : Nat := 792840 + 32 * i
abbrev TMG.RINKSEED (i : Nat) : Nat := 792844 + 32 * i
abbrev TMG.RINKCOPIES (i : Nat) : Nat := 792848 + 32 * i
abbrev TMG.RINKDROPPED (i : Nat) : Nat := 792852 + 32 * i
abbrev TMG.PCIDX : Nat := 793088
abbrev TMG.PC (i : Nat) : Nat := 793092 + 4 * i

abbrev BPM.CFG : Nat := 655616
abbrev BPM.LOWFREE : Nat := 655620
abbrev BPM.TOTAL : Nat := 655624
abbrev BPM.MANAGED : Nat := 655628
abbrev BPM.FREE : Nat := 655632
abbrev BPM.LOST : Nat := 655636
abbrev BPM.STAT : Nat := 655640
abbrev BPM.HOSTALLOC : Nat := 655644
abbrev BPM.HOSTRET_LO : Nat := 655648
abbrev BPM.HOSTRET_HI : Nat := 655652
abbrev BPM.HOSTERR : Nat := 655656
abbrev BPM.HOSTERRINFO : Nat := 655660
abbrev BPM.RECLAIM : Nat := 655664
abbrev BPM.CNTCLR : Nat := 655668
abbrev BPM.OMIN (i : Nat) : Nat := 655904 + 32 * i
abbrev BPM.OMAX (i : Nat) : Nat := 655908 + 32 * i
abbrev BPM.OHELD (i : Nat) : Nat := 655912 + 32 * i
abbrev BPM.OSTAT (i : Nat) : Nat := 655916 + 32 * i
abbrev BPM.OALLOCS (i : Nat) : Nat := 655920 + 32 * i
abbrev BPM.OREFUSALS (i : Nat) : Nat := 655924 + 32 * i
abbrev BPM.OPEAK (i : Nat) : Nat := 655928 + 32 * i

abbrev SCH.GATELEAD : Nat := 852224
abbrev SCH.CNTCLR : Nat := 852228
abbrev SCH.GLATE : Nat := 852232
abbrev SCH.SNOWDEFER : Nat := 852236
abbrev SCH.XLOSTCNT : Nat := 852240
abbrev SCH.VALQ : Nat := 852244
abbrev SCH.NODEIDX : Nat := 852480
abbrev SCH.NODECFG (e : Nat) : Nat := bankKey (852484) e
abbrev SCH.NODEW (e : Nat) : Nat := bankKey (852488) e
abbrev SCH.CIR (e : Nat) : Nat := bankKey (852492) e
abbrev SCH.PIR (e : Nat) : Nat := bankKey (852496) e
abbrev SCH.CBS (e : Nat) : Nat := bankKey (852500) e
abbrev SCH.PBS (e : Nat) : Nat := bankKey (852504) e
abbrev SCH.SHCTL (e : Nat) : Nat := bankKey (852508) e
abbrev SCH.CLVL : Nat := 852512
abbrev SCH.PLVL : Nat := 852516
abbrev SCH.SQIDX : Nat := 852544
abbrev SCH.SQMAP (e : Nat) : Nat := bankKey (852548) e
abbrev SCH.SQW (e : Nat) : Nat := bankKey (852552) e
abbrev SCH.GLIDX : Nat := 852608
abbrev SCH.GLENT (e : Nat) : Nat := bankKey (852612) e
abbrev SCH.POLIDX : Nat := 852672
abbrev SCH.POLCIR (e : Nat) : Nat := bankKey (852676) e
abbrev SCH.POLPIR (e : Nat) : Nat := bankKey (852680) e
abbrev SCH.POLCBS (e : Nat) : Nat := bankKey (852684) e
abbrev SCH.POLPBS (e : Nat) : Nat := bankKey (852688) e
abbrev SCH.POLCTL (e : Nat) : Nat := bankKey (852692) e
abbrev SCH.POLCLVL : Nat := 852696
abbrev SCH.POLPLVL : Nat := 852700
abbrev SCH.PSHRATE (i : Nat) : Nat := 856064 + 32 * i
abbrev SCH.PSHBURST (i : Nat) : Nat := 856068 + 32 * i
abbrev SCH.PSHCTL (i : Nat) : Nat := 856072 + 32 * i
abbrev SCH.XBE (i : Nat) : Nat := 856076 + 32 * i
abbrev SCH.XCIR (i : Nat) : Nat := 856080 + 32 * i
abbrev SCH.XSMAX (i : Nat) : Nat := 856084 + 32 * i
abbrev SCH.PSTAT (i : Nat) : Nat := 856088 + 32 * i
abbrev SCH.DMAX (i : Nat) : Nat := 856092 + 32 * i
abbrev SCH.CAP (i : Nat) : Nat := 864256 + 16 * i
abbrev SCH.CAPBURST (i : Nat) : Nat := 864260 + 16 * i
abbrev SCH.CAPCTL (i : Nat) : Nat := 864264 + 16 * i
abbrev SCH.CAPLVL (i : Nat) : Nat := 864268 + 16 * i
abbrev SCH.GATECTL (i : Nat) : Nat := 876544 + 32 * i
abbrev SCH.GBASE_LO (i : Nat) : Nat := 876548 + 32 * i
abbrev SCH.GBASE_HI (i : Nat) : Nat := 876552 + 32 * i
abbrev SCH.GCYCLE (i : Nat) : Nat := 876556 + 32 * i
abbrev SCH.GLEN (i : Nat) : Nat := 876560 + 32 * i
abbrev SCH.GATESTAT (i : Nat) : Nat := 876564 + 32 * i
abbrev SCH.ACYCLE (i : Nat) : Nat := 876568 + 32 * i

abbrev BLG.CFG : Nat := 917760
abbrev BLG.TIMING : Nat := 917764
abbrev BLG.CNEN : Nat := 917768
abbrev BLG.JUMPTH : Nat := 917772
abbrev BLG.CNTCLR : Nat := 917776
abbrev BLG.EDDYUSE : Nat := 917780
abbrev BLG.HBDA_LO : Nat := 917784
abbrev BLG.HBDA_HI : Nat := 917788
abbrev BLG.HBSA_LO : Nat := 917792
abbrev BLG.HBSA_HI : Nat := 917796
abbrev BLG.NOGRP : Nat := 917800
abbrev BLG.ETYPE (i : Nat) : Nat := 917824 + 4 * i
abbrev BLG.HNOT0 : Nat := 917888
abbrev BLG.HNOT1 : Nat := 917892
abbrev BLG.HNOT2 : Nat := 917896
abbrev BLG.HNSTAT : Nat := 917900
abbrev BLG.CNACC (i : Nat) : Nat := 918016 + 16 * i
abbrev BLG.CNREJ (i : Nat) : Nat := 918020 + 16 * i
abbrev BLG.CNTRUNC (i : Nat) : Nat := 918024 + 16 * i
abbrev BLG.CNLAST (i : Nat) : Nat := 918028 + 16 * i
abbrev BLG.GCFG (i : Nat) : Nat := 921600 + 1024 * i
abbrev BLG.LOSSTO (i : Nat) : Nat := 921604 + 1024 * i
abbrev BLG.EDDYMAX (i : Nat) : Nat := 921608 + 1024 * i
abbrev BLG.EDDYCFG (i : Nat) : Nat := 921612 + 1024 * i
abbrev BLG.TXSEQ (i : Nat) : Nat := 921616 + 1024 * i
abbrev BLG.RXNEXT (i : Nat) : Nat := 921620 + 1024 * i
abbrev BLG.GSTAT (i : Nat) : Nat := 921624 + 1024 * i
abbrev BLG.MASKS (i : Nat) : Nat := 921628 + 1024 * i
abbrev BLG.EDDYPAGES (i : Nat) : Nat := 921632 + 1024 * i
abbrev BLG.EDDYCELLS (i : Nat) : Nat := 921636 + 1024 * i
abbrev BLG.GCNT (i : Nat) (j : Nat) : Nat := 921640 + 1024 * i + 4 * j
abbrev BLG.MCFG (i : Nat) (j : Nat) : Nat := 921856 + 1024 * i + 32 * j
abbrev BLG.INITCAP (i : Nat) (j : Nat) : Nat := 921860 + 1024 * i + 32 * j
abbrev BLG.MSTAT (i : Nat) (j : Nat) : Nat := 921864 + 1024 * i + 32 * j
abbrev BLG.RXHIGH (i : Nat) (j : Nat) : Nat := 921868 + 1024 * i + 32 * j
abbrev BLG.CAPECHO (i : Nat) (j : Nat) : Nat := 921872 + 1024 * i + 32 * j
abbrev BLG.NLATE (i : Nat) (j : Nat) : Nat := 921876 + 1024 * i + 32 * j
abbrev BLG.OVERB_LO (i : Nat) (j : Nat) : Nat := 921880 + 1024 * i + 32 * j
abbrev BLG.OVERB_HI (i : Nat) (j : Nat) : Nat := 921884 + 1024 * i + 32 * j

abbrev MSC.BYPASS0 : Nat := 1179904
abbrev MSC.BYPASS (i : Nat) : Nat := 1179908 + 4 * i
abbrev MSC.CNTCLR : Nat := 1179920
abbrev MSC.NOTRUNDROP : Nat := 1179924
abbrev MSC.TXSELERR : Nat := 1179928
abbrev MSC.LASTEVT : Nat := 1179932
abbrev MSC.SECYIDX : Nat := 1180160
abbrev MSC.SECYCFG (e : Nat) : Nat := bankKey (1180164) e
abbrev MSC.SCI_LO (e : Nat) : Nat := bankKey (1180168) e
abbrev MSC.SCI_HI (e : Nat) : Nat := bankKey (1180172) e
abbrev MSC.PNTHRESH_LO (e : Nat) : Nat := bankKey (1180176) e
abbrev MSC.PNTHRESH_HI (e : Nat) : Nat := bankKey (1180180) e
abbrev MSC.PNLIMIT_LO (e : Nat) : Nat := bankKey (1180184) e
abbrev MSC.PNLIMIT_HI (e : Nat) : Nat := bankKey (1180188) e
abbrev MSC.SECYCNT (i : Nat) : Nat := 1180192 + 4 * i
abbrev MSC.RXSCIDX : Nat := 1180288
abbrev MSC.RXSCCFG (e : Nat) : Nat := bankKey (1180292) e
abbrev MSC.RXSCI_LO (e : Nat) : Nat := bankKey (1180296) e
abbrev MSC.RXSCI_HI (e : Nat) : Nat := bankKey (1180300) e
abbrev MSC.REPLAYWIN (e : Nat) : Nat := bankKey (1180304) e
abbrev MSC.SAIDX : Nat := 1180416
abbrev MSC.SACFG0 (e : Nat) : Nat := bankKey (1180420) e
abbrev MSC.SACFG1 (e : Nat) : Nat := bankKey (1180424) e
abbrev MSC.NEXTPN_LO (e : Nat) : Nat := bankKey (1180428) e
abbrev MSC.NEXTPN_HI (e : Nat) : Nat := bankKey (1180432) e
abbrev MSC.SSCI (e : Nat) : Nat := bankKey (1180436) e
abbrev MSC.SACNT (i : Nat) : Nat := 1180448 + 4 * i
abbrev MSC.PORT (i : Nat) : Nat := 1183744 + 4 * i

abbrev KEY.CFG : Nat := 590080
abbrev KEY.STAT : Nat := 590084
abbrev KEY.ERASE : Nat := 590088
abbrev KEY.ZEROIZE : Nat := 590092
abbrev KEY.RESULT : Nat := 590096
abbrev KEY.SPISTAT : Nat := 590100
abbrev KEY.SPIERR : Nat := 590104
abbrev KEY.CNTCLR : Nat := 590108
abbrev KEY.SLOTSEL : Nat := 590112
abbrev KEY.SLOTINFO : Nat := 590116
abbrev KEY.UMAP0 (i : Nat) : Nat := 590336 + 8 * i
abbrev KEY.UMAP1 (i : Nat) : Nat := 590340 + 8 * i

abbrev DRC.CFG : Nat := 721152
abbrev DRC.STAT : Nat := 721156
abbrev DRC.FCTL : Nat := 721160
abbrev DRC.SRIDLE : Nat := 721164
abbrev DRC.BGCFG : Nat := 721168
abbrev DRC.CNTCLR : Nat := 721172
abbrev DRC.ECCCORR : Nat := 721176
abbrev DRC.ECCUNC : Nat := 721180
abbrev DRC.ADDRERR : Nat := 721184
abbrev DRC.LASTUNC_LO : Nat := 721188
abbrev DRC.LASTUNC_HI : Nat := 721192
abbrev DRC.TAGUSE_E : Nat := 721196
abbrev DRC.TAGUSE_W : Nat := 721200
abbrev DRC.WBUSE_E : Nat := 721204
abbrev DRC.WBUSE_W : Nat := 721208
abbrev DRC.SETA0 : Nat := 721408
abbrev DRC.SETB0 : Nat := 721472
abbrev DRC.SET1 (i : Nat) : Nat := 721412 + 64 * i
abbrev DRC.SET2 (i : Nat) : Nat := 721416 + 64 * i
abbrev DRC.SET3 (i : Nat) : Nat := 721420 + 64 * i
abbrev DRC.SET4 (i : Nat) : Nat := 721424 + 64 * i
abbrev DRC.SET5 (i : Nat) : Nat := 721428 + 64 * i
abbrev DRC.SET6 (i : Nat) : Nat := 721432 + 64 * i
abbrev DRC.SET7 (i : Nat) : Nat := 721436 + 64 * i
abbrev DRC.PCFG (i : Nat) : Nat := 721920 + 64 * i
abbrev DRC.PLAT (i : Nat) : Nat := 721924 + 64 * i
abbrev DRC.READS (i : Nat) : Nat := 721928 + 64 * i
abbrev DRC.WRITES (i : Nat) : Nat := 721932 + 64 * i
abbrev DRC.URGENT (i : Nat) : Nat := 721936 + 64 * i
abbrev DRC.PANICS (i : Nat) : Nat := 721940 + 64 * i
abbrev DRC.LATEREAD (i : Nat) : Nat := 721944 + 64 * i
abbrev DRC.MAXLAT (i : Nat) : Nat := 721948 + 64 * i
abbrev DRC.INUSE (i : Nat) : Nat := 721952 + 64 * i

abbrev DC.DCSTAT (g : Nat) : Nat := 8388608 + g * 65536 + 256
abbrev DC.TRAINSTAT (g : Nat) : Nat := 8388608 + g * 65536 + 260
abbrev DC.ECCCORR (g : Nat) : Nat := 8388608 + g * 65536 + 264
abbrev DC.ECCUNC (g : Nat) : Nat := 8388608 + g * 65536 + 268
abbrev DC.ACTS (g : Nat) : Nat := 8388608 + g * 65536 + 272
abbrev DC.NRCNT (g : Nat) : Nat := 8388608 + g * 65536 + 276
abbrev DC.REFCNT (g : Nat) : Nat := 8388608 + g * 65536 + 280
abbrev DC.SRENTRY (g : Nat) : Nat := 8388608 + g * 65536 + 284
abbrev DC.SRABANDON (g : Nat) : Nat := 8388608 + g * 65536 + 288
abbrev DC.RETRAINS (g : Nat) : Nat := 8388608 + g * 65536 + 292
abbrev DC.TRAINFAILS (g : Nat) : Nat := 8388608 + g * 65536 + 296
abbrev DC.LASTERR (g : Nat) : Nat := 8388608 + g * 65536 + 300
abbrev DC.CNTCLR (g : Nat) : Nat := 8388608 + g * 65536 + 304
abbrev DC.DESKEW (g : Nat) (i : Nat) : Nat := 8388608 + g * 65536 + 512 + 4 * i

abbrev HST.CFG : Nat := 327936
abbrev HST.LINKSTAT : Nat := 327940
abbrev HST.FLRSTAT_LO : Nat := 327944
abbrev HST.FLRSTAT_HI : Nat := 327948
abbrev HST.CPLERR : Nat := 327952
abbrev HST.LASTCPLERR : Nat := 327956
abbrev HST.CNTCLR : Nat := 327960
abbrev HST.BVEC (i : Nat) : Nat := 328192 + 4 * i
abbrev HST.FUNC (i : Nat) : Nat := 331776 + 32 * i
abbrev HST.QPISTE0 (i : Nat) : Nat := 331780 + 32 * i
abbrev HST.QPISTE1 (i : Nat) : Nat := 331784 + 32 * i
abbrev HST.INJRATE (i : Nat) : Nat := 331788 + 32 * i
abbrev HST.INJBURST (i : Nat) : Nat := 331792 + 32 * i
abbrev HST.RXNOQP (i : Nat) : Nat := 331796 + 32 * i
abbrev HST.INJPKTS (i : Nat) : Nat := 331800 + 32 * i

abbrev DMA.STAT : Nat := 393472
abbrev DMA.XFERS : Nat := 393476
abbrev DMA.FAILS : Nat := 393480
abbrev DMA.LATEERRS : Nat := 393484
abbrev DMA.CNTCLR : Nat := 393488
abbrev DMA.DCTL (i : Nat) : Nat := 397312 + 64 * i
abbrev DMA.RINGLO (i : Nat) : Nat := 397316 + 64 * i
abbrev DMA.RINGHI (i : Nat) : Nat := 397320 + 64 * i
abbrev DMA.RINGSIZE (i : Nat) : Nat := 397324 + 64 * i
abbrev DMA.PIDX (i : Nat) : Nat := 397328 + 64 * i
abbrev DMA.CIDX (i : Nat) : Nat := 397332 + 64 * i
abbrev DMA.DSTAT (i : Nat) : Nat := 397336 + 64 * i
abbrev DMA.DIRQSTAT (i : Nat) : Nat := 397340 + 64 * i
abbrev DMA.DIRQMASK (i : Nat) : Nat := 397344 + 64 * i
abbrev DMA.COMPLETED (i : Nat) : Nat := 397348 + 64 * i
abbrev DMA.TRIGLOST (i : Nat) : Nat := 397352 + 64 * i
abbrev DMA.DCNTCLR (i : Nat) : Nat := 397356 + 64 * i
abbrev DMA.OWNER (i : Nat) : Nat := 397372 + 64 * i

abbrev FLT.CFG : Nat := 196864
abbrev FLT.STAT : Nat := 196868
abbrev FLT.CWIN : Nat := 196872
abbrev FLT.QUIET : Nat := 196876
abbrev FLT.RXIDX : Nat := 196880
abbrev FLT.RXVAL (e : Nat) : Nat := bankKey (196884) e
abbrev FLT.ACK : Nat := 196888
abbrev FLT.LOSTREC : Nat := 196892
abbrev FLT.FCIDX : Nat := 196896
abbrev FLT.FCVAL : Nat := 196900
abbrev FLT.LEGACY : Nat := 196904
abbrev FLT.LEGCLR : Nat := 196908
abbrev FLT.RECSEL : Nat := 196912
abbrev FLT.REC (i : Nat) : Nat := 196928 + 4 * i
abbrev FLT.FREC (i : Nat) : Nat := 196960 + 4 * i

abbrev PWR.AVSCFG : Nat := 131328
abbrev PWR.AVSSTAT : Nat := 131332
abbrev PWR.CORE : Nat := 131336
abbrev PWR.CORETH : Nat := 131340
abbrev PWR.FILT : Nat := 131344
abbrev PWR.RESUMEDLY : Nat := 131348
abbrev PWR.BROWNCNT : Nat := 131352
abbrev PWR.CNTCLR : Nat := 131356
abbrev PWR.VMONTH0 (i : Nat) : Nat := 131360 + 8 * i
abbrev PWR.VMONTH1 (i : Nat) : Nat := 131364 + 8 * i
abbrev PWR.VMONVAL (i : Nat) : Nat := 131424 + 4 * i
abbrev PWR.TEMP : Nat := 131456
abbrev PWR.THERM : Nat := 131460
abbrev PWR.SPCFG : Nat := 131584
abbrev PWR.SPFLOOR : Nat := 131588
abbrev PWR.SPSTAT : Nat := 131592
abbrev PWR.SLEWOVER : Nat := 131596
abbrev PWR.WITHHELD : Nat := 131600
abbrev PWR.DEFERS : Nat := 131604
abbrev PWR.BALLASTUS : Nat := 131608

abbrev EVT.CFG : Nat := 524544
abbrev EVT.HELLO : Nat := 524548
abbrev EVT.ACKCFG : Nat := 524552
abbrev EVT.CLAIM : Nat := 524556
abbrev EVT.PNMARGIN_LO : Nat := 524560
abbrev EVT.PNMARGIN_HI : Nat := 524564
abbrev EVT.SEQMARGIN : Nat := 524568
abbrev EVT.POLICY : Nat := 524572
abbrev EVT.CTL : Nat := 524576
abbrev EVT.STAT : Nat := 524580
abbrev EVT.EPOCH : Nat := 524584
abbrev EVT.JLEVEL : Nat := 524588
abbrev EVT.JSEQTX : Nat := 524592
abbrev EVT.ACKED : Nat := 524596
abbrev EVT.APPLIED : Nat := 524600
abbrev EVT.PEERSERIAL_LO : Nat := 524604
abbrev EVT.PEERSERIAL_HI : Nat := 524608
abbrev EVT.PEERCRC : Nat := 524612
abbrev EVT.LASTROLE_LO : Nat := 524616
abbrev EVT.LASTROLE_HI : Nat := 524620
abbrev EVT.BULKROWS : Nat := 524624
abbrev EVT.CNTCLR : Nat := 524628
abbrev EVT.TAKEOVERS : Nat := 524632
abbrev EVT.HOFAIL : Nat := 524636
abbrev EVT.STALES : Nat := 524640
abbrev EVT.RESYNCS : Nat := 524644
abbrev EVT.RETX : Nat := 524648
abbrev EVT.BADFRAME : Nat := 524652
abbrev EVT.PINMISM : Nat := 524656
abbrev EVT.SPLITS : Nat := 524660

abbrev CNT.CFG : Nat := 262400
abbrev CNT.STAT : Nat := 262404
abbrev CNT.SNAPCTL : Nat := 262408
abbrev CNT.SNAPAT_LO : Nat := 262412
abbrev CNT.SNAPAT_HI : Nat := 262416
abbrev CNT.SNAPINST_LO : Nat := 262420
abbrev CNT.SNAPINST_HI : Nat := 262424
abbrev CNT.SNAPSEQ : Nat := 262428
abbrev CNT.SNAPLOST : Nat := 262432
abbrev CNT.FREEZECTL : Nat := 262436
abbrev CNT.FREEZEAT_LO : Nat := 262440
abbrev CNT.FREEZEAT_HI : Nat := 262444
abbrev CNT.CNTCLR : Nat := 262448
abbrev CNT.GIDX : Nat := 262464
abbrev CNT.GVAL_LO : Nat := 262468
abbrev CNT.GVAL_HI : Nat := 262472
abbrev CNT.GSNAP_LO : Nat := 262476
abbrev CNT.GSNAP_HI : Nat := 262480
abbrev CNT.GSTAT (e : Nat) : Nat := bankKey (262484) e
abbrev CNT.UVIDX : Nat := 262528
abbrev CNT.USERVIS (e : Nat) : Nat := bankKey (262532) e

abbrev TCM.SHADOWFIX : Nat := 983296
abbrev TCM.SHADOWLOST : Nat := 983300
abbrev TCM.SWEEPUS : Nat := 983304
abbrev TCM.CNTCLR : Nat := 983308
abbrev TCM.BANKPF (i : Nat) (j : Nat) : Nat := 987136 + 2048 * i + 4 * j
abbrev TCM.CHAIN (i : Nat) (j : Nat) : Nat := 987648 + 2048 * i + 4 * j

abbrev USER.ID (u : Nat) : Nat := bar2Key u (0)
abbrev USER.CAP (u : Nat) : Nat := bar2Key u (4)
abbrev USER.DENIED (u : Nat) : Nat := bar2Key u (8)
abbrev USER.CLR (u : Nat) : Nat := bar2Key u (12)
abbrev USER.DEVSTATE (u : Nat) : Nat := bar2Key u (16)
abbrev USER.DCTL (u : Nat) : Nat := bar2Key u (4096)
abbrev USER.RINGLO (u : Nat) : Nat := bar2Key u (4100)
abbrev USER.RINGHI (u : Nat) : Nat := bar2Key u (4104)
abbrev USER.RINGSIZE (u : Nat) : Nat := bar2Key u (4108)
abbrev USER.PIDX (u : Nat) : Nat := bar2Key u (4112)
abbrev USER.CIDX (u : Nat) : Nat := bar2Key u (4116)
abbrev USER.DSTAT (u : Nat) : Nat := bar2Key u (4120)
abbrev USER.DIRQSTAT (u : Nat) : Nat := bar2Key u (4124)
abbrev USER.DIRQMASK (u : Nat) : Nat := bar2Key u (4128)
abbrev USER.COMPLETED (u : Nat) : Nat := bar2Key u (4132)
abbrev USER.TRIGLOST (u : Nat) : Nat := bar2Key u (4136)
abbrev USER.DCNTCLR (u : Nat) : Nat := bar2Key u (4140)
abbrev USER.QPCFG (u : Nat) (i : Nat) : Nat := bar2Key u (8192 + 1024 * i)
abbrev USER.TXRING_LO (u : Nat) (i : Nat) : Nat := bar2Key u (8196 + 1024 * i)
abbrev USER.TXRING_HI (u : Nat) (i : Nat) : Nat := bar2Key u (8200 + 1024 * i)
abbrev USER.RXRING_LO (u : Nat) (i : Nat) : Nat := bar2Key u (8204 + 1024 * i)
abbrev USER.RXRING_HI (u : Nat) (i : Nat) : Nat := bar2Key u (8208 + 1024 * i)
abbrev USER.HOLDOFF (u : Nat) (i : Nat) : Nat := bar2Key u (8212 + 1024 * i)
abbrev USER.QSTAT (u : Nat) (i : Nat) : Nat := bar2Key u (8216 + 1024 * i)
abbrev USER.QIRQSTAT (u : Nat) (i : Nat) : Nat := bar2Key u (8220 + 1024 * i)
abbrev USER.QIRQMASK (u : Nat) (i : Nat) : Nat := bar2Key u (8224 + 1024 * i)
abbrev USER.TXPKTS (u : Nat) (i : Nat) : Nat := bar2Key u (8228 + 1024 * i)
abbrev USER.TXERRS (u : Nat) (i : Nat) : Nat := bar2Key u (8232 + 1024 * i)
abbrev USER.RXPKTS (u : Nat) (i : Nat) : Nat := bar2Key u (8236 + 1024 * i)
abbrev USER.QCNTCLR (u : Nat) (i : Nat) : Nat := bar2Key u (8240 + 1024 * i)
abbrev USER.KSLOTS (u : Nat) : Nat := bar2Key u (16384)
abbrev USER.KWBLOB (u : Nat) (i : Nat) : Nat := bar2Key u (16400 + 4 * i)
abbrev USER.KWCTL (u : Nat) : Nat := bar2Key u (16464)
abbrev USER.KWSTAT (u : Nat) : Nat := bar2Key u (16468)
abbrev USER.KERASE (u : Nat) : Nat := bar2Key u (16472)
abbrev USER.KSLOTSEL (u : Nat) : Nat := bar2Key u (16476)
abbrev USER.KSLOTINFO (u : Nat) : Nat := bar2Key u (16480)
abbrev USER.CTXIDX (u : Nat) : Nat := bar2Key u (16640)
abbrev USER.CTXINFO (u : Nat) : Nat := bar2Key u (16644)
abbrev USER.CTXCFG (u : Nat) : Nat := bar2Key u (16648)
abbrev USER.CTXPN_LO (u : Nat) : Nat := bar2Key u (16652)
abbrev USER.CTXPN_HI (u : Nat) : Nat := bar2Key u (16656)
abbrev USER.CTXSSCI (u : Nat) : Nat := bar2Key u (16660)
abbrev USER.CTXCNT (u : Nat) (i : Nat) : Nat := bar2Key u (16664 + 4 * i)
abbrev USER.GCNT_LO (u : Nat) (i : Nat) : Nat := bar2Key u (32768 + 16 * i)
abbrev USER.GCNT_HI (u : Nat) (i : Nat) : Nat := bar2Key u (32772 + 16 * i)
abbrev USER.GSNAP_LO (u : Nat) (i : Nat) : Nat := bar2Key u (32776 + 16 * i)
abbrev USER.GSNAP_HI (u : Nat) (i : Nat) : Nat := bar2Key u (32780 + 16 * i)
abbrev USER.SNAPINST_LO (u : Nat) : Nat := bar2Key u (36864)
abbrev USER.SNAPINST_HI (u : Nat) : Nat := bar2Key u (36868)
abbrev USER.SNAPSEQ (u : Nat) : Nat := bar2Key u (36872)

abbrev IDX.TXPIDX (u : Nat) (i : Nat) : Nat := bar4Key u (0 + 8192 * i)
abbrev IDX.TXCIDX (u : Nat) (i : Nat) : Nat := bar4Key u (4 + 8192 * i)
abbrev IDX.RXPIDX (u : Nat) (i : Nat) : Nat := bar4Key u (8 + 8192 * i)
abbrev IDX.RXCIDX (u : Nat) (i : Nat) : Nat := bar4Key u (12 + 8192 * i)

end Sys2Proof.Machine
end

