-- ==== Sys2Proof/Machine/State.lean ====
section
/-! DEFINITION. The state of the block: every register, buffer, queue, mode and pin the spec gives it, as plain
data, and the queue of commands that wait. -/

namespace Sys2Proof.Machine

/-! ## Sparse maps in one canonical form -/

/-- A map held as key and value pairs; in canonical form the keys rise strictly. -/
abbrev KMap (α : Type) := List (Nat × α)

/-! ## Device, loader and block state (chapters 02 and 03) -/

/-- The four parts of R1. -/
inductive Part where
  | kd3200 | kd3200n | kd3200s | kd2400
  deriving DecidableEq, Repr, Inhabited

/-- DEV.STATE (R57, R72). -/
inductive DevState where
  | reset | strap | load | held | armed | run | hold | standby | fenced
  deriving DecidableEq, Repr, Inhabited

/-- The state of a block other than the always-on pages (R44). -/
inductive BlkState where
  | disabled | running | draining | quiesced | resetting
  deriving DecidableEq, Repr, Inhabited

/-- One block: its state, the fault hub's quiesce (R43), QTO, and the model time of its last entry to DRAINING. -/
structure Blk where
  st : BlkState := .disabled
  fltq : Bool := false
  qto : Bool := false
  since : Nat := 0
  deriving DecidableEq, Repr, Inhabited

/-- A fused key-hash slot (R62): the SHA-384 value, programmed, revoked. -/
structure KeyHash where
  hash : List Byte := []
  programmed : Bool := false
  revoked : Bool := false
  deriving DecidableEq, Repr, Inhabited

/-- What the die carries: part, DEV.SERIAL, fused core voltage, key-hash slots, and the device secret (R290). -/
structure Fuses where
  part : Part := .kd3200
  serial : BitVec 64 := 0
  mv : Nat := 720
  keys : List KeyHash := []
  ds : Option (List Byte) := none
  deriving DecidableEq, Repr, Inhabited

/-- The read latch and held write word of one access path (R7, R42), each tagged with its pair. -/
structure Access where
  latch : Option (Nat × Word) := none
  held : Option (Nat × Word) := none
  deriving DecidableEq, Repr, Inhabited

/-- What the Strelyn loader is doing (R60 to R63). -/
inductive LoadPhase where
  | idle
  | reading
  | applying
  | polling (deadline : Nat)
  | delaying (deadline : Nat)
  | validating
  deriving DecidableEq, Repr, Inhabited

/-- The loader: phase, the image's flags and serial, the sections still to apply (the bytes of the current one first),
and the section and record index LOADSTAT reports. -/
structure Loader where
  phase : LoadPhase := .idle
  secondary : Bool := false
  signed : Bool := false
  arm : Bool := false
  go : Bool := false
  serial : Nat := 0
  sections : List (List Byte) := []
  sect : Nat := 0
  recIx : Nat := 0
  deriving DecidableEq, Repr, Inhabited

/-- DEV: the device state machine, the start-up steps of R52 with the straps and the I2C address pins as sampled, and the RWS
values of the seal (R362). -/
structure Dev where
  state : DevState := .reset
  prev : Option DevState := none
  straps : BitVec 16 := 0
  sealed : Bool := false
  internal : Option Nat := none
  plls : Bool := false
  fused : Bool := false
  detect : Bool := false
  cfgReady : Bool := false
  strapErr : Nat := 0
  valStart : Option Word := none
  sealCfg : KMap Word := []
  i2cAddr : Nat := 0
  loader : Loader := {}
  deriving DecidableEq, Repr, Inhabited

/-! ## Packets (R16) -/

/-- Packet metadata, field for field as R16 lists it (MCGRP and BOND with their valid bits as options).
`scIdx` is the SC index of step 2. -/
structure Meta where
  srcPort : Nat := 0
  ingTs : Nat := 0
  fcsBad : Bool := false
  secyOk : Bool := false
  scIdx : Nat := 0
  hash : Word := 0
  exc : Nat := 0
  cls : Nat := 0
  egrPort : Nat := 0
  template : Nat := 0
  userData : BitVec 64 := 0
  colour : Nat := 0
  vertag : Nat := 0
  qid : Nat := 0
  mirror : Nat := 0
  mcgrp : Option Nat := none
  express : Bool := false
  bond : Option Nat := none
  cut : Bool := false
  pass : Nat := 0
  ageTs : Nat := 0
  deriving DecidableEq, Repr, Inhabited

/-- What a grant through a group root gives a frame (R255, R258): group, member, sequence number and EOB. -/
structure BondTag where
  group : Nat := 0
  member : Nat := 0
  seq : Nat := 0
  eob : Bool := false
  deriving DecidableEq, Repr, Inhabited

/-- A packet: its bytes without FCS, the status its last cell carries (bad FCS or failed ICV), its metadata, and its
bond tag once granted through a group root. `port` is the port it was received on; `tok` numbers a packet released
before its ICV completed (R279), 0 where none is awaited; `stored`: the Mogul held it whole on receive (R91); `store` is the
TMG data record it was granted from (R201). -/
structure Pkt where
  bytes : List Byte := []
  bad : Bool := false
  tok : Nat := 0
  port : Nat := 0
  stored : Bool := false
  store : Option Nat := none
  m : Meta := {}
  shim : Option BondTag := none
  deriving DecidableEq, Repr, Inhabited

/-- A frame that egress has handed to a port's MAC: bytes without FCS, metadata, the PTP action and offset of R87,
messageType, domain and sequenceId of its PTP header, whether the SecY encrypted it (R88), whether its FCS must be
poisoned (R200), whether it holds a version slot (a heartbeat does not), the group whose sequence number it carries, the
TMG data record it was granted from, and whether the Mogul has released it (R94). -/
structure TxFrame where
  bytes : List Byte := []
  m : Meta := {}
  ptp : Nat := 0
  ptpOfs : Nat := 0
  hdr : Nat × Nat × Nat := (0, 0, 0)
  encrypted : Bool := false
  poison : Bool := false
  holder : Bool := true
  grp : Option Nat := none
  store : Option Nat := none
  past : Bool := false
  deriving DecidableEq, Repr, Inhabited

/-! ## Ports (chapter 04) -/

/-- PORTSTAT.LINK (R79). -/
inductive Link where
  | off | train | align | up | down
  deriving DecidableEq, Repr, Inhabited

/-- What a port's transmitter sends besides frames (R79): electrical idle, training, idle, local or remote fault. -/
inductive TxLine where
  | off | training | idle | localFault | remoteFault
  deriving DecidableEq, Repr, Inhabited

/-- A preemptable frame that the MAC has taken and not sent whole (R78): its bytes without the FCS, what its FCS differs
by, its transmit instant, the bytes of the fragments that have ended and their number, and the model time the current
fragment began (none while it is preempted). -/
structure TxNow where
  f : TxFrame := {}
  body : List Byte := []
  xor : Word := 0
  ts : BitVec 64 := 0
  sent : Nat := 0
  frags : Nat := 0
  start : Option Nat := none
  deriving DecidableEq, Repr, Inhabited

/-- PORTSTAT.VSTAT (R78). -/
inductive VStat where
  | idle | running | succeeded | failed
  deriving DecidableEq, Repr, Inhabited

/-- A frame released early whose ICV is pending (R279): the number its packet carries, SecY, receive SA, PN, whether
the ICV passes, and the key slot and generation its operation holds (R283). -/
structure Icv where
  tok : Nat := 0
  secy : Nat := 0
  sa : Nat := 0
  pn : Nat := 0
  ok : Bool := true
  slot : Nat := 0
  gen : Nat := 0
  deriving DecidableEq, Repr, Inhabited

/-- One port: link state and its intervals (R79), what its transmitter sends, verify exchange (R78), pauses received
(R77; the model time each ends), classes for which PFC was last sent with its time, flaps in progress (R94), the frames
waiting at the MAC for transmission, the preemptable frame in transmission, the shimmed frames received that wait at BLG
(R261), and the pending ICVs, oldest first. -/
structure PortSt where
  link : Link := .off
  since : Nat := 0
  sends : TxLine := .off
  lock : Bool := false
  lf : Bool := false
  rf : Bool := false
  lockAt : Option Nat := none
  downAt : Option Nat := none
  vstat : VStat := .idle
  vsent : Nat := 0
  vat : Nat := 0
  pauses : KMap Nat := []
  pfcSent : KMap Nat := []
  flapRx : Option Nat := none
  flapTx : Option Nat := none
  txq : List TxFrame := []
  txNow : Option TxNow := none
  shimq : List Pkt := []
  icv : List Icv := []
  deriving DecidableEq, Repr, Inhabited

/-- An entry of the two-step FIFO (R89). -/
structure TsfEntry where
  slot : Nat := 0
  msg : Nat := 0
  domain : Nat := 0
  seq : Nat := 0
  secs : Nat := 0
  ns : Nat := 0
  deriving DecidableEq, Repr, Inhabited

/-- A frame held by the Mogul (R94): direction, slot, the frame with its FCS, whether an uncorrectable codeword overlaps
it, its transmit data, and what ends the
hold: a model time, and for REORDER the later frames still to pass. -/
structure MogHeld where
  dir : Dir := .rx
  slot : Nat := 0
  wire : List Byte := []
  fec : Bool := false
  tx : TxFrame := {}
  ingTs : Nat := 0
  until_ : Nat := 0
  left : Option Nat := none
  deriving DecidableEq, Repr, Inhabited

/-- One port group: receive buffer (R22), two-step FIFO and its latched entry (R89), the Mogul (R91 to R94): held frames,
one selection LFSR and one match count per rule; and the lanes whose PLL has lost lock (R362). -/
structure PgSt where
  rxbuf : List Pkt := []
  tsf : List TsfEntry := []
  tsfLatch : Option TsfEntry := none
  held : List MogHeld := []
  lfsr : KMap Nat := []
  matches_ : KMap Nat := []
  pllLost : List Nat := []
  deriving DecidableEq, Repr, Inhabited

/-! ## TIM (R82 to R90) -/

/-- The timebase: the count and its fraction, the latched step (amount and instant), the latched NOW_FRAC and
PPSCAP_FRAC words, the model time at which a high PPS_OUT falls, per timer the count at which TIM learned its
target (R395), and per ingress piste the clocks with a packet start that have not passed yet (R398). -/
structure Tim where
  count : BitVec 64 := 0
  frac : BitVec 32 := 0
  step : Option (BitVec 64 × BitVec 64) := none
  nowLatch : Word := 0
  ppsLatch : Word := 0
  ppsCap : BitVec 64 × BitVec 32 := (0, 0)
  ppsHigh : Option Nat := none
  learned : KMap Nat := []
  starts : KMap Nat := []
  deriving DecidableEq, Repr, Inhabited

/-! ## Tables, learning and search (chapter 06) -/

/-- A TBL command as accepted: its tag, its staging words (R133, R134), whether VSLOT named the open slot when it
was accepted (R135, R161), and its place in issue order (R137). The list of them holds the commands that wait with their
tag held (R123, R128). -/
structure TblCmd where
  tag : Nat := 0
  words : List Word := []
  verOk : Bool := true
  seq : Nat := 0
  deriving DecidableEq, Repr, Inhabited

/-- A completion (R136): tag, opcode, the two statuses, moves, CMPL1, CMPL2 and the row words. -/
structure Cmpl where
  tag : Nat := 0
  op : Nat := 0
  statusE : Nat := 0
  statusW : Nat := 0
  moves : Nat := 0
  result : Word := 0
  entctl : Word := 0
  data : List Word := []
  deriving DecidableEq, Repr, Inhabited

/-- A key in the holdoff cache (R143): first port, last reported second port, the TIM count when it was cached. -/
structure Holdoff where
  key : BitVec 64 := 0
  p1 : Nat := 0
  p2 : Option Nat := none
  at_ : Nat := 0
  deriving DecidableEq, Repr, Inhabited

/-- A queued learn insert (R143): key, port, partition, the TIM count at its event, and its place in issue order (R137). -/
structure LearnIns where
  key : BitVec 64 := 0
  port : Nat := 0
  part : Nat := 0
  ns : Nat := 0
  seq : Nat := 0
  deriving DecidableEq, Repr, Inhabited

/-- A learn notice (R144). -/
structure Notice where
  key : BitVec 64 := 0
  port : Nat := 0
  port2 : Nat := 0
  type : Nat := 0
  ns : Nat := 0
  deriving DecidableEq, Repr, Inhabited

/-- One half's table copy (R120): every memory's rows keyed MEM * 2^19 + ROW, an absent row all zero; the rows read
as uncorrectable; the live hit flags, keyed (way * 2^19 + row) * 8 + slot; the fold list (slot, row key); locked
rows; and the learn engine (holdoff cache, queued inserts, notice queue). -/
structure HalfTbl where
  rows : KMap (BitVec 512) := []
  bad : List Nat := []
  hits : List Nat := []
  fold : List (Nat × Nat) := []
  cache : List Holdoff := []
  inserts : List LearnIns := []
  notices : List Notice := []
  ageDue : Nat := 0
  deriving DecidableEq, Repr, Inhabited

/-- TBL, TCM and LRN: both halves; commands that wait with their tag held, in issue order; commands carried out and
not yet complete; the next place in issue order; the completion FIFO and the latched completion; tags in use; the fold in
progress; per half the start and duration of TCM's sweep in model time (R152). -/
structure Tbl where
  east : HalfTbl := {}
  west : HalfTbl := {}
  cmds : List TblCmd := []
  done : List (TblCmd × Cmpl) := []
  seq : Nat := 0
  fifo : List Cmpl := []
  latched : Option Cmpl := none
  tags : List Nat := []
  folding : Option Nat := none
  sweeps : KMap (Nat × Nat) := []
  deriving DecidableEq, Repr, Inhabited

/-! ## VER (R158 to R163) -/

/-- VER.SLOTSTATE codes (R158). -/
inductive Slot where
  | free | open_ | current | live
  deriving DecidableEq, Repr, Inhabited

/-- What VER is doing: nothing, a commit or an abort of the slot; a commit with where it stands in R161, in the codes of
State.commitWait. -/
inductive VerBusy where
  | none_
  | commit (slot wait : Nat)
  | abort (slot : Nat)
  deriving DecidableEq, Repr, Inhabited

/-- VER: slot states, the committed slots in commit order (oldest first) from their switch until they are folded and
FREE, the operation in progress, the place in TBL's issue order at which it was written, REFUSED, whether DEV.STATE entered
HOLD during the commit in progress (R161), and the slots whose holder count is unknown (HOLDUNC, R362). -/
structure Ver where
  slots : List Slot := .open_ :: List.replicate 15 .free
  order : List Nat := []
  busy : VerBusy := .none_
  upTo : Nat := 0
  refused : Bool := false
  paused : Bool := false
  stuck : List Nat := []
  deriving DecidableEq, Repr, Inhabited

/-! ## Pistes -/

/-- What an ingress piste hands to TMG: a packet to admit, or a host-bound packet or copy (R117). -/
inductive IngOut where
  | forward (p : Pkt)
  | host (user qp : Nat) (copy : Bool) (p : Pkt)
  deriving DecidableEq, Repr, Inhabited

/-- An ingress piste: packets from the CPU packet port at its input, and its output toward TMG; `arriving` are the
packets TMG admitted whose last cell has not reached it, in order: data record, bad, and the number of a pending ICV. -/
structure IpSt where
  cpuIn : List Pkt := []
  out : List IngOut := []
  arriving : List (Nat × Bool × Nat) := []
  deriving DecidableEq, Repr, Inhabited

/-- An egress piste: granted packets, and the Lift buffer (R175). -/
structure EpSt where
  inq : List (Nat × Pkt) := []
  lift : List Pkt := []
  deriving DecidableEq, Repr, Inhabited

/-! ## TMG (chapter 08) -/

/-- Which part of the Tarn a packet's cells are charged to (R182); `pend` before a multicast packet's first copy. -/
inductive Charge where
  | pend | xres | queue | ingress | shared | refill
  deriving DecidableEq, Repr, Inhabited

/-- Stored data of one packet in the Tarn: cells, entity and class charged in IC, whether IC counts it, the
reservation charged, the number of copies that refer to it (R196), and whether its last cell has arrived (R200). -/
structure Data where
  n : Nat := 0
  ent : Nat := 0
  cls : Nat := 0
  ic : Bool := true
  charge : Charge := .shared
  refs : Nat := 1
  arrived : Bool := false
  deriving DecidableEq, Repr, Inhabited

/-- A packet or copy in a queue: the model's number for it, its data record, packet, egress port charged (255 where no
port owns the queue), enqueue instant E and due base D (R178, R193). -/
structure QPkt where
  id : Nat := 0
  data : Nat := 0
  pkt : Pkt := {}
  port : Nat := 0
  enq : Nat := 0
  base : Nat := 0
  deriving DecidableEq, Repr, Inhabited

/-- A list block of a queue (R179): the addresses of its two copies, the entries in use of its seven, the numbers of the
pages they name that the queue still holds, whether TMG has read the block, and the copies known to be lost. -/
structure ListBlk where
  a : Nat := 0
  b : Nat := 0
  used : Nat := 0
  ids : List Nat := []
  read : Bool := false
  lost : List Nat := []
  deriving DecidableEq, Repr, Inhabited

/-- A read or write of a list block in flight: the queue, the block by the address of its first copy, and the copy. -/
structure ListReq where
  q : Nat := 0
  a : Nat := 0
  copy : Nat := 0
  deriving DecidableEq, Repr, Inhabited

/-- A Basin page of a queue (R179): the model's number for it, page number, stamp, the packets that start in it, the
leading bytes that continue an earlier packet and whether that packet ends here, whether its last packet goes on into
the next page and with how many bytes it stands here, and the packets whose last byte lies in it. `drop`: its packets are
discarded or have moved to the head, so the page is only returned. -/
structure PageRec where
  id : Nat := 0
  page : Nat := 0
  vertag : Nat := 0
  starts : List QPkt := []
  cont : Nat := 0
  contEnds : Bool := false
  split : Bool := false
  part : Nat := 0
  ends : List QPkt := []
  drop : Bool := false
  lost : Bool := false
  deriving DecidableEq, Repr, Inhabited

/-- An egress or host queue (R180, R188): mode and the five segments, oldest first. `tailCont` are the bytes at the
tail's start that continue the last packet of the newest outbound page, of stamp `tailTag`, and `tailPkt` that packet
where it is still held; `partialIn` is a packet of
returned pages that continues in the next one, of which `partBytes` bytes have returned; `asked` marks a page request at
BPM, and `waitAt` the packed size of the tail at the last refusal (R189, R210); `lists` are its list blocks, oldest first. -/
structure Queue where
  spill : Bool := false
  head : List QPkt := []
  inbound : List PageRec := []
  middle : List PageRec := []
  outbound : List PageRec := []
  tail : List QPkt := []
  tailCont : Nat := 0
  tailTag : Nat := 0
  tailPkt : Option QPkt := none
  partialIn : Option QPkt := none
  partBytes : Nat := 0
  asked : Bool := false
  waitAt : Nat := 0
  lists : List ListBlk := []
  deriving DecidableEq, Repr, Inhabited

/-- A fan-out in the replication queue (R195): its data record and packet, and E of its admission (R178). -/
structure McJob where
  data : Nat := 0
  pkt : Pkt := {}
  enq : Nat := 0
  deriving DecidableEq, Repr, Inhabited

/-- TMG: queues 0 to 131,071 and host queues 131,072 + user * 8 + queue pair; data records; the replication queue;
per-entity counts PC keyed entity * 16 + index and the latched copy; the Rink LFSRs; and of the pages that hold list blocks
(R179) the free places for a block's two copies, the pages without a partner, and the reads and writes of blocks in flight
by the number their request carries. -/
structure Tmg where
  queues : KMap Queue := []
  data : KMap Data := []
  nextId : Nat := 0
  mcq : List McJob := []
  pc : KMap Nat := []
  pcLatch : List Nat := []
  rink : KMap Nat := []
  listFree : List (Nat × Nat) := []
  listSpare : List Nat := []
  listReqs : KMap ListReq := []
  deriving DecidableEq, Repr, Inhabited

/-! ## BPM (chapter 09) -/

/-- BPM: the free ring as runs (first page, count) in FIFO order, the cache (the most recently pushed first), the owner
map (a page not listed is FREE), the requests that wait (owner code; the queue, or the group and member), the owner
granted last, the pages on their way back (owner code, page), the reclaims in progress, the ring block at the head,
the entries of the blocks that ring reads in flight will return, by the read's number; the writebacks in flight (block,
entries, writes not complete); the copies of ring blocks that are lost, block * 2 + copy (R206, R303); and the next block
that a build hands to DRC (R214). -/
structure Bpm where
  ring : List (Nat × Nat) := []
  cache : List Nat := []
  map : KMap Nat := []
  reqs : List (Nat × Nat) := []
  last : Nat := 3
  rets : List (Nat × Nat) := []
  reclaims : List Nat := []
  head : Nat := 0
  fly : KMap (List Nat) := []
  wb : List (Nat × List Nat × Nat) := []
  lost : List Nat := []
  build : Nat := 0
  deriving DecidableEq, Repr, Inhabited

/-! ## DRC and DC (chapter 13) -/

/-- A request at a DRC port (R309): the model's number for it, port, direction, address and length, what it is for
(the requester's number), the bytes of a HOST write (none where the mask is 0), the model time it was handed over
(none while it waits at its port) and its place in the order of handing over, whether a read holds a tag (R310), its
urgency (R311), and its completion: true OK, false ERR. -/
structure DReq where
  id : Nat := 0
  port : Nat := 0
  write : Bool := false
  addr : Nat := 0
  len : Nat := 0
  client : Nat := 0
  data : List (Option Byte) := []
  at_ : Option Nat := none
  seq : Nat := 0
  tag : Bool := false
  urg : Nat := 0
  fin : Option Bool := none
  deriving DecidableEq, Repr, Inhabited

/-- A channel (R305): open rows by bank, rows selected for a directed refresh management once they close (R316), the
selection LFSR, the model time of its last request access, and per bank with an open row the model time of the last
access and the accesses served since it opened (R312), the activates of each bank since its last refresh management (R298),
the drift of each delay from its trained value in 1/64 UI and the model times of the last MR4 read, ZQ latch and tracking
(R306), the model time since which it has had no free slot, and whether a forced slot is to be used (R307); scrub's pass:
when it began, the next burst, the bursts to revisit, and a corrected burst to be written back with whether a request has
written it since (R307); whether a quiesce or reset holds it in self-refresh, and whether it was in self-refresh when its
group's change began; and the model time of its last refresh (R314). -/
structure ChanSt where
  rows : KMap Nat := []
  sel : List (Nat × Nat) := []
  lfsr : Nat := 0
  idle : Nat := 0
  used : KMap (Nat × Nat) := []
  raa : KMap Nat := []
  drift : KMap Int := []
  mr4At : Nat := 0
  zqAt : Nat := 0
  trackAt : Nat := 0
  busy : Option Nat := none
  slot : Bool := false
  scrubFrom : Option Nat := none
  scrubNext : Nat := 0
  scrubAgain : List Nat := []
  scrubBack : Option (Nat × Bool) := none
  held : Bool := false
  wasSr : Bool := false
  refNs : Option Nat := none
  deriving DecidableEq, Repr, Inhabited

/-- A frequency change (R319): target set, the group in progress and the model time t0 of its start, the groups still to
do, and the earliest model time of the next group's start. -/
structure FreqChange where
  set : Nat := 0
  group : Option Nat := none
  began : Nat := 0
  next : Nat := 0
  notBefore : Nat := 0
  deriving DecidableEq, Repr, Inhabited

/-- The turn of a deficit round robin (R222, R311): the child its pointer stands at, already credited or not, and the
deficits. -/
structure Wrr where
  ptr : Nat := 0
  visited : Bool := false
  defs : KMap Int := []
  deriving DecidableEq, Repr, Inhabited

/-- DRC: requests of every port in order, the next number, the next place in the order of handing over, each half's turn
among the ports (R311), channels, whether TRAINED has ever been set, the frequency change, the model time the refresh clock
was aligned and the timebase count then (R314), the 64-byte bursts the HOST port has written, and the pages whose
other bytes another requester wrote (their layout is not all stated: log entry 24). `unlocked` are the controller domains
whose PLL has lost lock (R362). -/
structure Drc where
  reqs : List DReq := []
  next : Nat := 0
  handed : Nat := 0
  turns : KMap Wrr := []
  chans : KMap ChanSt := []
  ever : Bool := false
  fc : Option FreqChange := none
  refAt : Option (Nat × Nat) := none
  bursts : KMap (BitVec 512) := []
  stale : List Nat := []
  unlocked : List Nat := []
  deriving DecidableEq, Repr, Inhabited

/-! ## SCH (chapter 10) -/

/-- The committed parameters of a shaper or policer entry (R227); `ctl` is its control word. -/
structure Par where
  cir : Nat := 0
  pir : Nat := 0
  cbs : Nat := 0
  pbs : Nat := 0
  ctl : Nat := 0
  deriving DecidableEq, Repr, Inhabited

/-- A bucket (R225): its level in units of 1/500,000 byte, in which every credit is whole, and the 16 ns interval of
the timebase up to which it has been credited. -/
structure Bucket where
  lvl : Int := 0
  tick : Nat := 0
  deriving DecidableEq, Repr, Inhabited

/-- A gate list in force or scheduled (R233, R235): list 0 A or 1 B, its length and cycle, the instant its current
cycle started (S at first) and the entry in force. -/
structure GateRun where
  list : Nat := 0
  len : Nat := 0
  cyc : Nat := 0
  start : Nat := 0
  ent : Nat := 0
  deriving DecidableEq, Repr, Inhabited

/-- A port's gates: the operational list and the pending start. -/
structure Gate where
  op : Option GateRun := none
  pend : Option GateRun := none
  deriving DecidableEq, Repr, Inhabited

/-- SCH: committed parameters and buckets, the 16 ns interval at which RESETMODE was last applied to every entry (those
not listed included), gates by port, weighted groups keyed node * 2 + pass (0 committed), and
the level latches of NODEIDX and POLIDX (C and P). -/
structure Sch where
  par : KMap Par := []
  buckets : KMap Bucket := []
  levelled : Option Nat := none
  gates : KMap Gate := []
  wrr : KMap Wrr := []
  nodeLvl : Word × Word := (0, 0)
  polLvl : Word × Word := (0, 0)
  deriving DecidableEq, Repr, Inhabited

/-! ## BLG (chapter 11) -/

/-- A pending notice (R250): AT, the instant it is due, and CAP. -/
structure PendCap where
  at_ : Nat := 0
  due : Nat := 0
  cap : Nat := 0
  deriving DecidableEq, Repr, Inhabited

/-- A member: pending notices in AT order, whether a notice has been accepted since EN became 1, the model time its
JOINHOLD began, that of its last shimmed frame sent and received (none: not RX-active), the SEQ of its previous data
frame, and its Eddy queue, whose packets hold the frame as received and its SEQ in `enq`. -/
structure Member where
  pend : List PendCap := []
  seen : Bool := false
  joinAt : Option Nat := none
  lastTx : Option Nat := none
  lastRx : Option Nat := none
  prev : Option Nat := none
  q : Queue := {}
  deriving DecidableEq, Repr, Inhabited

/-- A group: the model times its gap began and its LOSSTO of SYNC started, the run of arrivals discarded as LATE, and
the members on which an EOB frame has left whose heartbeats are due. -/
structure Group where
  gapAt : Option Nat := none
  syncAt : Option Nat := none
  lateRun : Nat := 0
  eob : List Nat := []
  deriving DecidableEq, Repr, Inhabited

/-- BLG: members keyed group * 16 + member, groups, and the next number of an Eddy record. -/
structure Blg where
  members : KMap Member := []
  groups : KMap Group := []
  nextId : Nat := 0
  deriving DecidableEq, Repr, Inhabited

/-! ## MSC and KEY (chapter 12) -/

/-- MSC: SAs whose NextPN has reached PNTHRESH (R276), SecYs of unknown state (CTXUNC, R296), the counts that SECYIDX and
SAIDX latched, and the next number of an early release. SA n is transmit SA n, or receive SA n - 32,768. -/
structure Msc where
  warned : List Nat := []
  unc : List Nat := []
  secyLatch : List Word := []
  saLatch : List Word := []
  nextTok : Nat := 1
  deriving DecidableEq, Repr, Inhabited

/-- A key slot (R282): its key (none: EMPTY; 16 or 32 bytes), salt and source, how often it has been loaded or erased
since the last zeroisation, and whether old material is held (OLDBUSY, R283). -/
structure KeySlot where
  key : Option (List Byte) := none
  salt : Option (List Byte) := none
  src : Nat := 0
  loads : Nat := 0
  old : Bool := false
  deriving DecidableEq, Repr, Inhabited

/-- An import in progress (R286): function, local slot, blob, the result already decided at the GO, the model time of
its result, and whether a function reset has lost the result (R344). -/
structure KeyImp where
  fn : Nat := 0
  slot : Nat := 0
  blob : List Byte := []
  code : Option Nat := none
  due : Nat := 0
  lost : Bool := false
  deriving DecidableEq, Repr, Inhabited

/-- KEY: the slots, the zeroisations (each raises every GEN, R291), imports in progress, the result that a RESULT
transaction reports and SEQ (R289). -/
structure KeySt where
  slots : KMap KeySlot := []
  zeros : Nat := 0
  imports : List KeyImp := []
  spiCode : Nat := 15
  seq : Nat := 0
  deriving DecidableEq, Repr, Inhabited

/-! ## HST and DMA (chapter 14) -/

/-- What the functions' PCIe configuration holds (R324 to R328, R346): VF Enable, NumVFs, the functions whose Bus Master
Enable is 1; per function the codes of Max Payload Size, Max Read Request Size and the completion timeout; the functions in
D3hot, with MSI-X on, and with all their vectors masked; the vectors (function * 64 + number) that are not masked, and those
pending; and per function the AER status of correctable and uncorrectable errors. -/
structure Pci where
  vfEn : Bool := false
  numVfs : Nat := 0
  bme : List Nat := []
  mps : KMap Nat := []
  mrrs : KMap Nat := []
  cplTmo : KMap Nat := []
  d3 : List Nat := []
  msixEn : List Nat := []
  msixHush : List Nat := []
  vecOpen : List Nat := []
  vecPend : List Nat := []
  aerCorr : KMap Nat := []
  aerUnc : KMap Nat := []
  deriving DecidableEq, Repr, Inhabited

/-- HST: per user the injection bucket (level in 1/8,000 byte, and the model time it was credited to; none: full), and per
queue pair (user * 8 + q) the model time of its last message, whether a completion waits for HOLDOFF, and the
fetched buffer of a packet that the rate holds back; per user the queue pair served last, and per piste the user. -/
structure Hst where
  buckets : KMap (Int × Nat) := []
  sent : KMap Nat := []
  waits : List Nat := []
  fetched : KMap (List Byte) := []
  qLast : KMap Nat := []
  uLast : KMap Nat := []
  deriving DecidableEq, Repr, Inhabited

/-- A DMA channel: the 32 bytes of its head descriptor once fetched, and its latched trigger (R338). -/
structure DmaCh where
  desc : Option (List Byte) := none
  latch : Bool := false
  deriving DecidableEq, Repr, Inhabited

/-- The active transfer (R339 to R342): its number, channel and owner, its length, bytes of the source asked for, the length
and the model time of each read outstanding (oldest first), source bytes returned and not yet handed on, bytes handed on, destination writes not
acknowledged, a beat error, an error acknowledged late, whether it is stopping, and whether its channel has been reset: it
then completes nothing. -/
structure DmaXfer where
  n : Nat := 0
  ch : Nat := 0
  own : Nat := 0
  len : Nat := 0
  asked : Nat := 0
  reads : List (Nat × Nat) := []
  buf : List Byte := []
  handed : Nat := 0
  acks : Nat := 0
  err : Bool := false
  late : Bool := false
  stop : Bool := false
  mute : Bool := false
  deriving DecidableEq, Repr, Inhabited

/-- DMA: channels, the channel that started last, the active transfer, the owner and
the model time of each read of host memory that stopped transfers have left (oldest first), and the next transfer's
number. -/
structure Dma where
  chans : KMap DmaCh := []
  last : Nat := 31
  act : Option DmaXfer := none
  orphans : List (Nat × Nat) := []
  next : Nat := 1
  deriving DecidableEq, Repr, Inhabited

/-! ## CNT (chapter 17) -/

/-- A Gauge accumulator (R391): its value, the last counter value read, whether the counter was cleared since, and
the snapshot accumulator. -/
structure GAcc where
  acc : Nat := 0
  last : Nat := 0
  cleared : Bool := false
  snap : Nat := 0
  deriving DecidableEq, Repr, Inhabited

/-- A snapshot (R394, R395): its instant S, whether it is late, and once latched the instant of the latch and the
snapshot values by counter. -/
structure Snap where
  at_ : Nat := 0
  late : Bool := false
  latched : Option (Nat × KMap Nat) := none
  deriving DecidableEq, Repr, Inhabited

/-- CNT: accumulators keyed page * 8 + counter, the snapshot in progress, the scheduled freeze change (instant, STOP),
and the model time of the next sweep. -/
structure Cnt where
  accs : KMap GAcc := []
  snap : Option Snap := none
  freeze : Option (Nat × Bool) := none
  sweepDue : Nat := 0
  deriving DecidableEq, Repr, Inhabited

/-! ## FLT (chapter 15) -/

/-- A fault event on its way to the hub (R350): page, source bit, injected, INFO, and the model time of detection. -/
structure FltEv where
  page : Nat := 0
  src : Nat := 0
  inj : Bool := false
  info : Word := 0
  at_ : Nat := 0
  deriving DecidableEq, Repr, Inhabited

/-- A fault record (R351) with what keeps it open (R352): whether its reaction has completed and the host has
acknowledged it. -/
structure FltRec where
  seq : Nat := 0
  page : Nat := 0
  src : Nat := 0
  cls : Nat := 0
  react : Nat := 0
  inj : Bool := false
  conseq : Bool := false
  limit : Bool := false
  foskip : Bool := false
  abandoned : Bool := false
  time : BitVec 64 := 0
  seccnt : Nat := 0
  sec : Option (Nat × Nat) := none
  primref : Option Nat := none
  devstate : Nat := 0
  info : Word := 0
  done : Bool := false
  acked : Bool := false
  deriving DecidableEq, Repr, Inhabited

/-- The consequential window a reaction opens (R354): its page, its record, whether that was injected, and, once the page has
reached QUIESCED or set RSTDONE, the model time the window ends. -/
structure FltWin where
  page : Nat := 0
  seq : Nat := 0
  inj : Bool := false
  ends : Option Nat := none
  deriving DecidableEq, Repr, Inhabited

/-- A reaction (QUIESCE or a soft reset) that waits until the one in progress on its page has completed (R358): the page,
the code, and the record. -/
structure FltWait where
  page : Nat := 0
  code : Nat := 0
  seq : Nat := 0
  inj : Bool := false
  deriving DecidableEq, Repr, Inhabited

/-- FLT: events detected and not yet taken, the log by slot, the next SEQ, the first FATAL record, the windows in
the order they opened, the reactions that wait, the fence counts by page with the model time of their last change, the reactions set by RXVAL (R349) keyed
type * 32 + source, the CORR flag of R361, the runs of differing pin samples (R360), and the latched records. -/
structure Flt where
  events : List FltEv := []
  log : KMap FltRec := []
  next : Nat := 0
  first : Option FltRec := none
  fatal : Bool := false
  wins : List FltWin := []
  waits : List FltWait := []
  fence : KMap (Nat × Nat) := []
  react : KMap Nat := []
  corr : Bool := false
  badP : Nat := 0
  badN : Nat := 0
  okP : Nat := 0
  okN : Nat := 0
  wireP : Bool := false
  wireN : Bool := false
  recLatch : List Word := []
  firstLatch : List Word := []
  deriving DecidableEq, Repr, Inhabited

/-! ## EVT (chapter 16) -/

/-- A journal entry (R374). -/
inductive JEntry where
  | row (half mem row : Nat) (img : BitVec 512)
  | verstate (pend slots : Nat)
  | foldDone (slot : Nat)
  | pnMark (rx : Bool) (sa pn : Nat)
  | seqMark (group seq : Nat)
  | bulkBegin
  | bulkEnd
  deriving DecidableEq, Repr, Inhabited

/-- EVT. The journal (JSEQ, entry, model time it entered), the next JSEQ, and the next row of a bulk copy with the model
time from which it may go; the JSEQ still to be sent next, and the model time of the last advance of ACKSEQ or resend; the
JSEQ of a copy's BULKEND; the lane of the next frame (R371), and the model time of the last HELLO sent. Received: entries
held behind a gap by JSEQ with the model time of each, the last marks by SA and by group, the highest EPOCH, and whether an
ACK is due, and whether entries have been followed since a BULKBEGIN. The peer: FLAGS of its last HELLO, the model times of that HELLO and of its last HELLO with ACTIVE 1. The role:
the model time of GO, whether the decision point has passed (R376), the last sample of PEER_ACTIVE_IN and how many agreed
(R375), the model time the pin's level last changed, the claim attempt with the model times it began and of its raise, the
model time of a ROLE REQUEST sent, and whether an ACCEPT was sent. -/
structure Evt where
  journal : List (Nat × JEntry × Nat) := []
  jseq : Nat := 0
  bulk : Option Nat := none
  sendAt : Nat := 0
  ackAt : Nat := 0
  bulkEnd : Option Nat := none
  held : KMap (JEntry × Nat) := []
  bulkDue : Nat := 0
  lane : Nat := 0
  helloSent : Option Nat := none
  decided : Bool := false
  pinLast : Bool := false
  pinRun : Nat := 0
  pnMarks : KMap Nat := []
  seqMarks : KMap Nat := []
  rxEpoch : Nat := 0
  follows : Bool := false
  ackDue : Bool := false
  flags : Nat := 0
  helloAt : Option Nat := none
  activeAt : Option Nat := none
  goAt : Option Nat := none
  pinAt : Nat := 0
  claim : Option (Nat × Nat × Option Nat) := none
  askedAt : Option Nat := none
  accepted : Bool := false
  deriving DecidableEq, Repr, Inhabited

/-! ## PWR (chapter 15) -/

/-- A burst of withheld slots on an ingress piste (R23): the slots still to be withheld, and the instant it ends. -/
structure SnowBurst where
  left : Nat := 0
  until_ : Nat := 0
  deriving DecidableEq, Repr, Inhabited

/-- PWR: the model time until which the Snowplough has SCH defer (R223, R368); per monitor (core 0, VMONk k + 1) the runs
of samples below warning, below fault and above high, and whether the last two conditions have fired; the model time from
which every monitor has been above warning + HYST; whether the supply is BROWN; the two thermal thresholds passed; steps
of failed AVSBus transactions; and the Snowplough's two allowances in milliamperes, the last I_est, the model time at which
core domains were last ungated (R406), the last burst of each piste, and the ns of ballast not yet counted. -/
structure Pwr where
  defer : Nat := 0
  low : KMap Nat := []
  bad : KMap Nat := []
  ovr : KMap Nat := []
  badFired : List Nat := []
  overFired : List Nat := []
  okAt : Option Nat := none
  brown : Bool := false
  warm : Bool := false
  crit : Bool := false
  rise : Nat := 0
  fall : Nat := 0
  iest : Nat := 0
  rampAt : Option Nat := none
  avsAt : Option Nat := none
  bursts : KMap SnowBurst := []
  ballastNs : Nat := 0
  deriving DecidableEq, Repr, Inhabited

/-! ## What leaves the block -/

/-- Something the block sends out, in the order sent: a frame on a port (without its FCS; `fcsXor` is what the FCS it
ends with differs by from its CRC-32: 0 for a good one, all ones for the poisoned FCS of R200), fragment n of a preempted
frame (without its mCRC; the last one with its FCS as a frame's), a verify frame, a change of what a port's transmitter
sends besides frames, an MSI-X message, a write or a read request on PCIe, register data returned, an Evtur frame, a KEYSPI
response, I2C data, and the word a JTAG instruction puts in front of TDO. -/
inductive Out where
  | frame (port : Nat) (bytes : List Byte) (fcsXor : Word) (ts : BitVec 64)
  | fragment (port n : Nat) (bytes : List Byte) (fcsXor : Option Word) (ts : BitVec 64)
  | verify (port : Nat)
  | line (port : Nat) (sends : TxLine)
  | msix (fn vec : Nat)
  | hostWrite (fn addr : Nat) (bytes : List Byte)
  | hostRead (fn addr len : Nat)
  | cfgDone (fn : Nat) (w : Word)
  | cfgRetry (fn : Nat)
  | readData (fn : Nat) (w : Word)
  | readBytes (fn : Nat) (bytes : List Byte)
  | evtur (lane : Nat) (bytes : List Byte)
  | keySpi (bytes : List Byte)
  | i2c (bytes : List Byte)
  | jtag (w : Word)
  deriving DecidableEq, Repr, Inhabited

/-! ## The whole state -/

/-- The machine. `regs` holds every register value that differs from its reset value, keyed as RegNames; `acc` the
read latch and held word of each access path (functions 0 to 63, 64 the I2C slave, 65 the loader); `i2c` is the
offset that the I2C slave reads next, `jtag` the JTAG instruction in effect; `now` is the model's elapsed time in ns; `out` what has been sent, oldest first; `free` counts the free values drawn (the model's
own field); `pending` is the queue of commands that wait, first in, first out. -/
@[ext]
structure State where
  fuses : Fuses := {}
  dev : Dev := {}
  acc : KMap Access := []
  blks : KMap Blk := []
  regs : KMap Word := []
  now : Nat := 0
  tim : Tim := {}
  ports : KMap PortSt := []
  pgs : KMap PgSt := []
  tbl : Tbl := {}
  ver : Ver := {}
  ips : KMap IpSt := []
  eps : KMap EpSt := []
  tmg : Tmg := {}
  bpm : Bpm := {}
  drc : Drc := {}
  sch : Sch := {}
  blg : Blg := {}
  msc : Msc := {}
  key : KeySt := {}
  pci : Pci := {}
  hst : Hst := {}
  dma : Dma := {}
  cnt : Cnt := {}
  flt : Flt := {}
  evt : Evt := {}
  pwr : Pwr := {}
  i2c : Offset := 0
  jtag : JtagInstr := .idcode
  out : List Out := []
  free : Nat := 0
  pending : List Instr := []
  deriving DecidableEq, Repr, Inhabited

/-- The machine right after reset: RESET_N low, DEV.STATE RESET (R51), every register at its reset value, every
table row and buffer zero, no command waiting. -/
def State.reset : State := {}

/-- Why the machine stops. -/
inductive Fault where
  /-- Raised by a meaning whose operands WellFormed refuses: they name nothing the hardware has. Safe. -/
  | illFormed
  deriving DecidableEq, Repr

/-- Why a command has no next state. -/
inductive Refusal where
  /-- Raised by an arm of exec for a command the model does not give a meaning. Safe. -/
  | notModelled (mnemonic : String)
  deriving DecidableEq, Repr

end Sys2Proof.Machine
end

