-- ==== Sys2Proof/Machine/Ops.lean ====
section
/-! DEFINITION. The shared operations: sparse maps, register fields, pages, the block states of R43 and R44,
interrupts (R36, R328), fault reporting (R36), the performance counters (R389), and the model's time. -/

namespace Sys2Proof.Machine

/-! ## Sparse maps -/

/-- The value a map lists for a key. -/
def kget? {α : Type} : KMap α → Nat → Option α
  | [], _ => none
  | (a, b) :: t, k => if a = k then some b else kget? t k

/-- The value of a key, `d` where the map lists none. -/
def kgetD {α : Type} (m : KMap α) (k : Nat) (d : α) : α := (kget? m k).getD d

/-- The map with the key set; a map whose keys rise strictly keeps that form. -/
def kset {α : Type} : KMap α → Nat → α → KMap α
  | [], k, v => [(k, v)]
  | (a, b) :: t, k, v =>
    if a = k then (k, v) :: t else if k < a then (k, v) :: (a, b) :: t else (a, b) :: kset t k v

/-- The map without the key. -/
def kerase {α : Type} (m : KMap α) (k : Nat) : KMap α := m.filter fun e => e.1 ≠ k

/-- The entries whose keys lie in lo to hi - 1. -/
def krange {α : Type} (m : KMap α) (lo hi : Nat) : KMap α := m.filter fun e => lo ≤ e.1 && e.1 < hi

/-- The canonical form of a map: keys rise strictly. -/
def kwf {α : Type} : KMap α → Bool
  | [] => true
  | [_] => true
  | a :: b :: t => decide (a.1 < b.1) && kwf (b :: t)

/-! ## Bits and bytes -/

/-- Bits [hi:lo] of a word as a number. -/
def fld (w : Word) (hi lo : Nat) : Nat := w.toNat / 2 ^ lo % 2 ^ (hi + 1 - lo)

/-- The word with bits [hi:lo] set to the low bits of v. -/
def ins (w : Word) (hi lo v : Nat) : Word :=
  BitVec.ofNat 32 (w.toNat - fld w hi lo * 2 ^ lo + v % 2 ^ (hi + 1 - lo) * 2 ^ lo)

/-- Bit n of a number. -/
def bit (v n : Nat) : Bool := v / 2 ^ n % 2 == 1

/-- A Bool as a bit. -/
def b2n (b : Bool) : Nat := if b then 1 else 0

/-- The number bytes spell, least significant first (R6). -/
def leNat : List Byte → Nat
  | [] => 0
  | b :: t => b.toNat + 256 * leNat t

/-- The number bytes spell, most significant first (network order). -/
def beNat (l : List Byte) : Nat := l.foldl (fun a b => a * 256 + b.toNat) 0

/-- n bytes of a number, least significant first. -/
def leBytes : Nat → Nat → List Byte
  | 0, _ => []
  | n + 1, v => BitVec.ofNat 8 v :: leBytes n (v / 256)

/-- n bytes of a number, most significant first. -/
def beBytes (n v : Nat) : List Byte := (leBytes n v).reverse

/-- n bytes of a list from an offset. -/
def slice (l : List Byte) (ofs n : Nat) : List Byte := (l.drop ofs).take n

/-- The list with n bytes from an offset replaced. -/
def splice (l : List Byte) (ofs : Nat) (n : Nat) (new : List Byte) : List Byte :=
  l.take ofs ++ new ++ l.drop (ofs + n)

/-- Ceiling of a / b. -/
def cdiv (a b : Nat) : Nat := (a + b - 1) / b

/-- The two's complement reading of the low n bits. -/
def sext (n v : Nat) : Int := let m := v % 2 ^ n; if m < 2 ^ (n - 1) then m else (m : Int) - 2 ^ n

/-- Set bit n of a number. -/
def setBit (v n : Nat) (b : Bool) : Nat := v - b2n (bit v n) * 2 ^ n + b2n b * 2 ^ n

/-! ## Pages (R32, R33, R1) -/

/-- The kinds of block page (R32). -/
inductive Kind where
  | dev | clk | pwr | flt | cnt | hst | dma | tim | evt | key | bpm | drc | tmg | sch | blg | tcm | tbl | lrn
  | msc | ver | ip | ep | pg | dc
  deriving DecidableEq, Repr

/-- The kind and instance of a page ID; none where it is unassigned. -/
def kindOf (p : Nat) : Option (Kind × Nat) :=
  if p < 20 then
    ([Kind.dev, .clk, .pwr, .flt, .cnt, .hst, .dma, .tim, .evt, .key, .bpm, .drc, .tmg, .sch, .blg, .tcm, .tbl,
      .lrn, .msc, .ver][p]?).map fun k => (k, 0)
  else if 0x20 ≤ p && p < 0x34 then some (.ip, p - 0x20)
  else if 0x40 ≤ p && p < 0x54 then some (.ep, p - 0x40)
  else if 0x60 ≤ p && p < 0x74 then some (.pg, p - 0x60)
  else if 0x80 ≤ p && p < 0xC0 then some (.dc, p - 0x80)
  else none

/-- BLKID.TYPE: the page ID of instance 0 (R36). -/
def Kind.base : Kind → Nat
  | .dev => 0 | .clk => 1 | .pwr => 2 | .flt => 3 | .cnt => 4 | .hst => 5 | .dma => 6 | .tim => 7 | .evt => 8
  | .key => 9 | .bpm => 10 | .drc => 11 | .tmg => 12 | .sch => 13 | .blg => 14 | .tcm => 15 | .tbl => 16
  | .lrn => 17 | .msc => 18 | .ver => 19 | .ip => 0x20 | .ep => 0x40 | .pg => 0x60 | .dc => 0x80

/-- The block-specific rows of a page kind. -/
def rowsOf : Kind → List Row
  | .dev => rowsDEV | .clk => [] | .pwr => rowsPWR | .flt => rowsFLT | .cnt => rowsCNT | .hst => rowsHST
  | .dma => rowsDMA | .tim => rowsTIM | .evt => rowsEVT | .key => rowsKEY | .bpm => rowsBPM | .drc => rowsDRC
  | .tmg => rowsTMG | .sch => rowsSCH | .blg => rowsBLG | .tcm => rowsTCM | .tbl => rowsTBL | .lrn => rowsLRN
  | .msc => rowsMSC | .ver => rowsVER | .ip => rowsIP | .ep => rowsEP | .pg => rowsPG | .dc => rowsDC

/-- Page IDs by name (R32). -/
abbrev pgDEV : Nat := 0
abbrev pgCLK : Nat := 1
abbrev pgPWR : Nat := 2
abbrev pgFLT : Nat := 3
abbrev pgCNT : Nat := 4
abbrev pgHST : Nat := 5
abbrev pgDMA : Nat := 6
abbrev pgTIM : Nat := 7
abbrev pgEVT : Nat := 8
abbrev pgKEY : Nat := 9
abbrev pgBPM : Nat := 10
abbrev pgDRC : Nat := 11
abbrev pgTMG : Nat := 12
abbrev pgSCH : Nat := 13
abbrev pgBLG : Nat := 14
abbrev pgTCM : Nat := 15
abbrev pgTBL : Nat := 16
abbrev pgLRN : Nat := 17
abbrev pgMSC : Nat := 18
abbrev pgVER : Nat := 19
abbrev pgIP (g : Nat) : Nat := 0x20 + g
abbrev pgEP (g : Nat) : Nat := 0x40 + g
abbrev pgPG (g : Nat) : Nat := 0x60 + g
abbrev pgDC (n : Nat) : Nat := 0x80 + n

/-- The always-on pages (R36). -/
def alwaysOn (p : Nat) : Bool := [0, 1, 2, 3, 5, 7].contains p

/-- The part lacks the page (R1). -/
def absentOn (part : Part) (p : Nat) : Bool :=
  match part with
  | .kd3200 => false
  | .kd3200n => p == 0x09 || p == 0x12
  | .kd3200s => p == 0x0A || p == 0x0B || (0x80 ≤ p && p ≤ 0xBF)
  | .kd2400 =>
    (0x2F ≤ p && p ≤ 0x33) || (0x4F ≤ p && p ≤ 0x53) || (0x6F ≤ p && p ≤ 0x73) || (0xB0 ≤ p && p ≤ 0xBF)

/-- The page is assigned and present (R1, R33). -/
def State.present (s : State) (p : Nat) : Bool := (kindOf p).isSome && !absentOn s.fuses.part p

/-- Every page ID. -/
def allPages : List Nat := List.range 256

/-! ## The register store -/

/-- The row that covers an offset: the offset less the row's is a multiple of its strides within its counts. -/
def Row.covers (r : Row) (off : Nat) : Bool :=
  r.off ≤ off &&
    let d := off - r.off
    if r.n2 ≤ 1 then d % r.s1 == 0 && decide (d / r.s1 < r.n1)
    else decide (d / r.s1 < r.n1) && d % r.s1 % r.s2 == 0 && decide (d % r.s1 / r.s2 < r.n2)

/-- The row of a list that covers an offset. -/
def findRow (rs : List Row) (off : Nat) : Option Row := rs.find? fun r => r.covers off

/-- The row of a page at an offset: header rows below 0x100 (R36). -/
def pageRow (page off : Nat) : Option Row :=
  if off < 256 then findRow rowsHDR off
  else match kindOf page with
    | some (k, _) => findRow (rowsOf k) off
    | none => none

/-- The row a register key belongs to (RegNames). -/
def keyRow (k : Nat) : Option Row :=
  if 2305843009213693952 ≤ k then findRow rowsIDX ((k - 2305843009213693952) % 65536)
  else if 1152921504606846976 ≤ k then findRow rowsUSER ((k - 1152921504606846976) % 65536)
  else pageRow (k % 16777216 / 65536) (k % 65536)

/-- A row's reset value. -/
def Row.resetVal (r : Row) : Word :=
  r.fields.foldl (fun w f => ins w f.hi f.lo f.reset) 0

/-- The reset value of a register key; a bit no field covers resets to 0 (R8, RSV). -/
def resetVal (k : Nat) : Word := match keyRow k with | some r => r.resetVal | none => 0

/-- A register's value. -/
def State.rd (s : State) (k : Nat) : Word := (kget? s.regs k).getD (resetVal k)

/-- The store with a register written: a reset value is not listed. -/
def regSet (m : KMap Word) (k : Nat) (v : Word) : KMap Word :=
  if v = resetVal k then kerase m k else kset m k v

/-- The state with a register's value written, whatever its access code. -/
def State.wr (s : State) (k : Nat) (v : Word) : State := { s with regs := regSet s.regs k v }

/-- A field of a register. -/
def State.f (s : State) (k hi lo : Nat) : Nat := fld (s.rd k) hi lo

/-- A one-bit field of a register. -/
def State.fb (s : State) (k n : Nat) : Bool := s.f k n n == 1

/-- Write a field. -/
def State.setF (s : State) (k hi lo v : Nat) : State := s.wr k (ins (s.rd k) hi lo v)

/-- Add to a field that saturates at its largest value. -/
def State.addF (s : State) (k hi lo n : Nat) : State :=
  s.setF k hi lo (min (s.f k hi lo + n) (2 ^ (hi + 1 - lo) - 1))

/-- Count one in a 32-bit counter that saturates at 0xFFFF_FFFF. -/
def State.bump (s : State) (k : Nat) : State := s.addF k 31 0 1

/-- Set a bit of a register. -/
def State.setB (s : State) (k n : Nat) : State := s.setF k n n 1

/-- Set several registers to 0. -/
def State.zero (s : State) (ks : List Nat) : State := ks.foldl (fun t k => t.wr k 0) s

/-- A 64-bit value held in two registers. -/
def State.rd64 (s : State) (lo hi : Nat) : Nat := (s.rd lo).toNat + (s.rd hi).toNat * 4294967296

/-- Write a 64-bit value into two registers. -/
def State.wr64 (s : State) (lo hi v : Nat) : State :=
  (s.wr lo (BitVec.ofNat 32 v)).wr hi (BitVec.ofNat 32 (v / 4294967296))

/-- The listed registers whose keys lie in a range; every other register of the range is at its reset value. -/
def State.listed (s : State) (lo hi : Nat) : KMap Word := krange s.regs lo hi

/-! ## Free values -/

/-- Draw a value the spec leaves open (log entry 3). -/
def State.drawFree (s : State) : BitVec 64 × State := (Config.freeValue s.free, { s with free := s.free + 1 })

/-! ## Part and straps -/

/-- Pistes and port groups present (R1). -/
def State.nPg (s : State) : Nat := if s.fuses.part = .kd2400 then 15 else 20

/-- DRAM channels present (R1). -/
def State.nCh (s : State) : Nat := match s.fuses.part with | .kd3200s => 0 | .kd2400 => 48 | _ => 64

/-- A latched strap bit (R55). -/
def State.strap (s : State) (n : Nat) : Bool := s.dev.straps.getLsbD n

/-- STRAP[1:0] BOOT. -/
def State.boot (s : State) : Nat := s.dev.straps.toNat % 4

/-- DEV.CAP1.BASINCAP (R39, R55). -/
def State.basinCap (s : State) : Nat :=
  if s.nCh = 0 || !s.strap 7 then 0
  else
    let d := s.dev.straps.toNat / 4096 % 4
    if s.nCh = 64 then (match d with | 0 => 2 | 1 => 4 | 2 => 6 | _ => 0)
    else (match d with | 0 => 1 | 1 => 3 | 2 => 5 | _ => 0)

/-- Basin capacity in GiB. -/
def State.basinGiB (s : State) : Nat :=
  match s.basinCap with | 1 => 24 | 2 => 32 | 3 => 48 | 4 => 64 | 5 => 96 | 6 => 128 | _ => 0

/-- EVT_EN and SECURE_BOOT straps. -/
def State.evtEn (s : State) : Bool := s.strap 5
def State.secureBoot (s : State) : Bool := s.strap 11
def State.factory (s : State) : Bool := s.strap 10

/-! ## Device state views -/

/-- The code of a device state (R72). -/
def DevState.code : DevState → Nat
  | .reset => 1 | .strap => 2 | .load => 3 | .held => 4 | .armed => 5 | .run => 6 | .hold => 7 | .standby => 8
  | .fenced => 15

/-- The state whose squelch applies: HOLD keeps that of PREV (R365). -/
def State.effState (s : State) : DevState :=
  if s.dev.state = .hold then s.dev.prev.getD .reset else s.dev.state

/-- DEV.STATE.SQUELCH (R58, R365). -/
def State.squelch (s : State) : Bool := !(s.effState = .run || s.effState = .standby)

/-- Packets may enter ingress pistes: RUN, and HOLD entered from RUN (R58, R365, R381). -/
def State.forwarding (s : State) : Bool := s.effState = .run

/-- Initialisation has not ended: every page's BUSY is 1 (R36, R52). -/
def State.initialising (s : State) : Bool := s.dev.state = .reset || s.dev.state = .strap

/-! ## Small accessors of the per-instance maps -/

def State.port (s : State) (p : Nat) : PortSt := kgetD s.ports p {}
def State.setPort (s : State) (p : Nat) (v : PortSt) : State := { s with ports := kset s.ports p v }
def State.pg (s : State) (g : Nat) : PgSt := kgetD s.pgs g {}
def State.setPg (s : State) (g : Nat) (v : PgSt) : State := { s with pgs := kset s.pgs g v }
def State.ip (s : State) (g : Nat) : IpSt := kgetD s.ips g {}
def State.setIp (s : State) (g : Nat) (v : IpSt) : State := { s with ips := kset s.ips g v }
def State.ep (s : State) (g : Nat) : EpSt := kgetD s.eps g {}
def State.setEp (s : State) (g : Nat) (v : EpSt) : State := { s with eps := kset s.eps g v }
def State.blk (s : State) (p : Nat) : Blk := kgetD s.blks p {}
def State.setBlk (s : State) (p : Nat) (b : Blk) : State := { s with blks := kset s.blks p b }
def State.half (s : State) (h : Nat) : HalfTbl := if h = 0 then s.tbl.east else s.tbl.west
def State.setHalf (s : State) (h : Nat) (v : HalfTbl) : State :=
  if h = 0 then { s with tbl := { s.tbl with east := v } } else { s with tbl := { s.tbl with west := v } }
def State.emit (s : State) (o : Out) : State := { s with out := s.out ++ [o] }

/-- The half a port group or piste lies in: East 0, West 1. -/
def halfOf (g : Nat) : Nat := if g < 10 then 0 else 1

/-! ## Block states (R43, R44) -/

/-- The block is RUNNING (an always-on block always is) and present. -/
def State.running (s : State) (p : Nat) : Bool :=
  s.present p && (alwaysOn p || ((s.blk p).st = .running && !s.initialising))

/-- BLKSTAT.BUSY (R36). -/
def State.busy (s : State) (p : Nat) : Bool :=
  s.initialising || (!alwaysOn p && (s.blk p).st = .resetting)

/-- The quiesce request (R43). -/
def State.request (s : State) (p : Nat) : Bool :=
  s.fb (HDR.BLKCTL p) 1 || (s.blk p).fltq || !s.fb (HDR.BLKCTL p) 0

/-! ## Performance counters (R389, R396, R398) -/

/-- The event is in the page's catalogue (R398). -/
def inCatalogue (k : Kind) (ev : Nat) : Bool :=
  ev == 1 || ev == 2 ||
    match k with
    | .ip => 0x100 ≤ ev && ev ≤ 0x105
    | .ep => 0x100 ≤ ev && ev ≤ 0x102
    | .pg => (0x100 ≤ ev && ev ≤ 0x103) || (0x110 ≤ ev && ev ≤ 0x112)
    | .tmg => 0x100 ≤ ev && ev ≤ 0x106
    | .sch => 0x100 ≤ ev && ev ≤ 0x102
    | .drc => 0x100 ≤ ev && ev ≤ 0x103
    | .tbl | .blg | .msc => ev == 0x100 || ev == 0x101
    | .ver | .hst | .dma | .pwr | .evt => ev == 0x100
    | _ => false

/-- Counter n of a page advances by an amount, modulo 2^48. -/
def State.cntAdd (s : State) (page n amt : Nat) : State :=
  let v := (s.rd64 (HDR.CNTLO page n) (HDR.CNTHI page n) + amt) % 281474976710656
  s.wr64 (HDR.CNTLO page n) (HDR.CNTHI page n) v

/-- An event on a page: every counter that selects it, with a qualifier that `q` admits, adds the amount, unless
counting is frozen (R396). -/
def State.event (s : State) (page code amt : Nat) (q : Nat → Bool) : State :=
  if s.fb CNT.STAT 2 then s
  else (List.range 8).foldl (fun t n =>
    let c := t.rd (HDR.CSEL page n)
    if fld c 24 24 = 1 && fld c 15 0 = code && q (fld c 23 16) then t.cntAdd page n amt else t) s

/-! ## Interrupts (R36, R328) -/

/-- The page requests an interrupt. -/
def State.irqReq (s : State) (page : Nat) : Bool :=
  (s.rd (HDR.IRQSTAT page) &&& ~~~ (s.rd (HDR.IRQMASK page))) ≠ 0

/-- The vector BVEC gives a page (R328). -/
def State.irqVec (s : State) (page : Nat) : Nat :=
  s.f (HST.BVEC (page / 4)) (8 * (page % 4) + 5) (8 * (page % 4))

/-- Function u may send messages: MSI-X is enabled, and the function may issue requests (log entry 60). -/
def State.msixOn (s : State) (u : Nat) : Bool := s.pci.msixEn.contains u && s.pci.bme.contains u && !s.pci.d3.contains u

/-- The vector is masked, by itself or with its function. -/
def State.msixMasked (s : State) (u v : Nat) : Bool := s.pci.msixHush.contains u || !s.pci.vecOpen.contains (u * 64 + v)

/-- What a vector's message is when its source sends it: nothing while MSI-X is off or the vector is masked (R328). -/
def State.message (s : State) (u v : Nat) : List Out := if s.msixOn u && !s.msixMasked u v then [.msix u v] else []

/-- The pending bits once a vector's source has sent its message: a masked vector's is set. -/
def State.pendAfter (s : State) (u v : Nat) : List Nat :=
  if s.msixOn u && s.msixMasked u v && !s.pci.vecPend.contains (u * 64 + v) then s.pci.vecPend ++ [u * 64 + v]
  else s.pci.vecPend

/-- A source sends its vector's message (R328). -/
def State.sendMsix (s : State) (u v : Nat) : State :=
  { s with out := s.out ++ s.message u v, pci := { s.pci with vecPend := s.pendAfter u v } }

/-- The page's vector message goes out if its request rose from `before`. -/
def State.irqEdge (s : State) (page : Nat) (before : Bool) : State :=
  if !before && s.irqReq page then s.sendMsix 0 (s.irqVec page) else s

/-- Set a cause of a present page's IRQSTAT. -/
def State.irq (s : State) (page n : Nat) : State :=
  (s.setB (HDR.IRQSTAT page) n).irqEdge page (s.irqReq page)

/-! ## Counted rejections -/

/-- DEV.BADACC counts one rejected access. -/
def State.badAcc (s : State) : State := s.bump DEV.BADACC

/-- A dropped write to an absent page or absent user-page register (R3, R4, R34). -/
def State.absentWrite (s : State) (bar user off : Nat) : State :=
  ((s.bump DEV.ABSENTWR).wr DEV.ABSENTADDR
    (BitVec.ofNat 32 (off % 16777216 + b2n (bar ≠ 0) * 16777216 + user % 64 * 33554432))).irq pgDEV 0

/-- A host write of a BAR0 register reaches its block unless the page is absent (R3) or DEV.STATE is LOAD (R65). -/
def State.hostWr (s : State) (key : Nat) (g : State → State) : State :=
  if s.dev.state = .load then s.badAcc
  else if !s.present (key / 65536) then s.absentWrite 0 0 key
  else g s

/-- A host write of WO fields: while BUSY is 1 a nonzero one is dropped and counted (R46). -/
def State.hostWO (s : State) (key : Nat) (w : Word) (g : State → State) : State :=
  s.hostWr key fun s => if s.busy (key / 65536) && w ≠ 0 then s.badAcc else g s

/-! ## Fault reporting (R36, R347, R349, R362) -/

/-- Classes and reactions by code (R347, R348). -/
abbrev clCORR : Nat := 0
abbrev clCONT : Nat := 1
abbrev clBLK : Nat := 2
abbrev clFATAL : Nat := 3

/-- The fault sources of a kind in bit order: class and default reaction (R213, R242, R270, R296, R323, R346,
R362). -/
def srcTable : Kind → List (Nat × Nat)
  | .dev => [(3, 5), (1, 1)]
  | .clk => [(3, 5), (3, 5), (1, 1), (1, 1)]
  | .pwr => [(1, 1), (3, 5), (3, 5), (1, 1), (1, 1), (3, 5), (0, 0)]
  | .flt => [(0, 0), (1, 1), (1, 1), (1, 1), (3, 5)]
  | .cnt => [(0, 0), (1, 1), (2, 1)]
  | .tim => [(1, 1), (1, 1)]
  | .evt => [(0, 0), (1, 1), (1, 1), (2, 3), (2, 1)]
  | .tmg => [(0, 0), (1, 1), (1, 1), (2, 3), (2, 3), (2, 1)]
  | .tbl => [(0, 0), (1, 1), (2, 3), (2, 1)]
  | .tcm => [(0, 0), (1, 1), (1, 1), (2, 1)]
  | .lrn => [(2, 3), (2, 1)]
  | .ver => [(0, 0), (1, 1)]
  | .ip | .ep => [(0, 0), (1, 1), (2, 3), (2, 1)]
  | .pg => [(1, 0), (1, 1), (2, 3), (2, 1)]
  | .bpm => [(1, 1), (1, 1), (1, 1), (1, 1), (2, 3), (2, 1)]
  | .sch => [(0, 0), (2, 3), (1, 1), (1, 1), (2, 1)]
  | .blg => [(0, 0), (1, 1), (2, 3), (2, 1)]
  | .msc => [(0, 0), (1, 1), (1, 1), (2, 1)]
  | .key => [(0, 0), (1, 1), (2, 1), (2, 1)]
  | .drc => [(1, 1), (1, 1), (2, 3), (2, 1)]
  | .dc => [(0, 0), (1, 1), (1, 1), (2, 3), (2, 1), (2, 1)]
  | .hst => [(0, 0), (1, 1), (1, 1)]
  | .dma => [(1, 1), (2, 3), (2, 1)]

/-- Class and default reaction of a source of a page; none where the page's kind defines no such source. -/
def srcInfo (page src : Nat) : Option (Nat × Nat) :=
  match kindOf page with | some (k, _) => (srcTable k)[src]? | none => none

/-- The bit of a kind's quiesce-timeout source (R44, R362). VER names none. -/
def qtoBit : Kind → Option Nat
  | .cnt => some 2 | .evt => some 4 | .tmg => some 5 | .tbl | .tcm | .ip | .ep | .pg | .blg | .msc | .key | .drc => some 3
  | .lrn => some 1 | .bpm | .dc => some 5 | .sch => some 4 | .dma => some 2
  | _ => none

/-- A source of a present page fires: FLTSTAT records it, FLTCNT counts it, and, unless FLTMASK keeps it, it is on
its way to the hub, which runs from step 3 of R52 (R36, R350). -/
def State.fire (s : State) (page src : Nat) (inj : Bool) (info : Word) : State :=
  let s := s.setB (HDR.FLTSTAT page) src
  let s := if inj then s.addF (HDR.FLTCNT page) 30 16 1 else s.addF (HDR.FLTCNT page) 15 0 1
  let s := s.event page 2 1 fun q => q % 32 == src
  if s.fb (HDR.FLTMASK page) src || !s.dev.fused then s
  else { s with flt := { s.flt with events := s.flt.events ++ [⟨page, src, inj, info, s.now⟩] } }

/-- A real event with no INFO layout. -/
def State.fault (s : State) (page src : Nat) : State := s.fire page src false 0

/-! ## Time -/

/-- Edges of a clock of f kHz in the first t ns. -/
def edges (khz t : Nat) : Nat := t * khz / 1000000

/-- The clock of a page's counting domain in kHz (the clock domains of chapter 01, R389). -/
def domainKHz (k : Kind) : Nat :=
  match k with
  | .dev | .clk | .pwr | .flt | .cnt | .evt | .key => 250000
  | .hst | .dma | .tim => 1000000
  | .drc | .dc => 900000
  | .tcm | .tbl | .lrn => 1500000
  | _ => 3000000

/-- Tarn cells in use (TARNUSED, R178): those of every stored packet. -/
def State.tarnUsed (s : State) : Nat := s.tmg.data.foldl (fun a e => a + e.2.n) 0

/-- What a counter adds while time passes from t0 to t1 (R398): CYCLES the edges of its domain, IDLESLOT the core
clocks in which no packet has started, TARNCELLS the cells in use once per µs. -/
def State.passing (s : State) (k : Kind) (inst ev t0 t1 : Nat) : Nat :=
  if ev = 1 then edges (domainKHz k) t1 - edges (domainKHz k) t0
  else if k = .ip && ev = 0x104 then edges 3000000 t1 - edges 3000000 t0 - kgetD s.tim.starts inst 0
  else if k = .tmg && ev = 0x106 then (t1 / 1000 - t0 / 1000) * s.tarnUsed
  else 0

/-- The counters of time-driven events advance between two model times. -/
def State.cycles (s : State) (t0 t1 : Nat) : State :=
  if s.fb CNT.STAT 2 then s
  else s.regs.foldl (fun t e =>
    let page := e.1 / 65536
    let o := e.1 % 65536
    if e.1 < 16777216 && 128 ≤ o && o < 160 && fld e.2 24 24 = 1 then
      match kindOf page with
      | some (k, i) => t.cntAdd page ((o - 128) / 4) (s.passing k i (fld e.2 15 0) t0 t1)
      | none => t
    else t) s

/-- The TIM count after d ns, with RATE's adjustment: each nanosecond adds 1 + ADJ * 2^-32 (R82). -/
def timAdd (count : BitVec 64) (frac : BitVec 32) (rate : Word) (d : Nat) : BitVec 64 × BitVec 32 :=
  let v : Int := (count.toNat * 4294967296 + frac.toNat : Nat) + (d : Int) * (4294967296 + sext 32 rate.toNat)
  (BitVec.ofInt 64 (v / 4294967296), BitVec.ofInt 32 v)

/-- Time passes. -/
def State.advance (s : State) (d : Nat) : State :=
  let t := timAdd s.tim.count s.tim.frac (s.rd TIM.RATE) d
  let s' := s.cycles s.now (s.now + d)
  let n := edges 3000000 (s.now + d) - edges 3000000 s.now
  let starts := (s.tim.starts.map fun (e : Nat × Nat) => (e.1, e.2 - n)).filter fun e => e.2 ≠ 0
  { s' with now := s.now + d, tim := { s'.tim with count := t.1, frac := t.2, starts := starts } }

/-- Time passes up to a model time, if that is still ahead: an event whose deadline it is has come (log entry 6). -/
def State.until (s : State) (t : Nat) : State := s.advance (t - s.now)

/-- Time passes up to the next multiple of a period. -/
def State.nextTick (s : State) (period : Nat) : State := s.until ((s.now / period + 1) * period)

/-- The TIM count as a number. -/
def State.tai (s : State) : Nat := s.tim.count.toNat

/-- Time passes until the TIM count is at or past an instant (R25; log entry 6). With RATE in its range the count
rises in every nanosecond, so the gap itself, corrected once by the rate, reaches the instant. -/
def State.untilInstant (s : State) (i : Nat) : State :=
  if i ≤ s.tai then s
  else
    let gap := i - s.tai
    let r : Int := 4294967296 + sext 32 (s.rd TIM.RATE).toNat
    s.advance (Int.toNat (((gap : Int) * 4294967296 + r - 1) / r))

/-! ## Checksums -/

/-- One byte into a reflected CRC-32 with the given polynomial. -/
def crcByte (poly : Word) (c : Word) (b : Byte) : Word :=
  (List.range 8).foldl (fun x _ => if x.getLsbD 0 then (x >>> 1) ^^^ poly else x >>> 1) (c ^^^ b.setWidth 32)

/-- The IEEE 802.3 CRC-32 that ends a frame (R76). -/
def crc32 (l : List Byte) : Word := ~~~ (l.foldl (crcByte 0xEDB88320) 0xFFFFFFFF)

/-- CRC-32C (RFC 3720; chapter 03, Format). -/
def crc32c (l : List Byte) : Word := ~~~ (l.foldl (crcByte 0x82F63B78) 0xFFFFFFFF)

/-- The FCS of a frame as its last four bytes, least significant first. -/
def fcsOf (l : List Byte) : List Byte := leBytes 4 (crc32 l).toNat

end Sys2Proof.Machine
end

