-- ==== Sys2Proof/Machine/Crypto.lean ====
section
/-! DEFINITION. The ciphers and hashes the spec names by their standards: AES (FIPS 197), GCM (SP 800-38D), the AES key
wrap (RFC 3394), and SHA-256 with HMAC (FIPS 180-4, FIPS 198-1). -/

namespace Sys2Proof.Machine

/-! ## AES -/

/-- Multiplication in GF(2^8) modulo x^8 + x^4 + x^3 + x + 1. -/
def gmul (a b : Byte) : Byte :=
  ((List.range 8).foldl (fun (acc : Byte × Byte) i =>
    (if b.getLsbD i then acc.1 ^^^ acc.2 else acc.1,
     if acc.2.msb then (acc.2 <<< 1) ^^^ 0x1B else acc.2 <<< 1)) ((0 : Byte), a)).1

/-- The inverse, a^254; 0 for 0. -/
def ginv (a : Byte) : Byte :=
  let a2 := gmul a a
  let a3 := gmul a2 a
  let a6 := gmul a3 a3
  let a12 := gmul a6 a6
  let a15 := gmul a12 a3
  let a30 := gmul a15 a15
  let a60 := gmul a30 a30
  let a120 := gmul a60 a60
  let a126 := gmul a120 a6
  let a127 := gmul a126 a
  gmul a127 a127

def sbox (a : Byte) : Byte :=
  let b := ginv a
  b ^^^ b.rotateLeft 1 ^^^ b.rotateLeft 2 ^^^ b.rotateLeft 3 ^^^ b.rotateLeft 4 ^^^ 0x63

def invSbox (a : Byte) : Byte := ginv (a.rotateLeft 1 ^^^ a.rotateLeft 3 ^^^ a.rotateLeft 6 ^^^ 0x05)

/-- Exclusive or of two lists. -/
def xorL (a b : List Byte) : List Byte := a.zipWith (· ^^^ ·) b

/-- Four bytes of the key schedule. -/
abbrev KWord := List Byte

/-- The key schedule continued to n words; `ks` holds those made so far, newest first. -/
def expand (nk n : Nat) : Nat → Byte → List KWord → List KWord
  | 0, _, ks => ks.reverse
  | fuel + 1, rcon, ks =>
    if n ≤ ks.length then ks.reverse
    else
      let i := ks.length
      let prev := ks.head?.getD []
      let base := (ks[nk - 1]?).getD []
      let t :=
        if i % nk = 0 then xorL ((prev.drop 1 ++ prev.take 1).map sbox) [rcon, 0, 0, 0]
        else if 6 < nk && i % nk = 4 then prev.map sbox
        else prev
      expand nk n fuel (if i % nk = 0 then gmul rcon 2 else rcon) (xorL base t :: ks)

/-- Consecutive groups of n. -/
def groups {α : Type} (n : Nat) : Nat → List α → List (List α)
  | 0, _ => []
  | fuel + 1, l => if l.isEmpty then [] else l.take n :: groups n fuel (l.drop n)

/-- Round keys of a 16- or 32-byte key, 16 bytes each. -/
def roundKeys (key : List Byte) : List (List Byte) :=
  let nk := key.length / 4
  let ks := expand nk (4 * (nk + 7)) 64 1 (groups 4 64 key).reverse
  groups 16 64 ks.flatten

/-- One column through MixColumns with the given coefficients. -/
def mixCol (cf : List Byte) (col : List Byte) : List Byte :=
  (List.range 4).map fun r => (List.range 4).foldl (fun a j =>
    a ^^^ gmul ((cf[(j + 4 - r) % 4]?).getD 0) ((col[j]?).getD 0)) 0

def shiftRows (s : List Byte) : List Byte :=
  (List.range 16).map fun i => (s[(i + 4 * (i % 4)) % 16]?).getD 0

def invShiftRows (s : List Byte) : List Byte :=
  (List.range 16).map fun i => (s[(i + 16 - 4 * (i % 4)) % 16]?).getD 0

def encRounds : List (List Byte) → List Byte → List Byte
  | [], s => s
  | [k], s => xorL (shiftRows (s.map sbox)) k
  | k :: ks, s => encRounds ks (xorL ((groups 4 4 (shiftRows (s.map sbox))).flatMap (mixCol [2, 3, 1, 1])) k)

/-- AES of one block. -/
def aes (key block : List Byte) : List Byte :=
  match roundKeys key with
  | k :: ks => encRounds ks (xorL block k)
  | [] => block

def decRounds : List (List Byte) → List Byte → List Byte
  | [], s => s
  | [k], s => xorL ((invShiftRows s).map invSbox) k
  | k :: ks, s => decRounds ks ((groups 4 4 (xorL ((invShiftRows s).map invSbox) k)).flatMap (mixCol [14, 11, 13, 9]))

/-- The inverse cipher of one block. -/
def aesInv (key block : List Byte) : List Byte :=
  match (roundKeys key).reverse with
  | k :: ks => decRounds ks (xorL block k)
  | [] => block

/-! ## GCM -/

/-- Multiplication in GF(2^128) as GHASH takes it, on numbers whose bit 127 is the first bit. -/
def ghMul (x y : Nat) : Nat :=
  ((List.range 128).foldl (fun (acc : Nat × Nat) i =>
    (if bit x (127 - i) then Nat.xor acc.1 acc.2 else acc.1,
     if bit acc.2 0 then Nat.xor (acc.2 / 2) (0xE1 * 2 ^ 120) else acc.2 / 2)) (0, y)).1

/-- Bytes padded with zeros to a multiple of 16. -/
def pad16 (l : List Byte) : List Byte := l ++ List.replicate ((16 - l.length % 16) % 16) 0

def ghash (h : Nat) (l : List Byte) : Nat :=
  (groups 16 (l.length / 16) l).foldl (fun y b => ghMul (Nat.xor y (beNat b)) h) 0

/-- Counter mode from a block whose last word counts on. -/
def ctr (key iv : List Byte) : Nat → Nat → List Byte → List Byte
  | 0, _, _ => []
  | fuel + 1, n, l =>
    if l.isEmpty then []
    else xorL (l.take 16) (aes key (iv ++ beBytes 4 n)) ++ ctr key iv fuel (n + 1) (l.drop 16)

/-- The 16-byte tag over associated data and ciphertext, with a 12-byte IV. -/
def gcmTag (key iv aad ct : List Byte) : List Byte :=
  let h := beNat (aes key (List.replicate 16 0))
  let y := ghash h (pad16 aad ++ pad16 ct ++ beBytes 8 (8 * aad.length) ++ beBytes 8 (8 * ct.length))
  xorL (beBytes 16 y) (aes key (iv ++ beBytes 4 1))

/-- Encryption and decryption of the data. -/
def gcmCrypt (key iv data : List Byte) : List Byte := ctr key iv (data.length / 16 + 1) 2 data

/-! ## AES key wrap -/

/-- The unwrap steps from t down to 1: A and the n semiblocks. -/
def unwrapSteps (key : List Byte) (n : Nat) : Nat → Nat → List (List Byte) → Nat × List (List Byte)
  | 0, a, r => (a, r)
  | t + 1, a, r =>
    let i := t % n
    let b := aesInv key (beBytes 8 (Nat.xor a (t + 1)) ++ (r[i]?).getD [])
    unwrapSteps key n t (beNat (b.take 8)) (r.set i (b.drop 8))

/-- RFC 3394 unwrap with the default initial value; none where the integrity check fails. -/
def keyUnwrap (key blob : List Byte) : Option (List Byte) :=
  let sb := groups 8 (blob.length / 8) blob
  match sb with
  | a :: r =>
    let x := unwrapSteps key r.length (6 * r.length) (beNat a) r
    if x.1 = 0xA6A6A6A6A6A6A6A6 then some x.2.flatten else none
  | [] => none

/-! ## SHA-2 -/

/-- Integer root of degree 2 or 3 of a number below 2^bits, by bits from the top. -/
def root (deg : Nat) : Nat → Nat → Nat → Nat
  | 0, _, acc => acc
  | k + 1, v, acc => root deg k v (if (acc + 2 ^ k) ^ deg ≤ v then acc + 2 ^ k else acc)

/-- The first n primes. -/
def primes : Nat → Nat → Nat → List Nat → List Nat
  | 0, _, _, acc => acc.reverse
  | fuel + 1, n, p, acc =>
    if n ≤ acc.length then acc.reverse
    else primes fuel n (p + 1) (if acc.all fun q => p % q ≠ 0 then p :: acc else acc)

/-- The first w bits of the fractional part of the degree-th root of p. -/
def rootFrac (deg w p : Nat) : Nat := root deg (w + 10) (p * 2 ^ (deg * w)) 0 % 2 ^ w

/-- The parameters of a SHA-2 function: word width, rounds, and the rotations of the four sigma functions (the third of
the small ones a shift). -/
structure Sha where
  w : Nat
  rounds : Nat
  bs0 : Nat × Nat × Nat
  bs1 : Nat × Nat × Nat
  ss0 : Nat × Nat × Nat
  ss1 : Nat × Nat × Nat

def sha256P : Sha := ⟨32, 64, (2, 13, 22), (6, 11, 25), (7, 18, 3), (17, 19, 10)⟩
def sha512P : Sha := ⟨64, 80, (28, 34, 39), (14, 18, 41), (1, 8, 7), (19, 61, 6)⟩

def rotr (w x n : Nat) : Nat := x / 2 ^ n + x % 2 ^ n * 2 ^ (w - n)
def big (w : Nat) (r : Nat × Nat × Nat) (x : Nat) : Nat := Nat.xor (Nat.xor (rotr w x r.1) (rotr w x r.2.1)) (rotr w x r.2.2)
def small (w : Nat) (r : Nat × Nat × Nat) (x : Nat) : Nat := Nat.xor (Nat.xor (rotr w x r.1) (rotr w x r.2.1)) (x / 2 ^ r.2.2)

/-- The message schedule, newest first. -/
def sched (p : Sha) : Nat → List Nat → List Nat
  | 0, l => l
  | k + 1, l =>
    let g (i : Nat) : Nat := (l[i]?).getD 0
    sched p k (((small p.w p.ss1 (g 1) + g 6 + small p.w p.ss0 (g 14) + g 15) % 2 ^ p.w) :: l)

/-- One round. -/
def shaRound (p : Sha) (v : List Nat) (kw : Nat × Nat) : List Nat :=
  match v with
  | [a, b, c, d, e, f, g, h] =>
    let m := 2 ^ p.w
    let ch := Nat.xor (Nat.land e f) (Nat.land (m - 1 - e) g)
    let maj := Nat.xor (Nat.xor (Nat.land a b) (Nat.land a c)) (Nat.land b c)
    let t1 := h + big p.w p.bs1 e + ch + kw.1 + kw.2
    let t2 := big p.w p.bs0 a + maj
    [(t1 + t2) % m, a, b, c, (d + t1) % m, e, f, g]
  | l => l

/-- One block. -/
def shaBlock (p : Sha) (ks : List Nat) (hs : List Nat) (block : List Byte) : List Nat :=
  let ws := (sched p (p.rounds - 16) ((groups (p.w / 8) 16 block).map beNat).reverse).reverse
  let r := (ks.zip ws).foldl (shaRound p) hs
  (hs.zip r).map fun x => (x.1 + x.2) % 2 ^ p.w

/-- The padded message. -/
def shaPad (p : Sha) (l : List Byte) : List Byte :=
  let bs := 2 * p.w
  let len := p.w / 4
  l ++ [0x80] ++ List.replicate ((2 * bs - (l.length + 1 + len) % bs) % bs) 0 ++ beBytes len (8 * l.length)

/-- The hash words of a message from initial values. -/
def sha (p : Sha) (init : List Nat) (l : List Byte) : List Nat :=
  let ks := (primes 500 p.rounds 2 []).map (rootFrac 3 p.w)
  let m := shaPad p l
  (groups (2 * p.w) (m.length / (2 * p.w)) m).foldl (shaBlock p ks) init

def sha256 (l : List Byte) : List Byte :=
  (sha sha256P ((primes 500 8 2 []).map (rootFrac 2 32)) l).flatMap (beBytes 4)

/-- SHA-384: its initial values are those of the ninth to sixteenth primes. -/
def sha384 (l : List Byte) : List Byte :=
  ((sha sha512P (((primes 500 16 2 []).drop 8).map (rootFrac 2 64)) l).take 6).flatMap (beBytes 8)

/-- HMAC-SHA-256. -/
def hmac256 (key msg : List Byte) : List Byte :=
  let k := if 64 < key.length then sha256 key else key
  let k := k ++ List.replicate (64 - k.length) 0
  sha256 (k.map (· ^^^ 0x5C) ++ sha256 (k.map (· ^^^ 0x36) ++ msg))

end Sys2Proof.Machine
end

