-- ==== Sys2Proof/Machine/User.lean ====
section
/-! DEFINITION. Users and their pages: which functions answer, which users are usable (R327), denied accesses (R48) and
writes of the sections of a user page (R4, R48, R65). -/

namespace Sys2Proof.Machine

/-- Function u exists on the link: the PF, or a VF that VF Enable and NumVFs admit (R30, R327). -/
def State.fnHere (s : State) (u : Nat) : Bool := u = 0 || (s.pci.vfEn && decide (u ≤ s.pci.numVfs))

/-- User u is usable (R327), and its function is not in D3hot, where it issues no request (R324, log entry 124). -/
def State.userOk (s : State) (u : Nat) : Bool := s.fnHere u && s.pci.bme.contains u && !s.pci.d3.contains u

/-- An access to a resource that is not assigned (R48). -/
def State.denied (s : State) (u : Nat) : State := s.bump (USER.DENIED u)

/-- A write of function u's BAR2 page in a section of the unit whose page is given: no function that does not exist
takes it, LOAD drops it (R65), and an absent unit counts it (R4). -/
def State.userWr (s : State) (u off page : Nat) (g : State → State) : State :=
  if !s.fnHere u then s
  else if s.dev.state = .load then s.badAcc
  else if !s.present page then s.absentWrite 1 u off
  else g s

end Sys2Proof.Machine
end

