-- ==== Sys2Proof/Machine/Key.lean ====
section
/-! DEFINITION. KEY: the key store (R282 to R287, R291), the KEYSPI agent port (R288 to R290) and the users' import and
erase commands. -/

namespace Sys2Proof.Machine

/-! ## Results (R287) -/

abbrev krOK : Nat := 0
abbrev krBUSY : Nat := 1
abbrev krUNWRAP : Nat := 2
abbrev krFORMAT : Nat := 3
abbrev krSLOTRANGE : Nat := 4
abbrev krNOTRUN : Nat := 5
abbrev krCRC : Nat := 6
abbrev krDENIED : Nat := 7
abbrev krDSERR : Nat := 8

/-! ## Slots (R282, R283) -/

def State.kslot (s : State) (n : Nat) : KeySlot := kgetD s.key.slots n {}
def State.setKslot (s : State) (n : Nat) (v : KeySlot) : State := { s with key := { s.key with slots := kset s.key.slots n v } }

/-- GEN of a slot. -/
def State.kgen (s : State) (n : Nat) : Nat := ((s.kslot n).loads + s.key.zeros) % 256

/-- A cipher operation in flight holds the slot's key material. -/
def State.kheld (s : State) (n : Nat) : Bool := s.ports.any fun e => e.2.icv.any fun i => i.slot == n

/-- Load or erase a slot (R283): a slot that still holds old material refuses; otherwise GEN rises, and what operations
in flight hold becomes old material. -/
def State.kput (s : State) (n : Nat) (key salt : Option (List Byte)) (src : Nat) : State × Nat :=
  let k := s.kslot n
  if k.old then (s, krBUSY)
  else (s.setKslot n { key := key, salt := salt, src := src, loads := k.loads + 1, old := s.kheld n }, krOK)

/-- Erase a slot. -/
def State.kslotErase (s : State) (n : Nat) : State × Nat := s.kput n none none 0

/-- Every slot is erased and every GEN rises (R291). -/
def State.zeroizeAll (s : State) : State :=
  let held := (s.ports.flatMap fun e => e.2.icv.map fun i => i.slot)
  let slots := s.key.slots.map fun (e : Nat × KeySlot) =>
    (e.1, ({ loads := e.2.loads, old := e.2.old || held.contains e.1 } : KeySlot))
  { s with key := { s.key with slots := slots, zeros := s.key.zeros + 1 } }

/-- A zeroisation that KEY reports. -/
def State.zeroize (s : State) : State := s.zeroizeAll.irq pgKEY 2

/-- Base and count of user u's slots. -/
def State.kbase (s : State) (u : Nat) : Nat := s.f (KEY.UMAP0 u) 15 0
def State.kcount (s : State) (u : Nat) : Nat := s.f (KEY.UMAP1 u) 16 0

/-- The user that owns a slot. -/
def State.kowner (s : State) (n : Nat) : Option Nat :=
  (List.range 64).find? fun u => decide (s.kbase u ≤ n) && decide (n < s.kbase u + s.kcount u)

/-- SLOTINFO of a slot. -/
def State.kinfo (s : State) (n : Nat) : Nat :=
  let k := s.kslot n
  b2n k.key.isSome + b2n k.old * 2 + (match k.key with | some l => b2n (l.length = 32) * 4 | none => 0)
    + b2n k.salt.isSome * 8 + k.src % 4 * 16 + s.kgen n * 256
    + (match s.kowner n with | some u => u * 65536 + 4194304 | none => 0)

/-- KEY.STAT.LOADED. -/
def State.kloaded (s : State) : Nat := (s.key.slots.filter fun e => e.2.key.isSome).length

/-- The user ranges are disjoint and inside the store (R282). -/
def State.umapOk (s : State) : Bool :=
  let rs := ((List.range 64).map fun u => (s.kbase u, s.kcount u)).filter fun r => r.2 ≠ 0
  rs.all (fun r => decide (r.1 + r.2 ≤ 65536)) &&
    rs.all fun a => (rs.filter fun b => decide (a.1 < b.1 + b.2) && decide (b.1 < a.1 + a.2)).length == 1

/-! ## Import (R285 to R287) -/

/-- KEK(u). -/
def kek (ds : List Byte) (u : Nat) : List Byte :=
  hmac256 ds ([0, 0, 0, 1, 0x4B, 0x52, 0x59, 0x44, 0x4F, 0x4D, 0x2D, 0x4B, 0x57, 0] ++ beBytes 1 u ++ [0, 0, 1, 0])

/-- The fields of an unwrapped blob: key and salt, if every one is as R286 says. -/
def blobFields (l : List Byte) (slot : Nat) : Option (List Byte × Option (List Byte)) :=
  let klen := beNat (slice l 2 1)
  let flags := beNat (slice l 3 1)
  let zero (x : List Byte) : Bool := x.all fun b => b == 0
  if l.length = 56 && slice l 0 2 == [0x4B, 0x57] && (klen == 16 || klen == 32) && decide (flags < 2) &&
      beNat (slice l 4 2) == slot && zero (slice l 6 2) && (klen == 32 || zero (slice l 24 16)) &&
      (flags == 1 || zero (slice l 40 12)) && zero (slice l 52 4) then
    some (slice l 8 klen, if flags = 1 then some (slice l 40 12) else none)
  else none

/-- The blob user u has written: byte 4i in bits [31:24] of word i. -/
def State.kblob (s : State) (u : Nat) : List Byte :=
  (List.range 16).flatMap fun i => beBytes 4 (s.rd (USER.KWBLOB u i)).toNat

/-- A user names a slot beyond its count: denied (R48, R292), and the operation's result is SLOTRANGE. -/
def State.kRange (s : State) (u : Nat) (k : Nat) : Bool := decide (k < s.kcount u)

/-- A write of USER.KWCTL (R286, R287). -/
def State.importGo (s : State) (u : Nat) (w : Word) : State :=
  let slot := fld w 15 0
  let s := s.setF (USER.KWCTL u) 15 0 slot
  if fld w 31 31 = 0 then s
  else if s.fb (USER.KWSTAT u) 4 then s.badAcc
  else
    let inr := s.kRange u slot
    let code :=
      if !s.running pgKEY then some krNOTRUN
      else if !inr then some krSLOTRANGE
      else if s.fuses.ds.isNone || s.fb KEY.STAT 18 then some krDSERR
      else none
    let s := if inr then s else s.denied u
    let s := s.setF (USER.KWSTAT u) 4 4 1
    { s with key := { s.key with
      imports := s.key.imports ++ [{ fn := u, slot := slot, blob := s.kblob u, code := code, due := s.now + 2000 }] } }

/-- KEY_IMPORT (R286). -/
def execKeyImport (fn : Fn) (w : Word) (s : State) : Host.Outcome State Fault Refusal :=
  .next (s.userWr fn.val 0x4050 pgKEY fun s => s.importGo fn.val w)

/-- What an import does when its time is up. -/
def State.importDo (s : State) (i : KeyImp) : State × Nat :=
  match i.code with
  | some c => (s, c)
  | none =>
    match s.fuses.ds with
    | none => (s, krDSERR)
    | some ds =>
      match (keyUnwrap (kek ds i.fn) i.blob).bind fun l => blobFields l i.slot with
      | none => (s, krUNWRAP)
      | some (k, salt) => s.kput (s.kbase i.fn + i.slot) (some k) salt 2

/-- IMPORT_RESULT (R287): exactly 2 µs after the GO. -/
def execImportResult (fn : Fn) (s : State) : Host.Outcome State Fault Refusal :=
  .next (match s.key.imports.find? fun i => i.fn == fn.val with
    | none => s
    | some i =>
      let s := s.until i.due
      let s := { s with key := { s.key with imports := s.key.imports.erase i } }
      let x := s.importDo i
      if i.lost then x.1 else (x.1.setF (USER.KWSTAT fn.val) 3 0 x.2).setF (USER.KWSTAT fn.val) 4 4 0)

/-- A soft reset ends imports in progress with no effect; each still reports at its time (R287, R295). -/
def State.keyReset (s : State) : State :=
  { s with key := { s.key with
    imports := s.key.imports.map fun i => { i with code := some (i.code.getD krNOTRUN) } } }

/-- KEY's accepted work (R295): imports in progress and old generations to zeroise. -/
def State.keyWork (s : State) : Bool := !s.key.imports.isEmpty || s.key.slots.any fun e => e.2.old

/-! ## Erase and zeroise (R283, R291) -/

/-- An erase of a global slot while KEY may not be RUNNING. -/
def State.eraseOp (s : State) (n : Nat) : State × Nat := if s.running pgKEY then s.kslotErase n else (s, krNOTRUN)

/-- A write of KEY.ERASE. -/
def State.eraseWr (s : State) (w : Word) : State :=
  let s := s.setF KEY.ERASE 15 0 (fld w 15 0)
  if fld w 31 31 = 0 then s
  else if s.busy pgKEY then s.badAcc
  else
    let x := s.eraseOp (fld w 15 0)
    x.1.setF KEY.RESULT 3 0 x.2

/-- A write of USER.KERASE. -/
def State.userErase (s : State) (u : Nat) (w : Word) : State :=
  let slot := fld w 15 0
  let s := s.setF (USER.KERASE u) 15 0 slot
  if fld w 31 31 = 0 then s
  else
    let s := if s.kRange u slot then s else s.denied u
    let x := if !s.running pgKEY then (s, krNOTRUN)
      else if !s.kRange u slot then (s, krSLOTRANGE)
      else s.kslotErase (s.kbase u + slot)
    x.1.setF (USER.KWSTAT u) 3 0 x.2

/-- KEY_ERASE (R283): of the PF through KEY.ERASE, or of a user through USER.KERASE. -/
def execKeyErase (fn : Fn) (bar : Bar) (w : Word) (s : State) : Host.Outcome State Fault Refusal :=
  match bar with
  | .bar0 => .next (if fn.val = 0 then s.hostWr KEY.ERASE fun s => s.eraseWr w else s)
  | .bar2 => .next (s.userWr fn.val 0x4058 pgKEY fun s => s.userErase fn.val w)
  | .bar4 => .fault .illFormed

/-- A write of KEY.ZEROIZE (R291). -/
def State.zeroizeWr (s : State) (w : Word) : State := if fld w 15 0 = 0x2E50 then s.zeroize else s.badAcc

/-- ZEROIZE (R291). -/
def execZeroize (w : Word) (s : State) : Host.Outcome State Fault Refusal :=
  .next (s.hostWO KEY.ZEROIZE w fun s => s.zeroizeWr w)

/-! ## KEYSPI (R288 to R290) -/

/-- The length of a transaction by its OP. -/
def spiLen : Nat → Option Nat
  | 1 => some 52
  | 2 => some 8
  | 3 => some 8
  | 0xF => some 40
  | _ => none

/-- The reply of a RESULT transaction (R289). -/
def State.spiReply (s : State) (slot : Nat) : List Byte :=
  beBytes 1 (s.key.spiCode % 16) ++ beBytes 1 s.key.seq ++ beBytes 1 (b2n (s.kslot slot).key.isSome) ++ beBytes 1 (s.kgen slot)

/-- The effect of a transaction that is well formed and whose CRC matches. -/
def State.spiDo (s : State) (f : List Byte) (op slot : Nat) : State × Nat :=
  let flags := beNat (slice f 1 1)
  match op with
  | 1 =>
    if !s.running pgKEY then (s, krNOTRUN)
    else s.kput slot (some (slice f 4 (if bit flags 1 then 32 else 16))) (if bit flags 0 then some (slice f 36 12) else none) 1
  | 2 => s.eraseOp slot
  | 0xF =>
    if s.factory && s.fuses.ds.isNone then ({ s with fuses := { s.fuses with ds := some (slice f 4 32) } }, krOK)
    else (s, krDENIED)
  | _ => (s, krOK)

/-- The port acts: KEY present, SPIEN 1, from LOAD onward (R288, R59). -/
def State.spiOn (s : State) : Bool := s.present pgKEY && s.fb KEY.CFG 0 && !s.initialising

/-- A transaction ends at the rise of CS_N. -/
def State.spiTxn (s : State) (f : List Byte) : State :=
  if !s.spiOn then s
  else
    let op := beNat (slice f 0 1)
    let slot := beNat (slice f 2 2)
    let s := if op = 3 && 4 < f.length then s.emit (.keySpi ((s.spiReply slot).take (f.length - 4))) else s
    let body := f.take (f.length - 4)
    let x := if spiLen op ≠ some f.length then (s, krFORMAT)
      else if beNat (f.drop (f.length - 4)) ≠ (crc32c body).toNat then (s, krCRC)
      else s.spiDo f op slot
    let s := x.1
    let s := if op = 1 || op = 2 then { s with key := { s.key with spiCode := x.2, seq := (s.key.seq + 1) % 256 } } else s
    let s := ((s.setF KEY.SPISTAT 3 0 x.2).setF KEY.SPISTAT 15 8 s.key.seq).setF KEY.SPISTAT 31 16 slot
    let s := if x.2 = krFORMAT || x.2 = krCRC || x.2 = krDENIED then s.bump KEY.SPIERR else s
    let s := s.irq pgKEY 0
    if x.2 ≠ krOK then s.irq pgKEY 1 else s

/-- SPI_LOAD (R288). -/
def execSpiLoad (frame : List Byte) (s : State) : Host.Outcome State Fault Refusal := .next (s.spiTxn frame)

/-- SPI_ERASE (R288). -/
def execSpiErase (frame : List Byte) (s : State) : Host.Outcome State Fault Refusal := .next (s.spiTxn frame)

/-- SPI_RESULT (R289). -/
def execSpiResult (frame : List Byte) (s : State) : Host.Outcome State Fault Refusal := .next (s.spiTxn frame)

/-- PROGDS (R290). -/
def execProgds (frame : List Byte) (s : State) : Host.Outcome State Fault Refusal := .next (s.spiTxn frame)

/-- KEYSPI_FORMAT (R288). -/
def execKeyspiFormat (frame : List Byte) (s : State) : Host.Outcome State Fault Refusal := .next (s.spiTxn frame)

end Sys2Proof.Machine
end

