-- ==== Sys2Proof/Machine/EvtOps.lean ====
section
/-! DEFINITION. What other blocks need of EVT: the role, the peer's state and the journal (R376, R379, R380). -/

namespace Sys2Proof.Machine

/-- Role codes of EVT.STAT.ROLE. -/
abbrev roleNone : Nat := 0
abbrev roleActive : Nat := 1
abbrev roleStandby : Nat := 2
abbrev roleClaiming : Nat := 3

/-- Peer and self codes of EVT.STAT. -/
abbrev peerAbsent : Nat := 0
abbrev stSyncing : Nat := 1
abbrev stCurrent : Nat := 2
abbrev stStale : Nat := 3

/-- EVT.STAT fields. -/
def State.role (s : State) : Nat := s.f EVT.STAT 1 0
def State.peer (s : State) : Nat := s.f EVT.STAT 3 2
def State.self (s : State) : Nat := s.f EVT.STAT 5 4
def State.setPeer (s : State) (v : Nat) : State := if s.peer = v then s else (s.setF EVT.STAT 3 2 v).irq pgEVT 1
def State.setSelf (s : State) (v : Nat) : State := if s.self = v then s else (s.setF EVT.STAT 5 4 v).irq pgEVT 1

/-- A change of role (R376): ROLECHG and the instant in LASTROLE. -/
def State.setRole (s : State) (r : Nat) : State :=
  if s.role = r then s else ((s.setF EVT.STAT 1 0 r).wr64 EVT.LASTROLE_LO EVT.LASTROLE_HI s.tai).irq pgEVT 0

/-- An entry takes its JSEQ at the end of the journal (R380). What enters an empty journal is sent next, and its
acknowledgement is awaited from now on. -/
def State.journalPut (s : State) (e : JEntry) : State :=
  let ev := s.evt
  let ev := if ev.journal.isEmpty then { ev with sendAt := ev.jseq, ackAt := s.now } else ev
  { s with evt := { ev with journal := ev.journal ++ [(ev.jseq, e, s.now)], jseq := (ev.jseq + 1) % 4294967296 } }

/-- A bulk copy begins (R386): BULKBEGIN enters the journal, the peer is SYNCING, RESYNCS counts it. -/
def State.bulkBegin (s : State) : State :=
  let s := ((s.setPeer stSyncing).bump EVT.RESYNCS).zero [EVT.BULKROWS]
  { s with evt := { s.evt with bulk := some 0, bulkEnd := none } }.journalPut .bulkBegin

/-- A copy that AUTORESYNC 1 asks for starts once EVT is RUNNING and the link is up (R380, R388, log entry 127). -/
def State.resyncPoll (s : State) : State :=
  if s.role = roleActive && s.peer = stStale && s.fb EVT.POLICY 0 && s.running pgEVT && s.fb EVT.STAT 10 then s.bulkBegin
  else s

/-- The active unit holds its peer STALE: the journal holds nothing, a peer that becomes STALE counts, and with AUTORESYNC 1
a bulk copy follows (R380). -/
def State.peerStale (s : State) : State :=
  let s := if s.peer = stStale then s else ((s.setPeer stStale).bump EVT.STALES).irq pgEVT 2
  { s with evt := { s.evt with journal := [], bulk := none, bulkEnd := none } }.resyncPoll

/-- A full journal (R380): it fires STALE, and the peer becomes STALE. -/
def State.journalFull (s : State) : State := (s.fault pgEVT 2).peerStale

/-- An entry enters the journal of an active unit, unless it holds its peer STALE; a full journal discards it (R379,
R380). -/
def State.journal (s : State) (e : JEntry) : State :=
  if s.role = roleActive && s.peer ≠ stStale && s.evtEn then
    if s.evt.journal.length < 16384 then s.journalPut e else s.journalFull
  else s

/-- A bulk resynchronisation starts (R380, R386): entries held stay before its BULKBEGIN. -/
def State.startBulk (s : State) : State := if s.evt.journal.length < 16384 then s.bulkBegin else s.journalFull

/-- LANEUP changes, and LINK with it (R371). -/
def State.setLanes (s : State) (v : Nat) : State :=
  let up := v ≠ 0
  let was := s.fb EVT.STAT 10
  let s := (s.setF EVT.STAT 9 6 v).setF EVT.STAT 10 10 (b2n up)
  if was ≠ up then (s.irq pgEVT 6).resyncPoll else s

end Sys2Proof.Machine
end

