-- ==== Sys2Proof/Machine/Tables.lean ====
section
/-! DEFINITION. The forwarding tables (R120 to R131, R147 to R150): row images, visibility, and the hash, LPM and
Pond lookups. -/

namespace Sys2Proof.Machine

/-! ## Rows (R121) -/

/-- The key of a row in a half's map: MEM * 2^19 + ROW. -/
abbrev memKey (mem row : Nat) : Nat := mem * 524288 + row

/-- Rows of a memory; 0 where MEM is reserved (R121). -/
def rowMax (mem : Nat) : Nat :=
  if mem ≤ 1 then 393216 else if mem = 2 then 32768 else if mem = 3 then 2048
  else if mem ≤ 12 then 32768 else if mem = 13 then 196608 else 0

/-- A row image as a number; a row nothing has written is zero (R52: SRAM is zeroed). -/
def HalfTbl.row (t : HalfTbl) (mem row : Nat) : Nat := (kgetD t.rows (memKey mem row) 0).toNat

/-- The row reads as uncorrectable (R110, R155). -/
def HalfTbl.isBad (t : HalfTbl) (mem row : Nat) : Bool := t.bad.contains (memKey mem row)

/-- Bits [hi:lo] of a row image. -/
def rbits (r hi lo : Nat) : Nat := r / 2 ^ lo % 2 ^ (hi + 1 - lo)

/-- The row image with bits [hi:lo] set. -/
def rins (r hi lo v : Nat) : Nat := r - rbits r hi lo * 2 ^ lo + v % 2 ^ (hi + 1 - lo) * 2 ^ lo

/-- The half's map with a row written. -/
def HalfTbl.put (t : HalfTbl) (mem row v : Nat) : HalfTbl :=
  let b := BitVec.ofNat 512 v
  { t with rows := if b = 0 then kerase t.rows (memKey mem row) else kset t.rows (memKey mem row) b }

/-- One row write (R141); a write that changes the row enters the journal (R379). -/
def State.rowPut (s : State) (h mem row v : Nat) : State :=
  let t := s.half h
  if t.row mem row = v then s
  else (s.setHalf h (t.put mem row v)).journal (.row h mem row (BitVec.ofNat 512 v))

/-- A write that replaces the whole image without reading it also ends the row's error (R155). -/
def State.rowReplace (s : State) (h mem row v : Nat) : State :=
  let t := s.half h
  (s.setHalf h { t with bad := t.bad.filter fun k => k ≠ memKey mem row }).rowPut h mem row v

/-- INFO of TBL.ROWUNC and TCM.PONDUNC (R362). -/
def rowInfo (h mem row : Nat) : Word := BitVec.ofNat 32 (h * 268435456 + mem * 16777216 + row)

/-! ## Visibility (R122) -/

/-- VIS of a slot: the committed slots no later than it, and the slot itself. -/
def State.vis (s : State) (v : Nat) : List Nat :=
  if s.ver.order.contains v then s.ver.order.takeWhile (· ≠ v) ++ [v] else s.ver.order ++ [v]

/-- VIS of the newest committed slot; empty where none has been committed (R135). -/
def State.visNewest (s : State) : List Nat := s.ver.order

/-- A control word is visible under a VIS set (R122). -/
def visible (vis : List Nat) (ctl : Nat) : Bool :=
  bit ctl 17 && (!bit ctl 18 || vis.contains (rbits ctl 22 19)) && (!bit ctl 23 || !vis.contains (rbits ctl 27 24))

/-! ## Hash partitions (R125, R126) -/

/-- Entry bits, slots per row and key words of a FMT. -/
def fmtE (fmt : Nat) : Nat := 96 + 64 * (fmt % 4)
def fmtN (fmt : Nat) : Nat := match fmt % 4 with | 0 => 5 | 1 => 3 | 2 => 2 | _ => 1
def fmtWords (fmt : Nat) : Nat := 2 * (fmt % 4 + 1)

/-- An entry slot of a row: ENTCTL and key. -/
def entCtl (row fmt i : Nat) : Nat := rbits row (32 + fmtE fmt * i + 31) (32 + fmtE fmt * i)
def entKey (row fmt i : Nat) : Nat := rbits row (32 + fmtE fmt * i + fmtE fmt - 1) (32 + fmtE fmt * i + 32)

/-- The row with an entry slot written. -/
def entPut (row fmt i ctl key : Nat) : Nat :=
  rins row (32 + fmtE fmt * i + fmtE fmt - 1) (32 + fmtE fmt * i) (key * 4294967296 + ctl % 4294967296)

/-- A partition of a half. -/
structure Part' where
  en : Bool
  fmt : Nat
  log2 : Nat
  learn : Bool
  ageen : Bool
  hitlrn : Bool
  base : Nat
  seed0 : Word
  seed1 : Word
  lrnbase : Nat
  deriving DecidableEq, Repr

def State.partn (s : State) (h p : Nat) : Part' :=
  let w := s.rd (TBL.H_CFG0 h p)
  { en := fld w 0 0 = 1, fmt := fld w 2 1, log2 := fld w 7 3, learn := fld w 8 8 = 1, ageen := fld w 9 9 = 1,
    hitlrn := fld w 10 10 = 1, base := fld w 20 12 * 1024, seed0 := s.rd (TBL.SEED0 h p),
    seed1 := s.rd (TBL.SEED1 h p), lrnbase := s.f (TBL.LRNBASE h p) 16 0 }

/-- Key words as one number, word 0 in the most significant bits. -/
def keyNat (ws : List Nat) : Nat := ws.foldl (fun a w => a * 4294967296 + w % 4294967296) 0

/-- CRC-32C with an initial value (R126), which loads the reflected register as it is (log entry 135). -/
def crc32cInit (init : Word) (l : List Byte) : Word := ~~~ (l.foldl (crcByte 0x82F63B78) init)

/-- The two rows of a key: BASE + (Hw mod 2^LOG2ROWS) (R126). -/
def Part'.rowsOf (p : Part') (ws : List Nat) : Nat × Nat :=
  let b := ws.flatMap (beBytes 4)
  (p.base + (crc32cInit p.seed0 b).toNat % 2 ^ p.log2, p.base + (crc32cInit p.seed1 b).toNat % 2 ^ p.log2)

/-- The key's words of a stored key. -/
def keyWords (fmt key : Nat) : List Nat :=
  (List.range (fmtWords fmt)).map fun i => key / 2 ^ (32 * (fmtWords fmt - 1 - i)) % 4294967296

/-- Where an entry stands. -/
structure Loc where
  way : Nat
  row : Nat
  slot : Nat
  deriving DecidableEq, Repr, Inhabited

/-- The entry with the key that is visible under a VIS set: way 0 before way 1, the lower slot first (R127). -/
def HalfTbl.find (t : HalfTbl) (p : Part') (vis : List Nat) (ws : List Nat) : Option (Loc × Nat) :=
  let r := p.rowsOf ws
  let k := keyNat ws
  let look (way row : Nat) : Option (Loc × Nat) :=
    let img := t.row way row
    ((List.range (fmtN p.fmt)).find? fun i => visible vis (entCtl img p.fmt i) && entKey img p.fmt i == k).map
      fun i => (⟨way, row, i⟩, entCtl img p.fmt i)
  match look 0 r.1 with
  | some x => some x
  | none => look 1 r.2

/-- The key of a slot in the hit array (R141). -/
def hitKey (l : Loc) : Nat := (l.way * 524288 + l.row) * 8 + l.slot

/-! ## Lookups -/

/-- What a resource answers: a hit with its record and control word, a miss, or an uncorrectable error at a row of a
memory (R107, R110). `lpmErr` marks a miss that counts in LPMERR. -/
structure Look where
  hit : Bool := false
  ecc : Option (Nat × Nat) := none
  rec128 : Nat := 0
  ctl : Nat := 0
  loc : Option Loc := none
  lpmErr : Bool := false
  pond : Bool := false
  deriving DecidableEq, Repr, Inhabited

/-- The action record at an index, or the error of its row (R108, R110). -/
def HalfTbl.action (t : HalfTbl) (ix : Nat) (l : Look) : Look :=
  if t.isBad 2 (ix / 4) then { l with hit := false, ecc := some (2, ix / 4) }
  else { l with hit := true, rec128 := rbits (t.row 2 (ix / 4)) (128 * (ix % 4) + 127) (128 * (ix % 4)) }

/-- A hash lookup (R127). -/
def State.lookHash (s : State) (h p : Nat) (vis : List Nat) (ws : List Nat) : Look :=
  let t := s.half h
  let pt := s.partn h p
  if !pt.en then {}
  else
    let r := pt.rowsOf ws
    if t.isBad 0 r.1 then { ecc := some (0, r.1) }
    else if t.isBad 1 r.2 then { ecc := some (1, r.2) }
    else match t.find pt vis ws with
      | none => {}
      | some (l, ctl) => t.action (ctl % 131072) { ctl := ctl, loc := some l }

/-- Stride k of a family of a half (R129). -/
def State.stride (s : State) (h f k : Nat) : Nat :=
  let a := if f = 0 then TBL.STRIDE4A h else TBL.STRIDE6A h
  let b := if f = 0 then TBL.STRIDE4B h else TBL.STRIDE6B h
  if k < 6 then s.f a (5 * k + 4) (5 * k) else if k < 9 then s.f b (5 * (k - 6) + 4) (5 * (k - 6)) else 0

/-- Rows of a node that covers 2^s slots (R129). -/
def nodeRows (st : Nat) : Nat := if st > 6 then 2 ^ (st - 6) else 1

/-- Set bits among the low n bits of a number. -/
def popLow (v n : Nat) : Nat := ((List.range n).filter fun i => bit v i).length

/-- A pointer's age in commit order: VP 0 oldest, then the tagged slots in VIS order; none where not visible. -/
def ptrAge (vis : List Nat) (p : Nat) : Option Nat :=
  if !bit p 29 then none
  else if !bit p 28 then some 0
  else (vis.idxOf? (rbits p 27 24)).map (· + 1)

/-- The pointer a lookup follows: the visible one committed most recently (R128). -/
def choosePtr (vis : List Nat) (e : Nat) : Option Nat :=
  ((List.range 4).foldl (fun (acc : Option (Nat × Nat)) n =>
    let p := rbits e (32 * n + 31) (32 * n)
    match ptrAge vis p, acc with
    | none, a => a
    | some g, none => some (g, p)
    | some g, some (g', p') => if g' < g then some (g, p) else some (g', p')) none).map (·.2)

/-- The trie walk of R131 from step k; `fuel` bounds the steps left. -/
def State.lpmWalk (s : State) (h f width addr : Nat) : Nat → Nat → Nat → Nat → Look
  | 0, _, _, _ => { lpmErr := true }
  | fuel + 1, k, row, pos =>
    let t := s.half h
    let st := s.stride h f k
    let idx := addr / 2 ^ (width - (pos + st)) % 2 ^ st
    let nrow := row + idx / 64
    let b := idx % 64
    let leafBase := s.f (TBL.LEAFBASE h k) 15 0
    if leafBase ≤ nrow || 32768 ≤ nrow then { lpmErr := true }
    else if t.isBad (4 + k) nrow then { ecc := some (4 + k, nrow) }
    else
      let n := t.row (4 + k) nrow
      if bit n b then
        if k = 8 || s.stride h f (k + 1) = 0 then { lpmErr := true }
        else s.lpmWalk h f width addr fuel (k + 1)
          (rbits n 142 128 + popLow (rbits n 63 0) b * nodeRows (s.stride h f (k + 1))) (pos + st)
      else
        let j := popLow (rbits n 127 64) (b + 1)
        if j = 0 then { lpmErr := true }
        else
          let leaf := rbits n 179 160 + j - 1
          let lrow := leafBase + leaf / 32
          if 32768 ≤ lrow then { lpmErr := true }
          else if t.isBad (4 + k) lrow then { ecc := some (4 + k, lrow) }
          else
            let v := rbits (t.row (4 + k) lrow) (16 * (leaf % 32) + 15) (16 * (leaf % 32))
            let base := s.f (if f = 0 then TBL.LPMACT4 h else TBL.LPMACT6 h) 16 0
            if v = 0 then {}
            else if 131071 < base + v then { lpmErr := true }
            else t.action (base + v) {}

/-- An LPM lookup (R131): the address words, most significant first, then the instance word. -/
def State.lookLpm (s : State) (h f : Nat) (vis : List Nat) (ws : List Nat) : Look :=
  let nw := if f = 0 then 1 else 4
  let addr := keyNat (ws.take nw)
  let inst := (ws[nw]?.getD 0) % 65536
  if 4096 ≤ inst then {}
  else
    let e := f * 4096 + inst
    let t := s.half h
    if t.isBad 3 (e / 4) then { ecc := some (3, e / 4) }
    else match choosePtr vis (rbits (t.row 3 (e / 4)) (128 * (e % 4) + 127) (128 * (e % 4))) with
      | none => {}
      | some p => s.lpmWalk h f (32 * nw) addr 9 0 (p % 32768) 0

/-- A chain of a half (R147). -/
structure Chain where
  en : Bool
  first : Nat
  w : Nat
  depth : Nat
  deriving DecidableEq, Repr

def State.chain (s : State) (h c : Nat) : Chain :=
  let v := s.rd (TCM.CHAIN h c)
  { en := fld v 7 7 = 1, first := fld v 6 0, w := 1 + fld v 8 8, depth := fld v 14 9 }

/-- Key bytes, byte 0 the most significant of word 0. -/
def keyByte (ws : List Nat) (i : Nat) : Nat := (ws[i / 4]?.getD 0) / 2 ^ (8 * (3 - i % 4)) % 256

/-- The prefilter of a leading bank passes (R149). -/
def State.prefilter (s : State) (h bank : Nat) (ws : List Nat) : Bool :=
  let v := s.rd (TCM.BANKPF h bank)
  fld v 5 5 = 0 || (Nat.land (keyByte ws (fld v 4 0)) (fld v 23 16) == Nat.land (fld v 15 8) (fld v 23 16))

/-- Value and mask of one bank's row match four key words (R150). -/
def ternMatch (img : Nat) (ws : List Nat) : Bool :=
  let m := rbits img 255 128
  Nat.land (keyNat ws) m == Nat.land (rbits img 127 0) m

/-- The row matches in every bank of its group. -/
def HalfTbl.pondMatch (t : HalfTbl) (w row : Nat) (ws : List Nat) : Bool :=
  let pad := ws ++ List.replicate 8 0
  ternMatch (t.row 13 row) (pad.take 4) && (w == 1 || ternMatch (t.row 13 (row + 2048)) ((pad.drop 4).take 4))

/-- One depth group: the winning row, unless an uncorrectable matching row comes first (R150). Rows nothing has
written hold VALID 0 and cannot win. -/
def HalfTbl.pondGroup (t : HalfTbl) (vis : List Nat) (w bank : Nat) (ws : List Nat) : Option (Nat × Option Nat) :=
  let lo := memKey 13 (bank * 2048)
  let wins := ((krange t.rows lo (lo + 2048)).filter fun e =>
    visible vis (rbits e.2.toNat 287 256) && t.pondMatch w (e.1 - memKey 13 0) ws).map fun e => e.1 - memKey 13 0
  let bads := (t.bad.filter fun k => lo ≤ k && k < lo + 2048 && t.pondMatch w (k - memKey 13 0) ws).map
    fun k => k - memKey 13 0
  let mn (l : List Nat) : Option Nat := l.foldl (fun a x => match a with | none => some x | some y => some (min x y)) none
  match mn wins, mn bads with
  | none, none => none
  | some a, none => some (a, none)
  | none, some b => some (b, some b)
  | some a, some b => if b ≤ a then some (b, some b) else some (a, none)

/-- A chain lookup (R149, R150): the matching row with the lowest absolute index wins. -/
def State.lookPond (s : State) (h c : Nat) (vis : List Nat) (ws : List Nat) : Look :=
  let ch := s.chain h c
  let t := s.half h
  if !ch.en then {}
  else
    let r := (List.range ch.depth).foldl (fun (acc : Option (Nat × Option Nat)) d =>
      match acc with
      | some x => some x
      | none =>
        let bank := ch.first + d * ch.w
        if s.prefilter h bank ws then t.pondGroup vis ch.w bank ws else none) none
    match r with
    | none => {}
    | some (row, some _) => { ecc := some (13, row), pond := true }
    | some (row, none) =>
      let ctl := rbits (t.row 13 row) 287 256
      { t.action (ctl % 131072) { ctl := ctl } with pond := true }

/-- A stage's lookup in a half (R107): RES 0 always misses. -/
def State.look (s : State) (h res resid : Nat) (vis : List Nat) (ws : List Nat) : Look :=
  match res with
  | 1 => s.lookHash h (resid % 16) vis ws
  | 2 => s.lookLpm h 0 vis ws
  | 3 => s.lookLpm h 1 vis ws
  | 4 => s.lookPond h resid vis ws
  | _ => {}

/-- What a lookup leaves in the half's tables: a hash hit sets its live flag (unless HITLRN keeps it for source
lookups), an LPM error counts, an uncorrectable row fires its source (R110, R127, R131, R362). -/
def State.lookEffect (s : State) (h res resid : Nat) (source : Bool) (l : Look) : State :=
  let s := match l.loc with
    | some x =>
      if l.hit && res = 1 && (source || !(s.partn h (resid % 16)).hitlrn) then
        let t := s.half h
        if t.hits.contains (hitKey x) then s else s.setHalf h { t with hits := hitKey x :: t.hits }
      else s
    | none => s
  let s := if l.lpmErr then (s.bump TBL.LPMERR).irq pgTBL 4 else s
  match l.ecc with
  | none => s
  | some (m, r) => if l.pond then s.fire pgTCM 2 false (rowInfo h m r) else s.fire pgTBL 1 false (rowInfo h m r)

end Sys2Proof.Machine
end

