-- ==== Sys2Proof/Machine/Ver.lean ====
section
/-! DEFINITION. Rule versions: slots, holders, commit, abort, retirement and folds (R123, R158 to R163). -/

namespace Sys2Proof.Machine

/-- VER's causes. -/
abbrev irqCommitDone : Nat := 0
abbrev irqCommitRefused : Nat := 1
abbrev irqStall : Nat := 2
abbrev irqAbortDone : Nat := 3

/-- A slot's code (R158). -/
def Slot.code : Slot → Nat
  | .free => 0 | .open_ => 1 | .current => 2 | .live => 3

def Ver.slot (v : Ver) (i : Nat) : Slot := v.slots[i]?.getD .free

/-- VER.SLOTSTATE as it reads. -/
def Ver.slotState (v : Ver) : Nat :=
  (List.range 16).foldl (fun a i => a + (v.slot i).code * 4 ^ i) 0

/-- The CURRENT and the OPEN slot. -/
def Ver.current (v : Ver) : Option Nat := (List.range 16).find? fun i => v.slot i = .current
def Ver.opened (v : Ver) : Option Nat := (List.range 16).find? fun i => v.slot i = .open_

/-- STAT.OPENV: a slot is open and neither a commit nor an abort is in progress (R158). -/
def Ver.openV (v : Ver) : Option Nat := if v.busy = .none_ then v.opened else none

/-- TBL.FOLDSTAT.PEND of a slot (R123). -/
def State.pend (s : State) (v : Nat) : Bool := s.fb TBL.FOLDSTAT v

/-- VERSTATE enters the journal when SLOTSTATE or PEND changes (R379). -/
def State.jVer (s : State) : State := s.journal (.verstate (s.f TBL.FOLDSTAT 15 0) s.ver.slotState)

/-- Slots that are FREE and folded leave the commit order (R122). -/
def State.dropFolded (s : State) : State :=
  { s with ver := { s.ver with order := s.ver.order.filter fun v => !(s.ver.slot v = .free && !s.pend v) } }

/-- Retirement in commit order: the oldest LIVE slots with no holders become FREE (R163). -/
def State.retireList (s : State) : List Nat → State
  | [] => s
  | v :: rest =>
    if s.ver.slot v = .live then
      if s.f (VER.HOLDERS v) 31 0 = 0 && !s.ver.stuck.contains v then
        State.retireList (({ s with ver := { s.ver with slots := s.ver.slots.set v .free } }).jVer) rest
      else s
    else s.retireList rest

def State.retire (s : State) : State := (s.retireList s.ver.order).dropFolded

/-- A packet or copy adds a holder (R160). -/
def State.hold (s : State) (v : Nat) : State := s.addF (VER.HOLDERS v) 31 0 1

/-- A holder ends (R160); a LIVE slot may then retire. -/
def State.release (s : State) (v : Nat) : State :=
  (s.setF (VER.HOLDERS v) 31 0 (s.f (VER.HOLDERS v) 31 0 - 1)).retire

/-- Holders of several packets end. -/
def State.releaseAll (s : State) (l : List Nat) : State := l.foldl (fun t v => t.release v) s

/-! ## Commit (R161) -/

/-- A table command names the slot, versioned. -/
def TblCmd.namesSlot (c : TblCmd) (v : Nat) : Bool :=
  fld (c.words[0]?.getD 0) 11 11 = 0 && fld (c.words[0]?.getD 0) 10 7 = v &&
    [1, 2, 3, 6, 7, 8, 11].contains (fld (c.words[0]?.getD 0) 4 0)

/-- Commands accepted before the write of CTL that name the slot and have not completed (step 2 of R161). -/
def State.outstanding (s : State) (v : Nat) : Bool :=
  (s.tbl.cmds ++ s.tbl.done.map fun e => e.1).any fun c => c.namesSlot v && decide (c.seq < s.ver.upTo)

/-- The lowest-numbered FREE slot with PEND 0. -/
def State.freeSlot (s : State) : Option Nat :=
  (List.range 16).find? fun i => s.ver.slot i = .free && !s.pend i

/-- Where a commit of slot v stands that stood at w (R161): 1 step 2, commands outstanding; 0 step 3, refused; 2 step 4, no
slot FREE; 3 step 5, HOLD; 4 step 6, the switch. Step 3 is passed once: a VERERR bit set later refuses nothing. A commit
that HOLD has paused before step 5 stays where it is. -/
def State.commitWait (s : State) (v w : Nat) : Nat :=
  if s.ver.paused && w < 3 then w
  else if w < 2 && s.outstanding v then 1
  else if w < 2 && s.fb TBL.VERERR v then 0
  else if s.freeSlot.isNone then 2
  else if s.dev.state = .hold then 3
  else 4

/-- A commit's wait is brought up to date; entering step 4 with no slot counts a stall. -/
def State.commitPoll (s : State) : State :=
  match s.ver.busy with
  | .commit v w =>
    let w' := s.commitWait v w
    let s := { s with ver := { s.ver with busy := .commit v w' } }
    if w' = 2 && w ≠ 2 then (s.bump VER.STALLS).irq pgVER irqStall else s
  | _ => s

/-- DEV.STATE enters or leaves HOLD: a commit in progress pauses, or goes on (R161). -/
def State.commitHold (s : State) (hold : Bool) : State :=
  { s with ver := { s.ver with paused := hold && s.ver.busy ≠ VerBusy.none_ } }.commitPoll

/-- CTL.COMMIT is accepted only if VER is RUNNING, BUSY 0 and OPENV 1 (R161); on a standby a write of CTL is dropped
(R381). -/
def State.commitGo (s : State) : State :=
  match s.ver.openV with
  | some v =>
    if s.running pgVER && s.effState ≠ .standby then
      ({ s with ver := { s.ver with
        busy := .commit v 0, upTo := s.tbl.seq, refused := false, paused := false } }).commitPoll
    else s.badAcc
  | none => s.badAcc

/-- CTL.ABORT, accepted under the same conditions (R162). -/
def State.abortGo (s : State) : State :=
  match s.ver.openV with
  | some v =>
    if s.running pgVER && s.effState ≠ .standby then
      { s with ver := { s.ver with busy := .abort v, upTo := s.tbl.seq } }
    else s.badAcc
  | none => s.badAcc

/-- A write of VER.CTL: both bits 1 is dropped and counted. -/
def State.verCtl (s : State) (w : Word) : State :=
  if fld w 1 0 = 3 then s.badAcc
  else if fld w 1 0 = 1 then s.commitGo
  else if fld w 1 0 = 2 then s.abortGo
  else s

/-- COMMIT (R161). -/
def execCommitOpen (w : Word) (s : State) : Host.Outcome State Fault Refusal := .next (s.hostWO VER.CTL w fun s => s.verCtl w)

/-- ABORT (R162). -/
def execAbortCommit (w : Word) (s : State) : Host.Outcome State Fault Refusal := .next (s.hostWO VER.CTL w fun s => s.verCtl w)

/-- COMMIT_REFUSED (R161, step 3): the slot's VERERR bit refuses the commit and the slot stays OPEN. -/
def execCommitRefused (s : State) : Host.Outcome State Fault Refusal :=
  .next (match s.ver.busy with
    | .commit v w =>
      if s.commitWait v w = 0 && !s.ver.paused then
        ({ s with ver := { s.ver with busy := .none_, refused := true } }).irq pgVER irqCommitRefused
      else s.commitPoll
    | _ => s)

/-- The switch of R161, step 6. -/
def State.switchTo (s : State) (v n : Nat) : State :=
  let slots := s.ver.slots.map fun x => if x = .current then .live else x
  let slots := (slots.set v .current).set n .open_
  let s := { s with ver := { s.ver with slots := slots, order := s.ver.order ++ [v], busy := .none_ } }
  let s := s.setF TBL.VERERR n n 0
  let s := (s.wr64 VER.LASTCOMMIT_LO VER.LASTCOMMIT_HI s.tai).bump VER.COMMITS
  (s.irq pgVER irqCommitDone).jVer.retire

/-- COMMIT_SWITCH (R161): once no wait is left, the switch takes place; until then, and in HOLD (R365), the commit waits. -/
def execCommitSwitch (s : State) : Host.Outcome State Fault Refusal :=
  .next (
    let s := s.commitPoll
    match s.ver.busy with
    | .commit v 4 =>
      (match s.freeSlot with
        | some n => s.switchTo v n
        | none => s)
    | _ => s)

/-! ## Rows on the fold list (R123, R162) -/

/-- The control word after a fold of slot u. -/
def foldCtl (u c : Nat) : Nat :=
  let c := if bit c 18 && rbits c 22 19 = u then setBit c 18 false else c
  if bit c 23 && rbits c 27 24 = u then setBit c 17 false else c

/-- The control word after an undo of slot u. -/
def undoCtl (u c : Nat) : Nat :=
  let c := if bit c 18 && rbits c 22 19 = u then setBit c 17 false else c
  if bit c 23 && rbits c 27 24 = u then setBit c 23 false else c

/-- A root pointer is tagged with slot u. -/
def ptrTagged (u p : Nat) : Bool := bit p 29 && bit p 28 && rbits p 27 24 == u

/-- One root entry after a fold: the tagged pointer gets VP 0, the one that had VP 0 gets VALID 0. -/
def foldRoot (u e : Nat) : Nat :=
  let ps := (List.range 4).map fun n => rbits e (32 * n + 31) (32 * n)
  let ps := if ps.any (ptrTagged u) then
      ps.map fun p => if ptrTagged u p then setBit p 28 false
        else if bit p 29 && !bit p 28 then setBit p 29 false else p
    else ps
  (List.range 4).foldl (fun a n => a + (ps[n]?.getD 0) * 2 ^ (32 * n)) 0

/-- One root entry after an undo: the tagged pointer gets VALID 0. -/
def undoRoot (u e : Nat) : Nat :=
  (List.range 4).foldl (fun a n =>
    let p := rbits e (32 * n + 31) (32 * n)
    a + (if ptrTagged u p then setBit p 29 false else p) * 2 ^ (32 * n)) 0

/-- The format of the partition a hash row belongs to. -/
def State.rowFmt (s : State) (h row : Nat) : Option Nat :=
  ((List.range 16).find? fun p => let pt := s.partn h p
    pt.en && pt.base ≤ row && decide (row < pt.base + 2 ^ pt.log2)).map fun p => (s.partn h p).fmt

/-- A row image with every control word mapped. -/
def mapCtl (fmt row : Nat) (g : Nat → Nat) : Nat :=
  (List.range (fmtN fmt)).foldl (fun r i => entPut r fmt i (g (entCtl r fmt i)) (entKey r fmt i)) row

/-- A row after a fold (undo false) or undo of slot u, by its memory. -/
def State.versionFix (s : State) (h mem row u : Nat) (undo : Bool) : Nat :=
  let img := (s.half h).row mem row
  let g := if undo then undoCtl u else foldCtl u
  if mem ≤ 1 then (match s.rowFmt h row with | some f => mapCtl f img g | none => img)
  else if mem = 3 then
    (List.range 4).foldl (fun r i => rins r (128 * i + 127) (128 * i)
      ((if undo then undoRoot u else foldRoot u) (rbits r (128 * i + 127) (128 * i)))) img
  else if mem = 13 then rins img 287 256 (g (rbits img 287 256))
  else img

/-- Every fold-list row of slot u in a half is fixed; an uncorrectable row is left and reported (R123). -/
def State.fixHalf (s : State) (h u : Nat) (undo : Bool) : State :=
  let mine := (s.half h).fold.filter fun e => e.1 = u
  let s := mine.foldl (fun t e =>
    let mem := e.2 / 524288
    let row := e.2 % 524288
    if (t.half h).isBad mem row then t.fire pgTBL 1 false (rowInfo h mem row)
    else t.rowPut h mem row (t.versionFix h mem row u undo)) s
  s.setHalf h { s.half h with fold := (s.half h).fold.filter fun e => e.1 ≠ u }

/-- The slot's PEND bit clears (R123, R162); a change enters the journal (R379). -/
def State.pendClear (s : State) (u : Nat) : State := if s.pend u then (s.setF TBL.FOLDSTAT u u 0).jVer else s

/-- ABORT_UNDO_END (R162): once no command of the slot is outstanding, the undo ends and the slot reopens. -/
def execAbortUndoEnd (s : State) : Host.Outcome State Fault Refusal :=
  .next (match s.ver.busy with
    | .abort v =>
      if s.outstanding v then s
      else
        let s := ((s.fixHalf 0 v true).fixHalf 1 v true).pendClear v
        let s := s.setF TBL.VERERR v v 0
        ({ s with ver := { s.ver with busy := .none_, refused := false } }).irq pgVER irqAbortDone
    | _ => s)

/-! ## Folds (R123) -/

/-- The oldest committed slot with PEND 1 that no LIVE slot precedes. -/
def State.foldable (s : State) : Option Nat :=
  match (s.ver.order.find? fun v => s.pend v) with
  | some u => if (s.ver.order.takeWhile (· ≠ u)).any fun v => s.ver.slot v = .live then none else some u
  | none => none

/-- FOLD_START (R123): TBL RUNNING, on a unit that is not a standby (R381). -/
def execFoldStart (s : State) : Host.Outcome State Fault Refusal :=
  .next (if s.running pgTBL && s.effState ≠ .standby && s.tbl.folding.isNone then
      { s with tbl := { s.tbl with folding := s.foldable } }
    else s)

/-- FOLD_END (R123): every row of the slot's fold list is visited, its PEND bit clears and FOLDDONE is set. A fold pauses
while TBL is not RUNNING (R157) and on a standby (R381), and a slot that the peer has folded meanwhile has nothing left. -/
def execFoldEnd (s : State) : Host.Outcome State Fault Refusal :=
  .next (match s.tbl.folding with
    | some u =>
      if !s.running pgTBL || s.effState = .standby then s
      else if !s.pend u then { s with tbl := { s.tbl with folding := none } }
      else
        let s := (s.fixHalf 0 u false).fixHalf 1 u false
        let s := ({ s with tbl := { s.tbl with folding := none } }).pendClear u
        ((s.irq pgTBL 1).journal (.foldDone u)).dropFolded.commitPoll
    | none => s)

/-! ## Quiesce and reset (R177) -/

/-- VER's accepted work: a commit or abort in progress. -/
def State.verWork (s : State) : Bool := s.ver.busy ≠ .none_

/-- A soft reset ends a waiting commit without effect; an abort continues. -/
def State.verReset (s : State) : State :=
  match s.ver.busy with
  | .commit _ _ => { s with ver := { s.ver with busy := .none_ } }
  | _ => s

/-- VER.STAT as it reads. -/
def State.verStat (s : State) : Nat :=
  let v := s.ver
  v.current.getD 0 + b2n v.current.isSome * 16 + v.opened.getD 0 * 32 + b2n v.openV.isSome * 512
    + b2n (v.busy ≠ .none_) * 1024
    + (match v.busy with | .commit c w => s.commitWait c w % 4 | .abort x => b2n (s.outstanding x) | .none_ => 0) * 2048
    + b2n v.refused * 8192

end Sys2Proof.Machine
end

