-- ==== Sys2Proof/Machine/TblCmd.lean ====
section
/-! DEFINITION. The table command engine (R123, R133 to R141, R151, R152, R155, R157). -/

namespace Sys2Proof.Machine

/-! ## Command words and statuses (R134, R136) -/

abbrev stOK : Nat := 0
abbrev stEXISTS : Nat := 1
abbrev stNOTFOUND : Nat := 2
abbrev stFULL : Nat := 3
abbrev stLOCKED : Nat := 4
abbrev stBADVER : Nat := 5
abbrev stBADARG : Nat := 6
abbrev stBADSTATE : Nat := 7
abbrev stROWBUSY : Nat := 8
abbrev stECC : Nat := 9
abbrev stQUIESCED : Nat := 10

/-- TBL's causes. -/
abbrev irqCMPL : Nat := 0
abbrev irqFOLDDONE : Nat := 1
abbrev irqAGESLIP : Nat := 2
abbrev irqSCRUBUNC : Nat := 3

def TblCmd.w (c : TblCmd) (i : Nat) : Nat := (c.words[i]?.getD 0).toNat
def TblCmd.op (c : TblCmd) : Nat := c.w 0 % 32
def TblCmd.names (c : TblCmd) (h : Nat) : Bool := bit (c.w 0) (5 + h)
def TblCmd.vslot (c : TblCmd) : Nat := rbits (c.w 0) 10 7
def TblCmd.imm (c : TblCmd) : Bool := bit (c.w 0) 11
def TblCmd.part (c : TblCmd) : Nat := rbits (c.w 0) 15 12
def TblCmd.static (c : TblCmd) : Bool := bit (c.w 0) 16
def TblCmd.fam (c : TblCmd) : Nat := rbits (c.w 0) 17 17
def TblCmd.row (c : TblCmd) : Nat := rbits (c.w 1) 23 0
def TblCmd.mem (c : TblCmd) : Nat := rbits (c.w 1) 27 24
def TblCmd.act (c : TblCmd) : Nat := rbits (c.w 2) 16 0
def TblCmd.inst (c : TblCmd) : Nat := rbits (c.w 3) 11 0

/-- The first n key words. -/
def TblCmd.key (c : TblCmd) (n : Nat) : List Nat := (List.range n).map fun i => c.w (4 + i)

/-- The row image of a ROWWRITE. -/
def TblCmd.img (c : TblCmd) : Nat := (List.range 16).foldl (fun a i => a + c.w (4 + i) * 2 ^ (32 * i)) 0

/-- Commands that take VSLOT or IMM (R134): ADD, DEL, FIND, ROOTSET, PONDWR, PONDDEL, FLUSH. -/
def opVersions (op : Nat) : Bool := [1, 2, 3, 6, 7, 8, 11].contains op

/-- A versioned command. -/
def TblCmd.versioned (c : TblCmd) : Bool := opVersions c.op && !c.imm

/-- What a command did in one half: its status, the location found or written, the control word found, moves, and
row data. -/
structure HalfRes where
  st : Nat := 0
  loc : Loc := ⟨0, 0, 0⟩
  ctl : Nat := 0
  moves : Nat := 0
  data : Nat := 0
  deriving DecidableEq, Repr, Inhabited

/-! ## Fold list (R123) -/

/-- A row is appended to the fold list of its half for a slot. -/
def HalfTbl.fold1 (t : HalfTbl) (v key : Nat) : HalfTbl := { t with fold := t.fold ++ [(v, key)] }

/-- A write of a version field with slot v: the row is recorded and PEND is set. -/
def State.markFold (s : State) (h v key : Nat) : State :=
  let s := s.setHalf h ((s.half h).fold1 v key)
  if s.pend v then s else (s.setB TBL.FOLDSTAT v).jVer

/-- The slots that a control word's version fields name. -/
def ctlTags (ctl : Nat) : List Nat :=
  (if bit ctl 18 then [rbits ctl 22 19] else []) ++ if bit ctl 23 then [rbits ctl 27 24] else []

/-- The tags of a moved entry are recorded for its new row. -/
def State.markTags (s : State) (h ctl key : Nat) : State := (ctlTags ctl).foldl (fun t v => t.markFold h v key) s

/-- The slots that the version fields of a row image name: valid hash entries, root pointers, a Pond companion. -/
def State.imgTags (s : State) (h mem row img : Nat) : List Nat :=
  let valid (c : Nat) : List Nat := if bit c 17 then ctlTags c else []
  if mem ≤ 1 then
    match s.rowFmt h row with
    | some f => (List.range (fmtN f)).flatMap fun i => valid (entCtl img f i)
    | none => []
  else if mem = 3 then
    (List.range 16).flatMap fun n =>
      let p := rbits img (32 * n + 31) (32 * n)
      if bit p 29 && bit p 28 then [rbits p 27 24] else []
  else if mem = 13 then valid (rbits img 287 256)
  else []

/-- FOLDLVL capacity: 262,144 row references (R120). -/
abbrev foldCap : Nat := 262144

/-! ## Hash entries -/

/-- An entry slot is written in its row's one access (R141). -/
def State.slotPut (s : State) (h way row fmt i ctl key : Nat) : State :=
  s.rowPut h way row (entPut ((s.half h).row way row) fmt i ctl key)

/-- The lowest slot of a row with VALID 0. -/
def freeIn (img fmt : Nat) : Option Nat := (List.range (fmtN fmt)).find? fun i => !bit (entCtl img fmt i) 17

/-- LOCK of a hash row (R125). -/
def HalfTbl.locked (t : HalfTbl) (way row : Nat) : Bool := bit (t.row way row) 0

/-- The displacement search: rows reached (each with the row and slot its entry would come from), the rows of the
current depth, and the row with a free slot once one is found. Rows are keyed as MEM and ROW. -/
structure Kick where
  prev : KMap (Option (Nat × Nat)) := []
  front : List Nat := []
  found : Option (Nat × Nat) := none
  deriving DecidableEq, Repr, Inhabited

/-- One entry of the search: its other row, unless that is locked, uncorrectable or reached already. -/
def HalfTbl.kickSlot (t : HalfTbl) (p : Part') (node : Nat) (k : Kick) (i : Nat) : Kick :=
  if k.found.isSome then k
  else
    let way := node / 524288
    let rows := p.rowsOf (keyWords p.fmt (entKey (t.row way (node % 524288)) p.fmt i))
    let d := if way = 0 then memKey 1 rows.2 else memKey 0 rows.1
    if (kget? k.prev d).isSome || t.bad.contains d || t.locked (d / 524288) (d % 524288) then k
    else
      { k with
        prev := kset k.prev d (some (node, i)), front := k.front ++ [d],
        found := (freeIn (t.row (d / 524288) (d % 524288)) p.fmt).map fun f => (d, f) }

/-- One depth of the search. -/
def HalfTbl.kickLevel (t : HalfTbl) (p : Part') (k : Kick) : Kick :=
  if k.found.isSome then k
  else k.front.foldl (fun a node => (List.range (fmtN p.fmt)).foldl (t.kickSlot p node) a) { k with front := [] }

/-- A live hit flag moves with its entry (log entry 7). -/
def HalfTbl.moveHit (t : HalfTbl) (a b : Loc) : HalfTbl :=
  if t.hits.contains (hitKey a) then
    { t with hits := hitKey b :: t.hits.filter fun k => k ≠ hitKey a && k ≠ hitKey b }
  else { t with hits := t.hits.filter fun k => k ≠ hitKey b }

/-- The moves of a path, from the free end backwards: each writes the entry with its ENTCTL into its other row and
then clears the source slot (R138). Answers the slot left free and the number of moves. -/
def State.kickMoves (s : State) (h fmt : Nat) (prev : KMap (Option (Nat × Nat))) :
    Nat → Nat → Nat → Nat → State × Nat × Nat × Nat
  | 0, node, i, n => (s, node, i, n)
  | fuel + 1, node, i, n =>
    match kget? prev node with
    | some (some (src, j)) =>
      let img := (s.half h).row (src / 524288) (src % 524288)
      let ctl := entCtl img fmt j
      let s := s.slotPut h (node / 524288) (node % 524288) fmt i ctl (entKey img fmt j)
      let s := s.slotPut h (src / 524288) (src % 524288) fmt j 0 0
      let s := s.setHalf h ((s.half h).moveHit ⟨src / 524288, src % 524288, j⟩ ⟨node / 524288, node % 524288, i⟩)
      State.kickMoves (s.markTags h ctl node) h fmt prev fuel src j (n + 1)
    | _ => (s, node, i, n)

/-- Place an entry whose two rows are readable and hold no visible entry with its key (R138). It takes the lowest free slot
of its first row, then of its second, and of equally short paths the first found (log entry 139). -/
def State.place (s : State) (h : Nat) (p : Part') (ws : List Nat) (ctl : Nat) : State × HalfRes :=
  let t := s.half h
  let r := p.rowsOf ws
  let starts := [memKey 0 r.1, memKey 1 r.2].filter fun k => !t.locked (k / 524288) (k % 524288)
  let direct := starts.findSome? fun k => (freeIn (t.row (k / 524288) (k % 524288)) p.fmt).map fun i => (k, i)
  let put (s : State) (node i n : Nat) : State × HalfRes :=
    let l : Loc := ⟨node / 524288, node % 524288, i⟩
    let s := s.setHalf h { s.half h with hits := (s.half h).hits.filter fun k => k ≠ hitKey l }
    (s.slotPut h l.way l.row p.fmt i ctl (keyNat ws), { loc := l, moves := n })
  if starts.isEmpty then (s, { st := stLOCKED })
  else match direct with
    | some (k, i) => put s k i 0
    | none =>
      let k0 : Kick := { prev := starts.foldl (fun m k => kset m k none) [], front := starts }
      let k := (List.range (s.f TBL.CFG 5 0)).foldl (fun a _ => t.kickLevel p a) k0
      match k.found with
      | none => (s, { st := stFULL })
      | some (node, i) =>
        let m := s.kickMoves h p.fmt k.prev 33 node i 0
        put (m.1.event pgTBL 0x101 m.2.2.2 fun _ => true) m.2.1 m.2.2.1 m.2.2.2

/-- ADD in one half, under a VIS set, of an entry with a control word (R134, R138). -/
def State.addEntry (s : State) (h part : Nat) (vis : List Nat) (ws : List Nat) (ctl : Nat) : State × HalfRes :=
  let t := s.half h
  let p := s.partn h part
  if !p.en then (s, { st := stBADARG })
  else
    let ws := ws.take (fmtWords p.fmt)
    let r := p.rowsOf ws
    if t.isBad 0 r.1 || t.isBad 1 r.2 then (s, { st := stECC })
    else match t.find p vis ws with
      | some (l, c) => (s, { st := stEXISTS, loc := l, ctl := c })
      | none => s.place h p ws ctl

/-- A control word after DEL under slot v: VALID 0 if v added the entry, else DELP 1 with DELV v. -/
def delCtl (v c : Nat) : Nat :=
  if bit c 18 && rbits c 22 19 = v then setBit c 17 false else rins (setBit c 23 true) 27 24 v

/-- A control word after a command's deletion: VALID 0 under IMM. -/
def TblCmd.delete (c : TblCmd) (ctl : Nat) : Nat := if c.imm then setBit ctl 17 false else delCtl c.vslot ctl

/-- The VIS set a command is judged under: its slot's, or the newest committed slot's for IMM (R134, R135). -/
def State.cmdVis (s : State) (c : TblCmd) : List Nat := if c.imm then s.visNewest else s.vis c.vslot

/-- A versioned command records the row it wrote. -/
def State.cmdMark (s : State) (c : TblCmd) (h key : Nat) : State :=
  if c.imm then s else s.markFold h c.vslot key

/-! ## The commands in one half (R134) -/

def State.tAdd (s : State) (h : Nat) (c : TblCmd) : State × HalfRes :=
  let ctl := c.act + 131072 + b2n c.static * 268435456 +
    (if c.imm then 0 else 262144 + c.vslot * 524288)
  let r := s.addEntry h c.part (s.cmdVis c) (c.key 8) ctl
  if r.2.st = stOK then (r.1.cmdMark c h (memKey r.2.loc.way r.2.loc.row), r.2) else r

/-- The entry DEL and FIND act on. -/
def State.tFindLoc (s : State) (h : Nat) (c : TblCmd) : HalfRes × Option (Loc × Nat) :=
  let t := s.half h
  let p := s.partn h c.part
  if !p.en then ({ st := stBADARG }, none)
  else
    let ws := c.key (fmtWords p.fmt)
    let r := p.rowsOf ws
    if t.isBad 0 r.1 || t.isBad 1 r.2 then ({ st := stECC }, none)
    else match t.find p (s.cmdVis c) ws with
      | none => ({ st := stNOTFOUND }, none)
      | some (l, ctl) => ({ loc := l, ctl := ctl }, some (l, ctl))

def State.tDel (s : State) (h : Nat) (c : TblCmd) : State × HalfRes :=
  let r := s.tFindLoc h c
  match r.2 with
  | none => (s, r.1)
  | some (l, ctl) =>
    let f := (s.partn h c.part).fmt
    let s := s.slotPut h l.way l.row f l.slot (c.delete ctl) (entKey ((s.half h).row l.way l.row) f l.slot)
    (s.cmdMark c h (memKey l.way l.row), r.1)

def State.tFind (s : State) (h : Nat) (c : TblCmd) : State × HalfRes := (s, (s.tFindLoc h c).1)

/-- A row image as ROWREAD returns it: HIT is the OR of stored and live flags. -/
def State.rowHits (s : State) (h mem row : Nat) : Nat :=
  let t := s.half h
  let img := t.row mem row
  if mem ≤ 1 then
    match s.rowFmt h row with
    | some f => (List.range (fmtN f)).foldl (fun r i =>
        if t.hits.contains (hitKey ⟨mem, row, i⟩) then setBit r (32 + fmtE f * i + 29) true else r) img
    | none => img
  else img

/-- ROWREAD of one row; also a table DMA read (R140). -/
def State.rowRead (s : State) (h mem row : Nat) : HalfRes :=
  if rowMax mem ≤ row then { st := stBADARG }
  else if (s.half h).isBad mem row then { st := stECC }
  else { data := s.rowHits h mem row }

/-- ROWREAD addresses one half; a command that names both is out of range (R134). -/
def State.tRowRead (s : State) (h : Nat) (c : TblCmd) : State × HalfRes :=
  if c.names 0 && c.names 1 then (s, { st := stBADARG }) else (s, s.rowRead h c.mem c.row)

/-- The tables are in use: RUN or STANDBY, or HOLD entered from one (R135, R365). -/
def State.inUse (s : State) : Bool := s.effState = .run || s.effState = .standby

/-- The row writes that R139 allows in RUN and STANDBY: a locked row of a LEARN partition whose image keeps LOCK 1
and changes no entry with ADDP or DELP set. -/
def State.lockWrite (s : State) (h mem row img : Nat) : Bool :=
  let t := s.half h
  mem ≤ 1 && t.locked mem row && bit img 0 &&
    (match (List.range 16).find? fun p => let pt := s.partn h p
        pt.en && pt.base ≤ row && decide (row < pt.base + 2 ^ pt.log2) with
      | none => false
      | some p =>
        let pt := s.partn h p
        let old := t.row mem row
        pt.learn && (List.range (fmtN pt.fmt)).all fun i =>
          (entCtl old pt.fmt i == entCtl img pt.fmt i && entKey old pt.fmt i == entKey img pt.fmt i) ||
            !(bit (entCtl old pt.fmt i) 18 || bit (entCtl old pt.fmt i) 23
              || bit (entCtl img pt.fmt i) 18 || bit (entCtl img pt.fmt i) 23))

/-- Where a command wrote: the row, with WAY of a hash row (CMPL1). -/
def rowLoc (mem row : Nat) : Loc := ⟨if mem = 1 then 1 else 0, row, 0⟩

/-- ROWWRITE of one row image; also a table DMA row (R135, R139, R140, R155). The row joins the fold list for each
version field that the image writes (R123); a DMA row, which cannot wait for room there, is refused without it (log entry
113). On a standby both are refused (R381). -/
def State.rowWrite (s : State) (h mem row img : Nat) : State × HalfRes :=
  let tags := s.imgTags h mem row img
  if rowMax mem ≤ row then (s, { st := stBADARG })
  else if s.effState = .standby || (s.inUse && (mem ≤ 1 || mem = 13) && !s.lockWrite h mem row img) then
    (s, { st := stBADSTATE })
  else if foldCap < (s.half h).fold.length + tags.length then (s, { st := stBADSTATE })
  else (tags.foldl (fun t v => t.markFold h v (memKey mem row)) (s.rowReplace h mem row img), { loc := rowLoc mem row })

def State.tRowWrite (s : State) (h : Nat) (c : TblCmd) : State × HalfRes :=
  s.rowWrite h c.mem c.row c.img

/-- The pointer of a root entry that ROOTSET writes: its own, else a free one (R128), of several the lowest (log entry
136). -/
def rootPtr (e : Nat) (c : TblCmd) : Option Nat :=
  let ptr n := rbits e (32 * n + 31) (32 * n)
  let mine n := bit (ptr n) 29 &&
    (if c.imm then !bit (ptr n) 28 else bit (ptr n) 28 && rbits (ptr n) 27 24 == c.vslot)
  match (List.range 4).find? mine with
  | some n => some n
  | none => (List.range 4).find? fun n => !bit (ptr n) 29

/-- The root entry ROOTSET addresses. -/
def TblCmd.rootIx (c : TblCmd) : Nat := c.fam * 4096 + c.inst

def State.rootEntry (s : State) (h e : Nat) : Nat :=
  rbits ((s.half h).row 3 (e / 4)) (128 * (e % 4) + 127) (128 * (e % 4))

/-- ROOTSET (R134). CMPL1 names the row of the root entry, and its place there as SLOT: DESIGN CHOICE, log entry 114. -/
def State.tRootSet (s : State) (h : Nat) (c : TblCmd) : State × HalfRes :=
  let e := c.rootIx
  if 32768 ≤ c.row then (s, { st := stBADARG })
  else if (s.half h).isBad 3 (e / 4) then (s, { st := stECC })
  else match rootPtr (s.rootEntry h e) c with
    | none => (s, { st := stFULL })
    | some n =>
      let lo := 128 * (e % 4) + 32 * n
      let v := c.row + 536870912 + (if c.imm then 0 else 268435456 + c.vslot * 16777216)
      let s := s.rowPut h 3 (e / 4) (rins ((s.half h).row 3 (e / 4)) (lo + 31) lo v)
      (s.cmdMark c h (memKey 3 (e / 4)), { loc := ⟨0, e / 4, e % 4⟩ })

/-- Banks per row of the chain whose leading bank holds a Pond row; 0 where none does (R147). -/
def State.pondW (s : State) (h row : Nat) : Nat :=
  match (List.range 64).find? fun i => let ch := s.chain h i
      ch.en && ch.first ≤ row / 2048 && (row / 2048 - ch.first) % ch.w == 0 &&
        decide ((row / 2048 - ch.first) / ch.w < ch.depth) with
  | some i => (s.chain h i).w
  | none => 0

/-- Four words as 128 bits, the first most significant. -/
def TblCmd.quad (c : TblCmd) (i : Nat) : Nat := keyNat [c.w i, c.w (i + 1), c.w (i + 2), c.w (i + 3)]

/-- PONDWR (R151): companion with VALID 0, value and mask of every bank, companion VALID 1. CMPL2 reports the companion
written (log entry 138). -/
def State.tPondWr (s : State) (h : Nat) (c : TblCmd) : State × HalfRes :=
  let w := s.pondW h c.row
  let t := s.half h
  if c.mem ≠ 13 || rowMax 13 ≤ c.row || w = 0 then (s, { st := stBADARG })
  else if (List.range w).any fun i => t.isBad 13 (c.row + 2048 * i) then (s, { st := stECC })
  else if bit (rbits (t.row 13 c.row) 287 256) 17 then (s, { st := stROWBUSY })
  else
    let comp := c.act + (if c.imm then 0 else 262144 + c.vslot * 524288)
    let put (s : State) (row hi lo v : Nat) : State := s.rowPut h 13 row (rins ((s.half h).row 13 row) hi lo v)
    let s := put s c.row 287 256 comp
    let s := (List.range w).foldl (fun s i =>
      put s (c.row + 2048 * i) 255 0 (c.quad (4 + 4 * i) + c.quad (12 + 4 * i) * 2 ^ 128)) s
    let s := put s c.row 287 256 (comp + 131072)
    (s.cmdMark c h (memKey 13 c.row), { loc := ⟨0, c.row, 0⟩, ctl := comp + 131072 })

/-- PONDDEL: as DEL, on the companion word of a leading bank's row. -/
def State.tPondDel (s : State) (h : Nat) (c : TblCmd) : State × HalfRes :=
  let t := s.half h
  let ctl := rbits (t.row 13 c.row) 287 256
  if c.mem ≠ 13 || rowMax 13 ≤ c.row || s.pondW h c.row = 0 then (s, { st := stBADARG })
  else if t.isBad 13 c.row then (s, { st := stECC })
  else if !visible (s.cmdVis c) ctl then (s, { st := stNOTFOUND })
  else
    let s := s.rowPut h 13 c.row (rins (t.row 13 c.row) 287 256 (c.delete ctl))
    (s.cmdMark c h (memKey 13 c.row), { loc := ⟨0, c.row, 0⟩, ctl := ctl })

/-- Locked rows of a half (R139). -/
def HalfTbl.lockCount (t : HalfTbl) : Nat :=
  ((t.rows.takeWhile fun e => e.1 < 1048576).filter fun e => e.2.getLsbD 0).length

def State.tLock (s : State) (h : Nat) (c : TblCmd) : State × HalfRes :=
  let t := s.half h
  if 1 < c.mem || rowMax c.mem ≤ c.row then (s, { st := stBADARG })
  else if t.isBad c.mem c.row then (s, { st := stECC })
  else if !t.locked c.mem c.row && 256 ≤ t.lockCount then (s, { st := stFULL })
  else (s.rowPut h c.mem c.row (setBit (t.row c.mem c.row) 0 true), { loc := rowLoc c.mem c.row })

def State.tUnlock (s : State) (h : Nat) (c : TblCmd) : State × HalfRes :=
  let t := s.half h
  if 1 < c.mem || rowMax c.mem ≤ c.row then (s, { st := stBADARG })
  else if t.isBad c.mem c.row then (s, { st := stECC })
  else (s.rowPut h c.mem c.row (setBit (t.row c.mem c.row) 0 false), { loc := rowLoc c.mem c.row })

/-- The rows of a partition that hold anything, both ways, in order. -/
def HalfTbl.partRows (t : HalfTbl) (p : Part') : List (Nat × Nat) :=
  (krange t.rows (memKey 0 p.base) (memKey 0 (p.base + 2 ^ p.log2)) ++
    krange t.rows (memKey 1 p.base) (memKey 1 (p.base + 2 ^ p.log2))).map fun e => (e.1 / 524288, e.1 % 524288)

/-- The slots of a row that FLUSH deletes: under IMM every valid entry, else those visible under VSLOT, the others being
deleted already. -/
def State.flushSlots (s : State) (h : Nat) (c : TblCmd) (p : Part') (mr : Nat × Nat) : List Nat :=
  let img := (s.half h).row mr.1 mr.2
  let vis := s.cmdVis c
  (List.range (fmtN p.fmt)).filter fun i =>
    let ctl := entCtl img p.fmt i
    ctl % 131072 == p.lrnbase + c.w 2 % 256 && !bit ctl 28 && (if c.imm then bit ctl 17 else visible vis ctl)

/-- FLUSH: an uncorrectable row is skipped and the command then completes with ECC. -/
def State.tFlush (s : State) (h : Nat) (c : TblCmd) : State × HalfRes :=
  let p := s.partn h c.part
  let t := s.half h
  if !p.en then (s, { st := stBADARG })
  else
    let hits := (t.partRows p).filter fun mr =>
      !t.isBad mr.1 mr.2 && !(s.flushSlots h c p mr).isEmpty
    let s' := hits.foldl (fun u mr =>
      let img := (u.half h).row mr.1 mr.2
      let new := (s.flushSlots h c p mr).foldl (fun r i =>
        entPut r p.fmt i (c.delete (entCtl r p.fmt i)) (entKey r p.fmt i)) img
      (u.rowPut h mr.1 mr.2 new).cmdMark c h (memKey mr.1 mr.2)) s
    let bad := t.bad.any fun k => k / 524288 ≤ 1 && p.base ≤ k % 524288 && k % 524288 < p.base + 2 ^ p.log2
    (s', { st := if bad then stECC else if hits.isEmpty then stNOTFOUND else stOK })

/-! ## Acceptance, waits and completion -/

/-- Checks made before any row is touched (R134, R135, R381). -/
def State.cmdPre (s : State) (h : Nat) (c : TblCmd) : Option Nat :=
  if c.op = 0 || 11 < c.op then some stBADARG
  else if s.effState = .standby && c.op ≠ 3 && c.op ≠ 4 then some stBADSTATE
  else if c.versioned && !c.verOk then some stBADVER
  else if opVersions c.op then
    if s.inUse then
      if [1, 2, 3, 11].contains c.op then
        (if (s.partn h c.part).learn = c.imm then none else some stBADARG)
      else if c.imm then some stBADARG else none
    else if c.imm && !(s.effState = .load || s.effState = .held || s.effState = .armed) then some stBADARG
    else none
  else none

/-- One half's execution. -/
def State.cmdHalf (s : State) (h : Nat) (c : TblCmd) : State × HalfRes :=
  match s.cmdPre h c with
  | some st => (s, { st := st })
  | none =>
    match c.op with
    | 1 => s.tAdd h c
    | 2 => s.tDel h c
    | 3 => s.tFind h c
    | 4 => s.tRowRead h c
    | 5 => s.tRowWrite h c
    | 6 => s.tRootSet h c
    | 7 => s.tPondWr h c
    | 8 => s.tPondDel h c
    | 9 => s.tLock h c
    | 10 => s.tUnlock h c
    | _ => s.tFlush h c

/-- Rows of the fold list a command may take in a half (R123): each move of an ADD may carry two tags. -/
def State.foldNeed (s : State) (h : Nat) (c : TblCmd) : Nat :=
  if c.op = 1 then 2 * s.f TBL.CFG 5 0 + 1
  else if c.op = 5 then (s.imgTags h c.mem c.row c.img).length
  else if !c.versioned || c.op = 3 then 0
  else if c.op = 11 then ((s.half h).partRows (s.partn h c.part)).length
  else 1

/-- The command waits for fold-list room in a half (R123). -/
def State.foldWait (s : State) (h : Nat) (c : TblCmd) : Bool :=
  c.names h && (s.cmdPre h c).isNone && decide (foldCap < (s.half h).fold.length + s.foldNeed h c)

/-- The command waits for a free root pointer in a half (R128). -/
def State.rootWait (s : State) (h : Nat) (c : TblCmd) : Bool :=
  c.op = 6 && c.names h && (s.cmdPre h c).isNone && decide (c.row < 32768) &&
    !(s.half h).isBad 3 (c.rootIx / 4) && (rootPtr (s.rootEntry h c.rootIx) c).isNone

/-- The key words of partition p of a half. -/
def State.keyLen (s : State) (h p : Nat) : Nat := fmtWords (s.partn h p).fmt

/-- ADD, DEL, FIND and FLUSH. -/
def TblCmd.isHash (c : TblCmd) : Bool := [1, 2, 3, 11].contains c.op

/-- Commands that complete in issue order (R137); a key is as long as the partition's format. -/
def State.sameTarget (s : State) (a b : TblCmd) : Bool :=
  let row c := [4, 5, 9, 10].contains (TblCmd.op c)
  let pond c := TblCmd.op c = 7 || TblCmd.op c = 8
  (a.isHash && b.isHash && a.part = b.part && (a.op = 11 || b.op = 11 ||
      (List.range 2).any fun h => a.key (s.keyLen h a.part) == b.key (s.keyLen h a.part))) ||
    (row a && row b && a.mem = b.mem && a.row = b.row) || (pond a && pond b && a.row = b.row) ||
    (a.op = 6 && b.op = 6 && a.rootIx = b.rootIx)

/-- The two words of a learnt key. -/
def LearnIns.words (i : LearnIns) : List Nat := [i.key.toNat / 4294967296, i.key.toNat % 4294967296]

/-- A learn insert of a half and a command address the same row (R137). -/
def State.sameLearn (s : State) (h : Nat) (i : LearnIns) (c : TblCmd) : Bool :=
  c.names h && c.isHash && c.part = i.part &&
    (c.op = 11 || c.key (s.keyLen h i.part) == i.words.take (s.keyLen h i.part))

/-- A command or learn insert issued before the command addresses the same row and has not been carried out. -/
def State.behind (s : State) (c : TblCmd) : Bool :=
  s.tbl.cmds.any (fun a => s.sameTarget a c) ||
    (List.range 2).any fun h => (s.half h).inserts.any fun i => decide (i.seq < c.seq) && s.sameLearn h i c

/-- The command is carried out in every half it names; its completion awaits TBL_COMPLETE. -/
def State.cmdRun (s : State) (c : TblCmd) : State :=
  let a := if c.names 0 then s.cmdHalf 0 c else (s, { st := stBADARG })
  let b := if c.names 1 then a.1.cmdHalf 1 c else (a.1, { st := stBADARG })
  let r := if c.names 0 then a.2 else if c.names 1 then b.2 else {}
  let k : Cmpl := {
    tag := c.tag, op := c.op, statusE := a.2.st, statusW := b.2.st, moves := r.moves,
    result := BitVec.ofNat 32 (r.loc.row + r.loc.slot * 524288 + r.loc.way * 4194304),
    entctl := BitVec.ofNat 32 r.ctl,
    data := if c.op = 4 then (List.range 16).map (fun i => BitVec.ofNat 32 (r.data / 2 ^ (32 * i))) else [] }
  { b.1 with tbl := { b.1.tbl with done := b.1.tbl.done ++ [(c, k)] } }

/-- The command must wait with its tag held. -/
def State.cmdWaits (s : State) (c : TblCmd) : Bool :=
  s.foldWait 0 c || s.foldWait 1 c || s.rootWait 0 c || s.rootWait 1 c

/-- CMDSTAT.FOLDWAIT as it reads: a command waits and the list still has no room for it (R123). -/
def State.foldWaiting (s : State) : Bool := s.tbl.cmds.any fun c => s.foldWait 0 c || s.foldWait 1 c

/-- Waiting commands that can run do so, in issue order. -/
def State.cmdResume (s : State) : State :=
  let l := s.tbl.cmds
  l.foldl (fun (u : State) c =>
    if u.cmdWaits c || u.behind c then { u with tbl := { u.tbl with cmds := u.tbl.cmds ++ [c] } }
    else u.cmdRun c) { s with tbl := { s.tbl with cmds := [] } }

/-- The free tag of 1,024 that a command is assigned (R24, R133): the lowest (log entry 137). -/
def State.freeTag (s : State) : Option Nat := (List.range 1024).find? fun t => !s.tbl.tags.contains t

/-- A write of CMDGO with GO 1 (R133, R157). -/
def State.tblGo (s : State) (words : List Word) : State :=
  let reject (s : State) (full notrun : Nat) : State :=
    ((s.setF TBL.CMDSTAT 10 10 full).setF TBL.CMDSTAT 11 11 notrun).bump TBL.CMDREJ
  if !s.running pgTBL then reject s 0 1
  else match s.freeTag with
    | none => reject s 1 0
    | some t =>
      let v := fld (words[0]?.getD 0) 10 7
      let c : TblCmd := { tag := t, words := words, verOk := s.ver.openV == some v, seq := s.tbl.seq }
      let s := ((s.setF TBL.CMDSTAT 9 0 t).setF TBL.CMDSTAT 10 10 0).setF TBL.CMDSTAT 11 11 0
      let s := { s with tbl := { s.tbl with tags := t :: s.tbl.tags, seq := s.tbl.seq + 1 } }
      if s.cmdWaits c || s.behind c then { s with tbl := { s.tbl with cmds := s.tbl.cmds ++ [c] } } else s.cmdRun c

/-- The staging words (R133). -/
def State.cmdWords (s : State) : List Word := (List.range 20).map fun i => s.rd (TBL.CMDW i)

/-- GO with the staging words, OP as given. -/
def State.tblOp (s : State) (op : Nat) : State :=
  s.hostWO TBL.CMDGO 1 fun s =>
    s.tblGo ((s.cmdWords).set 0 (ins (s.rd (TBL.CMDW 0)) 4 0 op))

def execAddEntry (s : State) : Host.Outcome State Fault Refusal := .next (s.tblOp 1)
def execDelEntry (s : State) : Host.Outcome State Fault Refusal := .next (s.tblOp 2)
def execFindEntry (s : State) : Host.Outcome State Fault Refusal := .next (s.tblOp 3)
def execRowread (s : State) : Host.Outcome State Fault Refusal := .next (s.tblOp 4)
def execRowwrite (s : State) : Host.Outcome State Fault Refusal := .next (s.tblOp 5)
def execRootset (s : State) : Host.Outcome State Fault Refusal := .next (s.tblOp 6)
def execPondwr (s : State) : Host.Outcome State Fault Refusal := .next (s.tblOp 7)
def execPonddel (s : State) : Host.Outcome State Fault Refusal := .next (s.tblOp 8)
def execLockRow (s : State) : Host.Outcome State Fault Refusal := .next (s.tblOp 9)
def execUnlockRow (s : State) : Host.Outcome State Fault Refusal := .next (s.tblOp 10)
def execFlushPort (s : State) : Host.Outcome State Fault Refusal := .next (s.tblOp 11)

/-- BADARG_OP (R134): a GO whose staged OP is none of the eleven; a staged OP that is one is taken as 0. -/
def execBadargOp (s : State) : Host.Outcome State Fault Refusal :=
  .next (
    let op := s.f (TBL.CMDW 0) 4 0
    s.tblOp (if op = 0 || 11 < op then op else 0))

/-- COMMAND_RESUME (R123, R128). -/
def execCommandResume (s : State) : Host.Outcome State Fault Refusal := .next s.cmdResume

/-- VERERR of a versioned command that failed in a half it names (R136). -/
def State.verErr (s : State) (c : TblCmd) (k : Cmpl) : State :=
  let bad h st := c.names h && st ≠ stOK && st ≠ stNOTFOUND
  if c.versioned && (bad 0 k.statusE || bad 1 k.statusW) then s.setB TBL.VERERR c.vslot else s

/-- The commands carried out that may complete next, by their places: in any order, but those that address the same row in
issue order (R24, R137). -/
def State.tblReady (s : State) : List Nat :=
  (List.range s.tbl.done.length).filter fun i =>
    match s.tbl.done[i]? with
    | some e => !(s.tbl.done.take i).any fun b => s.sameTarget b.1 e.1
    | none => false

/-- A command carried out completes into the completion FIFO (R136). A commit may have waited for it (R161). -/
def State.tblComplete (s : State) (i : Nat) : State :=
  match s.tbl.done[i]? with
  | none => s
  | some (c, k) =>
    let s := { s with tbl := { s.tbl with done := s.tbl.done.eraseIdx i, fifo := s.tbl.fifo ++ [k] } }
    (((s.verErr c k).event pgTBL 0x100 1 fun _ => true).irq pgTBL irqCMPL).commitPoll

/-- TBL_COMPLETE (R136). Of several commands that may complete, a free value chooses, since the spec gives them no order. -/
def execTblComplete (s : State) : Host.Outcome State Fault Refusal :=
  .next (match s.tblReady with
    | [] => s
    | [i] => s.tblComplete i
    | l => let d := s.drawFree
      d.2.tblComplete (l.getD (d.1.toNat % l.length) 0))

/-- COMPLETION_READ: a read of CMPL0 latches the FIFO's head. -/
def State.cmplLatch (s : State) : State := { s with tbl := { s.tbl with latched := s.tbl.fifo.head? } }

def execCompletionRead (s : State) : Host.Outcome State Fault Refusal := .next s.cmplLatch

/-- POP removes the completion and frees its tag; dropped on an empty FIFO. -/
def State.cmplPop (s : State) : State :=
  match s.tbl.fifo with
  | [] => s
  | k :: rest => { s with tbl := { s.tbl with fifo := rest, tags := s.tbl.tags.filter fun t => t ≠ k.tag } }

def execCompletionPop (w : Word) (s : State) : Host.Outcome State Fault Refusal :=
  .next (s.hostWO TBL.CMPLPOP w fun s => if fld w 0 0 = 1 then s.cmplPop else s)

/-- The words CMPL0 to CMPL18 read as. -/
def State.cmplWord (s : State) (i : Nat) : Word :=
  match s.tbl.latched with
  | none => 0
  | some k =>
    if i = 0 then
      BitVec.ofNat 32 (1 + k.tag * 2 + k.op * 2048 + k.statusE * 65536 + k.statusW * 1048576 + k.moves * 16777216)
    else if i = 1 then k.result
    else if i = 2 then k.entctl
    else k.data[i - 3]?.getD 0

/-! ## Background work (R145, R152 to R155) -/

/-- TABLE_SCRUB (R155): scrub reads a row with the given bits of its codeword wrong. One is corrected; two or more
are uncorrectable, and the row stays so until it is rewritten whole. Scrub pauses while TBL is not RUNNING, and corrects
nothing on a standby (R381). -/
def execTableScrub (h : Half) (row : Nat) (flip : List Nat) (s : State) : Host.Outcome State Fault Refusal :=
  .next (
    let mem := row / 524288
    let r := row % 524288
    let n := flip.eraseDups.length
    if !s.running pgTBL || rowMax mem ≤ r then s
    else if (s.half h.val).isBad mem r || 2 ≤ n then
      let t := s.half h.val
      let s := s.setHalf h.val { t with bad := if t.isBad mem r then t.bad else memKey mem r :: t.bad }
      ((s.bump TBL.SCRUBUNC).irq pgTBL irqSCRUBUNC).fire pgTBL 1 false (rowInfo h.val mem r)
    else if n = 1 && s.effState ≠ .standby then (s.bump TBL.SCRUBFIX).fault pgTBL 0
    else s)

/-- The leading row of the group a Pond row belongs to. -/
def State.pondLead (s : State) (h row : Nat) : Nat :=
  if s.pondW h row ≠ 0 then row
  else if 2048 ≤ row && s.pondW h (row - 2048) = 2 then row - 2048 else row

/-- The sweep of a half passes its last row: its duration is recorded and the next begins (R152, log entry 8). -/
def State.sweepEnd (s : State) (h : Nat) : State :=
  let start := (kgetD s.tbl.sweeps h (0, 0)).1
  let sw := kset s.tbl.sweeps h (s.now, s.now - start)
  let us := max (kgetD sw 0 (0, 0)).2 (kgetD sw 1 (0, 0)).2 / 1000
  ({ s with tbl := { s.tbl with sweeps := sw } }).wr TCM.SWEEPUS (BitVec.ofNat 32 (min us 4294967295))

/-- A soft reset of TCM (R157, R46): Pond contents and shadows stay, and the sweeps begin again. -/
def State.tcmReset (s : State) : State :=
  ({ s with tbl := { s.tbl with sweeps := [(0, (s.now, 0)), (1, (s.now, 0))] } }).wr TCM.SWEEPUS 0

/-- SHADOW_COMPARE (R152): 0 the row equals its shadow, 1 it differs and is rewritten from it, 2 the shadow is
uncorrectable and the row's VALID becomes 0. Compares pause while TCM is not RUNNING, but for the current row. A standby
changes no row by itself (R381; log entry 142). -/
def execShadowCompare (h : Half) (bank : Fin 96) (row : Fin 2048) (err : Fin 3) (s : State) :
    Host.Outcome State Fault Refusal :=
  .next (
    if !s.running pgTCM then s
    else
      let r := bank.val * 2048 + row.val
      let s := match (if s.effState = .standby then 0 else err.val) with
        | 0 => s
        | 1 => ((s.bump TCM.SHADOWFIX).irq pgTCM 0).fault pgTCM 0
        | _ =>
          let lead := s.pondLead h.val r
          let s := s.rowPut h.val 13 lead (setBit ((s.half h.val).row 13 lead) 273 false)
          ((s.bump TCM.SHADOWLOST).irq pgTCM 1).fault pgTCM 1
      if bank.val = 95 && row.val = 2047 then s.sweepEnd h.val else s)

/-- BACKGROUND_SLOT (R154): the piste leaves one slot without a lookup. The table clocks it frees change no state:
the work they serve is done by its own commands. -/
def execBackgroundSlot (_ : PgIx) (s : State) : Host.Outcome State Fault Refusal := .next s

/-! ## Quiesce and reset (R157) -/

/-- Accepted work: commands that wait or have not completed. -/
def State.tblWork (s : State) : Bool := !s.tbl.cmds.isEmpty || !s.tbl.done.isEmpty

/-- A soft reset (R157): every command that has not completed does so with QUIESCED and sets VERERR for its slot; the
tables keep what a command already carried out has written (log entry 45). -/
def State.tblReset (s : State) : State :=
  let l := s.tbl.done.map (fun e => e.1) ++ s.tbl.cmds
  let s := l.foldl (fun (u : State) c =>
    let st h := if TblCmd.names c h then stQUIESCED else stBADARG
    let k : Cmpl := { tag := c.tag, op := c.op, statusE := st 0, statusW := st 1 }
    ({ u with tbl := { u.tbl with fifo := u.tbl.fifo ++ [k] } }).verErr c k) s
  let any := !l.isEmpty
  let s := { s with tbl := { s.tbl with done := [], cmds := [] } }
  (if any then s.irq pgTBL irqCMPL else s).commitPoll

end Sys2Proof.Machine
end

