-- ==== Sys2Proof/Machine/Lrn.lean ====
section
/-! DEFINITION. Learning and aging (R142 to R146, R157). -/

namespace Sys2Proof.Machine

/-- LRN's causes: NOTICE_E and NOTICE_W are 0 and 1. -/
abbrev irqQDROP : Nat := 2
abbrev irqCACHEFULL : Nat := 3

/-- Notice types (R144). -/
abbrev ntNEW : Nat := 1
abbrev ntMOVE : Nat := 2
abbrev ntINSFAIL : Nat := 3
abbrev ntLOCKED : Nat := 4
abbrev ntAGED : Nat := 5

/-- A notice joins the half's queue of 8,192; a full queue drops it (R24, R144). -/
def State.notice (s : State) (h : Nat) (n : Notice) : State :=
  let t := s.half h
  if t.notices.length < 8192 then s.setHalf h { t with notices := t.notices ++ [n] }
  else (s.bump (LRN.QDROP h)).irq pgLRN irqQDROP

/-- A notice about a key, at a TIM count. -/
def State.noticeOf (s : State) (h : Nat) (key : BitVec 64) (type port port2 ns : Nat) : State :=
  s.notice h { key := key, port := port % 256, port2 := port2 % 256, type := type, ns := ns % 4294967296 }

/-- Keys whose holdoff has run out leave the cache. -/
def State.holdoffDrop (s : State) (h : Nat) : State :=
  let t := s.half h
  let us := s.f LRN.HOLDOFF 15 0 * 1000
  s.setHalf h { t with cache := t.cache.filter fun e => s.tai < e.at_ + us }

/-- A move candidate: P2 becomes Q and a MOVE notice is queued. -/
def State.moveCand (s : State) (h : Nat) (key : BitVec 64) (p1 q : Nat) : State :=
  (s.bump (LRN.MOVECAND h)).noticeOf h key ntMOVE p1 q s.tai

/-- The learn engine of a half handles an event for key K from port Q (R143): `ent` is the entry's port at a port
mismatch, none at a miss. Events are discarded while LRN is not RUNNING (R157). -/
def State.learnEvent (s : State) (h : Nat) (key : BitVec 64) (q : Nat) (ent : Option Nat) (part : Nat) : State :=
  if !s.running pgLRN then s.bump (LRN.OFFDROP h)
  else
    let s := s.holdoffDrop h
    let t := s.half h
    match t.cache.find? fun e => e.key = key with
    | some e =>
      if q = e.p1 || e.p2 = some q then s.bump (LRN.DUPS h)
      else
        let s := s.setHalf h { t with cache := t.cache.map fun x => if x.key = key then { x with p2 := some q } else x }
        s.moveCand h key e.p1 q
    | none =>
      if 4096 ≤ t.cache.length then (s.bump (LRN.CACHEFULL h)).irq pgLRN irqCACHEFULL
      else match ent with
        | none =>
          let s := s.setHalf h { t with
            cache := t.cache ++ [{ key := key, p1 := q, at_ := s.tai }],
            inserts := t.inserts ++ [{ key := key, port := q, part := part, ns := s.tai, seq := s.tbl.seq }] }
          { s with tbl := { s.tbl with seq := s.tbl.seq + 1 } }
        | some p1 =>
          let s := s.setHalf h { t with cache := t.cache ++ [{ key := key, p1 := p1, p2 := some q, at_ := s.tai }] }
          s.moveCand h key p1 q

/-- LEARN_INSERT (R143): the half's oldest queued insert executes as an IMM insert judged under the newest committed
slot. It waits where the fold list has no room for its moves (R123), behind a host command of the same row that was issued
before it and has not completed (R137), and on a standby, whose tables follow the peer's (R381). One that reads an
uncorrectable row ends without a notice or a count (log entry 140). -/
def State.learnInsert (s : State) (h : Nat) : State :=
  match (s.half h).inserts with
  | [] => s
  | i :: rest =>
    if s.effState = .standby || foldCap < (s.half h).fold.length + 2 * s.f TBL.CFG 5 0 ||
        (s.tbl.cmds ++ s.tbl.done.map fun e => e.1).any fun c => decide (c.seq < i.seq) && s.sameLearn h i c then s
    else
      let s := s.setHalf h { s.half h with inserts := rest }
      let act := ((s.partn h i.part).lrnbase + i.port) % 131072
      let r := s.addEntry h i.part s.visNewest i.words (act + 131072)
      let s := r.1
      if r.2.st = stOK then (s.bump (LRN.NEWCNT h)).noticeOf h i.key ntNEW i.port 0 i.ns
      else if r.2.st = stFULL then (s.bump (LRN.INSFAIL h)).noticeOf h i.key ntINSFAIL i.port 0 i.ns
      else if r.2.st = stLOCKED then (s.bump (LRN.INSFAIL h)).noticeOf h i.key ntLOCKED i.port 0 i.ns
      else if r.2.st = stEXISTS then s.bump (LRN.DUPS h)
      else s

def execLearnInsert (h : Half) (s : State) : Host.Outcome State Fault Refusal := .next (s.learnInsert h.val)

/-- The 16 bytes of a notice (R144); the key is MAC, FID. -/
def Notice.bytes (n : Notice) (h : Nat) : List Byte :=
  let k := n.key.toNat
  let mac := k / 65536
  leBytes 4 (mac % 4294967296) ++ leBytes 4 (mac / 4294967296 + k % 16384 * 65536 + h * 1073741824)
    ++ leBytes 4 (n.port + n.port2 * 256 + n.type * 65536) ++ leBytes 4 n.ns

/-- LEARN_NOTICE_WRITE (R144): the oldest notice goes into the half's ring, if that is not full. Both indexes are taken
modulo the size, which may have been lowered since they were written. -/
def State.noticeWrite (s : State) (h : Nat) : State :=
  let t := s.half h
  let size := 2 ^ s.f (LRN.RINGSIZE h) 4 0
  let p := s.f (LRN.PIDX h) 15 0 % size
  match t.notices with
  | [] => s
  | n :: rest =>
    if (p + 1) % size = s.f (LRN.CIDX h) 15 0 % size || s.initialising || s.busy pgLRN then s
    else
      let s := s.setHalf h { t with notices := rest }
      let base := s.rd64 (LRN.RINGLO h) (LRN.RINGHI h)
      let s := s.emit (.hostWrite 0 (base + 16 * p) (n.bytes h))
      (s.setF (LRN.PIDX h) 15 0 ((p + 1) % size)).irq pgLRN h

def execLearnNoticeWrite (h : Half) (s : State) : Host.Outcome State Fault Refusal := .next (s.noticeWrite h.val)

/-- HOLDOFF_EXPIRE (R143): the cached key that expires first reaches its HOLDOFF µs and leaves the cache. -/
def execHoldoffExpire (h : Half) (s : State) : Host.Outcome State Fault Refusal :=
  .next (match (s.half h.val).cache with
    | [] => s
    | e :: rest =>
      let first := rest.foldl (fun a x => min a x.at_) e.at_
      (s.untilInstant (first + s.f LRN.HOLDOFF 15 0 * 1000)).holdoffDrop h.val)

/-! ## Aging (R145, R146) -/

/-- A visit of one entry slot: what is written, and whether the entry ages out. -/
def ageVisit (limit : Nat) (live : Bool) (ctl : Nat) : Nat × Bool :=
  if live || bit ctl 29 then (rins (setBit ctl 29 false) 31 30 0, false)
  else if rbits ctl 31 30 < limit - 1 then (rins ctl 31 30 (rbits ctl 31 30 + 1), false)
  else (setBit ctl 17 false, true)

/-- A pass over one row. Rows that are locked or uncorrectable are skipped. -/
def State.ageRow (s : State) (h : Nat) (p : Part') (limit : Nat) (mr : Nat × Nat) : State :=
  let t := s.half h
  if t.isBad mr.1 mr.2 || t.locked mr.1 mr.2 then s
  else
    let img := t.row mr.1 mr.2
    let r := (List.range (fmtN p.fmt)).foldl (fun (a : Nat × List Nat × List (Nat × Nat)) i =>
      let ctl := entCtl img p.fmt i
      if !bit ctl 17 || bit ctl 28 then a
      else
        let k := hitKey ⟨mr.1, mr.2, i⟩
        let live := t.hits.contains k
        let v := ageVisit limit live ctl
        (entPut a.1 p.fmt i v.1 (entKey img p.fmt i), if live then k :: a.2.1 else a.2.1,
          if v.2 then a.2.2 ++ [(entKey img p.fmt i, ctl % 131072)] else a.2.2)) (img, [], [])
    let s := s.setHalf h { t with hits := t.hits.filter fun k => !r.2.1.contains k }
    let s := s.rowPut h mr.1 mr.2 r.1
    r.2.2.foldl (fun u e =>
      if u.running pgLRN then
        u.noticeOf h (BitVec.ofNat 64 e.1) ntAGED ((e.2 + 131072 - p.lrnbase) % 131072) 0 u.tai
      else u.bump (LRN.OFFDROP h)) s

/-- AGING_PASS (R145): the half's next pass falls due and visits every entry of each partition with AGEEN 1. A pass
that ends when the next one is already due counts a slip. Aging pauses while TBL is not RUNNING (R157) and on a standby
(R381). After reset the first pass is due at once (log entry 141). -/
def execAgingPass (h : Half) (s : State) : Host.Outcome State Fault Refusal :=
  .next (
    if !s.running pgTBL || s.effState = .standby then s
    else
      let due := (s.half h.val).ageDue
      let s := s.until due
      let per := s.f (TBL.AGECFG h.val) 15 0 * 1000000
      let limit := s.f (TBL.AGECFG h.val) 17 16
      let slip := decide (due ≠ 0 && due + per ≤ s.now)
      let s := (List.range 16).foldl (fun u p =>
        let pt := u.partn h.val p
        if pt.en && pt.ageen then ((u.half h.val).partRows pt).foldl (fun v mr => v.ageRow h.val pt limit mr) u
        else u) s
      let s := s.setHalf h.val { s.half h.val with ageDue := if slip then s.now else (if due = 0 then s.now else due) + per }
      let s := s.wr (TBL.AGEPASS h.val) (s.rd (TBL.AGEPASS h.val) + 1)
      if slip then (s.bump (TBL.AGESLIP h.val)).irq pgTBL irqAGESLIP else s)

/-! ## Quiesce and reset (R157) -/

def State.lrnWork (s : State) : Bool :=
  !(s.tbl.east.inserts.isEmpty && s.tbl.west.inserts.isEmpty && s.tbl.east.notices.isEmpty && s.tbl.west.notices.isEmpty)

/-- A soft reset of a half's learn engine: queued inserts and notices are discarded into QDROP and the cache is cleared. -/
def State.lrnReset1 (s : State) (h : Nat) : State :=
  let t := s.half h
  (s.addF (LRN.QDROP h) 31 0 (t.inserts.length + t.notices.length)).setHalf h { t with cache := [], inserts := [], notices := [] }

def State.lrnReset (s : State) : State := (s.lrnReset1 0).lrnReset1 1

end Sys2Proof.Machine
end

