-- ==== Sys2Proof/Machine/Parse.lean ====
section
/-! DEFINITION. The ingress parser and the symmetric hash (R95 to R103). -/

namespace Sys2Proof.Machine

/-- Exception codes of the parser (R114). -/
abbrev excDEPTH : Nat := 1
abbrev excTRUNC : Nat := 2
abbrev excWINDOW : Nat := 3
abbrev excREJECT : Nat := 4
abbrev excLEN : Nat := 5
abbrev excCSUM : Nat := 6
abbrev excTTL : Nat := 7

/-- What the parser has done: containers (R96, an unlisted one is 0), HDRVALID, and the codes raised, oldest first. -/
structure PRes where
  cont : KMap Nat := []
  hv : Nat := 0
  codes : List Nat := []
  deriving DecidableEq, Repr, Inhabited

def PRes.c (r : PRes) (i : Nat) : Nat := kgetD r.cont i 0
def PRes.fail (r : PRes) (code : Nat) : PRes := { r with codes := r.codes ++ [code] }

/-- The code a read of one byte raises (R97): past the packet comes first. -/
def readErr (len off : Nat) : Option Nat :=
  if len ≤ off then some excTRUNC else if 256 ≤ off then some excWINDOW else none

/-- n bytes at an offset in the window, or the code of the first that cannot be read. -/
def readWin (b : List Byte) (off n : Nat) : Except Nat (List Byte) :=
  match (List.range n).findSome? fun i => readErr b.length (off + i) with
  | some e => .error e
  | none => .ok (slice b off n)

/-- One group of NB bytes is written to a container (R99): shifted, its top bits cleared, at DPOS. -/
def PRes.extract (r : PRes) (v nb clrhi shr dpos c : Nat) : PRes :=
  let f := v / 2 ^ shr % 2 ^ (8 * nb - clrhi)
  let lo := 8 * (4 - dpos - nb)
  let old := r.c c
  let keep := old - old / 2 ^ lo % 2 ^ (8 * nb) * 2 ^ lo
  { r with cont := kset r.cont c (keep + f * 2 ^ lo) }

/-- Extraction descriptor d of a state (R99), at a header start. A group that cannot be read leaves those written before it
as they are (log entry 144). -/
def State.pxd (s : State) (g n start : Nat) (b : List Byte) (r : PRes) (d : Nat) : Except PRes PRes :=
  let w := s.rd (IP.PXD g n d)
  if fld w 27 27 = 0 then .ok r
  else
    let nb := fld w 9 8 + 1
    let dpos := fld w 14 13
    let groups := if nb = 4 && dpos = 0 then fld w 12 10 + 1 else 1
    (List.range groups).foldlM (fun (r : PRes) k =>
      match readWin b (start + fld w 7 0 + 4 * k) nb with
      | .error e => .error (r.fail e)
      | .ok l => .ok (r.extract (beNat l) nb (fld w 17 15) (fld w 20 18) dpos (fld w 26 21 + k))) r

/-- The ones'-complement sum of bytes as 16-bit words, an odd last byte padded with zero. -/
def onesSum : List Byte → Nat
  | [] => 0
  | [a] => a.toNat * 256
  | a :: b :: t => let v := a.toNat * 256 + b.toNat + onesSum t
    v % 65536 + v / 65536

/-- A checksum over a header that holds its own field verifies: the sum is zero in either form of ones' complement. -/
def csumOk (l : List Byte) : Bool := let v := onesSum l; v % 65535 == 0

/-- CHECK (R100): every byte that the state's checks read must lie in the packet and the window before one raises a
code (log entry 20). -/
def checkStep (w2 : Word) (start len : Nat) (b : List Byte) (r : PRes) : Except PRes PRes :=
  let chk := fld w2 15 14
  let sum := if bit chk 0 then readWin b start len else .ok []
  let ttl := if bit chk 1 then readWin b (start + fld w2 23 16) 1 else .ok []
  match sum, ttl with
  | .error e, _ => .error (r.fail e)
  | .ok _, .error e => .error (r.fail e)
  | .ok a, .ok c =>
    let r := if bit chk 0 && !csumOk a then r.fail excCSUM else r
    .ok (if bit chk 1 && beNat c ≤ 1 then r.fail excTTL else r)

/-- The next state (R98): the lowest-indexed transition that matches, else DEFNEXT. Only entries that differ from reset
can have VALID 1. -/
def State.nextState (s : State) (g n sel : Nat) : Nat :=
  let m := (s.listed (IP.TRANS0 g 0) (IP.TRANS0 g 1024)).find? fun e =>
    e.1 % 8 = 0 && fld e.2 7 7 = 1 && fld e.2 6 0 = n &&
      (let mask := fld (s.rd (e.1 + 4)) 15 0
       Nat.land sel mask == Nat.land (fld e.2 31 16) mask)
  match m with
  | some e => fld e.2 14 8
  | none => s.f (IP.PSW2 g n) 6 0

/-- Steps 2 to 7 of R97 for one visited state: the next state and header start, or the end of parsing. -/
def State.visit (s : State) (g n start : Nat) (b : List Byte) (r : PRes) : Except PRes (Nat × Nat × PRes) := do
  let w0 := s.rd (IP.PSW0 g n)
  let w1 := s.rd (IP.PSW1 g n)
  let w2 := s.rd (IP.PSW2 g n)
  let hdr := fld w2 13 8
  let r := if hdr = 63 then r else { r with hv := setBit r.hv hdr true }
  let var ← if fld w0 8 8 = 0 then pure 0
    else match readWin b (start + fld w0 19 14) 1 with
      | .error e => throw (r.fail e)
      | .ok l => pure (Nat.land (beNat l / 2 ^ fld w0 13 11) (fld w0 27 20) *
          (match fld w0 10 9 with | 0 => 1 | 1 => 4 | _ => 8))
  let len := fld w0 7 0 + var
  if len < fld w1 7 0 || 255 < len then throw (r.fail excLEN)
  let r ← (List.range 8).foldlM (fun r d => s.pxd g n start b r d) r
  let r ← checkStep w2 start len b r
  let sel ← if fld w1 31 16 = 0 then pure 0
    else match readWin b (start + fld w1 15 8) 2 with
      | .error e => throw (r.fail e)
      | .ok l => pure (Nat.land (beNat l) (fld w1 31 16))
  pure (s.nextState g n sel, start + len, r)

/-- The walk (R97); `fuel` is the number of visits still allowed. A state with VALID 0 behaves as REJECT. -/
def State.parseFrom (s : State) (g : Nat) (b : List Byte) : Nat → Nat → Nat → PRes → PRes
  | fuel, n, start, r =>
    if n = 127 then r
    else if n = 126 || fld (s.rd (IP.PSW0 g n)) 31 31 = 0 then r.fail excREJECT
    else match fuel with
      | 0 => r.fail excDEPTH
      | k + 1 => match s.visit g n start b r with
        | .error r => r
        | .ok (n', start', r') => s.parseFrom g b k n' start' r'

/-- The start state (R101). -/
def State.startState (s : State) (g : Nat) (m : Meta) : Nat :=
  if 1 ≤ m.pass then s.f (IP.IPCFG g) 14 8
  else if 160 ≤ m.srcPort then s.f (IP.IPCFG g) 6 0
  else s.f (IP.PSLOT g (m.srcPort % 8)) 6 0

/-- PARSE (R97): at most 16 visits. -/
def State.parse (s : State) (g : Nat) (p : Pkt) : PRes := s.parseFrom g p.bytes 16 (s.startState g p.m) 0 {}

/-! ## The symmetric hash (R102) -/

/-- CRC-32C with an initial value, as IPg.HASHSEED gives it. -/
def hashCrc (init : Word) (l : List Byte) : Word := ~~~ (l.foldl (crcByte 0x82F63B78) init)

/-- The bytes of n containers. -/
def PRes.conts (r : PRes) (c n : Nat) : List Byte := (List.range n).flatMap fun i => beBytes 4 (r.c (c + i))

/-- HASH: pairs in order, each with whether it swapped and whether its sides differed, then singles. -/
def State.symHash (s : State) (g : Nat) (r : PRes) : Word :=
  let pairs := (List.range 4).foldl (fun (acc : List Byte × Option (Bool × Bool)) k =>
    let w := s.rd (IP.HASHPAIR g k)
    if fld w 20 20 = 0 then (acc.1, none)
    else
      let n := fld w 17 16 + 1
      let a := r.conts (fld w 5 0) n
      let b := r.conts (fld w 13 8) n
      let swap := match acc.2 with
        | some (sw, true) => if fld w 21 21 = 1 then sw else decide (beNat b < beNat a)
        | _ => decide (beNat b < beNat a)
      (acc.1 ++ (if swap then b ++ a else a ++ b), some (swap, a != b))) ([], none)
  let w := s.rd (IP.HASHSINGLE g)
  let singles := (List.range 4).flatMap fun j =>
    if fld w (8 * j + 7) (8 * j + 7) = 1 then beBytes 4 (r.c (fld w (8 * j + 5) (8 * j))) else []
  let key := pairs.1 ++ singles
  if key.isEmpty then 0 else hashCrc (s.rd (IP.HASHSEED g)) key

end Sys2Proof.Machine
end

