-- ==== Sys2Proof/Machine/Cnt.lean ====
section
/-! DEFINITION. The Gauge collector: selection, sweeps, snapshots and the freeze (R389 to R397, R399). -/

namespace Sys2Proof.Machine

/-- CNT's causes. -/
abbrev irqSNAPDONE : Nat := 0
abbrev irqSNAPLOST : Nat := 1
abbrev irqLOST : Nat := 2

/-- A counter's value now (48 bits). -/
def State.counter (s : State) (page n : Nat) : Nat := s.rd64 (HDR.CNTLO page n) (HDR.CNTHI page n)

def State.gacc (s : State) (k : Nat) : GAcc := kgetD s.cnt.accs k {}
def State.setGacc (s : State) (k : Nat) (a : GAcc) : State := { s with cnt := { s.cnt with accs := kset s.cnt.accs k a } }

/-- Counter n of a page is cleared, and the block reports that to the Gauge. -/
def State.clearCounter (s : State) (page n : Nat) : State :=
  let s := s.zero [HDR.CNTLO page n, HDR.CNTHI page n]
  s.setGacc (page * 8 + n) { s.gacc (page * 8 + n) with cleared := true }

/-- All eight counters of a page are cleared. -/
def State.clearCounters (s : State) (page : Nat) : State := (List.range 8).foldl (fun t n => t.clearCounter page n) s

/-- A write of CSELn (R36, R389): a change of EVENT or QUAL, or CLR, sets the counter to 0; BADEV follows EVENT. -/
def State.cselWrite (s : State) (page n : Nat) (w : Word) : State :=
  let old := s.rd (HDR.CSEL page n)
  let ev := fld w 15 0
  let bad := match kindOf page with | some (k, _) => ev ≠ 0 && !inCatalogue k ev | none => false
  let s := s.wr (HDR.CSEL page n) (ins (w &&& 0x1FFFFFF) 31 31 (b2n bad))
  if fld old 23 0 ≠ fld w 23 0 || fld w 25 25 = 1 then s.clearCounter page n else s

/-- COUNTER_SELECT_WRITE (R389); CLR is a WO bit (R46). -/
def execCounterSelectWrite (page : PageId) (n : Fin 8) (w : Word) (s : State) : Host.Outcome State Fault Refusal :=
  .next (s.hostWr (HDR.CSEL page.val n.val) fun s =>
    if s.busy page.val && fld w 25 25 = 1 then (s.cselWrite page.val n.val (ins w 25 25 0)).badAcc
    else s.cselWrite page.val n.val w)

/-- R391: the accumulator after a read of value v. -/
def GAcc.take (a : GAcc) (v : Nat) : Nat :=
  if a.cleared then v else (a.acc + (v + 281474976710656 - a.last) % 281474976710656) % 18446744073709551616

/-- Counters that may differ from what the Gauge holds: those with a value and those with an accumulator, of present
pages. Every other counter and accumulator is 0. -/
def State.counterKeys (s : State) : List Nat :=
  let live := (s.regs.filter fun e => e.1 < 16777216 && 192 ≤ e.1 % 65536 && e.1 % 65536 < 256).map
    fun e => e.1 / 65536 * 8 + (e.1 % 65536 - 192) / 8
  ((live ++ s.cnt.accs.map fun a => a.1).eraseDups).filter fun k => s.present (k / 8)

/-- The Gauge reads one counter into its accumulator. -/
def State.gaugeRead (s : State) (k : Nat) : State :=
  let v := s.counter (k / 8) (k % 8)
  let a := s.gacc k
  s.setGacc k { a with acc := a.take v, last := v, cleared := false }

/-- GAUGE_SWEEP (R391, R399): the next sweep falls due and every counter is read; CNT not RUNNING sweeps nothing. -/
def execGaugeSweep (s : State) : Host.Outcome State Fault Refusal :=
  .next (
    let s := s.until s.cnt.sweepDue
    let s := { s with cnt := { s.cnt with sweepDue := s.now + s.f CNT.CFG 23 0 * 1000 } }
    if s.running pgCNT then s.counterKeys.foldl (fun t k => t.gaugeRead k) s else s)

/-- SNAPLOST counts a dropped request (R395, R399). -/
def State.snapLost (s : State) : State := (s.bump CNT.SNAPLOST).irq pgCNT irqSNAPLOST

/-- A snapshot is requested for an instant; `late` where that is later than the requester asked for. -/
def State.snapRequest (s : State) (at_ : Nat) (late : Bool) : State :=
  if !s.running pgCNT || s.cnt.snap.isSome then s.snapLost
  else
    let s := { s with cnt := { s.cnt with snap := some { at_ := at_, late := late } } }
    let s := s.setB CNT.STAT 0
    if late then s.setB CNT.STAT 1 else s

/-- The instant of a request made now for `want`: that, with a lead of 1 µs, else now + 1 µs (R395). -/
def State.leadInstant (s : State) (want : Nat) (now : Bool) : Nat × Bool :=
  if now then (s.tai + 1000, false)
  else if s.tai + 1000 ≤ want then (want, false) else (s.tai + 1000, true)

/-- A write of SNAPCTL. -/
def State.snapCtl (s : State) (w : Word) : State :=
  let s := s.setF CNT.SNAPCTL 1 1 (fld w 1 1)
  if fld w 0 0 = 0 then s
  else
    let r := s.leadInstant (s.rd64 CNT.SNAPAT_LO CNT.SNAPAT_HI) (fld w 1 1 = 1)
    s.snapRequest r.1 r.2

/-- GO bits are WO: while BUSY a 1 is dropped and counted, and the RW fields of the word take effect (R46). -/
def State.goWr (s : State) (key : Nat) (w : Word) (g : State → Word → State) : State :=
  s.hostWr key fun s =>
    if s.busy (key / 65536) && fld w 0 0 = 1 then (g s (ins w 0 0 0)).badAcc else g s w

/-- SNAPSHOT_GO (R395). -/
def execSnapshotGo (w : Word) (s : State) : Host.Outcome State Fault Refusal :=
  .next (s.goWr CNT.SNAPCTL w State.snapCtl)

/-- SNAPSHOT_LATCH (R394, R395): at S every counter of every present page is latched. A forward step past S takes it
at the step. -/
def State.snapLatch (s : State) : State :=
  match s.cnt.snap with
  | some p =>
    if p.latched.isSome then s
    else
      let jumped := p.at_ < s.tai
      let s := s.untilInstant p.at_
      let taken := if jumped then s.tai else p.at_
      let vals : KMap Nat := s.counterKeys.foldl (fun m k => kset m k ((s.gacc k).take (s.counter (k / 8) (k % 8)))) []
      let s := { s with cnt := { s.cnt with snap := some { p with latched := some (taken, vals) } } }
      if jumped then s.setB CNT.STAT 1 else s
  | none => s

def execSnapshotLatch (s : State) : Host.Outcome State Fault Refusal := .next s.snapLatch

/-- SNAPSHOT_DONE (R394): collection ends. -/
def execSnapshotDone (s : State) : Host.Outcome State Fault Refusal :=
  .next (match s.cnt.snap with
    | some { latched := some (taken, vals), .. } =>
      let s := { s with cnt := { s.cnt with snap := none, accs := s.cnt.accs.map fun a => (a.1, { a.2 with snap := 0 }) } }
      let s := vals.foldl (fun (t : State) v => t.setGacc v.1 { t.gacc v.1 with snap := v.2 }) s
      let s := s.wr CNT.SNAPSEQ (s.rd CNT.SNAPSEQ + 1)
      ((s.wr64 CNT.SNAPINST_LO CNT.SNAPINST_HI taken).setF CNT.STAT 0 0 0).irq pgCNT irqSNAPDONE
    | _ => s)

/-- A write of FREEZECTL (R396, R399). -/
def State.freezeCtl (s : State) (w : Word) : State :=
  let s := s.setF CNT.FREEZECTL 2 1 (fld w 2 1)
  if fld w 0 0 = 0 then s
  else if !s.running pgCNT then s.snapLost
  else if s.cnt.freeze.isSome then s.badAcc
  else
    let r := s.leadInstant (s.rd64 CNT.FREEZEAT_LO CNT.FREEZEAT_HI) (fld w 2 2 = 1)
    let s := { s with cnt := { s.cnt with freeze := some (r.1, fld w 1 1 = 1) } }
    let s := s.setB CNT.STAT 3
    if r.2 then s.setB CNT.STAT 1 else s

/-- FREEZE_GO (R396). -/
def execFreezeGo (w : Word) (s : State) : Host.Outcome State Fault Refusal :=
  .next (s.goWr CNT.FREEZECTL w State.freezeCtl)

/-- FREEZE_APPLY (R396): the change takes effect, at the step if a forward step has passed its instant. -/
def State.freezeChange (s : State) : State :=
  match s.cnt.freeze with
  | some (at_, stop) =>
    let jumped := at_ < s.tai
    let s := s.untilInstant at_
    let s := { s with cnt := { s.cnt with freeze := none } }
    let s := (s.setF CNT.STAT 3 3 0).setF CNT.STAT 2 2 (b2n stop)
    if jumped then s.setB CNT.STAT 1 else s
  | none => s

def execFreezeApply (s : State) : Host.Outcome State Fault Refusal := .next s.freezeChange

/-- STATEUNC (R393): the accumulator takes the next value read as after a clear, and the entry's LOST bit is set. -/
def State.gaugeUnc (s : State) (page n : Nat) : State :=
  let s := s.setGacc (page * 8 + n) { s.gacc (page * 8 + n) with cleared := true }
  (s.setB (CNT.GSTAT (page * 8 + n)) 0).irq pgCNT irqLOST

/-- CNT's accepted work (R399). -/
def State.cntWork (s : State) : Bool := s.cnt.snap.isSome || s.cnt.freeze.isSome

/-- CNT's soft reset (R399): accumulators become 0 and take the next value as after a clear; a freeze ends. -/
def State.cntReset (s : State) : State :=
  let s := { s with cnt := { s.cnt with
    accs := s.counterKeys.foldl (fun m k => kset m k { cleared := true }) [], snap := none, freeze := none } }
  s.zero [CNT.STAT, CNT.SNAPINST_LO, CNT.SNAPINST_HI]

/-- USERVIS grants that show local counter j to user u, enabled: the accumulator's key (R397). -/
def State.grant (s : State) (u j : Nat) : Option Nat :=
  ((s.listed (CNT.USERVIS 0) (CNT.USERVIS 2048)).find? fun e =>
    e.1 % 16777216 = CNT.USERVIS 0 % 16777216 && fld e.2 25 25 = 1 && fld e.2 5 0 = u && fld e.2 13 6 = j).map
    fun e => fld e.2 21 14 * 8 + fld e.2 24 22

end Sys2Proof.Machine
end

