-- ==== Sys2Proof/Machine/Shape.lean ====
section
/-! DEFINITION. Shaper and policer buckets: parameters, credit, charge and commits (R225 to R227, R230 to R232). -/

namespace Sys2Proof.Machine

/-! ## Entries -/

/-- Entry numbers: node n is n, port p is 8,192 + p, capacity shaper c is 8,352 + c, and policer i of a half is
16,384 + half * 131,072 + i. -/
abbrev shPort (p : Nat) : Nat := 8192 + p
abbrev shCap (c : Nat) : Nat := 8352 + c
abbrev shPol (h i : Nat) : Nat := 16384 + h * 131072 + i

/-- The parameters of an entry before its first commit: the reset values of its registers. -/
def parReset (e : Nat) : Par :=
  if e < 8192 then { cir := 0, pir := 4294967295, cbs := 16384, pbs := 16384, ctl := 0 }
  else if e < 8352 then { cir := 4294967295, cbs := 65536, ctl := 20 }
  else if e < 16384 then { cbs := 16384, ctl := 20 }
  else {}

/-- The parameters in force. -/
def State.par (s : State) (e : Nat) : Par := kgetD s.sch.par e (parReset e)

/-- A policer's MODE (R230). -/
def Par.mode (p : Par) : Nat := p.ctl % 4

/-- OVHD of an entry, signed (R225). -/
def ovhd (e : Nat) (p : Par) : Int := if 16384 ≤ e then sext 7 (p.ctl / 8) else sext 7 p.ctl

/-- RESETMODE of an entry (R227). -/
def resetZero (e : Nat) (p : Par) : Bool := if 16384 ≤ e then bit p.ctl 10 else bit p.ctl 7

/-- The rate in kb/s that fills each bucket: CIR and PIR, the port rate, or a capacity shaper's CAP (R228). -/
def State.rateC (s : State) (e : Nat) : Nat :=
  if 8352 ≤ e && e < 16384 then s.f (SCH.CAP (e - 8352)) 10 0 * 1000000 else (s.par e).cir
def State.rateP (s : State) (e : Nat) : Nat :=
  if e < 8192 then (s.par e).pir
  else if 16384 ≤ e && (s.par e).mode = 2 then (s.par e).pir
  else 0

/-! ## Levels -/

/-- One byte in level units. -/
abbrev lvlUnit : Int := 500000

/-- The 16 ns interval of the timebase that is current. -/
def State.tick (s : State) : Nat := s.tai / 16

/-- A bucket of an entry never used: 0 after RESET_N, and its burst since RESETMODE, which resets to FULL, was applied to
every entry (R227). -/
def State.unused (s : State) (burst : Nat) : Bucket :=
  match s.sch.levelled with
  | none => {}
  | some t => { lvl := burst * lvlUnit, tick := t }

/-- Bucket C or P of an entry. -/
def State.bucketC (s : State) (e : Nat) : Bucket := kgetD s.sch.buckets (2 * e) (s.unused (parReset e).cbs)
def State.bucketP (s : State) (e : Nat) : Bucket := kgetD s.sch.buckets (2 * e + 1) (s.unused (parReset e).pbs)

/-- The settled levels of an entry's two buckets: each interval credits RATE units; a level never rises above its
burst, and an srTCM policer's C overflow fills P (R225, R230). -/
def State.levels (s : State) (e : Nat) : Int × Int :=
  let p := s.par e
  let c := s.bucketC e
  let q := s.bucketP e
  let t := s.tick
  let rawC := c.lvl + (s.rateC e * (t - c.tick) : Nat)
  let lc := min rawC (max c.lvl (p.cbs * lvlUnit))
  let ovr := if 16384 ≤ e && p.mode = 1 then rawC - lc else 0
  let rawP := q.lvl + (s.rateP e * (t - q.tick) : Nat) + ovr
  (lc, min rawP (max q.lvl (p.pbs * lvlUnit)))

/-- Both levels are written as of now. -/
def State.putLevels (s : State) (e : Nat) (l : Int × Int) : State :=
  { s with sch := { s.sch with
    buckets := kset (kset s.sch.buckets (2 * e) ⟨l.1, s.tick⟩) (2 * e + 1) ⟨l.2, s.tick⟩ } }

/-- Credit up to now. -/
def State.settle (s : State) (e : Nat) : State := s.putLevels e (s.levels e)

/-- Credit every bucket that has been used up to now. -/
def State.settleAll (s : State) : State :=
  (s.sch.buckets.filter fun b => b.1 % 2 = 0).foldl (fun t b => t.settle (b.1 / 2)) s

/-- After a backward step no interval is credited twice: every bucket counts on from the new count. -/
def State.anchorAll (s : State) : State :=
  { s with sch := { s.sch with buckets := s.sch.buckets.map fun b => (b.1, { b.2 with tick := s.tick }) } }

/-- A level in whole bytes, 25 bits, as a register shows it. -/
def lvlWord (l : Int) : Word := BitVec.ofInt 32 (l / lvlUnit) &&& 0x1FFFFFF

/-- The charge of a packet of length L (R225). -/
def chargeOf (e : Nat) (p : Par) (len : Nat) : Int := max 1 ((len : Int) + ovhd e p)

/-! ## Commits and RESETMODE (R227) -/

/-- RESETMODE sets both levels: FULL the burst, ZERO 0. -/
def State.resetLevels (s : State) (e : Nat) : State :=
  let p := s.par e
  s.putLevels e (if resetZero e p then (0, 0) else (p.cbs * lvlUnit, p.pbs * lvlUnit))

/-- RESETMODE on every bucket of every entry, at a takeover or an SCH soft reset. -/
def State.resetAllLevels (s : State) : State :=
  let s := { s with sch := { s.sch with levelled := some s.tick } }
  let a : List Nat := s.sch.par.map fun b => b.1
  let b : List Nat := (s.sch.buckets.filter fun b => b.1 % 2 = 0).map fun b => b.1 / 2
  let es := (a ++ b).eraseDups
  es.foldl (fun t e => t.resetLevels e) s

/-- The new parameters take effect together; a level above the new burst is cut to it. -/
def State.commitPar (s : State) (e : Nat) (p : Par) (load : Bool) : State :=
  let l := s.levels e
  let s := { s with sch := { s.sch with par := kset s.sch.par e p } }
  let s := s.putLevels e (min l.1 (p.cbs * lvlUnit), min l.2 (p.pbs * lvlUnit))
  if load then s.resetLevels e else s

/-- A write of SHCTL commits the node's staged parameters. -/
def State.shctl (s : State) (n : Nat) (w : Word) : State :=
  let s := s.wr (SCH.SHCTL n) (w &&& 0x1FF)
  s.commitPar n {
    cir := (s.rd (SCH.CIR n)).toNat, pir := (s.rd (SCH.PIR n)).toNat,
    cbs := (s.rd (SCH.CBS n)).toNat, pbs := (s.rd (SCH.PBS n)).toNat,
    ctl := fld w 8 0 } (fld w 9 9 = 1)

/-- A write of PSHCTL. -/
def State.pshctl (s : State) (p : Nat) (w : Word) : State :=
  let s := s.wr (SCH.PSHCTL p) (w &&& 0x1FF)
  s.commitPar (shPort p) {
    cir := (s.rd (SCH.PSHRATE p)).toNat, cbs := (s.rd (SCH.PSHBURST p)).toNat, ctl := fld w 8 0 } (fld w 9 9 = 1)

/-- A write of CAPCTL. -/
def State.capctl (s : State) (c : Nat) (w : Word) : State :=
  let s := s.wr (SCH.CAPCTL c) (w &&& 0xFF)
  s.commitPar (shCap c) { cbs := (s.rd (SCH.CAPBURST c)).toNat, ctl := fld w 7 0 } (fld w 8 8 = 1)

/-- A write of POLCTL; the index is POLIDX as it reads, HALF in bit 17. -/
def State.polctl (s : State) (ix : Nat) (w : Word) : State :=
  let s := s.wr (SCH.POLCTL ix) (w &&& 0x7FF)
  s.commitPar (shPol (ix / 131072) (ix % 131072)) {
    cir := (s.rd (SCH.POLCIR ix)).toNat, pir := (s.rd (SCH.POLPIR ix)).toNat,
    cbs := (s.rd (SCH.POLCBS ix)).toNat, pbs := (s.rd (SCH.POLPBS ix)).toNat,
    ctl := fld w 10 0 } (fld w 11 11 = 1)

/-- LOAD is a WO bit: while SCH is BUSY a 1 is dropped and counted, and the RW fields take effect (R46). -/
def State.commitWr (s : State) (key bitNo : Nat) (w : Word) (g : State → Word → State) : State :=
  s.hostWr (key % 16777216) fun s =>
    if s.busy pgSCH && fld w bitNo bitNo = 1 then (g s (ins w bitNo bitNo 0)).badAcc else g s w

/-- A write (R227) of SHCTL, PSHCTL or CAPCTL at its offset in the SCH page; the offset of another
register is no such write. -/
def State.shaperCommit (s : State) (o : Nat) (w : Word) : State :=
  if o = 0x21C then s.commitWr (SCH.SHCTL 0) 9 w fun s w => s.shctl (s.f SCH.NODEIDX 12 0) w
  else if 0x1008 ≤ o && o < 0x2400 && o % 32 = 8 then
    s.commitWr (SCH.PSHCTL ((o - 0x1000) / 32)) 9 w fun s w => s.pshctl ((o - 0x1000) / 32) w
  else if 0x3008 ≤ o && o < 0x5000 && o % 16 = 8 then
    s.commitWr (SCH.CAPCTL ((o - 0x3000) / 16)) 8 w fun s w => s.capctl ((o - 0x3000) / 16) w
  else s

/-- POLICER_COMMIT (R227). -/
def execPolicerCommit (w : Word) (s : State) : Host.Outcome State Fault Refusal :=
  .next (s.commitWr (SCH.POLCTL 0) 11 w fun s w => s.polctl (s.f SCH.POLIDX 17 0) w)

/-- BUCKET_CREDIT (R225): the next 16 ns boundary of the timebase passes, and every bucket in use gains its credit. -/
def execBucketCredit (s : State) : Host.Outcome State Fault Refusal :=
  .next (s.untilInstant ((s.tick + 1) * 16)).settleAll

/-! ## Policers (R230, R231) -/

/-- Colours (R16). -/
abbrev cGreen : Nat := 0
abbrev cYellow : Nat := 1
abbrev cRed : Nat := 2

/-- A policer meters a packet of length L (FCS included) and pre-colour: the colour and the levels it leaves. -/
def meterRule (mode : Nat) (blind : Bool) (pre : Nat) (b tc tp : Int) : Nat × Int × Int :=
  let pre := if blind then cGreen else pre
  if mode = 0 then (pre, tc, tp)
  else if pre = cRed then (cRed, tc, tp)
  else match mode with
    | 3 => if b ≤ tc then (cGreen, tc - b, tp) else (cRed, tc, tp)
    | 1 =>
      if pre = cGreen && b ≤ tc then (cGreen, tc - b, tp)
      else if b ≤ tp then (cYellow, tc, tp - b)
      else (cRed, tc, tp)
    | _ =>
      if tp < b then (cRed, tc, tp)
      else if pre = cYellow || tc < b then (cYellow, tc, tp - b)
      else (cGreen, tc - b, tp - b)

/-- Meter at a policer of a half; `blind` meters as if CBLIND were 1. A PASS policer leaves the pre-colour. -/
def State.meter (s : State) (h ix : Nat) (blind : Bool) (len pre : Nat) : State × Nat :=
  let e := shPol h ix
  let p := s.par e
  if p.mode = 0 then (s, pre)
  else
    let l := s.levels e
    let r := meterRule p.mode (blind || bit p.ctl 2) pre (chargeOf e p len * lvlUnit) l.1 l.2
    (s.putLevels e r.2, r.1)

end Sys2Proof.Machine
end

