-- ==== Sys2Proof/Machine/Ports.lean ====
section
/-! DEFINITION. Port groups: modes (R73), link views (R79), pauses and PFC (R77), preemption verify (R78), the
two-step FIFO (R89), the selection LFSR (R418) and the Mogul's rules (R91 to R94). -/

namespace Sys2Proof.Machine

/-! ## Modes -/

/-- Port group and slot of a logical port (R73). -/
def pgOf (p : Nat) : Nat := p / 8
def slotOf (p : Nat) : Nat := p % 8

/-- Lanes per port and rate in Gb/s of a mode; none where it carries no port or is reserved (R73). -/
def modeInfo : Nat → Option (Nat × Nat)
  | 1 => some (8, 1600)
  | 2 => some (4, 800)
  | 3 => some (2, 400)
  | 4 => some (1, 200)
  | 5 => some (1, 100)
  | 6 => some (4, 400)
  | 7 => some (8, 800)
  | _ => none

/-- The port's slot carries a port in its group's mode. -/
def State.carries (s : State) (p : Nat) : Bool :=
  s.present (pgPG (pgOf p)) &&
    match modeInfo (s.f (PG.MODE (pgOf p)) 3 0) with
    | some (n, _) => slotOf p % n == 0
    | none => false

/-- The port's rate in Gb/s; 0 where its slot carries no port. -/
def State.portRate (s : State) (p : Nat) : Nat :=
  if s.carries p then (match modeInfo (s.f (PG.MODE (pgOf p)) 3 0) with | some (_, r) => r | none => 0) else 0

/-- PORTCFG of a port. -/
abbrev cfgKey (p : Nat) : Nat := PG.PORTCFG (p / 8) (p % 8)

/-! ## Link views -/

/-- A port is enabled (R79): EN 1, not squelched, and the group RUNNING, DRAINING or QUIESCED. -/
def State.portEnabled (s : State) (p : Nat) : Bool :=
  s.carries p && s.fb (cfgKey p) 0 && !s.squelch && !s.initialising &&
    (match (s.blk (pgPG (pgOf p))).st with | .running | .draining | .quiesced => true | _ => false)

/-- AN or LT is 1: the port trains. -/
def State.trains (s : State) (p : Nat) : Bool := s.fb (cfgKey p) 1 || s.fb (cfgKey p) 2

/-- The port is UP, and nothing has ended its being enabled (R79). -/
def State.isUp (s : State) (p : Nat) : Bool := (s.port p).link = .up && s.portEnabled p

/-- The MAC may start a frame of its own: the port is UP, and its group is not quiesced (R81). -/
def State.maySend (s : State) (p : Nat) : Bool := s.isUp p && s.running (pgPG (pgOf p)) && s.effState != .standby

/-- Something leaves on a port's lanes: nothing while an injected flap holds its transmitter idle (R94). -/
def State.emitPort (s : State) (p : Nat) (o : Out) : State := if (s.port p).flapTx.isSome then s else s.emit o

/-- Preemption is active (R78). -/
def State.pact (s : State) (p : Nat) : Bool :=
  s.fb (cfgKey p) 5 && s.isUp p && (!s.fb (cfgKey p) 6 || (s.port p).vstat = .succeeded)

/-- The ICV of an early release is still pending (R279). -/
def State.icvPending (s : State) (tok : Nat) : Bool := tok ≠ 0 && s.ports.any fun e => e.2.icv.any fun i => i.tok == tok

/-- LINKCHG of the port's slot (R79). -/
def State.linkChg (s : State) (p : Nat) : State := s.irq (pgPG (pgOf p)) (slotOf p)

/-- The port's transmitter changes what it sends besides frames (R79). -/
def State.sends (s : State) (p : Nat) (l : TxLine) : State :=
  if (s.port p).sends = l then s else (s.setPort p { s.port p with sends := l }).emitPort p (.line p l)

/-- The port's injected flap ends (R94): its transmitter sends again what its state calls for. -/
def State.flapEnds (s : State) (p : Nat) : State :=
  let ps := s.port p
  let s := s.setPort p { ps with flapRx := none, flapTx := none }
  if ps.flapTx.isSome && ps.sends ≠ .off then s.emit (.line p ps.sends) else s

/-- Where a port goes from OFF or DOWN: TRAIN with AN or LT, else ALIGN (R79). -/
def State.startsIn (s : State) (p : Nat) : Link := if s.trains p then .train else .align

/-- An enabled port leaves OFF: its transmitter is on, and in ALIGN sends local fault. -/
def State.startLink (s : State) (p : Nat) : State :=
  let s := s.setPort p { s.port p with link := s.startsIn p, since := s.now, downAt := none }
  s.sends p (if s.trains p then .training else .localFault)

/-- A port in DOWN has gone on in the next clock (R79). -/
def State.leaveDown (s : State) (p : Nat) : State :=
  if (s.port p).link = .down then
    let s := s.setPort p { s.port p with link := s.startsIn p }
    if s.trains p then s.sends p .training else s
  else s

/-- The state PORTSTAT.LINK reports: DOWN for the clock of its entry. -/
def State.linkShown (s : State) (p : Nat) : Link :=
  if (s.port p).link = .down && decide ((s.port p).since < s.now) then s.startsIn p else (s.port p).link

/-- One count of a port, saturating. -/
def State.pcount (s : State) (key : Nat → Nat → Nat) (p : Nat) : State := s.bump (key (pgOf p) (slotOf p))

/-! ## Pauses (R77) -/

/-- The classes paused by received PFC or PAUSE now. -/
def State.paused (s : State) (p c : Nat) : Bool :=
  match kget? (s.port p).pauses c with | some t => decide (s.now < t) | none => false

/-- Nanoseconds of q quanta at the port's rate: a quantum is 512 bit times. -/
def State.quantaNs (s : State) (p q : Nat) : Nat :=
  let r := s.portRate p
  if r = 0 then 0 else cdiv (q * 512) r

/-- Pause a class for q quanta; zero quanta end a pause. -/
def State.pause (s : State) (p c q : Nat) : State :=
  let ps := s.port p
  if q = 0 then s.setPort p { ps with pauses := kerase ps.pauses c }
  else s.setPort p { ps with pauses := kset ps.pauses c (s.now + s.quantaNs p q) }

/-- MAC control frames: the EtherType 0x8808 and the opcode after it. -/
def macOpcode (f : List Byte) : Option Nat :=
  if slice f 12 2 = [0x88, 0x08] then some (beNat (slice f 14 2)) else none

/-- The group address 01:80:C2:00:00:01 of PFC and PAUSE. -/
def pauseDa : List Byte := [0x01, 0x80, 0xC2, 0x00, 0x00, 0x01]

/-- The frame is a PFC frame (opcode 0x0101). -/
def isPfc (f : List Byte) : Bool := macOpcode f == some 0x0101 && f.take 6 == pauseDa

/-- The frame is an Annex 31B PAUSE frame (opcode 0x0001). -/
def isPause (f : List Byte) : Bool := macOpcode f == some 0x0001 && f.take 6 == pauseDa

/-- The frame's FCS is good. -/
def fcsGood (f : List Byte) : Bool := 4 ≤ f.length && fcsOf (f.take (f.length - 4)) == f.drop (f.length - 4)

/-- A good PFC frame pauses each class its enable vector names, on a port with PFC 1. -/
def State.pfcApply (s : State) (p : Nat) (f : List Byte) : State :=
  if s.fb (cfgKey p) 3 then
    let en := beNat (slice f 16 2)
    (List.range 8).foldl (fun t c => if bit en c then t.pause p c (beNat (slice f (18 + 2 * c) 2)) else t) s
  else s

/-- A good PAUSE frame pauses classes 0 to 6 on a port with PAUSE_RX 1; class 7 is never paused by it. -/
def State.pauseApply (s : State) (p : Nat) (f : List Byte) : State :=
  if s.fb (cfgKey p) 4 then
    (List.range 7).foldl (fun t c => t.pause p c (beNat (slice f 16 2))) s
  else s

/-- PAUSE_EXPIRE: the class's pause ends. -/
def execPauseExpire (p : Port) (c : Fin 8) (s : State) : Host.Outcome State Fault Refusal :=
  .next (match kget? (s.port p).pauses c with
    | none => s
    | some t => let s := s.until t
      s.setPort p { s.port p with pauses := kerase (s.port p).pauses c })

/-- A PFC frame that names classes, each with its quanta, from the port's PFCSA (R77). -/
def State.pfcFrame (s : State) (p : Nat) (cls : List (Nat × Nat)) : List Byte :=
  let en := cls.foldl (fun a c => setBit a c.1 true) 0
  let sa := s.rd64 (PG.PFCSA_LO (pgOf p) (slotOf p)) (PG.PFCSA_HI (pgOf p) (slotOf p))
  let times := (List.range 8).flatMap fun c => beBytes 2 (((cls.find? fun e => e.1 == c).map (·.2)).getD 0)
  pauseDa ++ beBytes 6 sa ++ [0x88, 0x08, 0x01, 0x01] ++ beBytes 2 en ++ times ++ List.replicate 26 0

/-- TMG reports the class of the port crossed (XOFFSTATE, R185). -/
def State.crossed (s : State) (p c : Nat) : Bool :=
  bit (s.f (TMG.XOFFSTATE (p / 4)) 31 0) (8 * (p % 4) + c)

/-- The port may send PFC for the class. -/
def State.pfcAllowed (s : State) (p c : Nat) : Bool := s.fb (cfgKey p) 3 && s.fb (cfgKey p) (16 + c)

/-! ## Preemption verify (R78) -/

/-- The verify exchange runs on the port: PREEMPT 1, VERIFY 1 and the link UP. -/
def State.verifies (s : State) (p : Nat) : Bool := s.fb (cfgKey p) 5 && s.fb (cfgKey p) 6 && s.isUp p

/-- VTIME in ns. -/
def State.vtime (s : State) (p : Nat) : Nat := s.f (cfgKey p) 31 24 * 1000000

/-- VERIFY_SEND (R78): the first at link-up, the others VTIME after the one before, up to three. A port group that is
not RUNNING sends idle (R81). -/
def execVerifySend (p : Port) (s : State) : Host.Outcome State Fault Refusal :=
  .next (
    let ps := s.port p
    if !s.verifies p || !s.maySend p then s
    else if ps.vstat = .idle then
      (s.setPort p { ps with vstat := .running, vsent := 1, vat := s.now }).emitPort p (.verify p)
    else if ps.vstat = .running && ps.vsent < 3 then
      let s := s.until (ps.vat + s.vtime p)
      (s.setPort p { s.port p with vsent := ps.vsent + 1, vat := s.now }).emitPort p (.verify p)
    else s)

/-- VERIFY_FAIL (R78): the third verify frame has gone unanswered for VTIME. -/
def execVerifyFail (p : Port) (s : State) : Host.Outcome State Fault Refusal :=
  .next (
    let ps := s.port p
    if s.verifies p && ps.vstat = .running && ps.vsent = 3 then
      let s := s.until (ps.vat + s.vtime p)
      (s.setPort p { s.port p with vstat := .failed }).irq (pgPG (pgOf p)) 10
    else s)

/-! ## PTP timestamps and the two-step FIFO (R86 to R89) -/

/-- Writes one two-step capture; a full FIFO discards it, counts OVF and sets TSF_OVF. -/
def State.tsfPush (s : State) (g : Nat) (e : TsfEntry) : State :=
  let pg := s.pg g
  if pg.tsf.length < 64 then (s.setPg g { pg with tsf := pg.tsf ++ [e] }).irq (pgPG g) 9
  else (s.addF (PG.TSFSTAT g) 15 8 1).irq (pgPG g) 8

/-- TSF_TAG_READ (R89): a read of TSF_TAG latches the head entry into TSF_NS, TSF_SEC_LO and TSF_SEC_HI; on an empty
FIFO it returns VALID 0. -/
def State.tsfLatch (s : State) (g : Nat) : State := s.setPg g { s.pg g with tsfLatch := (s.pg g).tsf.head? }

def execTsfTagRead (g : PgIx) (s : State) : Host.Outcome State Fault Refusal :=
  .next (if s.present (pgPG g) then s.tsfLatch g else s)

/-- A write of TSF_POP with POP 1 removes the head entry; on an empty FIFO it is dropped (TSF_POP). -/
def State.tsfPop (s : State) (g : Nat) : State := s.setPg g { s.pg g with tsf := (s.pg g).tsf.tail }

def execTsfPop (g : PgIx) (w : Word) (s : State) : Host.Outcome State Fault Refusal :=
  .next (s.hostWO (PG.TSF_POP g) w fun s => if fld w 0 0 = 1 then s.tsfPop g else s)

/-- A signed offset register in units of 2^-16 ns (R86). -/
def State.tsofs (s : State) (k : Nat) : Int := sext 32 (s.rd k).toNat

/-- The transmit timestamp in units of 2^-16 ns: pin time + TSOFS_TX (R86). -/
def State.txStamp (s : State) (p : Nat) : Int :=
  (s.tai : Int) * 65536 + (s.tim.frac.toNat / 65536 : Nat) + s.tsofs (PG.TSOFS_TX (pgOf p) (slotOf p))

/-- The receive timestamp of ING_TS on a port in units of 2^-16 ns (R86); a CPU port has no offset. -/
def State.rxStamp (s : State) (src ingTs : Nat) : Int :=
  (ingTs : Int) * 65536 - (if src < 160 then s.tsofs (PG.TSOFS_RX (pgOf src) (slotOf src)) else 0)

/-! ## Selection LFSR (R418) -/

/-- One step of the selection LFSR. -/
def lfsrStep (v : Nat) : Nat :=
  let b := b2n (xor (xor (bit v 31) (bit v 21)) (xor (bit v 1) (bit v 0)))
  (v * 2 + b) % 4294967296

/-- The candidate is selected with exponent K: bits [K - 1:0] after the step are 0. -/
def lfsrSelects (v k : Nat) : Bool := v % 2 ^ k == 0

/-! ## The Mogul (R91 to R94) -/

/-- The Mogul acts: ARM 1 and DEV.STATE RUN or STANDBY (R92). -/
def State.mogActive (s : State) (g : Nat) : Bool :=
  s.fb (PG.MOGCTL g) 0 && (s.dev.state = .run || s.dev.state = .standby)

/-- Who may arm a Mogul: the PF, where the sealed configuration permits it (R92; log entry 100). -/
def State.mogMay (s : State) (who g : Nat) : Bool := who = 0 && s.dev.sealed && s.fb (PG.MOGULPERMIT g) 0

/-- A write of MOGCTL (R92): SEED is stored (0 as 1); ARM 1 that may not arm is dropped and counted; arming loads each
rule's LFSR and clears HITS and the match counts. Frames already held stay held. A write of ARM 1 to a Mogul that is
armed is no ARM: it stores SEED and loads nothing (log entry 101). -/
def State.mogArm (s : State) (who g : Nat) (w : Word) : State :=
  if fld w 0 0 = 1 && !s.mogMay who g then s.badAcc
  else
    let was := s.fb (PG.MOGCTL g) 0
    let seed := if fld w 31 16 = 0 then 1 else fld w 31 16
    let s := (s.setF (PG.MOGCTL g) 31 16 seed).setF (PG.MOGCTL g) 0 0 (fld w 0 0)
    if fld w 0 0 = 1 && !was then
      let s := s.zero ((List.range 8).map (PG.MOGHITS g))
      s.setPg g { s.pg g with
        lfsr := (List.range 8).map fun r => (r, r * 65536 + seed), matches_ := [] }
    else s

def execMogulArm (g : PgIx) (w : Word) (s : State) : Host.Outcome State Fault Refusal :=
  .next (s.hostWr (PG.MOGCTL g) fun s => s.mogArm 0 g w)

/-- A DELAY or REORDER parameter of 0 is written as 1 (R94), whichever of the rule's two registers is written. -/
def State.mogParam (s : State) (g r : Nat) : State :=
  let k := PG.MOGPARAM g r
  match s.f (PG.MOG0 g r) 4 2 with
  | 2 => if s.f k 19 0 = 0 then s.setF k 19 0 1 else s
  | 3 => if s.f k 3 0 = 0 then s.setF k 3 0 1 else s
  | _ => s

/-- The EtherType after at most two VLAN tags (R93). -/
def mogEtype (f : List Byte) : Nat :=
  let t0 := beNat (slice f 12 2)
  let tag t := t == 0x8100 || t == 0x88A8
  if tag t0 then
    let t1 := beNat (slice f 16 2)
    if tag t1 then beNat (slice f 20 2) else t1
  else t0

/-- A frame matches rule r (R93); `len` includes the FCS. -/
def State.mogMatch (s : State) (g slot : Nat) (tx : Bool) (cls len : Nat) (f : List Byte) (r : Nat) : Bool :=
  let w0 := s.rd (PG.MOG0 g r)
  let w2 := s.rd (PG.MOG2 g r)
  let stop := s.rd64 (PG.MOGSTOP_LO g r) (PG.MOGSTOP_HI g r)
  fld w0 0 0 == 1 && (fld w0 1 1 == 1) == tx && bit (fld w0 15 8) slot && (!tx || bit (fld w0 23 16) cls) &&
    decide (fld w2 13 0 ≤ len) && decide (len ≤ fld w2 29 16) &&
    (fld w0 24 24 == 0 || mogEtype f == s.f (PG.MOG1 g r) 15 0) &&
    decide (s.rd64 (PG.MOGSTART_LO g r) (PG.MOGSTART_HI g r) ≤ s.tai) && (stop == 0 || decide (s.tai < stop))

/-- A matching rule advances its selector, by MODE; a reserved MODE has none (R93). -/
def State.mogAdvance (s : State) (g r : Nat) : State × Bool :=
  let w3 := s.rd (PG.MOG3 g r)
  let pg := s.pg g
  match fld w3 1 0 with
  | 0 => (s, true)
  | 1 =>
    let c := kgetD pg.matches_ r 0 + 1
    if c < fld w3 31 16 then (s.setPg g { pg with matches_ := kset pg.matches_ r c }, false)
    else (s.setPg g { pg with matches_ := kset pg.matches_ r 0 }, true)
  | 2 =>
    let v := lfsrStep (kgetD pg.lfsr r (r * 65536 + s.f (PG.MOGCTL g) 31 16))
    (s.setPg g { pg with lfsr := kset pg.lfsr r v }, lfsrSelects v (fld w3 7 4))
  | _ => (s, false)

/-- A matching rule advances its selector and may fire; a reserved MODE or ACTION never fires and marks BADRULE when a frame
matches the rule, and only a reset clears the mark (log entry 131). -/
def State.mogSelect (s : State) (g r : Nat) : State × Bool :=
  let bad := s.f (PG.MOG3 g r) 1 0 = 3 || 5 ≤ s.f (PG.MOG0 g r) 4 2
  let x := s.mogAdvance g r
  if bad then (x.1.setB (PG.MOGSTAT g) r, false) else x

/-- Every matching rule advances its selector; the lowest-numbered rule that fires acts and counts a hit (R93), also where
its FLAP is ignored or its hold finds no room (log entry 133). -/
def State.mogDecide (s : State) (g slot : Nat) (tx : Bool) (cls len : Nat) (f : List Byte) : State × Option Nat :=
  let r := (List.range 8).foldl (fun (acc : State × Option Nat) r =>
    if acc.1.mogMatch g slot tx cls len f r then
      let x := acc.1.mogSelect g r
      (x.1, if acc.2.isNone && x.2 then some r else acc.2)
    else acc) (s, none)
  match r.2 with
  | some k => (r.1.bump (PG.MOGHITS g k), some k)
  | none => r

/-- Bytes the Mogul buffer holds, of 64 KiB. -/
def PgSt.mogBytes (pg : PgSt) : Nat := pg.held.foldl (fun a h => a + h.wire.length) 0

/-- The byte at the offset XORed with the mask; an offset past the frame takes the last FCS byte (R94). `wire` holds
the FCS; RECALC recomputes it. -/
def mogCorrupt (param : Word) (wire : List Byte) : List Byte :=
  let o := fld param 13 0
  let o := if o < wire.length then o else wire.length - 1
  let l := wire.set o ((wire[o]?.getD 0) ^^^ BitVec.ofNat 8 (fld param 23 16))
  if fld param 24 24 = 1 then l.take (l.length - 4) ++ fcsOf (l.take (l.length - 4)) else l

/-- What the Mogul does with a frame. -/
inductive MogVerdict where
  | pass (wire : List Byte)
  | drop
  | held
  deriving DecidableEq, Repr

/-- A frame that passes brings a REORDER hold of the same port and direction one frame nearer its end (R94). -/
def MogHeld.passed (h : MogHeld) (slot : Nat) (dir : Dir) : MogHeld :=
  if h.dir = dir && h.slot = slot then { h with left := h.left.map (· - 1) } else h

/-- A frame passes, later than every frame held. -/
def State.mogPassed (s : State) (g slot : Nat) (dir : Dir) : State :=
  let pg := s.pg g
  if pg.held.isEmpty then s else s.setPg g { pg with held := pg.held.map fun h => h.passed slot dir }

/-- A held frame is taken out: the frames held before it see a later frame pass. -/
def State.mogTake (s : State) (g : Nat) (h : MogHeld) : State :=
  let l := (s.pg g).held
  let i := l.idxOf h
  s.setPg g { s.pg g with held := (l.take i).map (fun x => x.passed h.slot h.dir) ++ l.drop (i + 1) }

/-- A frame is stored in the Mogul buffer until a model time, or until `left` later frames have passed. Without room it
passes and counts OVF (R94); of a group that is not RUNNING no frame stays held: it is discarded and counts FLUSH (R81; log
entry 134). -/
def State.mogHold (s : State) (g slot : Nat) (dir : Dir) (wire : List Byte) (h : MogHeld) (ns : Nat) (left : Option Nat) :
    State × MogVerdict :=
  let pg := s.pg g
  if 65536 < pg.mogBytes + wire.length then ((s.addF (PG.MOGSTAT g) 19 8 1).mogPassed g slot dir, .pass wire)
  else if !s.running (pgPG g) then (s.addF (PG.MOGSTAT g) 31 20 1, .drop)
  else (s.setPg g { pg with held := pg.held ++ [{ h with until_ := s.now + ns, left := left }] }, .held)

/-- FLAP (R94): the receiver loses its signal, or the transmitter goes to electrical idle. -/
def State.mogFlap (s : State) (g slot : Nat) (dir : Dir) (fin : Nat) : State :=
  let p := g * 8 + slot
  let ps := s.port p
  let s := match dir with
    | .rx => s.setPort p { ps with
        flapRx := some fin, lock := false, lockAt := none,
        downAt := if ps.link = Link.up && ps.downAt.isNone then some s.now else ps.downAt }
    | .tx =>
      let t := s.setPort p { ps with flapTx := some fin }
      if ps.sends = TxLine.off then t else t.emit (.line p .off)
  s.irq (pgPG g) 11

/-- The Mogul's action on a frame at one of its two points (R94). A DELAY above the parameter's range holds for
1,000,000 ns (log entry 102), and a FLAP of 0 lasts 1 µs (log entry 132). -/
def State.mogAct (s : State) (g slot : Nat) (dir : Dir) (cls : Nat) (wire : List Byte) (h : MogHeld) :
    State × MogVerdict :=
  if !s.mogActive g then (s.mogPassed g slot dir, .pass wire)
  else
    let d := s.mogDecide g slot (dir = .tx) cls wire.length wire
    let s := d.1
    match d.2 with
    | none => (s.mogPassed g slot dir, .pass wire)
    | some r =>
      let param := s.rd (PG.MOGPARAM g r)
      match s.f (PG.MOG0 g r) 4 2 with
      | 0 => (s, .drop)
      | 1 => (s.mogPassed g slot dir, .pass (mogCorrupt param wire))
      | 2 => s.mogHold g slot dir wire h (max 1 (min (fld param 19 0) 1000000)) none
      | 3 => s.mogHold g slot dir wire h 100000 (some (max 1 (fld param 3 0)))
      | _ =>
        if (s.port (g * 8 + slot)).flapRx.isSome || (s.port (g * 8 + slot)).flapTx.isSome then
          (s.mogPassed g slot dir, .pass wire)
        else (s.mogFlap g slot dir (s.now + max 1 (fld param 23 0) * 1000), .drop)

/-- MOGUL_FLAP_END (R94): the flap's duration ends. -/
def execMogulFlapEnd (p : Port) (dir : Dir) (s : State) : Host.Outcome State Fault Refusal :=
  .next (match (match dir with | .rx => (s.port p).flapRx | .tx => (s.port p).flapTx) with
    | none => s
    | some t => ((s.until t).flapEnds p).irq (pgPG (pgOf p)) 11)

/-! ## Counts and status -/

/-- The counts of a slot, from FECCORR to DEMOTED (PCNTCLR). -/
def pgCounts (g i : Nat) : List Nat :=
  [PG.FECCORR g i, PG.FECUNC g i, PG.RXBUFDROP g i, PG.NOTRUN g i, PG.LINKDROP g i, PG.LENERR g i, PG.FCSERR g i,
   PG.TRAINCNT g i, PG.DEMOTED g i]

/-- A write of PCNTCLR. -/
def State.pgClear (s : State) (g : Nat) (w : Word) : State :=
  s.zero (((List.range 8).filter fun i => bit w.toNat i).flatMap (pgCounts g))

/-- PORTSTAT as it reads. -/
def State.portStat (s : State) (p : Nat) : Nat :=
  let ps := s.port p
  (match s.linkShown p with | .off => 0 | .train => 1 | .align => 2 | .up => 3 | .down => 4)
    + b2n ps.lock * 8 + b2n ps.lf * 16 + b2n ps.rf * 32 + b2n (s.pact p) * 64
    + (match ps.vstat with | .idle => 0 | .running => 1 | .succeeded => 2 | .failed => 3) * 128
    + (List.range 8).foldl (fun a c => a + b2n (s.paused p c) * 2 ^ (16 + c)) 0

/-- MOGCTL.ACTIVE and the FIFO registers as they read. -/
def State.tsfTag (s : State) (g : Nat) : Nat :=
  match (s.pg g).tsf.head? with
  | some e => 1 + e.slot * 2 + e.msg % 16 * 16 + e.domain % 256 * 256 + e.seq % 65536 * 65536
  | none => 0

/-- A write of PFCTIME: QUANTA 0 is written as 1; REFRESH is judged against the new QUANTA. -/
def pfcTime (w : Word) : Word :=
  let q := if fld w 15 0 = 0 then 1 else fld w 15 0
  let r := if fld w 31 16 < q then fld w 31 16 else q / 2
  ins (ins w 15 0 q) 31 16 (if r = 0 then 1 else r)

end Sys2Proof.Machine
end

