-- ==== Sys2Proof/Machine/Tx.lean ====
section
/-! DEFINITION. What a port's transmitter emits, and a preemptable frame in transmission (R78): its fragments, and the
boundary at which the MAC ends one. -/

namespace Sys2Proof.Machine

/-- A frame that carried a version slot ends as its holder (R160). -/
def State.txRelease (s : State) (f : TxFrame) : State := if f.holder then s.release f.m.vertag else s

/-- Bytes of a frame with its FCS. -/
def TxNow.len (x : TxNow) : Nat := x.body.length + 4

/-- Nanoseconds that n bytes take at the port's rate. -/
def State.sendNs (s : State) (p n : Nat) : Nat := let r := s.portRate p; if r = 0 then 0 else cdiv (n * 8) r

/-- Bytes that the current fragment, begun at a model time, has sent by now. -/
def State.txBytes (s : State) (p t : Nat) : Nat := (s.now - t) * s.portRate p / 8

/-- Bytes of the frame in transmission that have been sent by now. -/
def State.txSent (s : State) (p : Nat) (x : TxNow) : Nat := x.sent + x.start.elim 0 (s.txBytes p)

/-- The least bytes of a non-final fragment, without its mCRC (R78). -/
def State.minFrag (s : State) (p : Nat) : Nat := (1 + s.f (cfgKey p) 8 7) * 64 - 4

/-- The earliest byte, not before `done`, at which a fragment may end: it has `least` bytes, and at least 64 of the `left`
that the frame still had at the fragment's start remain (R78). -/
def fragEnd (least left done : Nat) : Option Nat :=
  let k := max done least
  if k + 64 ≤ left then some k else none

/-- The frame in transmission completes. -/
def State.txFinish (s : State) (p : Nat) : State :=
  match (s.port p).txNow with
  | none => s
  | some x =>
    match x.start with
    | none => s
    | some t =>
      let s := s.until (t + s.sendNs p (x.len - x.sent))
      let s := s.setPort p { s.port p with txNow := none }
      let s := s.emitPort p (if x.frags = 0 then .frame p x.body x.xor x.ts
        else .fragment p x.frags (x.body.drop x.sent) (some x.xor) x.ts)
      s.txRelease x.f

/-- An express frame, or HOLD, preempts the frame in transmission: its fragment ends at the earliest legal byte, or, where
none remains, the frame completes (R78, R234). -/
def State.txCut (s : State) (p : Nat) : State :=
  match (s.port p).txNow with
  | none => s
  | some x =>
    match x.start with
    | none => s
    | some t =>
      match fragEnd (s.minFrag p) (x.len - x.sent) (s.txBytes p t) with
      | none => s.txFinish p
      | some k =>
        let s := s.until (t + s.sendNs p k)
        (s.setPort p { s.port p with txNow := some { x with sent := x.sent + k, frags := x.frags + 1, start := none } }).emitPort p
          (.fragment p x.frags (slice x.body x.sent k) none x.ts)

/-- A preempted frame goes on with its next fragment. -/
def State.txResume (s : State) (p : Nat) : State :=
  match (s.port p).txNow with
  | none => s
  | some x => s.setPort p { s.port p with txNow := some { x with start := some (x.start.getD s.now) } }

/-! ## PFC frames (R77), which use the express MAC (R78) -/

/-- PFC_SEND (R77): on an UP port, one PFC frame with an entry for each allowed class newly crossed, and a zero-quanta entry
for each that fell back (log entry 130). -/
def execPfcSend (p : Port) (s : State) : Host.Outcome State Fault Refusal :=
  .next (
    let ps := s.port p
    let new := (List.range 8).filter fun c =>
      s.pfcAllowed p c && s.crossed p c && (kget? ps.pfcSent c).isNone
    let old := (List.range 8).filter fun c => !(s.pfcAllowed p c && s.crossed p c) && (kget? ps.pfcSent c).isSome
    if !s.maySend p || (new.isEmpty && old.isEmpty) then s
    else
      let q := s.f (PG.PFCTIME (pgOf p) (slotOf p)) 15 0
      let sent := new.foldl (fun m c => kset m c s.now) (old.foldl (fun m c => kerase m c) ps.pfcSent)
      let s := s.txCut p
      (s.setPort p { s.port p with pfcSent := sent }).emitPort p
        (.frame p (s.pfcFrame p (new.map (fun c => (c, q)) ++ old.map fun c => (c, 0))) 0 s.tim.count))

/-- PFC_REFRESH (R77): REFRESH quanta after the last PFC frame of a class that stays crossed, it is sent again. -/
def execPfcRefresh (p : Port) (s : State) : Host.Outcome State Fault Refusal :=
  .next (
    match (s.port p).pfcSent with
    | [] => s
    | e :: rest =>
      let first := rest.foldl (fun a x => min a x.2) e.2
      let s := s.until (first + s.quantaNs p (s.f (PG.PFCTIME (pgOf p) (slotOf p)) 31 16))
      let ps := s.port p
      let due := (List.range 8).filter fun c =>
        s.pfcAllowed p c && s.crossed p c &&
          (match kget? ps.pfcSent c with
            | some t => decide (t + s.quantaNs p (s.f (PG.PFCTIME (pgOf p) (slotOf p)) 31 16) ≤ s.now)
            | none => false)
      if !s.maySend p || due.isEmpty then s
      else
        let q := s.f (PG.PFCTIME (pgOf p) (slotOf p)) 15 0
        let s := s.txCut p
        (s.setPort p { s.port p with pfcSent := due.foldl (fun m c => kset m c s.now) ps.pfcSent }).emitPort p
          (.frame p (s.pfcFrame p (due.map fun c => (c, q))) 0 s.tim.count))

end Sys2Proof.Machine
end

