-- ==== Sys2Proof/Machine/Slalom.lean ====
section
/-! DEFINITION. Slalom gate lists (R233 to R236), the rate of a port (R228) and the express terms (R239). -/

namespace Sys2Proof.Machine

/-- SCH's causes. -/
abbrev irqGATESTART : Nat := 0
abbrev irqGATELATE : Nat := 1
abbrev irqXLOST : Nat := 2
abbrev irqGATEBAD : Nat := 3

/-! ## Lists -/

def State.gate (s : State) (p : Nat) : Gate := kgetD s.sch.gates p {}
def State.setGate (s : State) (p : Nat) (g : Gate) : State := { s with sch := { s.sch with gates := kset s.sch.gates p g } }

/-- An entry of a list, by GLIDX: port, list, entry. -/
def State.glent (s : State) (p list e : Nat) : Word := s.rd (SCH.GLENT (p + list * 256 + e * 65536))

/-- The staged length of a list. -/
def State.glen (s : State) (p list : Nat) : Nat := if list = 0 then s.f (SCH.GLEN p) 8 0 else s.f (SCH.GLEN p) 24 16

/-- The entries of a run. -/
def State.gents (s : State) (p : Nat) (r : GateRun) : List Word := (List.range r.len).map fun e => s.glent p r.list e

/-- The offset in its cycle at which each entry starts, with its word; entries that start at or after the cycle end are
never in force. -/
def gateStarts (cyc : Nat) : Nat → List Word → List (Nat × Word)
  | _, [] => []
  | at_, w :: t => if at_ < cyc then (at_, w) :: gateStarts cyc (at_ + fld w 31 8) t else []

/-- The entry that covers an offset: the last that has started (R233). -/
def gateCover (l : List (Nat × Word)) (off : Nat) : Nat := (l.filter fun e => e.1 ≤ off).length - 1

/-- The instant of the boundary that ends the entry in force. -/
def State.gateNext (s : State) (p : Nat) (r : GateRun) : Nat :=
  match (gateStarts r.cyc 0 (s.gents p r))[r.ent + 1]? with
  | some e => r.start + e.1
  | none => r.start + r.cyc

/-- The run at an instant at or past its start: the cycle and the entry that cover it. -/
def State.gateAt (s : State) (p : Nat) (r : GateRun) (i : Nat) : GateRun :=
  let off := i - r.start
  { r with start := r.start + off / r.cyc * r.cyc, ent := gateCover (gateStarts r.cyc 0 (s.gents p r)) (off % r.cyc) }

/-- The entry word in force; none where every gate is open. -/
def State.gateWord (s : State) (p : Nat) : Option Word := (s.gate p).op.map fun r => s.glent p r.list r.ent

/-- The gate of a class is open; class 7 is never gated. -/
def State.gateOpen (s : State) (p c : Nat) : Bool :=
  c == 7 || (match s.gateWord p with | some w => w.getLsbD c | none => true)

/-- HOLD is in force on the port. -/
def State.gateHold (s : State) (p : Nat) : Bool := match s.gateWord p with | some w => w.getLsbD 7 | none => false

/-- The entries from one in force to the end of the next cycle, each with the instant it starts. -/
def State.gateAhead (s : State) (p : Nat) (r : GateRun) : List (Nat × Word) :=
  let l := gateStarts r.cyc 0 (s.gents p r)
  (l.drop r.ent).map (fun e => (r.start + e.1, e.2)) ++ l.map fun e => (r.start + r.cyc + e.1, e.2)

/-- The instant at which an open gate of the class next closes; none where it never does (R234). -/
def State.gateClose (s : State) (p c : Nat) : Option Nat :=
  let g := s.gate p
  let shut (l : List (Nat × Word)) : Option Nat := (l.find? fun e => !e.2.getLsbD c).map (·.1)
  let cur : List (Nat × Word) := match g.op with | some r => s.gateAhead p r | none => []
  match g.pend with
  | none => shut cur
  | some r => shut (cur.filter (fun e => e.1 < r.start) ++ s.gateAhead p r)

/-- A frame of charge B fits before the class's gate closes, sent at the port's Ethernet rate (R234). -/
def State.gateFits (s : State) (p c b : Nat) : Bool :=
  c == 7 || (s.gateOpen p c && (match s.gateClose p c with
    | none => true
    | some t => decide (s.tai * s.portRate p + b * 8 < t * s.portRate p)))

/-! ## Starting a list (R235) -/

/-- The SLALOM checks of R240 on a list with a length and cycle. -/
def State.slalomOk (s : State) (p list len cyc : Nat) : Bool :=
  decide (1 ≤ len) && decide (len ≤ 256) && decide (1000 ≤ cyc) && decide (cyc ≤ 1000000000) &&
    (List.range len).all fun e => decide (fld (s.glent p list e) 31 8 ≠ 0)

/-- S and N of a start of BASE and CYCLE that must not come before an instant (R235). -/
def startInstant (base cyc least : Nat) : Nat × Nat :=
  if least ≤ base then (base, 0) else let n := cdiv (least - base) cyc; (base + n * cyc, n)

/-- A GO. -/
def State.gateGo (s : State) (p : Nat) : State :=
  let list := s.f (SCH.GATECTL p) 1 1
  let g := s.gate p
  let cyc := s.f (SCH.GCYCLE p) 29 0
  if g.pend.isSome || !s.fb (SCH.GATECTL p) 4 || (g.op.map (·.list)) = some list then s.badAcc
  else if !s.slalomOk p list (s.glen p list) cyc then (s.setB (SCH.GATESTAT p) 31).irq pgSCH irqGATEBAD
  else
    let x := startInstant (s.rd64 (SCH.GBASE_LO p) (SCH.GBASE_HI p)) cyc (s.tai + s.f SCH.GATELEAD 29 0)
    let s := s.setGate p { g with pend := some { list := list, len := s.glen p list, cyc := cyc, start := x.1 } }
    let s := s.wr (SCH.GATESTAT p) (BitVec.ofNat 32 (min x.2 2147483647))
    if 1 ≤ x.2 then (s.bump SCH.GLATE).irq pgSCH irqGATELATE else s

/-- A write of GATECTL: LIST and EN are stored; EN 0 opens every gate and ends a scheduled start; then GO. -/
def State.gateCtl (s : State) (p : Nat) (w : Word) : State :=
  let s := (s.setF (SCH.GATECTL p) 1 1 (fld w 1 1)).setF (SCH.GATECTL p) 4 4 (fld w 4 4)
  let s := if fld w 4 4 = 0 then s.setGate p {} else s
  if fld w 0 0 = 1 then s.gateGo p else s

/-- GATE_GO (R235). -/
def execGateGo (p : Port) (w : Word) (s : State) : Host.Outcome State Fault Refusal :=
  .next (s.goWr (SCH.GATECTL p.val) w fun s w => s.gateCtl p.val w)

/-- HOLD has become 1 where preemption is active: the MAC preempts the frame in transmission (R234). -/
def State.holdMoved (s t : State) (p : Nat) : State := if !s.gateHold p && t.gateHold p && t.pact p then t.txCut p else t

/-- GATE_LIST_START (R235, R236): at S the new list replaces the old one. -/
def State.gateBegin (s : State) (p : Nat) : State :=
  match (s.gate p).pend with
  | none => s
  | some r =>
    let s := s.untilInstant r.start
    let s := s.setGate p { op := some (s.gateAt p r s.tai), pend := none }
    (s.wr (SCH.ACYCLE p) (BitVec.ofNat 32 r.cyc)).irq pgSCH irqGATESTART

def State.gateStart (s : State) (p : Nat) : State := s.holdMoved (s.gateBegin p) p

def execGateListStart (p : Port) (s : State) : Host.Outcome State Fault Refusal := .next (s.gateStart p.val)

/-- GATE_ENTRY_CHANGE (R234, R236): the boundary of the entry in force comes, unless a scheduled start comes before it. -/
def State.gateMove (s : State) (p : Nat) : State :=
  match (s.gate p).op with
  | none => s
  | some r =>
    let next := s.gateNext p r
    if (match (s.gate p).pend with | some q => decide (q.start ≤ next) | none => false) then s
    else
      let s := s.untilInstant next
      s.setGate p { s.gate p with op := some (s.gateAt p r next) }

def State.gateChange (s : State) (p : Nat) : State := s.holdMoved (s.gateMove p) p

def execGateEntryChange (p : Port) (s : State) : Host.Outcome State Fault Refusal := .next (s.gateChange p.val)

/-- GATEUNC (R242): the port's EN clears and every gate opens. -/
def State.gateUnc (s : State) (p : Nat) : State := (s.setF (SCH.GATECTL p) 4 4 0).setGate p {}

/-! ## The rate of a port (R228) -/

/-- The capacity shaper that applies to a port. -/
def State.capOf (s : State) (p : Nat) : Option Nat :=
  ((s.listed (SCH.CAP 0) (SCH.CAP 512)).find? fun e =>
    e.1 % 16 = SCH.CAP 0 % 16 && fld e.2 16 16 = 1 && fld e.2 31 24 = p).map fun e => (e.1 - SCH.CAP 0) / 16

/-- The port shaper applies. -/
def State.pshOn (s : State) (p : Nat) : Bool := bit (s.par (shPort p)).ctl 8

/-- r in kb/s. -/
def State.rateKb (s : State) (p : Nat) : Nat :=
  let r := s.portRate p * 1000000
  let r := if s.pshOn p then min r (s.par (shPort p)).cir else r
  match s.capOf p with | some c => min r (s.rateC (shCap c)) | none => r

/-- PSTAT.RATE. -/
def State.rateMb (s : State) (p : Nat) : Nat := s.rateKb p / 1000

/-! ## The express terms (R239) -/

/-- Enabled queues whose SQMAP is at slot 5 of the port root of a port. Only those whose SQMAP differs from reset can
be enabled. -/
def State.expressQueues (s : State) (p : Nat) : List Nat :=
  (s.regs.filter fun e =>
    16777216 ≤ e.1 && decide (e.1 < 1152921504606846976) && e.1 % 16777216 == SCH.SQMAP 0 % 16777216 &&
      fld e.2 19 19 == 1 && fld e.2 15 13 == 5 &&
      (let n := s.rd (SCH.NODECFG (fld e.2 12 0))
       fld n 16 16 == 1 && fld n 17 17 == 0 && fld n 19 19 == 1 && fld n 27 20 == p)).map
    fun e => e.1 / 16777216 - 1

/-- The port has a SecY bound to it (MSC.SECYCFG.EN and PORT). -/
def State.hasSecy (s : State) (p : Nat) : Bool :=
  s.regs.any fun e => 16777216 ≤ e.1 && decide (e.1 < 1152921504606846976) &&
    e.1 % 16777216 == MSC.SECYCFG 0 % 16777216 && fld e.2 0 0 == 1 && fld e.2 8 1 == p

/-- PSTAT.XOK as the conditions of R239 give it. -/
def State.xok (s : State) (p : Nat) : Bool :=
  let xs := s.f (SCH.XSMAX p) 11 0
  !(s.expressQueues p).isEmpty && s.pact p && decide (2 * (s.rd (SCH.XCIR p)).toNat ≤ s.rateKb p) &&
    decide (1 ≤ xs) && decide (xs ≤ 2048) && s.fb TMG.CFG 0 && !s.fb (PG.MOGULPERMIT (pgOf p)) 0 && s.isUp p

/-- DMAX. -/
def State.dmax (s : State) (p : Nat) : Nat :=
  if s.xok p && s.rateMb p ≠ 0 then
    min 16777215 (1600 + 96 * b2n (s.hasSecy p) +
      cdiv ((s.f (SCH.XBE p) 23 0 + 2 * s.f (SCH.XSMAX p) 11 0) * 8000) (s.rateMb p))
  else 16777215

/-- XOK is kept; a fall counts and interrupts. -/
def State.xokPoll (s : State) (p : Nat) : State :=
  let was := s.fb (SCH.PSTAT p) 22
  let is := s.xok p
  let s := s.setF (SCH.PSTAT p) 22 22 (b2n is)
  if was && !is then (s.bump SCH.XLOSTCNT).irq pgSCH irqXLOST else s

/-- Every port whose XOK may differ from what PSTAT holds: those with XSMAX or PSTAT off their reset values. -/
def State.xokPorts (s : State) : List Nat :=
  (((s.listed (SCH.PSHRATE 0) (SCH.PSHRATE 160)).filter fun e => e.1 % 32 == 20 || e.1 % 32 == 24).map
    fun e => (e.1 - SCH.PSHRATE 0) / 32).eraseDups

def State.xokAll (s : State) : State := s.xokPorts.foldl (fun t p => t.xokPoll p) s

/-- SHAPER_COMMIT (R227). A port shaper's rate is a term of r, and so of XOK. -/
def execShaperCommit (off : Offset) (w : Word) (s : State) : Host.Outcome State Fault Refusal :=
  .next (s.shaperCommit (off.toNat % 65536) w).xokAll

/-- PSTAT as it reads. -/
def State.pstat (s : State) (p : Nat) : Nat :=
  s.rateMb p + b2n (s.xok p) * 4194304
    + (match s.gateWord p with | some w => fld w 6 0 | none => 127) * 8388608 + b2n (s.gateHold p) * 1073741824

/-- GATECTL as it reads. -/
def State.gatectl (s : State) (p : Nat) : Nat :=
  s.f (SCH.GATECTL p) 1 1 * 2 + (match (s.gate p).op with | some r => r.list | none => 0) * 4
    + b2n (s.gate p).pend.isSome * 8 + s.f (SCH.GATECTL p) 4 4 * 16

end Sys2Proof.Machine
end

