-- ==== Sys2Proof/Machine/Ingress.lean ====
section
/-! DEFINITION. The ingress piste: stages, exceptions and the action step (R104 to R117, R159, R168, R169). -/

namespace Sys2Proof.Machine

/-! ## Stages -/

/-- What a packet's stages have decided: the results and their written flags (R109), EXC, STOP, and the stages that hit
and missed. -/
structure StageSt where
  cls : Nat := 0
  eg : Nat := 0
  tpl : Nat := 0
  ud : Nat := 0
  pol : Option Nat := none
  act : Option Nat := none
  wEg : Bool := false
  wCls : Bool := false
  wTpl : Bool := false
  wLo : Bool := false
  wHi : Bool := false
  exc : Nat := 0
  stop : Bool := false
  lift : Bool := false
  drop : Bool := false
  hits : List Nat := []
  misses : List Nat := []
  deriving DecidableEq, Repr, Inhabited

/-- The hit vector. -/
def StageSt.hitVec (t : StageSt) : Nat := t.hits.foldl (fun a i => setBit a i true) 0

/-- USERDATA with one half written. -/
def udPut (ud hi v : Nat) : Nat :=
  if hi = 1 then ud % 4294967296 + v * 4294967296 else ud / 4294967296 * 4294967296 + v

/-- The key word a condition of R106 reads holds. -/
def condHolds (t : StageSt) (hv cond cstage chdr : Nat) : Bool :=
  match cond with
  | 0 => true
  | 1 => t.hits.contains cstage
  | 2 => t.misses.contains cstage
  | 3 => bit hv chdr
  | 4 => !bit hv chdr
  | _ => false

/-- An exception is raised (R113, R114): its own count rises, EXC keeps the first, a later one is shadowed. -/
def State.raise (s : State) (g exc code : Nat) : State × Nat :=
  let s := s.bump (IP.EXCCNT g code)
  let s := if code ≤ 5 then s.irq (pgIP g) 0 else s
  let s := s.event (pgIP g) 0x103 1 fun q => q == code
  if exc = 0 then (s, code) else (s.bump (IP.SHADOWED g), exc)

/-- The disposition of an exception code: 0 FORWARD, 1 DROP, 2 PUNT, 3 COPY (R115). -/
def State.disp (s : State) (g code : Nat) : Nat := if code = 0 then 0 else s.f (IP.EXCMAP0 g code) 1 0

/-- R116: EXC holds a code whose DISP is DROP or PUNT. -/
def State.halted (s : State) (g exc : Nat) : Bool := s.disp g exc = 1 || s.disp g exc = 2

/-- An action record merges its writes under R109. -/
def mergeRec (t : StageSt) (ar : Nat) : StageSt :=
  let may (flag : Bool) (n : Nat) : Bool := bit ar n && (!flag || bit ar 104)
  let t := if may t.wEg 97 then { t with eg := rbits ar 7 0, wEg := true } else t
  let t := if may t.wCls 98 then { t with cls := rbits ar 10 8, wCls := true } else t
  let t := if may t.wTpl 99 then { t with tpl := rbits ar 23 12, wTpl := true } else t
  let hi := rbits ar 96 96
  let t := if may (if hi = 1 then t.wHi else t.wLo) 100 then
      { t with ud := udPut t.ud hi (rbits ar 95 64), wHi := t.wHi || hi == 1, wLo := t.wLo || hi == 0 }
    else t
  let t := if may t.pol.isSome 101 then { t with pol := some (rbits ar 40 24) } else t
  let t := if may t.act.isSome 102 then { t with act := some (rbits ar 52 41) } else t
  if bit ar 11 then { t with stop := true } else t

/-- A key word of an ingress stage (R105). -/
def ingressWord (p : Pkt) (r : PRes) (t : StageSt) (sel : Nat) : Nat :=
  if sel < 64 then r.c sel
  else match sel with
    | 0x40 => p.m.srcPort
    | 0x41 => p.m.hash.toNat
    | 0x42 => t.ud % 4294967296
    | 0x43 => t.ud / 4294967296
    | 0x44 => t.cls * 16777216 + t.eg * 65536 + t.tpl
    | 0x45 => t.hitVec + p.m.pass * 65536
    | 0x46 => r.hv % 4294967296
    | 0x47 => r.hv / 4294967296
    | _ => 0

/-- Selector j of a stage's two key registers. -/
def selOf (a b : Word) (j : Nat) : Nat := if j < 4 then fld a (8 * j + 7) (8 * j) else fld b (8 * (j - 4) + 7) (8 * (j - 4))

/-- The miss record of a stage. -/
def missRec (s : State) (key : Nat → Nat) : Nat :=
  (List.range 4).foldl (fun a i => a + (s.rd (key i)).toNat * 2 ^ (32 * i)) 0

/-- R142: the learn event of a source lookup on PASS 0. -/
def State.learnLookup (s : State) (h part : Nat) (p : Pkt) (ws : List Nat) (l : Look) : State :=
  let pt := s.partn h part
  let key := BitVec.ofNat 64 (keyNat (ws.take 2))
  if !pt.learn || p.m.pass ≠ 0 || l.ecc.isSome then s
  else if l.hit then
    if bit l.ctl 28 || l.ctl % 131072 = (pt.lrnbase + p.m.srcPort) % 131072 then s
    else s.learnEvent h key p.m.srcPort (some ((l.ctl % 131072 + 131072 - pt.lrnbase) % 131072)) part
  else if rbits key.toNat 15 14 = 0 then s.learnEvent h key p.m.srcPort none part
  else s

/-- The lookup of stage i for words ws: the hit flag and the ECC source of the rows it reads (R127, R104). -/
def State.stageLook (s : State) (g i : Nat) (cfg : Word) (tag : Nat) (ws : List Nat) : State × Look :=
  let h := halfOf g
  let source := s.fb LRN.CFG 0 && s.f LRN.CFG 4 1 == i
  let l := s.look h (fld cfg 4 2) (fld cfg 10 5) (s.vis tag) ws
  (s.lookEffect h (fld cfg 4 2) (fld cfg 10 5) source l, l)

/-- The key words of stage i. -/
def State.stageKey (s : State) (g : Nat) (p : Pkt) (r : PRes) (t : StageSt) (cfg : Word) (i : Nat) : List Nat :=
  (List.range (fld cfg 13 11 + 1)).map fun j =>
    ingressWord p r t (selOf (s.rd (IP.STAGEKEYA g i)) (s.rd (IP.STAGEKEYB g i)) j)

/-- Stage i of an ingress piste. One that does not run counts; a HASH stage has issued its lookup by then, and discards
what it fetched (R104, R106): no learn event either (log entry 78). -/
def State.ingressStage (g : Nat) (p : Pkt) (r : PRes) (acc : State × StageSt) (i : Nat) : State × StageSt :=
  let s := acc.1
  let t := acc.2
  let cfg := s.rd (IP.STAGECFG g i)
  let mode := fld cfg 1 0
  if mode = 0 || mode = 3 then acc
  else if t.stop || s.halted g t.exc || !condHolds t r.hv (fld cfg 16 14) (fld cfg 20 17) (fld cfg 26 21) then
    let s := if mode = 2 then (s.stageLook g i cfg p.m.vertag (s.stageKey g p r t cfg i)).1 else s
    (s.bump (IP.SNOTRUN g i), t)
  else
    let h := halfOf g
    let ws := s.stageKey g p r t cfg i
    let x := s.stageLook g i cfg p.m.vertag ws
    let l := x.2
    let s := x.1
    let s := if s.fb LRN.CFG 0 && s.f LRN.CFG 4 1 == i && fld cfg 4 2 = 1 then
      s.learnLookup h (fld cfg 10 5 % 16) p ws l else s
    let s := if l.hit then (s.bump (IP.HITCNT g i)).event (pgIP g) 0x102 1 fun q => q % 16 == i else s.bump (IP.MISSCNT g i)
    let t := if l.hit then { t with hits := i :: t.hits } else { t with misses := i :: t.misses }
    let x := if l.ecc.isSome then
        let y := s.raise g t.exc 0x10
        (y.1.irq (pgIP g) 1, y.2)
      else (s, t.exc)
    let s := x.1
    let ar := if l.hit then l.rec128 else missRec s (fun k => IP.MISSACT g i k)
    let t := mergeRec { t with exc := x.2 } ar
    if bit ar 103 then
      let y := s.raise g t.exc (0x80 + rbits ar 59 53)
      (y.1, { t with exc := y.2 })
    else (s, t)

/-! ## Host-bound packets (R117) -/

/-- An ingress piste hands a result to TMG. -/
def State.handOn (s : State) (g : Nat) (o : IngOut) : State := s.setIp g { s.ip g with out := (s.ip g).out ++ [o] }

/-- A punted packet or a host copy: metered colour-blind, and discarded when red; its holder is already counted. -/
def State.toHost (s : State) (g : Nat) (copy : Bool) (p : Pkt) : State :=
  let w0 := s.rd (IP.EXCMAP0 g p.m.exc)
  let w1 := s.rd (IP.EXCMAP1 g p.m.exc)
  let x := if fld w1 17 17 = 1 then s.meter (halfOf g) (fld w1 16 0) true (p.bytes.length + 4) cGreen else (s, cGreen)
  if x.2 = cRed then (x.1.bump (IP.EXCPOLDROP g)).release p.m.vertag
  else x.1.handOn g (.host (fld w0 7 2) (fld w0 10 8) copy p)

/-! ## The action step (R112, R168, R169) -/

/-- The pre-colour (R112). -/
def State.preColour (s : State) (g : Nat) (r : PRes) : Nat :=
  let w := s.rd (IP.POLCFG g)
  let v := r.c (fld w 7 2) / 2 ^ fld w 12 8
  match fld w 1 0 with
  | 1 => v % 2
  | 2 => let d := v % 64
    fld (s.rd (IP.PRECOLMAP g (d / 16))) (2 * (d % 16) + 1) (2 * (d % 16))
  | _ => cGreen

/-- QSEL (R168). -/
def qidOf (a0 a1 : Word) (eg cls ud : Nat) : Nat :=
  match fld a0 1 0 with
  | 0 => eg * 128 + cls
  | 1 => eg * 128 + ud / 2 ^ fld a0 7 2 % 16 * 8 + cls
  | 2 => ud / 4294967296 % 131072
  | _ => (fld a1 16 0 + cls) % 131072

/-- A bonded group's logical port is 224 + its number (R243). -/
def bondOf (eg : Nat) : Option Nat := if 224 ≤ eg then some (eg - 224) else none

/-- The ingress port admits class 7 as express. -/
def State.xadmit (s : State) (src : Nat) : Bool := decide (src < 160) && s.fb (cfgKey src) 9

/-- Steps 2 to 8 of R168 for a packet whose disposition forwards it. -/
def State.actionStep (s : State) (g : Nat) (r : PRes) (t : StageSt) (p : Pkt) : State :=
  let a0 := match t.act with | some a => s.rd (IP.APROF0 g a) | none => 0
  let a1 := match t.act with | some a => s.rd (IP.APROF1 g a) | none => 0
  let pre := s.preColour g r
  let x := match t.pol with
    | some i => s.meter (halfOf g) i false (p.bytes.length + 4) pre
    | none => (s, pre)
  let s := x.1
  if fld a0 9 9 = 1 && x.2 = cRed then (s.bump (IP.REDDROP g)).release p.m.vertag
  else
    let express := t.cls == 7 && s.xadmit p.m.srcPort && fld a0 8 8 == 1
    let mc := fld a0 10 10 == 1 || (!t.wEg && fld a0 12 11 == 1)
    if !mc && !t.wEg then (s.bump (IP.NOEGRDROP g)).release p.m.vertag
    else
      let m := { p.m with
        colour := x.2, express := express, bond := bondOf t.eg, mirror := fld a0 20 13,
        mcgrp := if mc then some (t.ud / 281474976710656) else none,
        qid := if mc then p.m.qid else qidOf a0 a1 t.eg t.cls t.ud }
      s.handOn g (.forward { p with m := m })

/-- A packet passes the piste once it is at its input: version stamp, parse, hash, stages, exceptions, actions. -/
def State.ingress (s : State) (g : Nat) (p : Pkt) : State :=
  let first := p.m.pass = 0
  let lift := !first
  let tag := if first then s.ver.current.getD 0 else p.m.vertag
  let s := if first then (s.hold tag).event pgVER 0x100 1 fun _ => true else s
  let q (n : Nat) : Bool := n % 4 == 0 || (n % 4 == 1 && first) || (n % 4 == 2 && lift)
  let s := s.event (pgIP g) 0x100 1 q
  let s := s.event (pgIP g) 0x101 (p.bytes.length + 4) q
  let p := { p with m := { p.m with vertag := tag, exc := 0 } }
  let r := s.parse g p
  let p := if first then { p with m := { p.m with hash := s.symHash g r } } else p
  let cls0 := if lift || 160 ≤ p.m.srcPort then p.m.cls else s.f (IP.PSLOT g (p.m.srcPort % 8)) 10 8
  let x := r.codes.foldl (fun (a : State × Nat) c => a.1.raise g a.2 c) (s, 0)
  let t0 : StageSt := {
    cls := cls0, exc := x.2,
    eg := if lift then p.m.egrPort else 0,
    tpl := if lift then p.m.template else 0,
    ud := if lift then p.m.userData.toNat else 0 }
  let y := (List.range 16).foldl (State.ingressStage g p r) (x.1, t0)
  let s := y.1
  let t := y.2
  let p := { p with m := { p.m with
    exc := t.exc, cls := t.cls, egrPort := t.eg, template := t.tpl, userData := BitVec.ofNat 64 t.ud } }
  match s.disp g t.exc with
  | 1 => s.release tag
  | 2 => s.toHost g false p
  | 3 => ((s.hold tag).toHost g true p).actionStep g r t p
  | _ => s.actionStep g r t p

/-- The packet at the head of the piste's inputs in the order of R21: receive buffer, Lift, CPU packet port. -/
def State.ingressNext (s : State) (g : Nat) : Option (Pkt × State) :=
  let pg := s.pg g
  let ep := s.ep g
  let ip := s.ip g
  match pg.rxbuf, ep.lift, ip.cpuIn with
  | p :: t, _, _ => some (p, s.setPg g { pg with rxbuf := t })
  | [], p :: t, _ => some (p, s.setEp g { ep with lift := t })
  | [], [], p :: t => some (p, s.setIp g { ip with cpuIn := t })
  | [], [], [] => none

/-- A packet starts at the piste: one clock that is no idle slot (R398). -/
def State.slotStart (s : State) (g : Nat) : State :=
  { s with tim := { s.tim with starts := kset s.tim.starts g (kgetD s.tim.starts g 0 + 1) } }

/-- The end of the burst in which the Snowplough withholds the piste's slots, now where there is none (R23). -/
def State.slotsFrom (s : State) (g : Nat) : Nat :=
  match kget? s.pwr.bursts g with | some b => max s.now b.until_ | none => s.now

/-- INGRESS_PACKET (R420): the next packet enters the piste if the piste is RUNNING and the device forwards (R58,
R119), not before a burst of withheld slots has ended (R23). -/
def execIngressPacket (i : PgIx) (s : State) : Host.Outcome State Fault Refusal :=
  .next (if s.running (pgIP i.val) && s.forwarding then
      match (s.until (s.slotsFrom i.val)).ingressNext i.val with
      | some (p, s) => (s.slotStart i.val).ingress i.val p
      | none => s
    else s)

/-- The piste's accepted work: results TMG has not taken. -/
def State.ipWork (s : State) (g : Nat) : Bool := !(s.ip g).out.isEmpty

/-- The packet of a result. -/
def IngOut.pkt : IngOut → Pkt
  | .forward p => p
  | .host _ _ _ p => p

/-- A soft reset discards the packets in the piste (R119). -/
def State.ipReset (s : State) (g : Nat) : State :=
  let l := (s.ip g).out
  let s := s.addF (IP.RSTDROP g) 31 0 l.length
  (s.setIp g { s.ip g with out := [] }).releaseAll (l.map fun o => o.pkt.m.vertag)

end Sys2Proof.Machine
end

