-- ==== Sys2Proof/Machine/Drc.lean ====
section
/-! DEFINITION. DRC and the DRAM channels (R297 to R323). -/

namespace Sys2Proof.Machine

/-! ## Causes, sources and ports -/

/-- DRC's causes. -/
abbrev irqTRAINED : Nat := 0
abbrev irqFCDONE : Nat := 1
abbrev irqLATEREAD : Nat := 2
abbrev irqECCUNC : Nat := 3
abbrev irqOVERTEMP : Nat := 4

/-- Ports of R308. -/
abbrev dpSPILL : Nat := 0
abbrev dpREFILL : Nat := 1
abbrev dpEDDYW : Nat := 2
abbrev dpEDDYR : Nat := 3
abbrev dpBPM : Nat := 4
abbrev dpHOST : Nat := 5

/-- Channel states (R305). -/
abbrev csOFF : Nat := 0
abbrev csTRAINING : Nat := 1
abbrev csREADY : Nat := 2
abbrev csSELFREF : Nat := 3
abbrev csFCHANGE : Nat := 4
abbrev csRETRAIN : Nat := 5
abbrev csFAILED : Nat := 6

/-! ## Addresses (R299 to R301) -/

/-- TOTAL pages of the Basin (R204). -/
def State.basinPages (s : State) : Nat := s.basinGiB * 262144

/-- log2 of G. -/
def State.grainLog (s : State) : Nat := 8 + s.f DRC.CFG 2 0

/-- The channel of a Basin byte address, and its local address there. -/
def State.chanOf (s : State) (a : Nat) : Nat := a / 2 ^ s.grainLog % s.nCh
def State.localOf (s : State) (a : Nat) : Nat :=
  a / 2 ^ s.grainLog / s.nCh * 2 ^ s.grainLog + a % 2 ^ s.grainLog

/-- The Basin address of a channel's local address. -/
def State.basinAddr (s : State) (n l : Nat) : Nat :=
  (l / 2 ^ s.grainLog * s.nCh + n) * 2 ^ s.grainLog + l % 2 ^ s.grainLog

/-- Row and bank of a local address (R300). -/
def State.rowBank (s : State) (l : Nat) : Nat × Nat :=
  let row := l / 32768
  let raw := l / 2048 % 16
  (row, if s.f DRC.CFG 5 4 = 1 then Nat.xor raw (row % 16) else raw)

/-- The half whose scheduler takes a request for an address. -/
def State.dramHalf (s : State) (a : Nat) : Nat := if s.chanOf a < 32 then 0 else 1

/-- The 64-byte bursts of a request, by address. -/
def DReq.bursts (r : DReq) : List Nat := (List.range (cdiv r.len 64)).map fun i => r.addr + 64 * i

/-- The channels a request reaches. -/
def State.reqChans (s : State) (r : DReq) : List Nat := (r.bursts.map fun a => s.chanOf a).eraseDups

/-! ## Channels (R304 to R306) -/

def State.chSt (s : State) (n : Nat) : Nat := s.f (DC.DCSTAT n) 2 0
def State.chSet (s : State) (n : Nat) : Nat := s.f (DC.DCSTAT n) 3 3
def State.ch (s : State) (n : Nat) : ChanSt := kgetD s.drc.chans n {}
def State.putCh (s : State) (n : Nat) (c : ChanSt) : State := { s with drc := { s.drc with chans := kset s.drc.chans n c } }

/-- The channels present. -/
def State.chans (s : State) : List Nat := List.range s.nCh

/-- STAT.TRAINED follows the channels; its rise interrupts, and from the first one requests are issued (R304). -/
def State.trainPoll (s : State) : State :=
  let ok := s.nCh ≠ 0 && s.chans.all fun n => s.chSt n = csREADY || s.chSt n = csSELFREF || s.chSt n = csFCHANGE
  let was := s.fb DRC.STAT 0
  let s := s.setF DRC.STAT 0 0 (b2n ok)
  if ok && !was then ({ s with drc := { s.drc with ever := true } }).irq pgDRC irqTRAINED else s

/-- A channel enters a state. -/
def State.chGo (s : State) (n st : Nat) : State := (s.setF (DC.DCSTAT n) 2 0 st).trainPoll

/-- The channel and DRC run; and they run or complete what they have accepted (R45). -/
def State.chRuns (s : State) (n : Nat) : Bool := s.running pgDRC && s.running (pgDC n)
def State.chWorks (s : State) (n : Nat) : Bool :=
  [pgDRC, pgDC n].all fun p => s.running p || s.present p && (s.blk p).st == .draining

/-- A bank's row closes: a selected row gets its directed refresh management (R312, R316). -/
def State.closeBank (s : State) (n bank : Nat) : State :=
  let c := s.ch n
  match kget? c.rows bank with
  | none => s
  | some row =>
    let hit := c.sel.contains (bank, row)
    let s := s.putCh n { c with rows := kerase c.rows bank, used := kerase c.used bank, sel := c.sel.filter fun e => e ≠ (bank, row) }
    if hit then s.bump (DC.NRCNT n) else s

/-- Every row of a channel closes. -/
def State.closeAll (s : State) (n : Nat) : State := (s.ch n).rows.foldl (fun t e => t.closeBank n e.1) s

/-- The activates of a bank are counted; once they have reached what the DRAM allows, the refresh management that it
requires goes before the next one, whatever NREN is (R298, R316). -/
def ChanSt.activate (c : ChanSt) (n bank : Nat) : ChanSt :=
  let k := kgetD c.raa bank 0
  let k := if Config.raaLimit n ≤ k then k - Config.raaLimit n else k
  { c with raa := kset c.raa bank (k + 1) }

/-- One access to a row: an activate where the row is not open, which may select it (R316, R418). -/
def State.touch (s : State) (n bank row : Nat) : State :=
  let hit := kget? (s.ch n).rows bank = some row
  let served := if hit then (kgetD (s.ch n).used bank (0, 0)).2 + 1 else 1
  let s :=
    if hit then s
    else
      let s := (s.closeBank n bank).bump (DC.ACTS n)
      let c := (s.ch n).activate n bank
      let c := { c with rows := kset c.rows bank row }
      if s.fb DRC.CFG 8 then
        let v := c.lfsr
        let b := b2n (xor (xor (bit v 31) (bit v 21)) (xor (bit v 1) (bit v 0)))
        let v := (v * 2 + b) % 4294967296
        s.putCh n { c with lfsr := v, sel := if v % 2 ^ s.f DRC.CFG 13 9 = 0 then (bank, row) :: c.sel else c.sel }
      else s.putCh n c
  s.putCh n { s.ch n with used := kset (s.ch n).used bank (s.now, served) }

/-! ## Requests at the ports (R308 to R310) -/

/-- The request has been handed over and is not complete. -/
def DReq.open_ (r : DReq) : Bool := r.at_.isSome && r.fin.isNone

/-- A request waits for the channel. -/
def State.chQueued (s : State) (n : Nat) : Bool := s.drc.reqs.any fun r => r.open_ && (s.reqChans r).contains n

/-- A requester leaves a request at its port. -/
def State.drcPut (s : State) (r : DReq) : State :=
  { s with drc := { s.drc with reqs := s.drc.reqs ++ [{ r with id := s.drc.next }], next := s.drc.next + 1 } }

/-- Replace a request. -/
def State.drcSet (s : State) (r : DReq) : State :=
  { s with drc := { s.drc with reqs := s.drc.reqs.map fun q => if q.id = r.id then r else q } }

/-- The read tags a port holds in a half (R310): a tag is held until the data has been returned. -/
def State.tags (s : State) (port half : Nat) : Nat :=
  (s.drc.reqs.filter fun r => !r.write && r.tag && r.port == port && s.dramHalf r.addr == half).length

/-- Write-buffer bytes held in a half. -/
def State.wbuf (s : State) (half : Nat) : Nat :=
  (s.drc.reqs.filter fun r => r.write && r.at_.isSome && r.fin.isNone && s.dramHalf r.addr == half).foldl
    (fun a r => a + r.len) 0

/-- TAGMIN of a port; write-only ports hold none. -/
def State.tagMin (s : State) (p : Nat) : Nat := if p = 0 || p = 2 then 0 else s.f (DRC.PCFG p) 17 8

/-- A read of the port may take a tag of the half. -/
def State.tagFree (s : State) (port half : Nat) : Bool :=
  let held := (List.range 6).foldl (fun a p => a + s.tags p half) 0
  let kept := (List.range 6).foldl (fun a p => a + (s.tagMin p - s.tags p half)) 0
  decide (s.tags port half < s.tagMin port) || decide (held + kept < 768)

/-- Append an entry at the tail of BPM's ring. -/
def ringPut (ring : List (Nat × Nat)) (p : Nat) : List (Nat × Nat) :=
  match ring.getLast? with
  | some (q, c) => if q + c = p then ring.dropLast ++ [(q, c + 1)] else ring ++ [(p, 1)]
  | none => [(p, 1)]

/-- A copy of a ring block has been written, or its write has failed; `client` is block * 2 + copy. Once both writes of a
writeback are complete its entries are in the ring (R206, R207, R303). A write from before a reset counts no more. -/
def Bpm.wrote (b : Bpm) (client : Nat) (ok : Bool) : Bpm :=
  if 4294967296 ≤ client then b
  else
  let b := { b with lost := b.lost.filter (fun x => x ≠ client) ++ if ok then [] else [client] }
  match b.wb.find? fun e => e.1 = client / 2 with
  | none => b
  | some (k, out, n) =>
    if n ≤ 1 then { b with ring := out.foldl ringPut b.ring, wb := b.wb.filter fun e => e.1 ≠ k }
    else { b with wb := b.wb.map fun e => if e.1 = k then (k, out, n - 1) else e }

/-- A destination write of the transfer is acknowledged (R341): an error before the count has reached 0 is a beat error, and
one after it a late error. -/
def DmaXfer.acked (x : DmaXfer) (ok : Bool) : DmaXfer :=
  let x := { x with acks := x.acks - 1 }
  if ok then x else if x.handed = x.len then { x with late := true } else { x with err := true }

/-- The request at the HOST port belongs to the active transfer. -/
def DmaXfer.owns (x : DmaXfer) (r : DReq) : Bool := x.n == r.client

/-- The acknowledgements among what has left the HOST port. -/
def DmaXfer.ackAll (gone : List DReq) (x : DmaXfer) : DmaXfer :=
  gone.foldl (fun x r => if r.write && x.owns r then x.acked (r.fin == some true) else x) x

/-- What leaves the HOST port without a command: acknowledgements of writes, and reads that nobody waits for any longer
(R341, R342). -/
def State.hostSweep (s : State) : State :=
  let mine (r : DReq) : Bool := match s.dma.act with | some x => x.owns r && !x.stop | none => false
  let gone := (s.drc.reqs.filter fun r => r.port = dpHOST).takeWhile fun r => r.fin.isSome && (r.write || !mine r)
  let ids := gone.map fun r => r.id
  { s with
    drc := { s.drc with reqs := s.drc.reqs.filter fun r => !ids.contains r.id },
    dma := { s.dma with act := s.dma.act.map (DmaXfer.ackAll gone) } }

/-- MANAGED (R204). -/
def State.managed (s : State) : Nat := s.basinPages - s.basinPages / 512

/-- Basin address of a copy of a ring block (R206, R302). -/
def State.ringAddr (s : State) (block copy : Nat) : Nat :=
  let copyLen := s.basinPages * 4
  s.managed * 4096 + (if copy = 0 then 64 * block
    else copyLen + (64 * block + 4 * 2 ^ s.grainLog) % copyLen)

/-- A request of BPM at its DRC port. -/
def State.ringReq (s : State) (write : Bool) (block copy : Nat) : State :=
  s.drcPut { port := dpBPM, write := write, addr := s.ringAddr block copy, len := 64, client := block * 2 + copy }

/-- The ring's blocks that a build writes (R214). -/
def State.buildBlocks (s : State) : Nat := cdiv s.managed 16

/-- A build hands its next blocks to DRC, both copies of each, with at most 64 writes at the port (R206, R214; log entry
122). -/
def State.buildFill (s : State) : Nat → State
  | 0 => s
  | fuel + 1 =>
    if s.fb BPM.STAT 1 && s.bpm.build < s.buildBlocks &&
        (s.drc.reqs.filter fun r => r.port == dpBPM && r.write).length < 63 then
      let k := s.bpm.build
      let s := (s.ringReq true k 0).ringReq true k 1
      { s with bpm := { s.bpm with build := k + 1 } }.buildFill fuel
    else s

/-- Writes whose completion no command hands on leave their port in order: BPM's ring writes. A read that has returned
before them and waits at BPM for room in its cache does not keep them there (R207). -/
def State.ringSweep (s : State) : State :=
  let gone := ((s.drc.reqs.filter fun r => r.port = dpBPM).takeWhile fun r => r.fin.isSome).filter fun r => r.write
  let ids := gone.map fun r => r.id
  if gone.isEmpty then s
  else { s with
    drc := { s.drc with reqs := s.drc.reqs.filter fun r => !ids.contains r.id },
    bpm := gone.foldl (fun b (r : DReq) => b.wrote r.client (r.fin == some true)) s.bpm }.buildFill 32

/-- What leaves the ports without a command. -/
def State.drcSweep (s : State) : State := s.ringSweep.hostSweep

/-- A channel that no request waits for has free slots again (R307). -/
def State.slotPoll (s : State) (n : Nat) : State :=
  match s.chQueued n, (s.ch n).busy with
  | true, none => s.putCh n { s.ch n with busy := some s.now }
  | false, some _ => s.putCh n { s.ch n with busy := none, slot := false }
  | _, _ => s

/-- A request is handed over. -/
def State.drcHand (s : State) (r : DReq) (tag : Bool) : State :=
  let s := s.drcSet { r with at_ := some s.now, seq := s.drc.handed, tag := tag }
  (s.reqChans r).foldl State.slotPoll { s with drc := { s.drc with handed := s.drc.handed + 1 } }

/-- A request completes: counts, latency and its status (R309, R313). -/
def State.drcFin (s : State) (r : DReq) (ok : Bool) : State :=
  let s := s.drcSet { r with fin := some ok, at_ := some (r.at_.getD s.now) }
  let s := (s.reqChans r).foldl State.slotPoll s
  let s :=
    if r.write then (s.bump (DRC.WRITES r.port)).event pgDRC 0x101 1 fun q => q % 8 == r.port
    else
      let lat := s.now - r.at_.getD s.now
      let s := (s.bump (DRC.READS r.port)).event pgDRC 0x100 1 fun q => q % 8 == r.port
      let s := s.event pgDRC 0x102 lat fun q => q % 8 == r.port
      let s := if (s.rd (DRC.MAXLAT r.port)).toNat < lat then s.wr (DRC.MAXLAT r.port) (BitVec.ofNat 32 lat) else s
      if (if s.drc.fc.isSome then 10000 else 8000) < lat then
        ((s.bump (DRC.LATEREAD r.port)).fault pgDRC 0).irq pgDRC irqLATEREAD
      else s
  s.drcSweep

/-- A channel that trains, retrains or has failed serves nothing: the requests that wait for it complete with ERR (R305,
R322, R362). -/
def State.chDrops (s : State) (n : Nat) : State :=
  (s.drc.reqs.filter fun r => r.open_ && (s.reqChans r).contains n).foldl (fun t r => t.drcFin r false) s

/-- A controller PLL has lost lock: nothing that waits for the domain's channels is served (R362). -/
def State.pllUnlocked (s : State) (k : Nat) : State :=
  let s := if s.drc.unlocked.contains k then s else { s with drc := { s.drc with unlocked := s.drc.unlocked ++ [k] } }
  (s.chans.filter fun n => n / 4 = k).foldl State.chDrops s

/-- Bytes of a range lie on the channel. -/
def State.onChan (s : State) (n a len : Nat) : Bool := (List.range (cdiv len 64)).any fun i => s.chanOf (a + 64 * i) = n

/-- The pages of a queue whose bytes a channel held lose them: those in the middle segment, and those whose write DRC has
done (R305; log entry 143). -/
def State.chanPages (s : State) (n port : Nat) (v : Queue) : Queue :=
  let hit (p : PageRec) : PageRec := if s.onChan n (p.page * 4096) 4096 then { p with lost := true } else p
  let wrote (p : PageRec) : Bool := s.drc.reqs.any fun r => r.port == port && r.client == p.id && r.fin.isSome
  { v with middle := v.middle.map hit, outbound := v.outbound.map fun p => if wrote p then hit p else p }

/-! ## Bring-up, retraining and maintenance (R304 to R307) -/

/-- CHANNEL_BRINGUP (R304, R305): OFF to TRAINING. -/
def execChannelBringup (n : Chan) (s : State) : Host.Outcome State Fault Refusal :=
  .next (if n.val < s.nCh && s.chRuns n.val && s.basinCap ≠ 0 && s.chSt n.val = csOFF then
      ((s.putCh n.val { lfsr := n.val + 1 }).wr (DC.TRAINSTAT n.val) 0x10).chGo n.val csTRAINING
    else s)

/-- The trained delays of a channel are the part's own: the spec gives them no value (log entry 3). -/
def State.deskew (s : State) (n : Nat) : State :=
  (List.range 24).foldl (fun t b => let d := t.drawFree
    d.2.wr (DC.DESKEW n b) (d.1.setWidth 32)) s

/-- A channel that has passed its training is READY, or held in self-refresh while it or DRC is not RUNNING; its
maintenance counts from now (R305, R306). -/
def State.chReady (s : State) (n : Nat) : State :=
  let c := { s.ch n with drift := [], mr4At := s.now, zqAt := s.now, trackAt := s.now }
  if s.chRuns n then (s.putCh n c).chGo n csREADY else (s.putCh n { c with held := true }).chGo n csSELFREF

/-- The DRAM's list of bursts is in its one form: addresses rise, and a burst of zeros is listed only in a page whose
unlisted bursts are left open (log entry 24). -/
def Memory.wf (d : Drc) : Bool := kwf d.bursts && d.bursts.all fun b => b.2 ≠ 0 || d.stale.contains (b.1 / 64)

/-- One burst, numbered from the Basin's first, takes a value. -/
def Drc.burstPut (d : Drc) (k : Nat) (v : BitVec 512) : Drc :=
  { d with bursts := if v ≠ 0 || d.stale.contains (k / 64) then kset d.bursts k v else kerase d.bursts k }

/-- The bytes of a channel become zero (R304 step 9). -/
def State.zeroChan (s : State) (n : Nat) : State :=
  let d := { s.drc with bursts := s.drc.bursts.filter fun b => s.chanOf (b.1 * 64) ≠ n }
  let ks := (d.stale.flatMap fun p => (List.range 64).map fun i => 64 * p + i).filter fun k => s.chanOf (k * 64) = n
  { s with drc := ks.foldl (fun d k => d.burstPut k 0) d }

/-- TRAINING_DONE (R304, R305): `step` is the step that failed, 0 when all have passed. -/
def execTrainingDone (n : Chan) (step : Fin 10) (s : State) : Host.Outcome State Fault Refusal :=
  .next (
    let n := n.val
    if s.chSt n ≠ csTRAINING then s
    else if step.val = 0 then
      (((s.deskew n).zeroChan n).setF (DC.DCSTAT n) 3 3 0).chReady n
    else
      let s := s.setF (DC.TRAINSTAT n) 3 0 step.val
      let k := s.f (DC.TRAINSTAT n) 5 4
      if k < 3 then (s.setF (DC.TRAINSTAT n) 5 4 (k + 1)).bump (DC.TRAINFAILS n)
      else ((s.chGo n csFAILED).chDrops n).fault (pgDC n) 4)

/-- RETRAIN_DONE (R305). -/
def execRetrainDone (n : Chan) (step : Fin 10) (s : State) : Host.Outcome State Fault Refusal :=
  .next (
    let n := n.val
    if s.chSt n ≠ csRETRAIN then s
    else if step.val = 0 then
      (((s.deskew n).bump (DC.RETRAINS n)).irq (pgDC n) 0).chReady n
    else ((((s.setF (DC.TRAINSTAT n) 3 0 step.val).chGo n csFAILED).chDrops n).fault (pgDC n) 4).irq (pgDC n) 1)

/-- A channel enters RETRAIN through self-refresh; its requests complete with ERR. -/
def State.retrain (s : State) (n : Nat) : State := ((s.closeAll n).chGo n csRETRAIN).chDrops n

/-- A forced slot, of 100 ns at most, is there to be used (R307). -/
def State.slotOn (s : State) (n : Nat) : Bool := (s.ch n).slot && decide (s.now < (s.ch n).busy.getD 0 + 100)

/-- A maintenance command or scrub may use a slot of the channel: one that no request needs, or a forced one (R307). -/
def State.slotFree (s : State) (n : Nat) : Bool := s.chSt n = csREADY && (!s.chQueued n || s.slotOn n)

/-- The slot is used. -/
def State.slotUsed (s : State) (n : Nat) : State := s.putCh n { s.ch n with slot := false }

/-- The corrections of one tracking run: each delay that is named moves by 1/64 UI, up or down. -/
def driftBy (m : KMap Int) (ds : List (Fin 48 × Bool)) : KMap Int :=
  (List.range 48).foldl (fun m d => match ds.find? fun e => e.1.val = d with
    | some e => kset m d (kgetD m d 0 + if e.2 then 1 else -1)
    | none => m) m

/-- PHY_TRACKING (R306): 1 ms after the last run; a drift of a delay beyond 8/64 UI fires PHYLOCK and the channel
retrains. -/
def execPhyTracking (n : Chan) (ds : List (Fin 48 × Bool)) (s : State) : Host.Outcome State Fault Refusal :=
  .next (
    let n := n.val
    if !s.slotFree n then s
    else
      let s := (s.slotUsed n).until ((s.ch n).trackAt + 1000000)
      let m := driftBy (s.ch n).drift ds
      let s := s.putCh n { s.ch n with drift := m, trackAt := s.now }
      if m.any fun e => decide (8 < e.2) || decide (e.2 < -8) then (s.fault (pgDC n) 3).retrain n else s)

/-- MR4_READ (R306, R315): 16 ms after the last one, the reading sets the channel's refresh interval. -/
def execMr4Read (n : Chan) (tref : Fin 3) (s : State) : Host.Outcome State Fault Refusal :=
  .next (
    if !s.slotFree n.val then s
    else
      let s := (s.slotUsed n.val).until ((s.ch n.val).mr4At + 16000000)
      let s := (s.putCh n.val { s.ch n.val with mr4At := s.now }).setF (DC.DCSTAT n.val) 5 4 tref.val
      if tref.val = 2 then (s.fault (pgDC n.val) 2).irq pgDRC irqOVERTEMP else s)

/-- ZQ_LATCH (R306): 64 ms after the last one the latch command reaches the DRAM. -/
def execZqLatch (n : Chan) (s : State) : Host.Outcome State Fault Refusal :=
  .next (
    if !s.slotFree n.val then s
    else
      let s := (s.slotUsed n.val).until ((s.ch n.val).zqAt + 64000000)
      s.putCh n.val { s.ch n.val with zqAt := s.now })

/-- FORCED_MAINT_SLOT (R307): a channel without a free slot for BGFORCE controller clocks, of 10/9 ns each, takes one, which
maintenance or scrub then uses. -/
def execForcedMaintSlot (n : Chan) (s : State) : Host.Outcome State Fault Refusal :=
  .next (
    match (s.ch n.val).busy with
    | some t =>
      if s.chSt n.val ≠ csREADY then s
      else
        let s := s.until (t + cdiv (s.f DRC.BGCFG 15 0 * 10) 9)
        s.putCh n.val { s.ch n.val with busy := some s.now, slot := true }
    | none => s)

/-! ## Refresh (R314) -/

/-- A channel's refresh interval in ns. -/
def State.trefi (s : State) (n : Nat) : Nat := s.f (DRC.SET6 (s.chSet n)) 15 0 / 2 ^ s.f (DC.DCSTAT n) 5 4

/-- The refresh clock at a model time: aligned to the timebase once, and free running from then on. -/
def State.refClock (s : State) (t : Nat) : Option Nat := s.drc.refAt.map fun a => a.2 + (t - a.1)

/-- The channel's group has a refresh due at a model time. -/
def State.refDue (s : State) (n k t : Nat) : Bool :=
  let p := s.trefi n
  match s.refClock t with
  | none => false
  | some c => p ≠ 0 && c % p == k * p / 8

/-- The first refresh instant of a channel of group k at a model time or after it. -/
def State.refFrom (s : State) (n k t : Nat) : Option Nat :=
  let p := s.trefi n
  match s.drc.refAt with
  | none => none
  | some a =>
    let t := max t a.1
    if p = 0 then none else some (t + (k * p / 8 + p - (a.2 + (t - a.1)) % p) % p)

/-- The READY channels of a refresh group. -/
def State.refGroup (s : State) (k : Nat) : List Nat := s.chans.filter fun n => n % 8 = k && s.chSt n = csREADY

/-- The next refresh instant of a channel of group k, from now on: the present one, where it has not been refreshed then. -/
def State.refNext (s : State) (k n : Nat) : Option Nat :=
  s.refFrom n k (if (s.ch n).refNs = some s.now then s.now + 1 else s.now)

/-- The first of some instants. -/
def earliest : List Nat → Option Nat
  | [] => none
  | a :: rest => some (rest.foldl min a)

/-- The group's first refresh instant at a model time or after it. -/
def State.groupFrom (s : State) (k t : Nat) : Option Nat := earliest ((s.refGroup k).filterMap fun n => s.refFrom n k t)

/-- A channel is refreshed, which closes its rows. -/
def State.refreshChan (s : State) (n : Nat) : State :=
  let s := (s.closeAll n).bump (DC.REFCNT n)
  s.putCh n { s.ch n with refNs := some s.now }

/-- The group's next refresh instant comes: every READY channel of the group whose interval has it then is refreshed. -/
def State.refresh (s : State) (k : Nat) : State :=
  match earliest ((s.refGroup k).filterMap (s.refNext k)) with
  | none => s
  | some t =>
    let s := s.until t
    ((s.refGroup k).filter fun n => s.refDue n k s.now && (s.ch n).refNs ≠ some s.now).foldl State.refreshChan s

/-- REFRESH (R314). -/
def execRefreshGroup (k : Fin 8) (s : State) : Host.Outcome State Fault Refusal := .next (s.refresh k.val)

/-- ROW_IDLE_CLOSE (R312): 32 controller clocks, 35.6 ns, after its last access an open row closes. -/
def execRowIdleClose (n : Chan) (bank : Fin 16) (s : State) : Host.Outcome State Fault Refusal :=
  .next (if (kget? (s.ch n.val).rows bank.val).isSome then
      (s.until ((kgetD (s.ch n.val).used bank.val (0, 0)).1 + 36)).closeBank n.val bank.val
    else s)

/-! ## Requests and the scheduler (R303, R309 to R313) -/

/-- The request cannot be served and completes at once with ERR: DRC not RUNNING, a channel that retrains or has failed or
whose controller PLL is unlocked, or, from TRAINED on, one that trains or whose page is not RUNNING: until then DRC accepts
every request (R304, R305, R322, R362). -/
def State.drcRefuses (s : State) (r : DReq) : Bool :=
  !s.running pgDRC || (s.reqChans r).any fun n =>
    s.chSt n == csRETRAIN || s.chSt n == csFAILED || s.drc.unlocked.contains (n / 4) ||
      (s.drc.ever && (!s.running (pgDC n) || s.chSt n == csTRAINING))

/-- A request that crosses a page or lies beyond the Basin (R309). -/
def State.drcBadAddr (s : State) (r : DReq) : Bool :=
  decide (4096 < r.addr % 4096 + r.len) || decide (s.basinPages * 4096 < r.addr + r.len)

/-- A read takes a tag; the peak follows (R310). -/
def State.takeTag (s : State) (r : DReq) : State :=
  let h := s.dramHalf r.addr
  let s := s.drcSet { r with tag := true }
  let use := (List.range 6).foldl (fun a p => a + s.tags p h) 0
  let k := if h = 0 then DRC.TAGUSE_E else DRC.TAGUSE_W
  if s.f k 25 16 < use then s.setF k 25 16 use else s

/-- DRAM_REQUEST (R309, R310): the port's oldest waiting request is handed to DRC. Without buffer room a write waits; a
read that finds no tag is handed over too, stalls its port, and takes one later. -/
def execDramRequest (port : Fin 6) (s : State) : Host.Outcome State Fault Refusal :=
  .next (match s.drc.reqs.find? fun r => r.port = port.val && (r.at_.isNone || (!r.write && r.fin.isNone && !r.tag)) with
    | none => s
    | some r =>
      let h := s.dramHalf r.addr
      if r.at_.isSome then (if s.tagFree r.port h then s.takeTag r else s)
      else if s.drcBadAddr r then ((s.drcFin r false).bump DRC.ADDRERR).fault pgDRC 1
      else if s.drcRefuses r then s.drcFin r false
      else if r.write then
        if s.wbuf h + r.len ≤ 2097152 then s.drcHand r false else s
      else
        let free := s.tagFree r.port h
        let s := s.drcHand r false
        match free, s.drc.reqs.find? fun q => q.id = r.id with
        | true, some r => s.takeTag r
        | _, _ => s)

/-- Both requests have a burst in common. -/
def DReq.meets (a b : DReq) : Bool := decide (a.addr < b.addr + b.len) && decide (b.addr < a.addr + a.len)

/-- The channel's work of rule 1 is due and goes first: a refresh due now, or a forced slot (R311). -/
def State.ruleOne (s : State) (n : Nat) : Bool :=
  s.slotOn n || (s.refDue n (n % 8) s.now && (s.ch n).refNs ≠ some s.now)

/-- DRC can issue the request: trained once, every channel READY and without work of rule 1, and for a read a tag and no
earlier write to the same bytes that is not yet issued. -/
def State.drcReady (s : State) (r : DReq) : Bool :=
  s.drc.ever && r.open_ && ((s.reqChans r).all fun n => s.chSt n == csREADY && !s.ruleOne n) &&
    (r.write || (r.tag && !(s.drc.reqs.any fun w => w.write && decide (w.seq < r.seq) && w.open_ && w.meets r)))

/-- The rule of R311 that a request falls under. -/
def State.drcRank (s : State) (r : DReq) : Nat :=
  if !r.write && r.urg = 2 then 2
  else if r.write && 1835008 < s.wbuf (s.dramHalf r.addr) then 3
  else if !r.write && r.urg = 1 then 4
  else 5

/-- The requests that could be issued now to a channel that a request reaches, itself among them. -/
def State.rivals (s : State) (r : DReq) : List DReq :=
  s.drc.reqs.filter fun q => s.drcReady q && (s.reqChans q).any fun n => (s.reqChans r).contains n

/-- SHARE of a port. -/
def State.share (s : State) (p : Nat) : Nat := s.f (DRC.PCFG p) 6 0

/-- Deficit round robin over the ports: a visit to one that `has` work to serve here adds SHARE × 64 bytes, and one without
any `work` in the half loses its deficit (log entry 120). -/
def portTurn (has work : Nat → Bool) (share : Nat → Nat) : Nat → Wrr → Option Nat × Wrr
  | 0, w => (none, w)
  | fuel + 1, w =>
    let p := w.ptr % 6
    let next := (p + 1) % 6
    if has p then
      let d := kgetD w.defs p 0 + (if w.visited then 0 else (share p * 64 : Nat))
      let w := { w with ptr := p, visited := true, defs := kset w.defs p d }
      if 0 < d then (some p, w) else portTurn has work share fuel { w with ptr := next, visited := false }
    else portTurn has work share fuel { w with
      ptr := next, visited := false, defs := if work p then w.defs else kset w.defs p 0 }

/-- The port whose turn it is among some rivals under rule 5, and the round robin then. A deficit is never more than 4,096
bytes below 0 and a visit adds 64 at least. -/
def State.turn (s : State) (half : Nat) (l : List DReq) : Option Nat × Wrr :=
  portTurn (fun p => l.any fun q => q.port = p) (fun p => s.drc.reqs.any fun q => q.open_ && q.port == p &&
    s.dramHalf q.addr == half) s.share 400 (kgetD s.drc.turns half {})

/-- A was handed over no later than b. -/
def DReq.older (a b : DReq) : Bool := decide (a.at_.getD 0 < b.at_.getD 0) || (a.at_ == b.at_ && decide (a.seq ≤ b.seq))

/-- The scheduler serves the request next of those that reach one of its channels: no rival falls under an earlier rule;
PANIC and URGENT reads go oldest first; under rule 5 it is its port's turn. -/
def State.drcServes (s : State) (r : DReq) : Bool :=
  let k := s.drcRank r
  let l := s.rivals r
  l.all (fun q => decide (k ≤ s.drcRank q)) &&
    (if k = 2 || k = 4 then l.all fun q => s.drcRank q ≠ k || r.older q
    else if k = 5 then (s.turn (s.dramHalf r.addr) l).1.all fun p => p == r.port
    else true)

/-- DRC issues the request: its rule 5 turn is charged. -/
def State.drcCharge (s : State) (r : DReq) : State :=
  if s.drcRank r ≠ 5 then s
  else
    let h := s.dramHalf r.addr
    let w := (s.turn h (s.rivals r)).2
    let d := kgetD w.defs r.port 0 - r.len
    let w := { w with defs := kset w.defs r.port d }
    let w := if d ≤ 0 then { w with ptr := (r.port + 1) % 6, visited := false } else w
    { s with drc := { s.drc with turns := kset s.drc.turns h w } }

/-- The request of a direction that DRC may issue now. -/
def State.drcNow (s : State) (tag : Nat) (write : Bool) : Option DReq :=
  (s.drc.reqs.find? fun r => r.id = tag && r.write == write).filter fun r => s.drcReady r && s.drcServes r

/-- Another request waits for a bank of a channel. -/
def State.bankWaited (s : State) (id n bank : Nat) : Bool :=
  s.drc.reqs.any fun q => q.id ≠ id && q.open_ &&
    q.bursts.any fun a => s.chanOf a == n && (s.rowBank (s.localOf a)).2 == bank

/-- The rows of a request are accessed, burst by burst; a row that has served 16 accesses in a row closes where another
request waits for its bank (R312). -/
def State.drcTouch (s : State) (r : DReq) : State :=
  r.bursts.foldl (fun t a =>
    let n := t.chanOf a
    let rb := t.rowBank (t.localOf a)
    let t := t.touch n rb.2 rb.1
    let t := t.putCh n { t.ch n with idle := t.now }
    if 16 ≤ (kgetD (t.ch n).used rb.2 (0, 0)).2 && t.bankWaited r.id n rb.2 then t.closeBank n rb.2 else t) s

/-- One burst of DRAM as HOST reads it: what HOST wrote, zero where nothing was written, and a value left open where
another requester wrote (log entry 24). -/
def State.dramBurst (s : State) (a : Nat) : BitVec 512 × State :=
  match kget? s.drc.bursts (a / 64) with
  | some v => (v, s)
  | none =>
    if s.drc.stale.contains (a / 4096) then
      (List.range 8).foldl (fun (acc : BitVec 512 × State) i =>
        let d := acc.2.drawFree
        (acc.1 ||| (d.1.setWidth 512 <<< (64 * i)), d.2)) (0, s)
    else (0, s)

/-- The bytes of a HOST read. -/
def State.dramBytes (s : State) (r : DReq) : List (Option Byte) × State :=
  r.bursts.foldl (fun (acc : List (Option Byte) × State) a =>
    let b := acc.2.dramBurst a
    (acc.1 ++ (leBytes 64 b.1.toNat).map some, b.2)) ([], s)

/-- A burst that scrub has corrected and not written back yet is written by a request (R307). -/
def State.scrubSeen (s : State) (r : DReq) : State :=
  r.bursts.foldl (fun t a =>
    let n := t.chanOf a
    let c := t.ch n
    match c.scrubBack with
    | some (l, _) => if l = t.localOf a / 64 then t.putCh n { c with scrubBack := some (l, true) } else t
    | none => t) s

/-- A write takes effect in the DRAM: HOST bytes as masked; another requester's page holds what it wrote. -/
def State.dramStore (s : State) (r : DReq) : State :=
  let s := s.scrubSeen r
  if r.port = dpHOST then
    (r.bursts.zip (List.range (cdiv r.len 64))).foldl (fun t ai =>
      let old := t.dramBurst ai.1
      let bytes := ((leBytes 64 old.1.toNat).zip ((r.data.drop (64 * ai.2)).take 64)).map fun e => e.2.getD e.1
      { old.2 with drc := old.2.drc.burstPut (ai.1 / 64) (BitVec.ofNat 512 (leNat bytes)) }) s
  else
    let pg := r.addr / 4096
    { s with drc := { s.drc with
      bursts := s.drc.bursts.filter (fun b => !(r.addr / 64 ≤ b.1 && b.1 < (r.addr + r.len) / 64)),
      stale := if s.drc.stale.contains pg then s.drc.stale else pg :: s.drc.stale } }

/-- An uncorrectable request or scrub read (R303): counts, LASTERR and LASTUNC. -/
def State.drcUnc (s : State) (n l addr : Nat) : State :=
  let s := ((s.bump (DC.ECCUNC n)).bump DRC.ECCUNC).wr (DC.LASTERR n) (BitVec.ofNat 32 (l % 2147483648 + 2147483648))
  ((s.wr64 DRC.LASTUNC_LO DRC.LASTUNC_HI addr).irq pgDRC irqECCUNC).fault (pgDC n) 1

/-- A corrected codeword (R303). -/
def State.drcCorr (s : State) (n : Nat) : State := ((s.bump (DC.ECCCORR n)).bump DRC.ECCCORR).fault (pgDC n) 0

/-- The codewords of a request that a read found wrong, by burst: corrected (false) or uncorrectable (true). -/
abbrev Codewords := List (Fin 64 × Bool)

/-- The addresses of the bursts with a codeword of a kind. -/
def DReq.hurt (r : DReq) (e : Codewords) (unc : Bool) : List Nat :=
  (e.filter fun x => x.2 == unc && decide (x.1.val < cdiv r.len 64)).map fun x => r.addr + 64 * x.1.val

/-- What a read finds (R303): each corrected codeword counts; a request with an uncorrectable one counts once, at the
channel of the last such burst (log entry 121). Answers whether it has none. -/
def State.drcCheck (s : State) (r : DReq) (e : Codewords) : State × Bool :=
  let s := (r.hurt e false).foldl (fun t a => t.drcCorr (t.chanOf a)) s
  match (r.hurt e true).getLast? with
  | none => (s, true)
  | some a => (s.drcUnc (s.chanOf a) (s.localOf a) r.addr, false)

/-- DRAM_READ_COMPLETE (R303, R311, R313). -/
def execDramReadComplete (tag : Nat) (corr unc : List (Fin 64)) (s : State) : Host.Outcome State Fault Refusal :=
  .next (match s.drcNow tag false with
    | none => s
    | some r =>
      let x := ((s.drcCharge r).drcTouch r).drcCheck r (corr.map (·, false) ++ unc.map (·, true))
      if !x.2 then x.1.drcFin r false
      else if r.port = dpHOST then let d := x.1.dramBytes r
        d.2.drcFin { r with data := d.1 } true
      else x.1.drcFin r true)

/-- A HOST write whose mask leaves a byte of some 32-byte half uncovered reads that half before it writes (R303). -/
def DReq.partialWrite (r : DReq) : Bool := r.port == dpHOST && r.data.any (·.isNone)

/-- DRAM_WRITE_COMPLETE (R303, R309, R311): `errs` is what the read of a partial write found. -/
def execDramWriteComplete (tag : Nat) (errs : List (Fin 64 × Bool)) (s : State) : Host.Outcome State Fault Refusal :=
  .next (match s.drcNow tag true with
    | none => s
    | some r =>
      let x := ((s.drcCharge r).drcTouch r).drcCheck r (if r.partialWrite then errs else [])
      if x.2 then (x.1.dramStore r).drcFin r true else x.1.drcFin r false)

/-- READ_URGENT (R311): a read reaches its port's TARGET age. -/
def execReadUrgent (tag : Nat) (s : State) : Host.Outcome State Fault Refusal :=
  .next (match s.drc.reqs.find? fun r => r.id = tag && !r.write && r.fin.isNone && r.urg = 0 with
    | some { at_ := some t, port, id, .. } =>
      let s := (s.until (t + s.f (DRC.PLAT port) 15 0)).bump (DRC.URGENT port)
      { s with drc := { s.drc with reqs := s.drc.reqs.map fun q => if q.id = id then { q with urg := 1 } else q } }
    | _ => s)

/-- READ_PANIC (R311): a read reaches its port's PANIC age. -/
def execReadPanic (tag : Nat) (s : State) : Host.Outcome State Fault Refusal :=
  .next (match s.drc.reqs.find? fun r => r.id = tag && !r.write && r.fin.isNone && r.urg ≤ 1 with
    | some { at_ := some t, port, id, .. } =>
      let s := ((s.until (t + s.f (DRC.PLAT port) 31 16)).bump (DRC.PANICS port)).event pgDRC 0x103 1 fun q => q % 8 == port
      { s with drc := { s.drc with reqs := s.drc.reqs.map fun q => if q.id = id then { q with urg := 2 } else q } }
    | _ => s)

/-- The port's oldest request, once it is complete, goes back to its requester. -/
def State.drcTake (s : State) (port : Nat) (write : Bool) : Option (DReq × State) :=
  match s.drc.reqs.find? fun r => r.port = port with
  | some r =>
    if r.fin.isSome && r.write == write then
      some (r, ({ s with drc := { s.drc with reqs := s.drc.reqs.filter fun q => q.id ≠ r.id } }).drcSweep)
    else none
  | none => none

/-- Bursts of a channel. -/
def State.chBursts (s : State) : Nat := s.basinGiB * 16777216 / max 1 s.nCh

/-- The burst that scrub reads next, and the channel with it taken: a pass goes through every burst, then those to revisit;
the next pass begins a period of SCRUBHRS hours after the last. The order is the model's (log entry 48). -/
def State.scrubPick (s : State) (n : Nat) : State × Nat :=
  let c := s.ch n
  let from_ := c.scrubFrom.getD s.now
  if c.scrubNext < s.chBursts then
    (s.putCh n { c with scrubFrom := some from_, scrubNext := c.scrubNext + 1 }, c.scrubNext)
  else match c.scrubAgain with
    | l :: t => (s.putCh n { c with scrubAgain := t }, l)
    | [] =>
      let s := s.until (from_ + s.f DRC.BGCFG 23 16 * 3600000000000)
      (s.putCh n { s.ch n with scrubFrom := some s.now, scrubNext := 1 }, 0)

/-- An access of scrub to burst l of a channel. -/
def State.scrubTouch (s : State) (n l : Nat) : State := let rb := s.rowBank (l * 64)
  s.touch n rb.2 rb.1

/-- Scrub in a slot of a channel: a corrected burst is written back, unless a request has written it since: then it is
revisited; else the next burst is read, of whose codewords `corr` are corrected and, with `unc`, some are uncorrectable: then
the burst stays as it is (R303, R307). -/
def State.scrubStep (s : State) (n corr : Nat) (unc : Bool) : State :=
  match (s.ch n).scrubBack with
  | some (l, true) => s.putCh n { s.ch n with scrubBack := none, scrubAgain := (s.ch n).scrubAgain ++ [l] }
  | some (l, false) => (s.putCh n { s.ch n with scrubBack := none }).scrubTouch n l
  | none =>
    let x := s.scrubPick n
    let s := (List.range corr).foldl (fun t _ => t.drcCorr n) (x.1.scrubTouch n x.2)
    if unc then s.drcUnc n (x.2 * 64) (s.basinAddr n (x.2 * 64))
    else if 0 < corr then s.putCh n { s.ch n with scrubBack := some (x.2, false) }
    else s

/-- DRAM_SCRUB (R307): scrub uses a slot of a READY channel; codewords of a burst it reads may be corrected or
uncorrectable. -/
def execDramScrub (n : Chan) (corr : Fin 9) (unc : Bool) (s : State) : Host.Outcome State Fault Refusal :=
  .next (if !s.slotFree n.val || s.nCh ≤ n.val then s else (s.slotUsed n.val).scrubStep n.val corr.val unc)

/-! ## Self-refresh and frequency change (R317 to R320) -/

/-- The channel's queues have held a request since before a model time. -/
def State.queuedBefore (s : State) (n t : Nat) : Bool :=
  s.drc.reqs.any fun r => r.open_ && (s.reqChans r).contains n && decide (r.at_.getD 0 < t)

/-- SELF_REFRESH_ENTRY (R317): a channel whose queues have been empty for SRIDLE µs enters self-refresh; a request that has
arrived since, before the entry command, abandons the entry. -/
def execSelfRefreshEntry (n : Chan) (s : State) : Host.Outcome State Fault Refusal :=
  .next (
    let n := n.val
    let us := s.f DRC.SRIDLE 15 0
    let t := (s.ch n).idle + us * 1000
    if s.chSt n ≠ csREADY || us = 0 || s.queuedBefore n t then s
    else
      let s := (s.until t).closeAll n
      if s.chQueued n then (s.putCh n { s.ch n with idle := s.now }).bump (DC.SRABANDON n)
      else (s.bump (DC.SRENTRY n)).chGo n csSELFREF)

/-- SELF_REFRESH_EXIT (R305, R317): a request waits for the channel, one accepted before a drain included (R322), or what
held it there has ended. -/
def execSelfRefreshExit (n : Chan) (s : State) : Host.Outcome State Fault Refusal :=
  .next (
    let n := n.val
    if s.chSt n = csSELFREF && ((s.chWorks n && s.chQueued n) || (s.chRuns n && (s.ch n).held)) then
      (s.putCh n { s.ch n with held := false, idle := s.now }).chGo n csREADY
    else s)

/-- A channel is held in self-refresh while its page or DRC is not RUNNING and its accepted work is done (R305, R322). One
whose group changes frequency completes the change first (R320). -/
def State.chHold (s : State) (n : Nat) : State :=
  let st := s.chSt n
  if st = csREADY || st = csSELFREF || st = csRETRAIN then
    let s := s.closeAll n
    (s.putCh n { s.ch n with held := true }).chGo n csSELFREF
  else s

/-- A write of FCTL (R319). -/
def State.fctl (s : State) (w : Word) : State :=
  let gap := max 1 (fld w 17 2)
  let s := (s.setF DRC.FCTL 1 1 (fld w 1 1)).setF DRC.FCTL 17 2 gap
  if fld w 0 0 = 0 then s
  else if s.drc.fc.isSome || (fld w 1 1 = 1 && !s.fb DRC.CFG 14) || !s.fb DRC.STAT 0 then s.badAcc
  else { s with drc := { s.drc with fc := some { set := fld w 1 1, notBefore := s.now } } }

/-- FREQ_CHANGE_GO (R319). -/
def execFreqChangeGo (w : Word) (s : State) : Host.Outcome State Fault Refusal :=
  .next (s.goWr DRC.FCTL w State.fctl)

/-- A channel starts its frequency change: from READY, or from self-refresh, which it then does not leave. -/
def State.fcStart (s : State) (n : Nat) : State :=
  let s := s.closeAll n
  (s.putCh n { s.ch n with wasSr := s.chSt n == csSELFREF }).chGo n csFCHANGE

/-- A channel is on the new set: READY, back in self-refresh, held there unless accepted requests wait for it, or in the
retrain of its page's soft reset. -/
def State.fcEnd (set : Nat) (s : State) (n : Nat) : State :=
  let s := s.setF (DC.DCSTAT n) 3 3 set
  if (s.blk (pgDC n)).st = .resetting then s.retrain n
  else if (s.ch n).wasSr then s.chGo n csSELFREF
  else if s.chRuns n || (s.chWorks n && s.chQueued n) then s.chGo n csREADY
  else (s.putCh n { s.ch n with held := true }).chGo n csSELFREF

/-- The channels of a group that a change to a set moves. -/
def State.fcGroup (s : State) (k set : Nat) : List Nat :=
  s.chans.filter fun n => n % 8 = k && s.chSet n ≠ set && (s.chSt n = csREADY || s.chSt n = csSELFREF)

/-- How long a refresh keeps a channel, in ns (R314). -/
def State.blackout (s : State) (n : Nat) : Nat := cdiv (s.f (DRC.SET5 (s.chSet n)) 19 0) 1000

/-- The end of the group's next refresh blackout: of the one in progress, else of the refresh that comes next. -/
def State.afterBlackout (s : State) (k : Nat) : State :=
  match s.refGroup k with
  | [] => s
  | n :: _ =>
    let b := s.blackout n
    match s.groupFrom k (s.now - b) with
    | none => s
    | some t =>
      if t < s.now || (s.refGroup k).any fun n => (s.ch n).refNs = some t then s.until (t + b)
      else (s.refresh k).until (t + b)

/-- The next group of a frequency change starts (R319): FCGAP after the one before it, at the end of its next refresh
blackout. -/
def State.freqStart (s : State) (f : FreqChange) : State :=
  let s := s.until f.notBefore
  let s := if (s.fcGroup f.next f.set).isEmpty then s else s.afterBlackout f.next
  let s := (s.fcGroup f.next f.set).foldl State.fcStart s
  { s with drc := { s.drc with fc := some { f with group := some f.next, began := s.now, next := f.next + 1 } } }

/-- FREQ_GROUP_START (R319, R320): not while DEV.STATE is HOLD. -/
def execFreqGroupStart (s : State) : Host.Outcome State Fault Refusal :=
  .next (match s.drc.fc with
    | some f => if s.dev.state = .hold || 8 ≤ f.next || f.group.isSome then s else s.freqStart f
    | none => s)

/-- The group in progress is done (R319): 2,100 ns after its start its channels are on the new set. The last group ends the
change. -/
def State.freqDone (s : State) (f : FreqChange) (k : Nat) : State :=
  let s := s.until (f.began + 2100)
  let s := (s.chans.filter fun n => n % 8 = k && s.chSt n = csFCHANGE).foldl (State.fcEnd f.set) s
  if 8 ≤ f.next then ({ s with drc := { s.drc with fc := none } }).irq pgDRC irqFCDONE
  else { s with drc := { s.drc with
    fc := some { f with group := none, notBefore := s.now + s.f DRC.FCTL 17 2 * 1000 } } }

/-- FREQ_GROUP_DONE (R319). -/
def execFreqGroupDone (s : State) : Host.Outcome State Fault Refusal :=
  .next (match s.drc.fc with
    | some f => (match f.group with | some k => s.freqDone f k | none => s)
    | none => s)

/-- DRCPLL_RELOCK (R362): the controller PLL of a domain has relocked. -/
def execDrcpllRelock (k : Fin 16) (s : State) : Host.Outcome State Fault Refusal :=
  .next { s with drc := { s.drc with unlocked := s.drc.unlocked.filter fun x => x ≠ k.val } }

/-- DRC.STAT as it reads. -/
def State.drcStat (s : State) : Nat :=
  let sets := s.chans.map s.chSet
  let mixed := sets.contains 0 && sets.contains 1
  let st := match s.drc.fc with
    | none => 0
    | some f => if s.dev.state = .hold && f.group.isNone then 2 else 1
  s.f DRC.STAT 0 0 + b2n mixed * 2 + (if mixed then 0 else s.chSet 0) * 4 + st * 8
    + (match s.drc.fc with | some f => f.group.getD f.next % 8 | none => 0) * 64 + s.nCh * 512

/-! ## Quiesce and reset (R322) -/

/-- DRC's accepted work: requests handed to it, and a frequency-change group. -/
def State.drcWork (s : State) : Bool :=
  (s.drc.reqs.any DReq.open_) || (match s.drc.fc with | some f => f.group.isSome | none => false)

/-- A channel's accepted work: requests queued for it. -/
def State.dcWork (s : State) (n : Nat) : Bool := s.chQueued n

/-- DRC's soft reset: outstanding requests complete with ERR and the tags empty; the group in progress completes and the
rest stay. -/
def State.drcReset (s : State) : State :=
  let s := (s.drc.reqs.filter DReq.open_).foldl (fun t r => t.drcFin r false) s
  let reqs := s.drc.reqs.map fun (r : DReq) => { r with tag := false }
  let s := { s with drc := { s.drc with reqs := reqs, turns := [] } }
  let s := { s with drc := { s.drc with fc := s.drc.fc.bind fun f => f.group.map fun _ => ({ f with next := 8 } : FreqChange) } }
  s.chans.foldl (fun t n => t.chHold n) s

/-- DCn's soft reset: the requests that wait for it end; a FAILED channel trains again from step 1, any other retrains, one
that changes frequency once it is on its set. -/
def State.dcReset (s : State) (n : Nat) : State :=
  let s := s.chDrops n
  if s.chSt n = csFAILED then
    ((s.putCh n { lfsr := n + 1 }).wr (DC.TRAINSTAT n) 0x10).chGo n csTRAINING
  else if s.chSt n = csREADY || s.chSt n = csSELFREF then s.retrain n
  else s

end Sys2Proof.Machine
end

