-- ==== Sys2Proof/Machine/Bpm.lean ====
section
/-! DEFINITION. The buffer pool manager: ring, cache, owner map, grants, returns, build and reclaim (R204 to R218). -/

namespace Sys2Proof.Machine

/-- BPM's causes. -/
abbrev irqLOWFREE : Nat := 0
abbrev irqREFUSED : Nat := 1
abbrev irqHOSTERR : Nat := 2
abbrev irqBUILT : Nat := 3
abbrev irqRECLAIMED : Nat := 4
abbrev irqHOSTLOST : Nat := 5

/-- Owner codes (R205). -/
abbrev ownTMG : Nat := 1
abbrev ownEDDY : Nat := 2
abbrev ownHOST : Nat := 3

/-- The owner code of a managed page. -/
def State.owner (s : State) (page : Nat) : Nat := kgetD s.bpm.map page 0

/-- The ring's entries, those of blocks being read included. -/
def Bpm.ringCount (b : Bpm) : Nat :=
  b.ring.foldl (fun a r => a + r.2) 0 + b.fly.foldl (fun a r => a + r.2.length) 0

/-- The cache's level: a writeback frees its entries when it completes. -/
def Bpm.level (b : Bpm) : Nat := b.cache.length + b.wb.foldl (fun a e => a + e.2.1.length) 0

/-- F (R207). -/
def State.freePages (s : State) : Nat := s.bpm.ringCount + s.bpm.level

def State.setBpm (s : State) (b : Bpm) : State := { s with bpm := b }

/-- The alarm: F fell below LOWFREE from `before`. -/
def State.lowFree (s : State) (before : Nat) : State :=
  let l := s.f BPM.LOWFREE 25 0
  if l ≤ before && s.freePages < l then s.irq pgBPM irqLOWFREE else s

/-- Change a HELD count; PEAK follows it. -/
def State.setHeld (s : State) (o n : Nat) : State :=
  let s := s.setF (BPM.OHELD (o - 1)) 25 0 n
  if s.f (BPM.OPEAK (o - 1)) 25 0 < n then s.setF (BPM.OPEAK (o - 1)) 25 0 n else s

def State.held (s : State) (o : Nat) : Nat := s.f (BPM.OHELD (o - 1)) 25 0

/-- The page's code changes. -/
def State.setOwner (s : State) (page o : Nat) : State :=
  s.setBpm { s.bpm with map := if o = 0 then kerase s.bpm.map page else kset s.bpm.map page o }

/-! ## The ring (R206, R302) -/

/-- Blocks a copy has room for. -/
def State.ringBlocks (s : State) : Nat := max 1 (s.basinPages / 16)

/-- Take up to n entries from the head. -/
def ringTake : Nat → List (Nat × Nat) → List Nat × List (Nat × Nat)
  | _, [] => ([], [])
  | n, (p, c) :: t =>
    if n < c then ((List.range n).map (p + ·), (p + n, c - n) :: t)
    else let r := ringTake (n - c) t
      ((List.range c).map (p + ·) ++ r.1, r.2)

/-- Both copies of a ring block are lost: its pages are out of service until the next build (R213). `before` is F with
them. -/
def State.ringLoss (s : State) (before n : Nat) : State := (s.addF BPM.LOST 25 0 n).lowFree before

/-- The pages of a ring block are read from a copy that is not lost (R206). -/
def State.ringRead (s : State) (before block : Nat) (pages : List Nat) : State :=
  let lost (c : Nat) : Bool := s.bpm.lost.contains (block * 2 + c)
  if lost 0 && lost 1 then (s.ringLoss before pages.length).fault pgBPM 3
  else
    let id := s.drc.next
    let s := s.ringReq false block (if lost 0 then 1 else 0)
    s.setBpm { s.bpm with fly := kset s.bpm.fly id pages }

/-- The block at the ring's head leaves it. -/
def State.ringPop (s : State) : State :=
  s.setBpm { s.bpm with ring := (ringTake 16 s.bpm.ring).2, head := (s.bpm.head + 1) % s.ringBlocks }

/-- CACHE_REFILL (R207): while the cache is below CACHELO and the ring is not empty, a block is read from the ring head,
with at most 64 reads outstanding and while a tag is free. -/
def execCacheRefill (s : State) : Host.Outcome State Fault Refusal :=
  .next (
    let b := s.bpm
    if s.running pgBPM && s.fb BPM.STAT 0 && b.level < s.f BPM.CFG 14 0 && !b.ring.isEmpty && b.fly.length < 64 &&
        s.tagFree dpBPM (s.dramHalf (s.ringAddr b.head 0)) then
      s.ringPop.ringRead s.freePages b.head (ringTake 16 b.ring).1
    else s)

/-- RING_READ_RETURN (R206, R207, R213): the oldest ring read returns, once the cache has room for its pages. A copy that
fails is lost and the other one is read; with both lost the block's pages are out of service. -/
def execRingReadReturn (s : State) : Host.Outcome State Fault Refusal :=
  .next (match s.drcTake dpBPM false with
    | none => s
    | some (r, t) =>
      let pages := kgetD t.bpm.fly r.id []
      let u := t.setBpm { t.bpm with fly := kerase t.bpm.fly r.id }
      if pages.isEmpty then t
      else if r.fin = some true then
        if 16384 < t.bpm.level + pages.length then s else u.setBpm { u.bpm with cache := pages.reverse ++ u.bpm.cache }
      else (u.setBpm { u.bpm with lost := r.client :: u.bpm.lost }).ringRead t.freePages (r.client / 2) pages)

/-- Writeback: the 16 entries longest in the cache go to the ring tail, in both copies; they leave the cache's level when
both writes are complete. -/
def State.writeback (s : State) : State :=
  let b := s.bpm
  let out := (b.cache.drop (b.cache.length - 16)).reverse
  let block := (b.head + cdiv (b.ring.foldl (fun a r => a + r.2) 0) 16 + b.wb.length) % s.ringBlocks
  let s := (s.ringReq true block 0).ringReq true block 1
  s.setBpm { b with cache := b.cache.take (b.cache.length - 16), wb := b.wb ++ [(block, out, 2)] }

/-- A drain goes on with work that needs room in the cache: a reclaim, or ring reads in flight (R218). -/
def State.drainRoom (s : State) : Bool :=
  (s.blk pgBPM).st == .draining && s.present pgBPM && (!s.bpm.reclaims.isEmpty || !s.bpm.fly.isEmpty)

/-- CACHE_WRITEBACK (R207). -/
def execCacheWriteback (s : State) : Host.Outcome State Fault Refusal :=
  .next (if (s.running pgBPM || s.drainRoom) && s.fb BPM.STAT 0 && s.f BPM.CFG 30 16 < s.bpm.cache.length then s.writeback
    else s)

/-! ## Requests and grants (R208, R209) -/

/-- U, the unmet reservation. -/
def State.unmet (s : State) : Nat :=
  [ownTMG, ownEDDY, ownHOST].foldl (fun a o => a + (s.f (BPM.OMIN (o - 1)) 25 0 - s.held o)) 0

/-- The owner may be granted pages at all: BPM RUNNING and its READY bit set (R214, R215, R218). -/
def State.ownReady (s : State) (o : Nat) : Bool := s.running pgBPM && s.fb (BPM.OSTAT (o - 1)) 0

/-- A request of the owner qualifies (R208). -/
def State.qualifies (s : State) (o : Nat) : Bool :=
  s.ownReady o && decide (s.held o < min (s.f (BPM.OMAX (o - 1)) 25 0) s.managed) &&
    ((decide (s.held o < s.f (BPM.OMIN (o - 1)) 25 0) && decide (1 ≤ s.freePages)) || decide (s.unmet < s.freePages))

/-- A unit requests a page. -/
def State.askPage (s : State) (o who : Nat) : State := s.setBpm { s.bpm with reqs := s.bpm.reqs ++ [(o, who)] }

/-- A request is refused: counts and cause. -/
def State.countRefusal (s : State) (o : Nat) : State := (s.bump (BPM.OREFUSALS (o - 1))).irq pgBPM irqREFUSED

/-- The owners in ring order after the one granted last. -/
def ringOrder (last : Nat) : List Nat :=
  match last with | 1 => [2, 3, 1] | 2 => [3, 1, 2] | _ => [1, 2, 3]

/-- What one core clock decides: the requests refused, and the one granted with its page. -/
structure GrantOut where
  refused : List (Nat × Nat) := []
  granted : Option ((Nat × Nat) × Nat) := none

/-- One core clock of R209. -/
def State.grantClock (s : State) : State × GrantOut :=
  let no := s.bpm.reqs.filter fun r => !s.qualifies r.1
  let yes := s.bpm.reqs.filter fun r => s.qualifies r.1
  let pick := (ringOrder s.bpm.last).findSome? fun o => yes.find? fun r => r.1 = o
  let s := no.foldl (fun t r => t.countRefusal r.1) (s.setBpm { s.bpm with reqs := yes })
  match pick, s.bpm.cache with
  | some r, p :: rest =>
    let f := s.freePages
    let s := s.setBpm { s.bpm with cache := rest }
    if s.managed ≤ p || s.owner p ≠ 0 then ((s.fault pgBPM 2).lowFree f, { refused := no })
    else
      let s := s.setBpm { s.bpm with reqs := s.bpm.reqs.erase r, last := r.1 }
      let s := (s.setOwner p r.1).setHeld r.1 (s.held r.1 + 1)
      ((s.bump (BPM.OALLOCS (r.1 - 1))).lowFree f, { refused := no, granted := some (r, p) })
  | _, _ => (s, { refused := no })

/-! ## Returns (R211, R212) -/

/-- A unit sends a page back. -/
def State.givePage (s : State) (o page : Nat) : State := s.setBpm { s.bpm with rets := s.bpm.rets ++ [(o, page)] }

/-- The checks and effects of a return. -/
def State.takeBack (s : State) (o page : Nat) : State :=
  if s.managed ≤ page then s.fault pgBPM 0
  else if s.owner page ≠ o then s.fault pgBPM 1
  else
    let s := s.setOwner page 0
    (s.setBpm { s.bpm with cache := page :: s.bpm.cache }).setHeld o (s.held o - 1)

/-- PAGE_RETURN (R211): BPM takes the oldest page on its way back; with the cache full it waits (R207). -/
def execPageReturn (s : State) : Host.Outcome State Fault Refusal :=
  .next (match s.bpm.rets with
    | (o, p) :: rest =>
      if s.bpm.level < 16384 then (s.setBpm { s.bpm with rets := rest }).takeBack o p else s
    | [] => s)

/-- Why a host return is refused, none where it is accepted. -/
def State.hostRetErr (s : State) (addr : Nat) : Option Nat :=
  if addr % 4096 ≠ 0 then some 1
  else if s.managed * 4096 ≤ addr then some 2
  else if s.owner (addr / 4096) ≠ ownHOST then some 3
  else none

/-- A write of HOSTRET_HI commits the address. -/
def State.hostRet (s : State) (addr : Nat) : State :=
  match s.hostRetErr addr with
  | some c => ((s.bump BPM.HOSTERR).setF BPM.HOSTERRINFO 3 0 c).irq pgBPM irqHOSTERR
  | none => s.givePage ownHOST (addr / 4096)

/-! ## Build and reclaim (R214, R215) -/

/-- RING_BUILD_START (R214): every code of the map is FREE, and the first blocks go to DRC. -/
def execRingBuildStart (s : State) : Host.Outcome State Fault Refusal :=
  .next (if s.running pgBPM && s.basinCap ≠ 0 && s.running pgDRC && !s.fb BPM.STAT 0 && !s.fb BPM.STAT 1 then
      ((s.setBpm { s.bpm with
        map := [], cache := [], ring := [], head := 0, fly := [], wb := [], lost := [], build := 0 }).setF BPM.STAT 1 1 1).buildFill 32
    else s)

/-- BASINRDY follows TMG's READY bit; its rise interrupts. -/
def State.basinRdy (s : State) : State :=
  let is := s.fb (BPM.OSTAT 0) 0
  let was := s.fb TMG.STAT 0
  let s := s.setF TMG.STAT 0 0 (b2n is)
  if is && !was then s.irq pgTMG 6 else s

/-- RING_BUILD_END (R214): every block is written or its write has failed, and the ring holds pages 0 to MANAGED - 1 in
order. -/
def execRingBuildEnd (s : State) : Host.Outcome State Fault Refusal :=
  .next (if s.fb BPM.STAT 1 && s.buildBlocks ≤ s.bpm.build && !(s.drc.reqs.any fun r => r.port == dpBPM && r.write) then
      let s := (s.setBpm { s.bpm with ring := [(0, s.managed)] }).setF BPM.STAT 1 0 1
      let s := [0, 1, 2].foldl (fun t o => t.setF (BPM.OSTAT o) 0 0 1) (s.setF BPM.LOST 25 0 0)
      (s.irq pgBPM irqBUILT).basinRdy
    else s)

/-- A request that waits is refused; a HOST one is a read of HOSTALLOC, which answers VALID 0 (R209, R210, R212). -/
def State.refuseReq (s : State) (r : Nat × Nat) : State :=
  let s := s.countRefusal r.1
  if r.1 = ownHOST then s.emit (.readData 0 0) else s

/-- A reclaim of an owner's pages starts: its requests are refused, and its returns under way are part of it. -/
def State.reclaim (s : State) (o : Nat) : State :=
  let mine := s.bpm.reqs.filter fun r => r.1 = o
  let s := s.setBpm { s.bpm with
    reqs := s.bpm.reqs.filter (fun r => r.1 ≠ o), rets := s.bpm.rets.filter (fun r => r.1 ≠ o) }
  let s := mine.foldl State.refuseReq (s.setF (BPM.OSTAT (o - 1)) 0 0 0)
  let b := s.bpm
  if s.fb BPM.STAT 0 && !b.reclaims.contains o then
    ((s.setBpm { s.bpm with reclaims := o :: b.reclaims }).setF (BPM.OSTAT (o - 1)) 1 1 1).basinRdy
  else s.basinRdy

/-- A write of RECLAIM. -/
def State.reclaimWr (s : State) (w : Word) : State :=
  if fld w 0 0 = 0 then s
  else if s.bpm.reclaims.contains ownHOST || !s.fb BPM.STAT 0 then s.badAcc
  else s.reclaim ownHOST

/-- RECLAIM_HOST (R215). -/
def execReclaimHost (w : Word) (s : State) : Host.Outcome State Fault Refusal :=
  .next (s.hostWO BPM.RECLAIM w fun s => s.reclaimWr w)

/-- The port through which an owner writes DRAM. -/
def ownPort (o : Nat) : Nat := match o with | 1 => dpSPILL | 2 => dpEDDYW | _ => dpHOST

/-- One reclaimed page is pushed. -/
def State.pushPage (s : State) (p : Nat) : State :=
  let s := s.setOwner p 0
  s.setBpm { s.bpm with cache := p :: s.bpm.cache }

/-- The sweep of a reclaim returns the owner's pages as far as the cache has room; the rest waits for a writeback. -/
def State.sweepPages (s : State) (o : Nat) : State :=
  let l := ((s.bpm.map.filter fun e => e.2 = o).map fun e => e.1).take (16384 - s.bpm.level)
  (l.foldl State.pushPage s).setHeld o (s.held o - l.length)

/-- The reclaim of an owner ends. -/
def State.reclaimed (s : State) (o : Nat) : State :=
  let s := s.setBpm { s.bpm with reclaims := s.bpm.reclaims.filter fun x => x ≠ o }
  let s := ((s.setF (BPM.OHELD (o - 1)) 25 0 0).setF (BPM.OSTAT (o - 1)) 0 0 1).setF (BPM.OSTAT (o - 1)) 1 1 0
  (s.irq pgBPM irqRECLAIMED).basinRdy

/-- RECLAIM_END (R215): once the owner's writes are complete, its pages are swept back; with every one back the reclaim
ends. Operand 0 names no owner. -/
def execReclaimEnd (o : Fin 4) (s : State) : Host.Outcome State Fault Refusal :=
  .next (
    let o := o.val
    if !s.bpm.reclaims.contains o || s.drc.reqs.any (fun r => r.write && r.port == ownPort o && r.fin.isNone) then s
    else
      let s := s.sweepPages o
      if s.bpm.map.any fun e => e.2 = o then s else s.reclaimed o)

/-- The copies of ring blocks on a channel are lost with its contents (R305; log entry 143). -/
def State.ringChanLost (s : State) (n : Nat) : State :=
  let b := s.bpm
  let k := cdiv (b.ring.foldl (fun a r => a + r.2) 0) 16 + b.wb.length
  let gone := ((List.range k).flatMap fun i => [(b.head + i) % s.ringBlocks * 2, (b.head + i) % s.ringBlocks * 2 + 1]).filter
    fun c => s.onChan n (s.ringAddr (c / 2) (c % 2)) 64 && !b.lost.contains c
  s.setBpm { b with lost := b.lost ++ gone }

/-! ## Quiesce and reset (R218) -/

/-- BPM's accepted work: ring reads and writes in flight, a build or a reclaim. -/
def State.bpmWork (s : State) : Bool :=
  s.fb BPM.STAT 1 || !s.bpm.reclaims.isEmpty || s.drc.reqs.any fun r => r.port = dpBPM

/-- A soft reset of BPM, its own state; what the owners lose is theirs. -/
def State.bpmReset (s : State) : State :=
  let s := s.setBpm { s.bpm with
    ring := [], cache := [], map := [], rets := [], reclaims := [], fly := [], wb := [], lost := [], head := 0, last := 3,
    build := 0 }
  let reqs := s.drc.reqs.map fun (r : DReq) => if r.port = dpBPM then { r with client := 4294967296 } else r
  let s := { s with drc := { s.drc with reqs := reqs } }
  let s := (s.setF BPM.STAT 1 0 0).zero [BPM.OHELD 0, BPM.OHELD 1, BPM.OHELD 2, BPM.OSTAT 0, BPM.OSTAT 1, BPM.OSTAT 2]
  (s.irq pgBPM irqHOSTLOST).basinRdy

/-- BPM.STAT as it reads. -/
def State.bpmStat (s : State) : Nat :=
  s.f BPM.STAT 1 0 + s.bpm.fly.length * 256 + s.bpm.level * 65536

end Sys2Proof.Machine
end

