-- ==== Sys2Proof/Machine/Tmg.lean ====
section
/-! DEFINITION. The traffic manager: accounting, queues and their segments, spill, refill, aging and discards (R178 to
R194, R196, R200, R201, R203). -/

namespace Sys2Proof.Machine

/-! ## Sizes -/

/-- L of a packet: its bytes with the FCS. -/
def Pkt.len (p : Pkt) : Nat := p.bytes.length + 4

/-- Tarn cells of a packet (R178). -/
def Pkt.cells (p : Pkt) : Nat := cdiv p.len 256

/-- Bytes of a packet in the Basin (R179). -/
def Pkt.packed (p : Pkt) : Nat := 32 + 32 * cdiv p.len 32

/-- Ingress entity (R181). -/
def Pkt.ent (p : Pkt) : Nat := if p.m.srcPort < 160 then p.m.srcPort else 160

def sumCells (l : List QPkt) : Nat := l.foldl (fun a x => a + x.pkt.cells) 0
def sumPacked (l : List QPkt) : Nat := l.foldl (fun a x => a + x.pkt.packed) 0

/-! ## Accessors -/

def State.setTmg (s : State) (t : Tmg) : State := { s with tmg := t }
def State.tq (s : State) (q : Nat) : Queue := kgetD s.tmg.queues q {}

/-- A queue in its initial state is not listed. -/
def State.setTq (s : State) (q : Nat) (v : Queue) : State :=
  s.setTmg { s.tmg with queues := if v = {} then kerase s.tmg.queues q else kset s.tmg.queues q v }

/-- A new number for a record. -/
def State.tmgId (s : State) : Nat × State := (s.tmg.nextId, s.setTmg { s.tmg with nextId := s.tmg.nextId + 1 })

/-- The first host queue, and a host queue (R187). -/
abbrev hostQ (user qp : Nat) : Nat := 131072 + user * 8 + qp

/-- Profiles (R181). -/
def State.ipProf (s : State) (e : Nat) : Nat := s.f (TMG.IPMAP (e / 8)) (4 * (e % 8) + 2) (4 * (e % 8))
def State.epProf (s : State) (p : Nat) : Nat := s.f (TMG.EPMAP (p / 8)) (4 * (p % 8) + 2) (4 * (p % 8))
def State.qProf (s : State) (q : Nat) : Nat := s.f (TMG.QCFG q) 5 0

/-- XQ of a queue's profile (R186). -/
def State.isXq (s : State) (q : Nat) : Bool := decide (q < 131072) && s.fb (TMG.QPCTL (s.qProf q)) 1

/-- The root of a queue's path: a node and the nodes below it, nearest the queue first (R219, R220). -/
def State.pathUp (s : State) : Nat → Nat → List Nat
  | 0, _ => []
  | fuel + 1, n => n :: (if s.fb (SCH.NODECFG n) 16 then [] else s.pathUp fuel (s.f (SCH.NODECFG n) 12 0))

def State.qPath (s : State) (q : Nat) : List Nat := s.pathUp 5 (s.f (SCH.SQMAP q) 12 0)

/-- The root node of a queue. -/
def State.qRoot (s : State) (q : Nat) : Option Nat :=
  match (s.qPath q).getLast? with
  | some n => if s.fb (SCH.NODECFG n) 16 then some n else none
  | none => none

/-- No port. -/
abbrev noPort : Nat := 255

/-- The port that owns a queue (R219): that of its port root, or its group's member 0. -/
def State.ownerPort (s : State) (q : Nat) : Nat :=
  match s.qRoot q with
  | none => noPort
  | some n =>
    let p := if s.fb (SCH.NODECFG n) 17 then s.f (BLG.MCFG (s.f (SCH.NODECFG n) 27 20 % 32) 0) 8 1
      else s.f (SCH.NODECFG n) 27 20
    if p < 160 then p else noPort

/-! ## Counts (R181, R182) -/

/-- IC. -/
def State.icCells (s : State) (e c : Nat) : Nat :=
  s.tmg.data.foldl (fun a d => if d.2.ic && d.2.ent == e && d.2.cls == c then a + d.2.n else a) 0

/-- The packets of a queue whose cells the Tarn holds: head, outbound and tail. -/
def Queue.tarn (v : Queue) : List QPkt :=
  v.head ++ v.outbound.flatMap (fun p => p.ends) ++ v.tailPkt.toList ++ v.tail

/-- Q. -/
def State.qCells (s : State) (q : Nat) : Nat := sumCells (s.tq q).tarn

/-- Cells queued for a port: of a class, or of every class. -/
def State.portCells (s : State) (p : Nat) (c : Option Nat) : Nat :=
  s.tmg.queues.foldl (fun a e =>
    if e.1 < 131072 then
      a + sumCells (e.2.tarn.filter fun x => x.port == p && (match c with | some c => x.pkt.m.cls == c | none => true))
    else a) 0

/-- The Basin is in use. -/
def State.basinUse (s : State) : Bool :=
  decide (s.basinCap ≠ 0) && s.running pgDRC && s.running pgBPM && s.fb TMG.STAT 0

/-- The registers of a row array that are off their reset values, whose reset is 0: index and value. -/
def State.nonzero (s : State) (first count stride : Nat) : List (Nat × Nat) :=
  ((s.listed first (first + count * stride)).filter fun e => (e.1 - first) % stride = 0).map
    fun e => ((e.1 - first) / stride, e.2.toNat)

/-- Sum of IMIN over entities and classes. -/
def State.sumImin (s : State) : Nat :=
  (s.nonzero (TMG.IMIN 0 0) 64 32).foldl (fun a e =>
    a + e.2 * ((List.range 161).filter fun i => s.ipProf i = e.1 / 8).length) 0

/-- Sum of QMIN over queues 0 to 131,071: a queue whose QCFG is not listed has profile 0. -/
def State.sumQmin (s : State) : Nat :=
  let cfgs := (s.listed (TMG.QCFG 0) (TMG.QCFG 131072)).filter fun e => e.1 % 16777216 = TMG.QCFG 0 % 16777216
  (s.nonzero (TMG.QMIN 0) 64 32).foldl (fun a e =>
    a + e.2 * (if e.1 = 0 then 131072 - cfgs.length else (cfgs.filter fun c => fld c.2 5 0 = e.1).length)) 0

/-- Every part of the Tarn but the shared pool. -/
def State.reserved (s : State) : Nat :=
  2048 + s.sumImin + s.sumQmin + s.f TMG.XRES 19 0 + (if s.basinUse then s.f TMG.REFILLRES 19 0 else 0)

/-- Cells charged to a part. -/
def State.charged (s : State) (c : Charge) : Nat := s.tmg.data.foldl (fun a d => if d.2.charge = c then a + d.2.n else a) 0

/-- SHAREDFREE. -/
def State.sharedFree (s : State) : Nat := 786432 - s.reserved - s.charged .shared

/-- Cells that the returned part of a packet that goes on into the next page takes up. -/
def Queue.partCells (v : Queue) : Nat := if v.partialIn.isSome then cdiv (v.partBytes - 32) 256 else 0

/-- Cells of REFILLRES that no read or packet holds (R190). -/
def State.refillFree (s : State) : Nat :=
  s.f TMG.REFILLRES 19 0 - s.charged .refill -
    s.tmg.queues.foldl (fun a e => a + 44 * e.2.inbound.length + e.2.partCells) 0

/-- The part that covers n cells of a packet (R182). -/
def State.cover (s : State) (q e c n : Nat) : Option Charge :=
  if s.isXq q && s.charged .xres + n ≤ s.f TMG.XRES 19 0 then some .xres
  else if s.qCells q + n ≤ s.f (TMG.QMIN (s.qProf q)) 19 0 then some .queue
  else if s.icCells e c + n ≤ s.f (TMG.IMIN (s.ipProf e) c) 19 0 then some .ingress
  else if n ≤ s.sharedFree then some .shared
  else none

/-! ## The Weir (R185) -/

/-- The class is reported crossed above XOFF and fallen back at or below XON. -/
def State.weir (s : State) (e c : Nat) : State :=
  if 160 ≤ e then s
  else
    let ic := s.icCells e c
    let pr := s.ipProf e
    let b := 8 * (e % 4) + c
    let s := if s.f (TMG.XOFF pr c) 19 0 < ic then s.setF (TMG.XOFFSTATE (e / 4)) b b 1 else s
    if ic ≤ s.f (TMG.XON pr c) 19 0 then s.setF (TMG.XOFFSTATE (e / 4)) b b 0 else s

/-! ## Data records (R196) -/

def State.tdata (s : State) (id : Nat) : Option Data := kget? s.tmg.data id
def State.putData (s : State) (id : Nat) (d : Data) : State := s.setTmg { s.tmg with data := kset s.tmg.data id d }

/-- Store data under a new number. -/
def State.newData (s : State) (d : Data) : Nat × State :=
  let i := s.tmgId
  let s := i.2.putData i.1 d
  (i.1, if d.ic then s.weir d.ent d.cls else s)

/-- One reference ends; at 0 the cells are freed. -/
def State.freeRef (s : State) (id : Nat) : State :=
  match s.tdata id with
  | none => s
  | some d =>
    if d.refs ≤ 1 then
      let s := s.setTmg { s.tmg with data := kerase s.tmg.data id }
      if d.ic then s.weir d.ent d.cls else s
    else s.putData id { d with refs := d.refs - 1 }

def State.freeRefs (s : State) (l : List QPkt) : State := l.foldl (fun t x => t.freeRef x.data) s

/-! ## Holders and discards (R184, R196) -/

/-- TMG.HOLD of a stamp. -/
def State.tmgHold (s : State) (v : Nat) : State := s.addF (TMG.HOLD v) 31 0 1
def State.tmgUnhold (s : State) (v : Nat) : State := s.setF (TMG.HOLD v) 31 0 (s.f (TMG.HOLD v) 31 0 - 1)

/-- A per-port count, saturating. -/
def State.pcAdd (s : State) (who ix : Nat) : State :=
  if 160 < who then s
  else s.setTmg { s.tmg with pc := kset s.tmg.pc (who * 16 + ix) (min 4294967295 (kgetD s.tmg.pc (who * 16 + ix) 0 + 1)) }

/-- The discard codes counted against the egress port. -/
def byPort (code : Nat) : Bool := [0x1, 0x2, 0x5, 0x7, 0xB].contains code

/-- TMG's cause of a discard code. -/
def State.discardIrq (s : State) (code : Nat) : State :=
  match code with
  | 0x4 => s.irq pgTMG 2
  | 0x5 => s.irq pgTMG 5
  | 0x7 => s.irq pgTMG 0
  | 0x8 => (s.bump TMG.MCQFULL).irq pgTMG 3
  | _ => s

/-- A packet is discarded with a code: its count, cause and event, and its version holder ends. -/
def State.discard (s : State) (code port : Nat) (p : Pkt) : State :=
  let s := s.pcAdd (if byPort code then port else p.ent) (code - 1)
  let s := (s.discardIrq code).event pgTMG 0x102 1 fun q => q % 16 == code
  s.release p.m.vertag

/-- A packet that TMG holds is discarded. -/
def State.discardHeld (s : State) (code : Nat) (x : QPkt) : State := (s.tmgUnhold x.pkt.m.vertag).discard code x.port x.pkt

/-! ## Queue contents -/

/-- Every packet of a queue, once each, oldest segment first. -/
def Queue.all (v : Queue) : List QPkt :=
  v.head ++ v.partialIn.toList ++ v.inbound.flatMap (fun p => p.starts) ++ v.middle.flatMap (fun p => p.starts) ++
    v.outbound.flatMap (fun p => p.starts) ++ v.tail

/-- A page without the packets of the given numbers; one left with nothing is only returned. -/
def PageRec.without (p : PageRec) (ids : List Nat) : PageRec :=
  let keep (x : QPkt) : Bool := !ids.contains x.id
  let starts := p.starts.filter keep
  let ends := p.ends.filter keep
  { p with starts := starts, ends := ends,
           split := p.split && (match p.starts.getLast? with | some x => keep x | none => false) }

/-- A page in the outbound segment that no packet needs any more. -/
def PageRec.idle (p : PageRec) : Bool := p.starts.isEmpty && p.ends.isEmpty && (p.cont == 0 || p.contEnds)

/-- The queue without the packets of the given numbers. -/
def Queue.without (v : Queue) (ids : List Nat) : Queue :=
  let keep (x : QPkt) : Bool := !ids.contains x.id
  let tp := v.tailPkt.filter keep
  { v with
    head := v.head.filter keep, partialIn := v.partialIn.filter keep,
    inbound := v.inbound.map fun p => p.without ids,
    middle := v.middle.map fun p => p.without ids,
    outbound := (v.outbound.map fun p => p.without ids).map fun p => if p.idle then { p with drop := true } else p,
    tailCont := if v.tailPkt.isSome && tp.isNone then 0 else v.tailCont,
    tailPkt := tp, tail := v.tail.filter keep }

/-- Packets of a queue are discarded, wherever they lie. -/
def State.kill (s : State) (q code : Nat) (ids : List Nat) : State :=
  let v := s.tq q
  let gone := v.all.filter fun x => ids.contains x.id
  let held := v.tarn.filter fun x => ids.contains x.id
  if gone.isEmpty then s
  else gone.foldl (fun t x => t.discardHeld code x) ((s.setTq q (v.without ids)).freeRefs held)

/-! ## Pages of the tail (R179, R189) -/

/-- The stamp of the tail's first bytes. -/
def Queue.tailStamp (v : Queue) : Nat :=
  if 0 < v.tailCont then v.tailTag else (match v.tail.head? with | some x => x.pkt.m.vertag | none => 0)

/-- The tail's leading packets that share its stamp. -/
def Queue.run (v : Queue) : List QPkt := v.tail.takeWhile fun x => x.pkt.m.vertag == v.tailStamp

/-- A page closes: 4,096 bytes of one stamp, or a packet of another stamp behind. -/
def Queue.pageReady (v : Queue) : Bool :=
  decide (4096 ≤ v.tailCont + sumPacked v.run) || decide (v.run.length < v.tail.length)

/-- Packed size of the tail. -/
def Queue.tailSize (v : Queue) : Nat := v.tailCont + sumPacked v.tail

/-- Pages of a queue. -/
def Queue.pages (v : Queue) : Nat := v.inbound.length + v.middle.length + v.outbound.length

/-- Fill a page with whole packets, then with the start of the next one: those that end in it, that one with the bytes
it leaves over, and the packets after it. -/
def fillPage : Nat → List QPkt → List QPkt × Option (QPkt × Nat) × List QPkt
  | _, [] => ([], none, [])
  | room, x :: t =>
    if room = 0 then ([], none, x :: t)
    else if x.pkt.packed ≤ room then let r := fillPage (room - x.pkt.packed) t
      (x :: r.1, r.2.1, r.2.2)
    else ([], some (x, x.pkt.packed - room), t)

/-! ## List blocks (R179)

The spec says what a block holds and where its copies lie, and neither how TMG gets the room for blocks nor when it writes
and reads one: log entry 115. -/

/-- A page request for room for list blocks of queue q carries this. -/
abbrev listWho (q : Nat) : Nat := 262144 + q

/-- The refresh group of a Basin page's first byte (R299, R301). -/
def State.pageGroup (s : State) (page : Nat) : Nat := page * 4096 / 2 ^ s.grainLog % 8

/-- The places of 64 bytes on a page, by their offsets. -/
def blockOffsets : List Nat := (List.range 64).map (· * 64)

/-- Room for list blocks on a page: both copies of a block on it where it spans several channels, in chunks that follow one
another; else on two pages of different refresh groups. -/
def State.listPage (s : State) (page : Nat) : State :=
  let g := 2 ^ s.grainLog
  let at_ (p o : Nat) : Nat := p * 4096 + o
  if g ≤ 2048 then
    s.setTmg { s.tmg with listFree := s.tmg.listFree ++
      (blockOffsets.filter fun o => o / g % 2 = 0).map fun o => (at_ page o, at_ page (o + g)) }
  else match s.tmg.listSpare.find? fun p => s.pageGroup p ≠ s.pageGroup page with
    | some p => s.setTmg { s.tmg with
        listSpare := s.tmg.listSpare.filter fun x => x ≠ p,
        listFree := s.tmg.listFree ++ blockOffsets.map fun o => (at_ p o, at_ page o) }
    | none => s.setTmg { s.tmg with listSpare := s.tmg.listSpare ++ [page] }

/-- The queue with an entry free in its newest list block, if there is room for one. -/
def State.listRoom (s : State) (q : Nat) : Option State :=
  let v := s.tq q
  if (match v.lists.getLast? with | some b => decide (b.used < 7) | none => false) then some s
  else match s.tmg.listFree with
    | (a, b) :: t => some ((s.setTmg { s.tmg with listFree := t }).setTq q { v with lists := v.lists ++ [{ a := a, b := b }] })
    | [] => none

/-- The next entry of the newest list block goes to a page. -/
def Queue.listEntry (v : Queue) (id : Nat) : Queue :=
  match v.lists.getLast? with
  | some b => { v with lists := v.lists.dropLast ++ [{ b with used := b.used + 1, ids := b.ids ++ [id] }] }
  | none => v

/-- A read or write of a copy of a list block. -/
def State.listReq (s : State) (write : Bool) (q : Nat) (b : ListBlk) (copy : Nat) : State :=
  let i := s.tmgId
  (i.2.setTmg { i.2.tmg with listReqs := kset i.2.tmg.listReqs i.1 { q := q, a := b.a, copy := copy } }).drcPut {
    port := if write then dpSPILL else dpREFILL, write := write, addr := if copy = 0 then b.a else b.b, len := 64, client := i.1 }

/-- A page is listed: its block is written to both copies. -/
def State.listWrite (s : State) (q id : Nat) : State :=
  match (s.tq q).lists.find? fun b => b.ids.contains id with
  | some b => (s.listReq true q b 0).listReq true q b 1
  | none => s

/-- TMG comes to a page of the list: its block is read, once. -/
def State.listRead (s : State) (q id : Nat) : State :=
  let v := s.tq q
  match v.lists.find? fun b => b.ids.contains id && !b.read with
  | some b =>
    (s.setTq q { v with lists := v.lists.map fun c => if c.a = b.a then { c with read := true } else c }).listReq false q b
      (if b.lost.contains 0 then 1 else 0)
  | none => s

/-- A read or write of a list block completes. A read that fails, or finds a copy that is lost, is done again on the other
copy; with both copies lost LISTLOSS fires (R201). -/
def State.listDone (s : State) (id : Nat) (write ok : Bool) : State :=
  match kget? s.tmg.listReqs id with
  | none => s
  | some r =>
    let s := s.setTmg { s.tmg with listReqs := kerase s.tmg.listReqs id }
    let v := s.tq r.q
    match v.lists.find? fun b => b.a = r.a with
    | none => s
    | some b =>
      if ok && !b.lost.contains r.copy then s
      else if ok && write then
        s.setTq r.q { v with lists := v.lists.map fun c => if c.a = b.a then { b with lost := b.lost.erase r.copy } else c }
      else
        let b := { b with lost := if b.lost.contains r.copy then b.lost else r.copy :: b.lost }
        let s := s.setTq r.q { v with lists := v.lists.map fun c => if c.a = b.a then b else c }
        if 2 ≤ b.lost.length then s.fault pgTMG 3
        else if write then s else s.listReq false r.q b (1 - r.copy)

/-- A page leaves a queue: its entry ends, a block without entries is free again, and BPM gets the page back. A block stays
whose next entry is kept for the page that the queue has asked for. -/
def State.pageGone (s : State) (q : Nat) (p : PageRec) : State :=
  let v := s.tq q
  let l := v.lists.map fun b => { b with ids := b.ids.filter fun i => i ≠ p.id }
  let dead (b : ListBlk) : Bool := b.ids.isEmpty && decide (0 < b.used) && !(v.asked && decide (b.used < 7))
  let s := s.setTq q { v with lists := l.filter fun b => !dead b }
  (s.setTmg { s.tmg with listFree := s.tmg.listFree ++ (l.filter dead).map fun b => (b.a, b.b) }).givePage ownTMG p.page

/-- No page for the tail: it stays in the Tarn (R189, R210). -/
def State.spillWait (s : State) (q : Nat) : State :=
  let v := s.tq q
  ((s.setTq q { v with asked := false, waitAt := max 1 v.tailSize }).bump TMG.SPILLWAIT).irq pgTMG 1

/-- A page is requested for a tail that has one to fill. -/
def State.askSpill (s : State) (q : Nat) : State :=
  let v := s.tq q
  if v.pageReady && !v.asked && (v.waitAt == 0 || decide (v.waitAt + 4096 ≤ v.tailSize)) then
    if s.f (TMG.BMAX (s.qProf q)) 25 0 ≤ v.pages then s.spillWait q
    else
      let x := match s.listRoom q with | some t => (t, q) | none => (s, listWho q)
      (x.1.setTq q { x.1.tq q with asked := true }).askPage ownTMG x.2
  else s

/-- The next page of a tail, formed on a page: the queue it leaves, the page, and the bytes used. -/
def Queue.form (v : Queue) (id page : Nat) : Queue × PageRec × Nat :=
  let c := min v.tailCont 4096
  let ends0 := decide (0 < v.tailCont) && decide (v.tailCont ≤ 4096)
  let whole := decide (4096 < v.tailCont)
  let f := if whole then ([], none, v.run) else fillPage (4096 - c) v.run
  let full := f.1
  let ovr := f.2.1
  let used := c + sumPacked full + (match ovr with | some (x, left) => x.pkt.packed - left | none => 0)
  let pr : PageRec := {
    id := id, page := page, vertag := v.tailStamp, starts := full ++ (ovr.map (·.1)).toList, cont := c,
    contEnds := ends0, split := ovr.isSome, part := (match ovr with | some (x, left) => x.pkt.packed - left | none => 0),
    ends := (if ends0 then v.tailPkt.toList else []) ++ full }
  ({ v.listEntry id with
    asked := false, waitAt := 0, outbound := v.outbound ++ [pr],
    tail := f.2.2 ++ v.tail.drop v.run.length,
    tailTag := v.tailStamp,
    tailCont := if whole then v.tailCont - 4096 else (match ovr with | some (_, left) => left | none => 0),
    tailPkt := if whole then v.tailPkt else ovr.map (·.1) }, pr, used)

/-- The page of a full tail is formed on a granted page and written. -/
def State.formPage (s : State) (q page : Nat) : State :=
  let i := s.tmgId
  let f := (s.tq q).form i.1 page
  let s := ((i.2.setTq q f.1).bump TMG.SPILLPAGES).drcPut {
    port := dpSPILL, write := true, addr := page * 4096, len := cdiv f.2.2 64 * 64, client := i.1 }
  f.2.1.starts.foldl (fun t x => (t.pcAdd x.port 14).event pgTMG 0x103 x.pkt.len fun _ => true) s

/-! ## Refills (R188, R190) -/

/-- The oldest middle page is read. -/
def State.refillRead (s : State) (q : Nat) : State :=
  let v := s.tq q
  match v.middle with
  | [] => s
  | p :: rest =>
    ((s.setTq q { v with middle := rest, inbound := v.inbound ++ [p] }).listRead q p.id).drcPut {
      port := dpREFILL, addr := p.page * 4096, len := 4096, client := p.id }

/-- Cells of the inbound segment: a packet whose next page has not returned stands in it (R190). -/
def Queue.inboundCells (v : Queue) : Nat := sumCells (v.partialIn.toList ++ v.inbound.flatMap fun p => p.starts)

/-- Reads start while the head and inbound cells are below PREFETCH and 44 cells are free. -/
def State.refills (s : State) (q : Nat) : Nat → State
  | 0 => s
  | fuel + 1 =>
    let v := s.tq q
    if !v.middle.isEmpty && 44 ≤ s.refillFree &&
        sumCells v.head + v.inboundCells < s.f (TMG.PREFETCH (s.qProf q)) 19 0 then
      (s.refillRead q).refills q fuel
    else s

/-- The packet that continues into a page held in the Tarn, where it ends there. -/
def PageRec.contPkt (p : PageRec) : List QPkt := p.ends.take (p.ends.length - (p.starts.length - b2n p.split))

/-- Outbound pages join the head from the Tarn; their pages are returned when the writes complete (R191). The last one's
packet that goes on into the tail joins whole. -/
def Queue.joinOutbound (v : Queue) : Queue :=
  let started : List QPkt := v.outbound.flatMap fun p => p.starts
  let pk := v.outbound.flatMap fun p => p.contPkt.filter (fun x => !started.contains x) ++ p.starts
  let tailToo := match v.tailPkt with | some x => started.contains x | none => false
  { v with
    head := v.head ++ pk, partialIn := none,
    outbound := v.outbound.map fun p => { p with starts := [], ends := [], split := false, drop := true },
    tailCont := if tailToo then 0 else v.tailCont, tailPkt := if tailToo then none else v.tailPkt }

/-- The tail joins the head. -/
def Queue.joinTail (v : Queue) : Queue :=
  { v with head := v.head ++ v.tailPkt.toList ++ v.tail, partialIn := none, tail := [], tailCont := 0, tailPkt := none,
           waitAt := 0 }

/-- The joins of R188. -/
def State.joins (s : State) (q : Nat) : State :=
  let v := s.tq q
  let low (v : Queue) : Bool := decide (sumCells v.head < s.f (TMG.PREFETCH (s.qProf q)) 19 0)
  if !v.spill || !v.inbound.isEmpty || !v.middle.isEmpty || !low v then s
  else
    let v := if v.outbound.any fun p => !p.drop then v.joinOutbound else v
    if low v then
      let v := v.joinTail
      let s := s.setTq q v
      s.setTq q { v with spill := decide (s.f (TMG.SPILLOFF (s.qProf q)) 19 0 ≤ s.qCells q) }
    else s.setTq q v

/-- Reads that waited for cells of REFILLRES start, the lower queue first (R190; log entry 116). -/
def State.refillAll (s : State) : State :=
  s.tmg.queues.foldl (fun t e => if e.2.spill then t.refills e.1 e.2.middle.length else t) s

/-- What a queue in SPILL does once its contents have changed, and what the cells it freed let others do. -/
def State.pump (s : State) (q : Nat) : State :=
  (if (s.tq q).spill then
    let s := s.askSpill q
    (s.refills q ((s.tq q).middle.length)).joins q
  else s).refillAll

/-! ## Enqueue (R188) -/

/-- The queue may enter SPILL now. -/
def State.maySpill (s : State) (q : Nat) : Bool :=
  decide (q < 131072) && s.basinUse && s.fb (TMG.QPCTL (s.qProf q)) 0 && !(s.isXq q && s.fb TMG.CFG 0) &&
    decide (s.f (TMG.SPILLON (s.qProf q)) 19 0 ≤ s.qCells q)

/-- A packet joins its queue. -/
def State.enqueue (s : State) (q : Nat) (x : QPkt) : State :=
  let i := s.tmgId
  let s := i.2
  let x := { x with id := i.1 }
  let v := s.tq q
  let v := if s.maySpill q then { v with spill := true } else v
  if v.spill then (s.setTq q { v with tail := v.tail ++ [x] }).pump q
  else s.setTq q { v with head := v.head ++ [x] }

/-! ## Aging (R193) -/

/-- The full instant nearest now with the given low 48 bits: within 2^47 ns (R193). -/
def State.fullInstant (s : State) (low : Nat) : Nat :=
  let now := s.tai
  let a := now / 281474976710656 * 281474976710656 + low
  if now + 140737488355328 ≤ a then a - 281474976710656
  else if a + 140737488355328 < now then a + 281474976710656
  else a

/-- A fan-out that waits is discarded. -/
def State.dropJob (s : State) (code : Nat) (j : McJob) : State :=
  ((s.freeRef j.data).tmgUnhold j.pkt.m.vertag).discard code noPort j.pkt

/-- The fan-outs that a test picks are discarded. -/
def State.dropJobs (s : State) (code : Nat) (f : McJob → Bool) : State :=
  (s.tmg.mcq.filter f).foldl (fun t j => t.dropJob code j) (s.setTmg { s.tmg with mcq := s.tmg.mcq.filter fun j => !f j })

/-- The due instant of a packet. -/
def State.dueAt (s : State) (x : QPkt) : Nat := x.base + s.f TMG.AGE 12 0 * 100000 - 16000
def State.isDue (s : State) (x : QPkt) : Bool := decide (s.dueAt x ≤ s.tai)

/-- Packets of the replication queue whose due instant has passed are discarded (R194; log entry 117). -/
def State.ageJobs (s : State) : State :=
  s.dropJobs 0x7 fun j => s.isDue { base := s.fullInstant j.pkt.m.ageTs }

/-- Middle pages whose latest due instant has passed are returned without a read, unless a packet that is kept goes on
into them; `alive` says that one goes on into the first. -/
def ageMiddle (due : QPkt → Bool) : Bool → List PageRec → List PageRec
  | _, [] => []
  | alive, p :: t =>
    if p.starts.all due && !(alive && decide (0 < p.cont)) then p :: ageMiddle due false t
    else ageMiddle due (if p.split then (match p.starts.getLast? with | some x => !due x | none => false)
      else alive && !p.contEnds) t

/-- The packet that goes on into the page behind some pages, given the one that goes on into the first. -/
def carryOn : Option QPkt → List PageRec → Option QPkt
  | c, [] => c
  | c, p :: t => carryOn (if p.split then p.starts.getLast? else if decide (0 < p.cont) && !p.contEnds then c else none) t

/-- Pages to read at once: the middle up to the last one that still holds a due packet. -/
def dueReads (due : QPkt → Bool) (l : List PageRec) : Nat :=
  (l.zipIdx.filter fun e => e.1.starts.any due).foldl (fun a e => max a (e.2 + 1)) 0

/-- Reads of the oldest middle pages, as far as REFILLRES has room. -/
def State.readNow (s : State) (q : Nat) : Nat → State
  | 0 => s
  | n + 1 => if 44 ≤ s.refillFree then (s.refillRead q).readNow q n else s

/-- The packets due at a queue are discarded where they lie. -/
def State.ageQueue (s : State) (q : Nat) : State :=
  let v := s.tq q
  let now := v.head ++ v.partialIn.toList ++ v.outbound.flatMap (fun p => p.starts) ++ v.tail
  let s := s.kill q 0x7 ((now.filter s.isDue).map fun x => x.id)
  let v := s.tq q
  let gone := ageMiddle s.isDue (match carryOn v.partialIn v.inbound with | some x => !s.isDue x | none => false) v.middle
  let ids := gone.map fun p => p.id
  let s := s.kill q 0x7 (gone.flatMap fun p => p.starts.map fun x => x.id)
  let v := s.tq q
  let s := s.setTq q { v with middle := v.middle.filter fun p => !ids.contains p.id }
  let s := gone.foldl (fun t p => (t.pageGone q p).bump TMG.AGEPAGES) s
  (s.readNow q (dueReads s.isDue (s.tq q).middle)).pump q

/-- AGING_DUE (R193): the earliest due instant among the queue's packets comes. -/
def execAgingDue (q : Fin 131584) (s : State) : Host.Outcome State Fault Refusal :=
  .next (match (s.tq q.val).all with
    | [] => s.ageJobs
    | x :: t => ((s.untilInstant (t.foldl (fun a y => min a (s.dueAt y)) (s.dueAt x))).ageQueue q.val).ageJobs)

/-! ## Pages from and to the Basin -/

/-- The queue with a page of the given number in one of its segments. -/
def State.pageQueue (s : State) (seg : Queue → List PageRec) (id : Nat) : Option (Nat × Queue × PageRec) :=
  s.tmg.queues.findSome? fun e => ((seg e.2).find? fun p => p.id = id).map fun p => (e.1, e.2, p)

/-- Every packet with a byte in a page is discarded (R201): those that start in it, and `more`. -/
def State.failPage (s : State) (q : Nat) (p : PageRec) (more : List QPkt) : State :=
  s.kill q 0xB ((p.starts ++ more).map fun x => x.id)

/-- SPILL_WRITE_DONE (R189, R191): the page is listed and its cells are freed; one that only returns goes to BPM. The
oldest write may be that of a list block. -/
def execSpillWriteDone (s : State) : Host.Outcome State Fault Refusal :=
  .next (match s.drcTake dpSPILL true with
    | none => s
    | some (r, s) =>
      match s.pageQueue (fun v => v.outbound) r.client with
      | none => s.listDone r.client true (r.fin == some true)
      | some (q, _, p) =>
        let s := if r.fin = some true then s else s.failPage q p p.ends
        let v := s.tq q
        let p := (v.outbound.find? fun o => o.id = p.id).getD p
        let rest := v.outbound.filter fun o => o.id ≠ p.id
        if p.drop || r.fin = some false then ((s.setTq q { v with outbound := rest }).pageGone q p).pump q
        else (((s.setTq q { v with outbound := rest, middle := v.middle ++ [{ p with ends := [] }] }).freeRefs p.ends).listWrite
          q p.id).pump q)

/-- A refilled packet joins the head: its cells are charged to the shared pool, or to the refill reservation. -/
def State.refillPkt (s : State) (q : Nat) (x : QPkt) : State :=
  let n := x.pkt.cells
  let d := s.newData { n := n, ent := x.pkt.ent, cls := x.pkt.m.cls, ic := false, arrived := true,
                       charge := if n ≤ s.sharedFree then .shared else .refill }
  let s := d.2
  let v := s.tq q
  (s.setTq q { v with head := v.head ++ [{ x with data := d.1 }] }).event pgTMG 0x104 x.pkt.len fun _ => true

/-- REFILL_RETURN (R190, R193, R201): complete packets join the head in stream order, due ones are discarded, and the
page goes back to BPM. The oldest read may be that of a list block. -/
def execRefillReturn (s : State) : Host.Outcome State Fault Refusal :=
  .next (match s.drcTake dpREFILL false with
    | none => s
    | some (r, s) =>
      match s.pageQueue (fun v => v.inbound) r.client with
      | none => s.listDone r.client false (r.fin == some true)
      | some (q, _, p) =>
        let s := (s.bump TMG.REFILLPAGES).pageGone q p
        if r.fin = some true && !p.lost then
          let v := s.tq q
          let due := (v.partialIn.toList ++ p.starts).filter s.isDue
          let s := s.kill q 0x7 (due.map fun x => x.id)
          let v := s.tq q
          let p := (v.inbound.find? fun o => o.id = p.id).getD p
          let first := if p.contEnds then v.partialIn.toList else []
          let whole := if p.split then p.starts.dropLast else p.starts
          let pin := if p.split then p.starts.getLast? else if 0 < p.cont && !p.contEnds then v.partialIn else none
          let s := s.setTq q { v with
            inbound := v.inbound.filter (fun o => o.id ≠ p.id), partialIn := pin,
            partBytes := if p.split then p.part else if 0 < p.cont && !p.contEnds then v.partBytes + 4096 else 0 }
          ((first ++ whole).foldl (fun t x => t.refillPkt q x) s).pump q
        else
          let v := s.tq q
          let s := s.failPage q p (if 0 < p.cont then v.partialIn.toList else [])
          let v := s.tq q
          (s.setTq q { v with inbound := v.inbound.filter fun o => o.id ≠ p.id }).pump q)

/-- A page BPM granted to a queue; a queue with nothing to fill it gives it back. -/
def State.spillGrant (s : State) (q page : Nat) : State :=
  let v := s.tq q
  if v.spill && v.pageReady then (s.formPage q page).pump q
  else (s.setTq q { v with asked := false }).givePage ownTMG page

/-- A page BPM granted to TMG for a queue: for its tail, or for list blocks. -/
def State.tmgGrant (s : State) (who page : Nat) : State :=
  if who < 262144 then s.spillGrant who page
  else
    let q := who - 262144
    ((s.setTq q { s.tq q with asked := false }).listPage page).pump q

/-- BPM has no page for the queue. -/
def State.tmgRefused (s : State) (who : Nat) : State := s.spillWait (who % 262144)

/-! ## Host writes (R184, R197, R198) -/

/-- A write of MCENT1 commits it and the held MCENT0, which stays held, to entry MCEIDX (log entry 44). -/
def State.mcentWr (s : State) (w : Word) : State :=
  let e := s.f TMG.MCEIDX 17 0
  (s.wr (bankKey TMG.MCENT0 e) (s.rd TMG.MCENT0)).wr (TMG.MCENT1 e) (w &&& 0x1FFFF)

/-- MC_ENTRY_COMMIT (R197). -/
def execMcEntryCommit (w : Word) (s : State) : Host.Outcome State Fault Refusal :=
  .next (s.hostWr (TMG.MCENT1 0 % 16777216) fun s => s.mcentWr w)

/-- A write of a session's control word: K above 16 is written as 16; EN 1 loads the LFSR. -/
def State.rinkWr (s : State) (k : Nat) (w : Word) : State :=
  let w := if 16 < fld w 6 2 then ins w 6 2 16 else w
  let s := s.wr (TMG.RINKCFG k) (w &&& 0xFF7F)
  if fld w 0 0 = 1 then s.setTmg { s.tmg with rink := kset s.tmg.rink k (s.rd (TMG.RINKSEED k)).toNat } else s

/-- RINK_ENABLE (R198). -/
def execRinkEnable (k : Fin 8) (w : Word) (s : State) : Host.Outcome State Fault Refusal :=
  .next (s.hostWr (TMG.RINKCFG k) fun s => s.rinkWr k w)

/-- A write of PCIDX latches the counts of an entity or port. -/
def State.pcidxWr (s : State) (w : Word) : State :=
  let i := min 160 (fld w 7 0)
  (s.wr TMG.PCIDX (BitVec.ofNat 32 i)).setTmg { s.tmg with
    pcLatch := (List.range 15).map fun n => kgetD s.tmg.pc (i * 16 + n) 0 }

/-- PC_LATCH (R184). -/
def execPcLatch (w : Word) (s : State) : Host.Outcome State Fault Refusal :=
  .next (s.hostWr TMG.PCIDX fun s => s.pcidxWr w)

/-! ## Quiesce and reset (R203, R218) -/

/-- TMG's accepted work: packets still arriving, fan-outs, spill writes and refill reads. -/
def State.tmgWork (s : State) : Bool :=
  s.ips.any (fun e => !e.2.arriving.isEmpty) || !s.tmg.mcq.isEmpty || !s.tmg.listReqs.isEmpty ||
    s.tmg.queues.any fun e => !e.2.inbound.isEmpty || !e.2.outbound.isEmpty

/-- A soft reset discards every packet, subtracts each HOLD from HOLDERS, and hands every page back to BPM. -/
def State.tmgReset (s : State) : State :=
  let s := (List.range 16).foldl (fun t v =>
    (t.setF (VER.HOLDERS v) 31 0 (t.f (VER.HOLDERS v) 31 0 - t.f (TMG.HOLD v) 31 0)).wr (TMG.HOLD v) 0) s
  let s := s.setTmg { s.tmg with queues := [], data := [], mcq := [], rink := [], listFree := [], listSpare := [], listReqs := [] }
  let s := { s with ips := s.ips.map fun (e : Nat × IpSt) => (e.1, { e.2 with arriving := [] }) }
  let s := s.zero ((List.range 40).map TMG.XOFFSTATE)
  (s.reclaim ownTMG).retire

/-- BPM's soft reset fails every page of the middle, inbound and outbound segments (R218). -/
def State.tmgBasinLost (s : State) : State :=
  let s := s.setTmg { s.tmg with listFree := [], listSpare := [], listReqs := [] }
  s.tmg.queues.foldl (fun (t : State) (e : Nat × Queue) =>
    let v := e.2
    let pages := v.inbound ++ v.middle ++ v.outbound
    if pages.isEmpty && v.lists.isEmpty then t
    else
      let ids := (v.partialIn.toList ++ v.tailPkt.toList ++ pages.flatMap fun p => p.starts ++ p.ends).map fun x => x.id
      let t := if pages.isEmpty then t else t.kill e.1 0xB ids
      (t.setTq e.1 { t.tq e.1 with inbound := [], middle := [], outbound := [], asked := false, lists := [] }).pump e.1) s

/-- A channel's contents are lost: pages and list blocks on it (R305; log entry 143). -/
def State.tmgChanLost (s : State) (n : Nat) : State :=
  let copy (b : ListBlk) (a c : Nat) : List Nat := if s.onChan n a 64 && !b.lost.contains c then [c] else []
  let blk (b : ListBlk) : ListBlk := { b with lost := b.lost ++ copy b b.a 0 ++ copy b b.b 1 }
  s.setTmg { s.tmg with queues := s.tmg.queues.map fun (e : Nat × Queue) =>
    let v := s.chanPages n dpSPILL e.2
    (e.1, { v with lists := v.lists.map blk }) }

/-! ## Memory errors (R201) -/

/-- The frame that a port is sending ends after the bytes already sent, with a poisoned FCS (R200), however short it then is
(log entry 145); one that has left whole is past that. -/
def State.txPoison (s : State) (p : Nat) (x : TxNow) : State :=
  let n := s.txSent p x
  if x.len ≤ n then s
  else
    let t := s.setPort p { s.port p with
      txNow := some { x with f := { x.f with poison := true }, body := x.body.take n, xor := 0xFFFFFFFF } }
    if x.f.poison then t else (t.pcAdd p 12).irq pgTMG 4

/-- The packets in transmission that were granted from a data record end with a poisoned FCS (R200). -/
def State.poisonSent (s : State) (d : Nat) : State :=
  let eps := s.eps.map fun (e : Nat × EpSt) => (e.1, { e.2 with
    inq := e.2.inq.map fun (x : Nat × Pkt) => if x.2.store = some d then (x.1, { x.2 with bad := true }) else x })
  let s := { s with eps := eps, ports := s.ports.map fun (e : Nat × PortSt) => (e.1, { e.2 with
    txq := e.2.txq.map fun (f : TxFrame) => if f.store = some d then { f with poison := true } else f }) }
  s.ports.foldl (fun (t : State) (e : Nat × PortSt) =>
    match e.2.txNow with
    | some x => if x.f.store = some d then t.txPoison e.1 x else t
    | none => t) s

/-- CELLUNC: a Tarn cell or tag of a data record is lost. Every copy that refers to it and has not been dequeued is
discarded; a packet in transmission ends as in R200. -/
def State.cellLost (s : State) (d : Nat) : State :=
  let s := s.tmg.queues.foldl (fun (t : State) (e : Nat × Queue) =>
    let ids := (e.2.tarn.filter fun x => x.data = d).map fun x => x.id
    if ids.isEmpty then t else (t.kill e.1 0xB ids).pump e.1) s
  (s.dropJobs 0xB fun j => j.data = d).poisonSent d

/-- PAGEUNC: every packet with a byte in the page is discarded: those that start or end in it, and the one that goes on
into it from a page before. -/
def State.pageLost (s : State) (page : Nat) : State :=
  s.tmg.queues.foldl (fun (t : State) (e : Nat × Queue) =>
    let ps := e.2.inbound ++ e.2.middle ++ e.2.outbound
    let before := ps.takeWhile fun p => p.page ≠ page
    match ps.drop before.length with
    | [] => t
    | p :: _ =>
      let into := if 0 < p.cont then (carryOn e.2.partialIn before).toList else []
      (t.kill e.1 0xB ((p.starts ++ p.ends ++ into).map fun x => x.id)).pump e.1) s

end Sys2Proof.Machine
end

