-- ==== Sys2Proof/Machine/Sch.lean ====
section
/-! DEFINITION. The scheduler: the hierarchy, eligibility, deficit round robin and the grant (R219 to R226, R255). -/

namespace Sys2Proof.Machine

/-! ## The hierarchy -/

/-- Listed entries of an index-accessed register: index and value. -/
def State.indexed (s : State) (key0 : Nat) : List (Nat × Word) :=
  (s.regs.filter fun e => 16777216 ≤ e.1 && decide (e.1 < 1152921504606846976) && e.1 % 16777216 == key0 % 16777216).map
    fun e => (e.1 / 16777216 - 1, e.2)

/-- Enabled nodes and enabled queues. Their registers differ from reset, so they are listed. -/
def State.nodes (s : State) : List (Nat × Word) := (s.indexed (SCH.NODECFG 0)).filter fun e => fld e.2 19 19 == 1
def State.queues (s : State) : List (Nat × Word) := (s.indexed (SCH.SQMAP 0)).filter fun e => fld e.2 19 19 == 1

/-- The root of a port. -/
def State.portRoot (s : State) (p : Nat) : Option Nat :=
  (s.nodes.find? fun e => fld e.2 16 16 = 1 && fld e.2 17 17 = 0 && fld e.2 27 20 = p).map fun e => e.1

/-- The group and member of a port: its enabled member of an enabled group (R244). -/
def State.memberOf (s : State) (p : Nat) : Option (Nat × Nat) :=
  ((List.range 32).filter fun g => s.fb (BLG.GCFG g) 0).findSome? fun g =>
    ((List.range 16).find? fun m => s.fb (BLG.MCFG g m) 0 && s.f (BLG.MCFG g m) 8 1 == p).map fun m => (g, m)

/-- The port is a member port: an enabled member names it, its group enabled or not (R261; log entry 43). -/
def State.memberPort (s : State) (p : Nat) : Bool :=
  (List.range 32).any fun g => (List.range 16).any fun m => s.fb (BLG.MCFG g m) 0 && s.f (BLG.MCFG g m) 8 1 == p

/-- TXSTATE codes (R254). -/
abbrev mtOFF : Nat := 0
abbrev mtDOWN : Nat := 1
abbrev mtJOINING : Nat := 2
abbrev mtACTIVE : Nat := 3
abbrev mtEXCLUDED : Nat := 4
def State.txState (s : State) (g m : Nat) : Nat := s.f (BLG.MSTAT g m) 2 0

/-- The group root offered to a port root, with its group, member and GSLOT (R255). -/
def State.groupRoot (s : State) (p : Nat) : Option (Nat × Nat × Nat × Nat) :=
  match s.memberOf p with
  | none => none
  | some (g, m) =>
    if s.running pgBLG && s.txState g m = mtACTIVE then
      (s.nodes.find? fun e => fld e.2 16 16 = 1 && fld e.2 17 17 = 1 && fld e.2 27 20 = g).map fun e =>
        (e.1, g, m, fld e.2 30 28)
    else none

/-- A child of a node: a node or a queue. -/
inductive Child where
  | node (n : Nat)
  | queue (q : Nat)
  deriving DecidableEq, Repr

def Child.num : Child → Nat
  | .node n => n
  | .queue q => q

/-- A child takes its place by number. -/
def Child.insert (c : Child) : List Child → List Child
  | [] => [c]
  | d :: t => if c.num ≤ d.num then c :: d :: t else d :: c.insert t

/-- The children of a node in a slot, in ascending number; at the root of port p the group root is one of them. -/
def State.children (s : State) (p n slot : Nat) : List Child :=
  let ns := s.nodes.filter fun e => fld e.2 16 16 = 0 && fld e.2 12 0 = n && fld e.2 15 13 = slot
  let qs := s.queues.filter fun e => fld e.2 12 0 = n && fld e.2 15 13 = slot
  let gs := match s.groupRoot p with
    | some (r, _, _, gslot) => if s.portRoot p = some n && gslot = slot then [r] else []
    | none => []
  ((ns.map fun e => Child.node e.1) ++ gs.map Child.node ++ qs.map fun e => Child.queue e.1).foldr Child.insert []

/-- A child's weight (R222). -/
def State.weight (s : State) : Child → Nat
  | .node n => s.f (SCH.NODEW n) 7 0
  | .queue q => s.f (SCH.SQW q) 7 0

/-! ## Stops (R223) -/

/-- Bytes SCH has granted to the port's egress piste that have not entered a MAC; a heartbeat is not granted. -/
def State.lookahead (s : State) (p : Nat) : Nat :=
  let g := pgOf p
  (s.ep g).inq.foldl (fun a e => a + e.2.len) 0 +
    (List.range 8).foldl (fun a i => (s.port (g * 8 + i)).txq.foldl (fun b f =>
      if f.holder then b + f.bytes.length + 4 else b) a) 0

/-- The port-level shapers that apply. -/
def State.portShapers (s : State) (p : Nat) : List Nat :=
  (if s.pshOn p then [shPort p] else []) ++ (match s.capOf p with | some c => [shCap c] | none => [])

/-- A grant of L bytes conforms at the port level (R226). -/
def State.portConforms (s : State) (p len : Nat) (express : Bool) : Bool :=
  (s.portShapers p).all fun e =>
    let l := (s.levels e).1
    if express then decide (0 ≤ l) else decide (chargeOf e (s.par e) len * lvlUnit ≤ l)

/-- The gate of a class stops a frame of L bytes: its charge is that of the port shaper (R234). -/
def State.gateStops (s : State) (p cls len : Nat) : Bool :=
  !s.gateFits p cls (chargeOf (shPort p) (s.par (shPort p)) len).toNat

/-- A queue of a slot and class whose next packet is L bytes long is skipped on the port. -/
def State.stopped (s : State) (p slot cls len : Nat) : Bool :=
  let express := slot == 5
  (!express && decide (32768 ≤ s.lookahead p)) || s.paused p cls || s.gateStops p cls len ||
    (cls ≠ 7 && decide (s.now < s.pwr.defer)) || !s.portConforms p len express

/-- No grant at all on the port. -/
def State.portStops (s : State) (p : Nat) : Bool :=
  !s.isUp p || !s.running (pgPG (pgOf p)) || !s.running (pgEP (pgOf p)) || !s.running pgSCH ||
    (match s.capOf p with | some c => s.rateC (shCap c) == 0 | none => false)

/-- The packet at a queue's head, once the scheduler may dequeue it (R180, R200). -/
def State.headPkt (s : State) (q : Nat) : Option QPkt :=
  match (s.tq q).head with
  | x :: _ => if x.pkt.m.cut || (match s.tdata x.data with | some d => d.arrived | none => false) then some x else none
  | [] => none

/-- A queue is eligible on a port (R221). -/
def State.qEligible (s : State) (p q : Nat) : Bool :=
  match s.headPkt q with
  | some x => let m := s.rd (SCH.SQMAP q)
    !s.stopped p (fld m 15 13) (fld m 18 16) x.pkt.len
  | none => false

/-! ## Eligibility (R221) -/

/-- A node shaper applies, and its two levels. -/
def State.shen (s : State) (n : Nat) : Bool := bit (s.par n).ctl 8
def State.pirOk (s : State) (n : Nat) : Bool := !s.shen n || decide (0 ≤ (s.levels n).2)
def State.cirOk (s : State) (n : Nat) : Bool := !s.shen n || decide (0 ≤ (s.levels n).1)

/-- Some child in slots 0 to 4 is eligible; five levels at most (R220). -/
def State.nodeHas (s : State) (p : Nat) : Nat → Nat → Bool
  | 0, _ => false
  | fuel + 1, n => [0, 1, 2, 3, 4].any fun slot => (s.children p n slot).any fun c =>
    match c with
    | .queue q => s.qEligible p q
    | .node m => s.nodeHas p fuel m && s.pirOk m

/-- A child is excess-eligible, or committed-eligible. -/
def State.excess (s : State) (p fuel : Nat) : Child → Bool
  | .queue q => s.qEligible p q
  | .node m => s.nodeHas p fuel m && s.pirOk m
def State.committed (s : State) (p fuel : Nat) : Child → Bool
  | .queue q => s.qEligible p q
  | .node m => s.nodeHas p fuel m && s.pirOk m && s.cirOk m

/-- A child holds an eligible packet, whatever its shaper. -/
def State.hasPkt (s : State) (p fuel : Nat) : Child → Bool
  | .queue q => s.qEligible p q
  | .node m => s.nodeHas p fuel m

/-! ## Deficit round robin (R222) -/

def State.wrr (s : State) (n pass : Nat) : Wrr := kgetD s.sch.wrr (2 * n + pass) {}
def State.setWrr (s : State) (n pass : Nat) (w : Wrr) : State :=
  { s with sch := { s.sch with wrr := kset s.sch.wrr (2 * n + pass) w } }

/-- The child at the pointer: the first at or past it, else the first of all. -/
def atPtr (l : List Child) (ptr : Nat) : Option Child := (l.find? fun c => ptr ≤ c.num) <|> l.head?

/-- The rounds of one selection: each visits the child at the pointer. The deficit of a child is never more than one
charge below 0 and a visit adds at least 256 bytes, so 66 rounds of the group reach a child that can be served. -/
def drr (elig has : Child → Bool) (weight : Child → Nat) (l : List Child) : Nat → Wrr → Option Child × Wrr
  | 0, w => (none, w)
  | fuel + 1, w =>
    match atPtr l w.ptr with
    | none => (none, w)
    | some c =>
      if elig c then
        let d := kgetD w.defs c.num 0 + (if w.visited && w.ptr == c.num then 0 else (weight c * 256 : Nat))
        let w := { w with ptr := c.num, visited := true, defs := kset w.defs c.num d }
        if 0 < d then (some c, w)
        else drr elig has weight l fuel { w with ptr := c.num + 1, visited := false }
      else
        let defs := if has c then w.defs else kset w.defs c.num 0
        drr elig has weight l fuel { w with ptr := c.num + 1, visited := false, defs := defs }

/-- The weighted group of a node selects in a pass: 0 committed, 1 excess. -/
def State.drrPick (s : State) (p n pass fuel : Nat) : Option (Child × State) :=
  let l := s.children p n 4
  let elig := if pass = 0 then s.committed p fuel else s.excess p fuel
  if l.any elig then
    match drr elig (s.hasPkt p fuel) s.weight l (66 * l.length + 1) (s.wrr n pass) with
    | (some c, w) => some (c, s.setWrr n pass w)
    | (none, _) => none
  else none

/-! ## Selection (R221) -/

/-- What a selection comes to: the queue, the weighted group and pass through which each child was chosen, and the
nodes passed, the root first. -/
structure Pick where
  queue : Nat := 0
  drrs : List (Nat × Nat × Child) := []
  nodes : List Nat := []
  express : Bool := false

/-- The strict slots of a node. -/
def State.strictPick (s : State) (p n fuel : Nat) : Option Child :=
  [0, 1, 2, 3].findSome? fun slot => (s.children p n slot).find? fun c => s.excess p fuel c

/-- A node selects from slots 0 to 4. -/
def State.nodePick (s : State) (p : Nat) : Nat → Nat → Option (Pick × State)
  | 0, _ => none
  | fuel + 1, n =>
    let go (c : Child) (s : State) (drrs : List (Nat × Nat × Child)) : Option (Pick × State) :=
      match c with
      | .queue q => some ({ queue := q, drrs := drrs, nodes := [n] }, s)
      | .node m => (s.nodePick p fuel m).map fun r => ({ r.1 with drrs := drrs ++ r.1.drrs, nodes := n :: r.1.nodes }, r.2)
    match s.strictPick p n fuel with
    | some c => go c s []
    | none =>
      match s.drrPick p n 0 fuel with
      | some (c, s) => go c s [(n, 0, c)]
      | none =>
        match s.drrPick p n 1 fuel with
        | some (c, s) => go c s [(n, 1, c)]
        | none => none

/-- The express input: the queue whose head packet has the oldest E, the lower number on a tie. -/
def State.expressPick (s : State) (p n : Nat) : Option Nat :=
  ((s.children p n 5).foldl (fun (acc : Option (Nat × Nat)) c =>
    match c with
    | .queue q =>
      if s.qEligible p q then
        match s.headPkt q, acc with
        | some x, none => some (x.enq, q)
        | some x, some a => if x.enq < a.1 || (x.enq == a.1 && q < a.2) then some (x.enq, q) else some a
        | none, a => a
      else acc
    | .node _ => acc) none).map (·.2)

/-- The port root selects. Node shapers do not stop the express input (R223); the root's own shaper stops the rest. -/
def State.portPick (s : State) (p : Nat) : Option (Pick × State) :=
  match s.portRoot p with
  | none => none
  | some n =>
    match s.expressPick p n with
    | some q => some ({ queue := q, nodes := [n], express := true }, s)
    | none => if s.pirOk n then s.nodePick p 10 n else none

/-! ## The grant (R225, R226, R255) -/

/-- A shaper is charged. -/
def State.charge (s : State) (e len : Nat) : State :=
  let l := s.levels e
  let b := chargeOf e (s.par e) len * lvlUnit
  s.putLevels e (l.1 - b, if e < 8192 then l.2 - b else l.2)

/-- Every shaper that applies to a grant is charged. -/
def State.chargeAll (s : State) (p len : Nat) (nodes : List Nat) : State :=
  let s := (nodes.filter fun n => s.shen n).foldl (fun t n => t.charge n len) s
  (s.portShapers p).foldl (fun t e => t.charge e len) s

/-- A child's deficit falls by the charge under its group's node; the pointer moves on at 0 or less. -/
def State.drrCharge (s : State) (len : Nat) (d : Nat × Nat × Child) : State :=
  let w := s.wrr d.1 d.2.1
  let v := kgetD w.defs d.2.2.num 0 - chargeOf d.1 (s.par d.1) len
  let w := { w with defs := kset w.defs d.2.2.num v }
  s.setWrr d.1 d.2.1 (if v ≤ 0 then { w with ptr := d.2.2.num + 1, visited := false } else w)

/-- A packet leaves its queue's head. -/
def State.unqueue (s : State) (q : Nat) (x : QPkt) : State :=
  let v := s.tq q
  s.setTq q { v with head := v.head.filter fun y => y.id ≠ x.id }

/-- The head packet is discarded on being dequeued: due, or known bad (R193, R200). -/
def State.headDiscard (s : State) (q : Nat) : Option Nat :=
  match s.headPkt q with
  | some x => if s.isDue x then some 0x7 else if x.pkt.bad && !x.pkt.m.cut then some 0x6 else none
  | none => none

/-- TXSEQ advances past q; a mark is sent where it crosses a multiple of 65,536 (R379). -/
def State.nextSeq (s : State) (g : Nat) (q : Word) : State :=
  let s := s.wr (BLG.TXSEQ g) (q + 1)
  if (q + 1).toNat % 65536 = 0 then s.journal (.seqMark g (q + 1).toNat) else s

/-- The bond tag of a grant through a group root: the group's next sequence number. -/
def State.bondTag (s : State) (p : Nat) (nodes : List Nat) : Option (BondTag × State) :=
  match s.groupRoot p with
  | some (r, g, m, _) =>
    if nodes.contains r then
      let q := s.rd (BLG.TXSEQ g)
      some ({ group := g, member := m, seq := q.toNat }, s.nextSeq g q)
    else none
  | none => none

/-- The granted packet goes to the egress piste of the port's group. -/
def State.hand (s : State) (p : Nat) (x : QPkt) (tag : Option BondTag) : State :=
  let s := (s.tmgUnhold x.pkt.m.vertag).freeRef x.data
  let g := pgOf p
  s.setEp g { s.ep g with inq := (s.ep g).inq ++ [(p, { x.pkt with shim := tag, store := some x.data })] }

/-- A group root has no eligible packet left on the port of any ACTIVE member (R258). -/
def State.groupDone (s : State) (g r : Nat) : Bool :=
  (List.range 16).all fun m =>
    s.txState g m != mtACTIVE || !s.fb (BLG.MCFG g m) 0 || !s.nodeHas (s.f (BLG.MCFG g m) 8 1) 9 r

/-- A selected queue's head packet is granted. -/
def State.grantPick (s : State) (p : Nat) (k : Pick) : State :=
  match s.headPkt k.queue with
  | none => s
  | some x =>
    let len := x.pkt.len
    let s := s.chargeAll p len k.nodes
    let s := k.drrs.foldl (fun t d => t.drrCharge len d) s
    let cls := s.f (SCH.SQMAP k.queue) 18 16
    let q (n : Nat) : Bool := bit n 3 || n % 8 == cls
    let s := (s.event pgSCH 0x100 1 q).event pgSCH 0x101 (chargeOf (shPort p) (s.par (shPort p)) len).toNat q
    let s := s.unqueue k.queue x
    match s.bondTag p k.nodes with
    | none => (s.hand p x none).pump k.queue
    | some (t, s) =>
      let s := s.pump k.queue
      let eob := match s.groupRoot p with | some (r, g, _, _) => s.groupDone g r | none => false
      (s.hand p x (some { t with eob := eob })).refillAll

/-- A gate withholds a grant on the port: some queue with a packet is stopped by its gate. -/
def State.gateHolds (s : State) (p : Nat) : Bool :=
  s.queues.any fun e =>
    s.ownerPort e.1 == p && (match s.headPkt e.1 with
      | some x => s.gateStops p (fld e.2 18 16) x.pkt.len
      | none => false)

/-- A port ready for a grant selects, discarding head packets that must not be sent. -/
def State.schGrant (s : State) (p : Nat) : Nat → State
  | 0 => s
  | fuel + 1 =>
    if s.portStops p then s
    else match s.portPick p with
      | none => if s.gateHolds p then s.event pgSCH 0x102 1 fun _ => true else s
      | some (k, t) =>
        match t.headDiscard k.queue, t.headPkt k.queue with
        | some code, some x => ((s.kill k.queue code [x.id]).pump k.queue).schGrant p fuel
        | _, _ => t.grantPick p k

/-- SCH_GRANT (R221). -/
def execSchGrant (p : Port) (s : State) : Host.Outcome State Fault Refusal :=
  .next (s.schGrant p.val (1 + s.tmg.queues.foldl (fun a e => a + e.2.all.length) 0))

/-! ## Immediate grants (R224) -/

/-- The queue is eligible for an immediate grant. -/
def State.immediate (s : State) (q : Nat) : Bool :=
  match s.qRoot q with
  | none => false
  | some root =>
    let p := s.ownerPort q
    let m := s.rd (SCH.SQMAP q)
    let maxlen := s.f (PG.MAXLEN (pgOf p) (slotOf p)) 13 0
    let others := s.queues.filter fun e => e.1 ≠ q && s.qRoot e.1 = some root
    fld m 19 19 == 1 && decide (p < 160) && !s.fb (SCH.NODECFG root) 17 && (s.qPath q).all (fun n => s.fb (SCH.NODECFG n) 19) &&
      !(s.tq q).spill && (s.tq q).all.isEmpty && others.all (fun e => (s.tq e.1).all.isEmpty) &&
      (s.qPath q).all s.pirOk &&
      (s.portShapers p).all (fun e => decide (((maxlen + 63 : Nat) : Int) * lvlUnit ≤ (s.levels e).1)) &&
      !s.portStops p && !s.stopped p (fld m 15 13) (fld m 18 16) maxlen

/-! ## Quiesce and reset (R241) -/

/-- A soft reset of SCH: RESETMODE everywhere, deficits 0, pointers at the first child. -/
def State.schReset (s : State) : State :=
  let s := s.resetAllLevels
  { s with sch := { s.sch with wrr := [] } }

end Sys2Proof.Machine
end

