-- ==== Sys2Proof/Machine/Admit.lean ====
section
/-! DEFINITION. Admission to TMG, replication, Rink copies and Glide (R183 to R187, R195 to R200). -/

namespace Sys2Proof.Machine

/-! ## Checks (R184) -/

/-- The cells that admission tests: all of a packet whose length the piste has reported, else one (R183). -/
def Pkt.tested (p : Pkt) (known : Bool) : Nat := if known then p.cells else 1

/-- The class of an ingress entity is lossless. -/
def State.lossless (s : State) (e c : Nat) : Bool := decide (e < 160) && s.pfcAllowed e c

/-- Checks 1 to 5 for n cells bound to a queue of a port; `own` are cells of IC left out of check 3 (R195), and a copy
skips check 2. -/
def State.limits (s : State) (p : Pkt) (q port n own : Nat) (copy : Bool) : Option Nat :=
  let e := p.ent
  let c := p.m.cls
  let ic := s.icCells e c
  let pr := s.ipProf e
  let ll := s.lossless e c
  if !s.running pgTMG then some 0xA
  else if !copy && ll && s.f (TMG.XOFF pr c) 19 0 + s.f (TMG.HDRM pr c) 19 0 < ic + n then some 0x4
  else if !ll && s.f (TMG.ILIM pr c) 19 0 < ic - own + n then some 0x3
  else if !ll && s.f (TMG.QLIM (s.qProf q)) 19 0 < s.qCells q + n then some 0x1
  else if !ll && port < 160 &&
      (s.f (TMG.CLIM (s.epProf port) c) 19 0 < s.portCells port (some c) + n ||
        s.f (TMG.PORTLIM (s.epProf port)) 19 0 < s.portCells port none + n) then some 0x2
  else none

/-- The counters of an admitted packet or copy (R398). -/
def State.admitEvents (s : State) (q : Nat) (p : Pkt) : State :=
  let f (n : Nat) : Bool := n % 2 == 0 || s.isXq q
  (s.event pgTMG 0x100 1 f).event pgTMG 0x101 p.len f

/-- AGE_TS, which TMG writes as the first cell is admitted on the first pass, and no later pass or copy changes (R16,
R178). -/
def State.aged (s : State) (p : Pkt) : Pkt :=
  if p.m.pass = 0 then { p with m := { p.m with ageTs := s.tai % 281474976710656 } } else p

/-- The metadata of a packet as a queue holds it: EXPRESS only in an express queue (R186). -/
def State.stamped (s : State) (q : Nat) (p : Pkt) : Pkt := { p with m := { p.m with express := p.m.express && s.isXq q } }

/-- A packet whose data is stored joins its queue and is held; E is the instant at which its first cell was admitted
(R178), and its aging base D that of its AGE_TS (R193). -/
def State.queueIn (s : State) (q port data enq : Nat) (p : Pkt) : State :=
  let s := if p.m.express && !s.isXq q then s.pcAdd port 13 else s
  let x : QPkt := { data := data, pkt := s.stamped q p, port := port, enq := enq, base := s.fullInstant p.m.ageTs }
  ((s.tmgHold p.m.vertag).admitEvents q p).enqueue q x

/-- The packet's cells go on arriving at TMG. -/
def State.arriving (s : State) (i data : Nat) (p : Pkt) : State :=
  s.setIp i { s.ip i with arriving := (s.ip i).arriving ++ [(data, p.bad, p.tok)] }

/-! ## Rink sessions (R198) -/

/-- Discard codes of MODE 1 candidates. -/
def rinkCode (code : Nat) : Bool := [0x1, 0x2, 0x3, 0x4, 0x5, 0x8, 0x9].contains code

/-- A session selects a candidate; its LFSR steps once. -/
def State.rinkSelect (s : State) (k : Nat) : State × Bool :=
  let v := lfsrStep (kgetD s.tmg.rink k (s.rd (TMG.RINKSEED k)).toNat)
  (s.setTmg { s.tmg with rink := kset s.tmg.rink k v }, lfsrSelects v (s.f (TMG.RINKCFG k) 6 2))

/-- The copy of a session. -/
def State.rinkPkt (s : State) (k code : Nat) (p : Pkt) : Pkt :=
  let t := s.f (TMG.RINKCFG k) 15 8
  let ud := if code = 0 then p.m.userData.toNat else p.m.userData.toNat % 72057594037927936 + code * 72057594037927936
  { p with
    bytes := if t = 0 then p.bytes else p.bytes.take (t * 64)
    m := { p.m with egrPort := s.f (TMG.RINKEGR k) 7 0, template := s.f (TMG.RINKEGR k) 19 8,
                    qid := s.f (TMG.RINKQID k) 16 0, userData := BitVec.ofNat 64 ud } }

/-- A session copies a candidate; `data` is the original's stored data, if it was admitted, and `known` whether the piste
has reported the packet's length. As for a multicast copy check 3 leaves the data's own charge out, and the data is counted
in IC once. Answers the data record stored for it. -/
def State.rinkCopy (s : State) (i k code : Nat) (known : Bool) (p : Pkt) (data : Option Nat) : State × Option Nat :=
  let x := s.rinkSelect k
  if !x.2 then (x.1, data)
  else
    let s := x.1
    let c := s.rinkPkt k code p
    let q := c.m.qid
    let port := s.ownerPort q
    let drop (s : State) : State := s.bump (TMG.RINKDROPPED k)
    let held := data.bind fun d => (s.tdata d).map fun r => (d, r)
    let own := match held with | some (_, r) => if r.ic then r.n else 0 | none => 0
    match s.limits c q port (c.tested known) own true with
    | some _ => (drop s, data)
    | none =>
      match held with
      | some (d, r) =>
        let n := max r.n c.cells
        let need := if r.charge = .shared || !known then c.tested known else n
        if s.sharedFree < need then (drop s, data)
        else
          let s := (s.putData d { r with
            n := n, ic := r.ic || r.charge == .pend, charge := .shared, refs := r.refs + 1 }).hold p.m.vertag
          let s := s.weir r.ent r.cls
          ((s.queueIn q port d s.tai c).bump (TMG.RINKCOPIES k), data)
      | none =>
        if s.sharedFree < c.tested known then (drop s, data)
        else
          let n := s.newData { n := c.cells, ent := p.ent, cls := p.m.cls, charge := .shared }
          let s := (n.2.arriving i n.1 p).hold p.m.vertag
          ((s.queueIn q port n.1 s.tai c).bump (TMG.RINKCOPIES k), some n.1)

/-- Every enabled session for which the packet is a candidate: `code` is its discard code, 0 if it was not discarded. -/
def State.rinks (s : State) (i code : Nat) (known : Bool) (p : Pkt) (data : Option Nat) : State :=
  ((List.range 8).foldl (fun (acc : State × Option Nat) k =>
    let c := acc.1.rd (TMG.RINKCFG k)
    if fld c 0 0 = 0 then acc
    else if fld c 1 1 = 0 then
      if bit p.m.mirror k then acc.1.rinkCopy i k 0 known p acc.2 else acc
    else if rinkCode code then acc.1.rinkCopy i k code known p acc.2 else acc) (s, data)).1

/-! ## Glide (R199) -/

/-- The packet may be forwarded by Glide. -/
def State.glides (s : State) (q : Nat) (p : Pkt) : Bool :=
  let src := p.m.srcPort
  let out := s.ownerPort q
  decide (src < 160) && p.m.pass == 0 && !p.stored && s.fb (TMG.GLIDEEN (src / 32)) (src % 32) && p.m.mirror == 0 && p.m.bond.isNone &&
    s.immediate q && decide (s.portRate out ≤ s.portRate src)

/-- SCH grants the packet at once: it is charged with its final length and its cells go straight to the egress piste. -/
def State.glideGrant (s : State) (q : Nat) (x : QPkt) : State :=
  let s := ((s.pcAdd x.port 11).event pgTMG 0x105 1 fun _ => true)
  s.grantPick x.port { queue := q, nodes := (s.qPath q).reverse }

/-! ## Admission -/

/-- A unicast packet. It is stored whole whatever was tested (R183). -/
def State.admitUnicast (s : State) (i : Nat) (known : Bool) (p : Pkt) : State :=
  let q := p.m.qid
  let port := s.ownerPort q
  let n := p.tested known
  let fail (code : Nat) : State := (s.rinks i code known p none).discard code port p
  match s.limits p q port n 0 false with
  | some c => fail c
  | none =>
    match s.cover q p.ent p.m.cls n with
    | none => fail 0x5
    | some ch =>
      let cut := s.glides q p
      let p := { p with m := { p.m with cut := cut } }
      let d := s.newData { n := p.cells, ent := p.ent, cls := p.m.cls, charge := ch }
      let s := (d.2.arriving i d.1 p).queueIn q port d.1 s.tai p
      let s := s.rinks i 0 known p (some d.1)
      if cut then (match s.headPkt q with | some x => s.glideGrant q x | none => s) else s

/-- A multicast packet is stored once and joins the replication queue (R195). -/
def State.admitMulticast (s : State) (i : Nat) (known : Bool) (p : Pkt) : State :=
  let fail (code : Nat) : State := (s.rinks i code known p none).discard code noPort p
  if !s.running pgTMG then fail 0xA
  else if 16384 ≤ s.tmg.mcq.length then fail 0x8
  else
    let d := s.newData { n := p.cells, ent := p.ent, cls := p.m.cls, ic := false, charge := .pend }
    let s := (d.2.arriving i d.1 p).tmgHold p.m.vertag
    let s := s.setTmg { s.tmg with mcq := s.tmg.mcq ++ [{ data := d.1, pkt := p, enq := s.tai }] }
    s.rinks i 0 known p (some d.1)

/-- A host-bound packet or copy (R187). -/
def State.admitHost (s : State) (i user qp : Nat) (copy known : Bool) (p : Pkt) : State :=
  let q := hostQ user qp
  let n := p.tested known
  let fail (code : Nat) : State := (s.rinks i code known p none).discard code noPort p
  if !s.running pgTMG then fail 0xA
  else if s.f TMG.HOSTLIM 15 0 < s.qCells q + n then fail 0x9
  else if s.sharedFree < n then fail 0x5
  else
    let d := s.newData { n := p.cells, ent := p.ent, cls := p.m.cls, ic := !copy, charge := .shared }
    let s := (d.2.arriving i d.1 p).queueIn q noPort d.1 s.tai p
    s.rinks i 0 known p (some d.1)

/-- PACKET_ADMIT (R183, R184): the first cell of the next result of the piste reaches TMG, whose length the piste has
reported by then or not. -/
def execPacketAdmit (c : FirstCell) (s : State) : Host.Outcome State Fault Refusal :=
  .next (match (s.ip c.ix.val).out with
    | [] => s
    | o :: rest =>
      let s := s.setIp c.ix.val { s.ip c.ix.val with out := rest }
      match o with
      | .forward p =>
        if p.m.mcgrp.isSome then s.admitMulticast c.ix.val c.known (s.aged p) else s.admitUnicast c.ix.val c.known (s.aged p)
      | .host user qp copy p => s.admitHost c.ix.val user qp copy c.known (s.aged p))

/-! ## Last cells (R200) -/

/-- The status of a packet's last cell is known: a bad one is discarded wherever it waits. -/
def State.arrived (s : State) (data : Nat) (bad : Bool) : State :=
  let s := match s.tdata data with
    | some d => s.putData data { d with arrived := true }
    | none => s
  if !bad then s
  else
    let s := s.tmg.queues.foldl (fun (t : State) (e : Nat × Queue) =>
      let ids := (e.2.all.filter fun x => x.data == data && !x.pkt.m.cut).map fun x => x.id
      if ids.isEmpty then t else (t.kill e.1 0x6 ids).pump e.1) s
    s.dropJobs 0x6 fun j => j.data = data

/-- LAST_CELL_ARRIVAL (R200): the last cell carries the ICV's outcome, so it waits for a pending one (R279). -/
def execLastCellArrival (i : PgIx) (s : State) : Host.Outcome State Fault Refusal :=
  .next (match (s.ip i.val).arriving with
    | [] => s
    | (d, bad, tok) :: rest =>
      if s.icvPending tok then s else (s.setIp i.val { s.ip i.val with arriving := rest }).arrived d bad)

/-! ## Replication (R195, R196) -/

/-- Copy k of a packet from a replication entry. -/
def State.mcPkt (s : State) (e : Nat) (p : Pkt) : Pkt :=
  let w0 := s.rd (bankKey TMG.MCENT0 e)
  let eg := fld w0 7 0
  let ud := p.m.userData.toNat
  let ud := ud - ud / 4294967296 % 65536 * 4294967296 + fld w0 31 16 * 4294967296
  { p with m := { p.m with
    egrPort := eg, userData := BitVec.ofNat 64 ud, bond := bondOf eg,
    qid := if fld w0 8 8 = 0 then (eg * 128 + p.m.cls) % 131072
      else (s.f (TMG.MCENT1 e) 16 0 + p.m.cls) % 131072 } }

/-- One copy is admitted or discarded, each on its own under the checks; the data's cells are charged once (R195). `enq` is
E of the packet's admission. -/
def State.mcCopy (s : State) (data enq : Nat) (p : Pkt) : State :=
  let q := p.m.qid
  let port := s.ownerPort q
  match s.tdata data with
  | none => s
  | some d =>
    let code := match s.limits p q port d.n (if d.ic then d.n else 0) true with
      | some c => some c
      | none => if s.sharedFree < d.n then some 0x5 else none
    let s := s.hold p.m.vertag
    match code with
    | some c => s.discard c port p
    | none =>
      let s := (s.putData data { d with charge := .shared, ic := true, refs := d.refs + 1 }).weir d.ent d.cls
      (s.queueIn q port data enq p).bump TMG.MCCOPIES

/-- The copies of one packet, in order; its own holder then ends. -/
def State.fanOut (s : State) (j : McJob) : State :=
  let g := s.rd (TMG.MCGRP ((j.pkt.m.mcgrp.getD 0) % 65536))
  let es := ((List.range (fld g 28 18)).map fun k => fld g 17 0 + k).filter fun e => e ≤ 262143
  let s := es.foldl (fun t e => t.mcCopy j.data j.enq (t.mcPkt e j.pkt)) s
  ((s.freeRef j.data).tmgUnhold j.pkt.m.vertag).release j.pkt.m.vertag

/-- The packet at the head of the replication queue is fanned out; one whose due instant has passed is discarded. -/
def State.replicate (s : State) : State :=
  match s.tmg.mcq with
  | [] => s
  | j :: rest => (s.setTmg { s.tmg with mcq := rest }).fanOut j

/-- REPLICATE (R195). -/
def execReplicateCopies (s : State) : Host.Outcome State Fault Refusal := .next s.ageJobs.replicate

/-! ## Views -/

/-- TMG.STAT as it reads. -/
def State.tmgStat (s : State) : Nat := s.f TMG.STAT 0 0 + b2n s.basinUse * 2 + s.tmg.mcq.length * 65536

/-- QSTATE of the selected queue. -/
def State.qState (s : State) (q : Nat) : Nat :=
  let v := s.tq q
  b2n v.spill + b2n (!v.all.isEmpty) * 2 + min 255 v.inbound.length * 256

/-- BASINPAGES. -/
def State.tmgPages (s : State) : Nat := s.tmg.queues.foldl (fun a e => a + e.2.pages) 0

end Sys2Proof.Machine
end

