-- ==== Sys2Proof/Machine/Blg.lean ====
section
/-! DEFINITION. Bonded line groups: capacity notices, member states, the receive side of the shim and the Eddy (R243 to
R254, R259, R261 to R266, R269). -/

namespace Sys2Proof.Machine

/-- BLG's causes. -/
abbrev irqNLATE : Nat := 0
abbrev irqNREJ : Nat := 1
abbrev irqMEMBERCHG : Nat := 2
abbrev irqGAPREL : Nat := 3
abbrev irqRESYNC : Nat := 4
abbrev irqEDDYOVF : Nat := 5
abbrev irqJUMP : Nat := 6

/-- Group counts by index. -/
abbrev gcTXFRAMES : Nat := 0
abbrev gcSEQVOID : Nat := 1
abbrev gcETMISS : Nat := 2
abbrev gcDELIVERED : Nat := 3
abbrev gcLOST : Nat := 4
abbrev gcJUMPS : Nat := 5
abbrev gcLATE : Nat := 6
abbrev gcDUP : Nat := 7
abbrev gcOVF : Nat := 8
abbrev gcRESYNCS : Nat := 9
abbrev gcCRCERR : Nat := 10
abbrev gcIDERR : Nat := 11
abbrev gcEXTLOST : Nat := 12
abbrev gcRSTDROP : Nat := 13
abbrev gcHBRX : Nat := 14
abbrev gcEOBRX : Nat := 15

/-- RXSTATE codes (R265). -/
abbrev rxOFF : Nat := 0
abbrev rxSYNC : Nat := 1
abbrev rxRUN : Nat := 2

def State.setBlg (s : State) (b : Blg) : State := { s with blg := b }
def State.mem (s : State) (g m : Nat) : Member := kgetD s.blg.members (g * 16 + m) {}
def State.setMem (s : State) (g m : Nat) (v : Member) : State :=
  s.setBlg { s.blg with members := kset s.blg.members (g * 16 + m) v }
def State.grp (s : State) (g : Nat) : Group := kgetD s.blg.groups g {}
def State.setGrp (s : State) (g : Nat) (v : Group) : State :=
  s.setBlg { s.blg with groups := kset s.blg.groups g v }
def State.gcount (s : State) (g ix : Nat) : State := s.bump (BLG.GCNT g ix)
def State.gcountN (s : State) (g ix n : Nat) : State := s.addF (BLG.GCNT g ix) 31 0 n

/-! ## CRC-8 (R248) and serial order (R265) -/

/-- One byte into CRC-8 with polynomial 0x07. -/
def crc8Byte (c b : Nat) : Nat :=
  (List.range 8).foldl (fun x _ => if bit x 7 then Nat.xor (x * 2 % 256) 0x07 else x * 2 % 256) (Nat.xor c b)

def crc8 (l : List Byte) : Nat := l.foldl (fun c b => crc8Byte c b.toNat) 0

/-- a is serial-greater than b. -/
def serGt (a b : Nat) : Bool := a ≠ b && decide ((a + 4294967296 - b) % 4294967296 < 2147483648)

/-! ## Capacity (R250, R253) -/

def State.curCap (s : State) (g m : Nat) : Nat := s.f (SCH.CAP (16 * g + m)) 10 0

/-- A new capacity: credit up to now is that of the old one (R229). -/
def State.setCap (s : State) (g m cap : Nat) : State := (s.settle (shCap (16 * g + m))).setF (SCH.CAP (16 * g + m)) 10 0 cap

/-! ## Transmit state of a member (R254) -/

def State.memEn (s : State) (g m : Nat) : Bool := s.fb (BLG.GCFG g) 0 && s.fb (BLG.MCFG g m) 0
def State.memPort (s : State) (g m : Nat) : Nat := s.f (BLG.MCFG g m) 8 1
def State.usable (s : State) (g m : Nat) : Bool := s.isUp (s.memPort g m) && decide (0 < s.curCap g m)

/-- The far end does not hold the member back. -/
def State.remOk (s : State) (g m : Nat) : Bool := !s.fb (BLG.GCFG g) 5 || s.fb (BLG.MASKS g) (16 + m)

def State.setTx (s : State) (g m st : Nat) : State := (s.setF (BLG.MSTAT g m) 2 0 st).irq pgBLG irqMEMBERCHG

/-- One transition that holds now, if any. -/
def State.memberStep (s : State) (g m : Nat) : State :=
  let st := s.txState g m
  let excl := s.fb (BLG.MCFG g m) 12
  if !s.memEn g m then
    if st = mtOFF then s else (s.setTx g m mtOFF).setMem g m { s.mem g m with joinAt := none, lastTx := none }
  else if st = mtOFF then s.setTx g m mtDOWN
  else if st = mtEXCLUDED then (if excl then s else s.setTx g m mtDOWN)
  else if st = mtDOWN then
    if s.usable g m && !excl then (s.setTx g m mtJOINING).setMem g m { s.mem g m with
      joinAt := if s.remOk g m then some s.now else none, lastTx := none }
    else s
  else if !s.usable g m then (s.setTx g m mtDOWN).setMem g m { s.mem g m with joinAt := none }
  else if st = mtACTIVE then (if s.remOk g m then s else s.setTx g m mtDOWN)
  else
    let v := s.mem g m
    match s.remOk g m, v.joinAt with
    | true, none => s.setMem g m { v with joinAt := some s.now }
    | false, some _ => s.setMem g m { v with joinAt := none }
    | _, _ => s

/-- The member follows what has changed; four transitions are the longest chain. -/
def State.memberPoll (s : State) (g m : Nat) : State := (List.range 4).foldl (fun t _ => t.memberStep g m) s

/-- HOSTEXCL is written 1: only the write takes a member to EXCLUDED. -/
def State.memberExcl (s : State) (g m : Nat) : State :=
  let st := s.txState g m
  if s.fb (BLG.MCFG g m) 12 && s.memEn g m && (st = mtDOWN || st = mtJOINING || st = mtACTIVE) then
    (s.setTx g m mtEXCLUDED).setMem g m { s.mem g m with joinAt := none }
  else s

/-- MEMBER_JOIN (R254): JOINHOLD has elapsed. -/
def execMemberJoin (g : Fin 32) (m : Fin 16) (s : State) : Host.Outcome State Fault Refusal :=
  .next (match (s.mem g m).joinAt with
    | some t =>
      if s.txState g m = mtJOINING then
        let s := s.until (t + s.f BLG.TIMING 15 0 * 1000)
        (s.setTx g m mtACTIVE).setMem g m { s.mem g m with joinAt := none }
      else s
    | none => s)

/-- TXACT. -/
def State.txAct (s : State) (g : Nat) : Nat :=
  (List.range 16).foldl (fun a m => a + b2n (s.txState g m = mtACTIVE) * 2 ^ m) 0

/-! ## Notices (R247 to R252) -/

/-- The fields of a notice. -/
structure NoticeF where
  port : Nat
  cap : Nat
  fmtOk : Bool
  at_ : Nat
  seq : Nat
  crcOk : Bool

def noticeF (l : List Byte) : NoticeF :=
  let w := beNat l
  { port := w / 2 ^ 88 % 256, cap := w / 2 ^ 77 % 2048, fmtOk := w / 2 ^ 72 % 32 == 8, at_ := w / 2 ^ 24 % 281474976710656,
    seq := w / 256 % 65536, crcOk := crc8 (l.take 11) == w % 256 }

/-- The notices that stay when one at an instant is accepted, with it, in AT order. -/
def joinPend (l : List PendCap) (n : PendCap) : List PendCap := l.filter (fun p => p.at_ < n.at_) ++ [n]

/-- An accepted notice joins its member's pending list; answers its result. -/
def State.acceptNotice (s : State) (g m : Nat) (n : NoticeF) (at_ : Nat) : State × Nat :=
  let now := s.tai
  let onTime := decide (now + 10000 ≤ at_)
  let due := if onTime then at_ else if n.cap < s.curCap g m then now else if now < at_ then at_ else now
  let v := s.mem g m
  let s := s.setMem g m { v with pend := joinPend v.pend { at_ := at_, due := due, cap := n.cap }, seen := true }
  let s := s.setF (BLG.MSTAT g m) 31 16 n.seq
  if onTime then (s, 0) else ((s.bump (BLG.NLATE g m)).irq pgBLG irqNLATE, 1)

/-- A notice lands: from CN port k, or from the host. -/
def State.landNotice (s : State) (src : Option Nat) (l : List Byte) : State × Nat :=
  let n := noticeF l
  let at_ := s.fullInstant n.at_
  if !n.crcOk then (s, 2)
  else if !n.fmtOk then (s, 3)
  else match s.memberOf n.port with
    | none => (s, 4)
    | some (g, m) =>
      let v := s.mem g m
      let last := s.f (BLG.MSTAT g m) 31 16
      if (match src with | some k => s.f (BLG.MCFG g m) 11 9 != k | none => false) then (s, 5)
      else if v.seen && n.seq = last then (s, 6)
      else if v.seen && 32768 ≤ (n.seq + 65536 - last) % 65536 then (s, 7)
      else if s.tai + 1000000000 < at_ then (s, 8)
      else if 4 ≤ v.pend.length then (s, 9)
      else s.acceptNotice g m n at_

/-- Rejections other than DUP interrupt. -/
def State.noticeIrq (s : State) (r : Nat) : State := if 2 ≤ r && r ≠ 6 then s.irq pgBLG irqNREJ else s

/-- The states in which the CN receivers run (R59, R253). -/
def State.cnRuns (s : State) : Bool := !s.initialising

/-- NOTICE_RECEIVED (R249): on a port whose CNEN bit is 1. -/
def execNoticeReceived (k : Fin 4) (bytes : List Byte) (s : State) : Host.Outcome State Fault Refusal :=
  .next (if s.fb BLG.CNEN k && s.cnRuns then
      let r := s.landNotice (some k.val) bytes
      let s := r.1.wr (BLG.CNLAST k) (BitVec.ofNat 32 (r.2 + (noticeF bytes).port * 256))
      (s.bump (if r.2 ≤ 1 then BLG.CNACC k else BLG.CNREJ k)).noticeIrq r.2
    else s)

/-- NOTICE_TRUNCATED (R246). -/
def execNoticeTruncated (k : Fin 4) (s : State) : Host.Outcome State Fault Refusal :=
  .next (if s.fb BLG.CNEN k && s.cnRuns then s.bump (BLG.CNTRUNC k) else s)

/-- A write of HNOT2 submits the notice. -/
def State.hnot2 (s : State) (w : Word) : State :=
  let s := s.wr BLG.HNOT2 w
  let r := s.landNotice none (beBytes 4 (s.rd BLG.HNOT0).toNat ++ beBytes 4 (s.rd BLG.HNOT1).toNat ++ beBytes 4 w.toNat)
  (r.1.setF BLG.HNSTAT 3 0 r.2).noticeIrq r.2

/-- HOST_NOTICE (R252). -/
def execHostNotice (w : Word) (s : State) : Host.Outcome State Fault Refusal := .next (s.hostWr BLG.HNOT2 fun s => s.hnot2 w)

/-- The pending notice that is due first. -/
def firstDue (l : List PendCap) : Option PendCap :=
  l.foldl (fun a n => match a with | none => some n | some b => if n.due < b.due then some n else some b) none

/-- CAPACITY_APPLY (R250, R251). -/
def State.capacityApply (s : State) (g m : Nat) : State :=
  match if s.fb (BLG.MCFG g m) 0 then firstDue (s.mem g m).pend else none with
  | none => s
  | some n =>
    let s := s.untilInstant n.due
    let v := s.mem g m
    let old := s.curCap g m
    let s := s.setMem g m { v with pend := v.pend.erase n }
    let s := if n.cap < old && n.at_ < s.tai then
        s.wr64 (BLG.OVERB_LO g m) (BLG.OVERB_HI g m)
          (min 18446744073709551615 (s.rd64 (BLG.OVERB_LO g m) (BLG.OVERB_HI g m) + cdiv ((old - n.cap) * (s.tai - n.at_)) 8))
      else s
    ((s.setCap g m n.cap).memberPoll g m).xokAll

def execCapacityApply (g : Fin 32) (m : Fin 16) (s : State) : Host.Outcome State Fault Refusal :=
  .next (s.capacityApply g m)

/-- A write changed a member's or its group's enables (R253, R254). -/
def State.memberCfg (s : State) (g m : Nat) : State :=
  let k := SCH.CAP (16 * g + m)
  let en := s.fb (BLG.MCFG g m) 0
  let s :=
    if en && !s.fb k 16 then
      let s := s.settle (shCap (16 * g + m))
      let s := s.wr k (BitVec.ofNat 32 (s.f (BLG.INITCAP g m) 10 0 + 65536 + s.memPort g m * 16777216))
      s.setMem g m { s.mem g m with seen := false, pend := [] }
    else if !en && s.fb k 16 then
      ((s.settle (shCap (16 * g + m))).wr k 0).setMem g m { s.mem g m with pend := [] }
    else if en then s.setF k 31 24 (s.memPort g m)
    else s
  (s.memberPoll g m).xokAll

/-! ## The shim (R259) -/

structure ShimF where
  group : Nat
  member : Nat
  cls : Nat
  etidx : Nat
  seq : Nat
  hb : Bool
  cape : Bool
  eob : Bool
  crcOk : Bool

def shimF (f : List Byte) : ShimF :=
  let w := beNat (slice f 14 8)
  { group := w / 2 ^ 59 % 32, member := w / 2 ^ 55 % 16, cls := w / 2 ^ 52 % 8, etidx := w / 2 ^ 48 % 16,
    seq := w / 65536 % 4294967296, hb := bit w 15, cape := bit w 14, eob := bit w 13,
    crcOk := decide (22 ≤ f.length) && crc8 (slice f 12 9) == w % 256 }

/-- The shim's eight bytes. -/
def shimBytes (etype : List Byte) (g m cls etidx seq : Nat) (hb cape eob : Bool) : List Byte :=
  let w := g * 2 ^ 59 + m * 2 ^ 55 + cls * 2 ^ 52 + etidx * 2 ^ 48 + seq % 4294967296 * 65536 +
    b2n hb * 32768 + b2n cape * 16384 + b2n eob * 8192
  let l := (beBytes 8 w).take 7
  l ++ [BitVec.ofNat 8 (crc8 (etype ++ l))]

/-! ## The Eddy (R263 to R266) -/

/-- SEQ of a held frame. -/
abbrev QPkt.seq (x : QPkt) : Nat := x.enq

/-- The oldest frame of a queue, wherever it lies. -/
def Queue.oldest (v : Queue) : Option QPkt := v.all.head?

/-- Members of a group, and the oldest frame of each that holds one. -/
def State.eddyHeads (s : State) (g : Nat) : List (Nat × QPkt) :=
  (List.range 16).filterMap fun m => (s.mem g m).q.oldest.map fun x => (m, x)

/-- On-chip cells of a group, and of all groups. -/
def State.eddyCells (s : State) (g : Nat) : Nat := (List.range 16).foldl (fun a m => a + sumCells (s.mem g m).q.tarn) 0
def State.eddyUse (s : State) : Nat := s.blg.members.foldl (fun a e => a + sumCells e.2.q.tarn) 0

/-- Pages that a group holds (EDDYPAGES), and with those it has asked for: what EDDYMAX bounds. -/
def State.eddyPages (s : State) (g : Nat) : Nat := (List.range 16).foldl (fun a m => a + (s.mem g m).q.pages) 0
def State.eddyClaims (s : State) (g : Nat) : Nat :=
  s.eddyPages g + (List.range 16).foldl (fun a m => a + b2n (s.mem g m).q.asked) 0

/-- Cells that reads in flight, and parts that wait, keep (R266; log entry 118). -/
def State.eddyReads (s : State) : Nat := s.blg.members.foldl (fun a e => a + 44 * e.2.q.inbound.length + e.2.q.partCells) 0

def State.setEq (s : State) (g m : Nat) (v : Queue) : State := s.setMem g m { s.mem g m with q := v }

/-- A page is asked for when the tail has one to fill. -/
def State.eddyAsk (s : State) (g m : Nat) : State :=
  let v := (s.mem g m).q
  if v.pageReady && !v.asked && (v.waitAt == 0 || decide (v.waitAt + 4096 ≤ v.tailSize)) then
    if s.f (BLG.EDDYMAX g) 25 0 ≤ s.eddyClaims g then s.setEq g m { v with waitAt := max 1 v.tailSize }
    else (s.setEq g m { v with asked := true }).askPage ownEDDY (g * 16 + m)
  else s

/-- BPM has no page for the Eddy: the frames stay on chip. -/
def State.eddyRefused (s : State) (g m : Nat) : State :=
  let v := (s.mem g m).q
  s.setEq g m { v with asked := false, waitAt := max 1 v.tailSize }

/-- Refill reads while the head holds fewer than PREF cells and the chip has room for a page's frames. -/
def State.eddyRefills (s : State) (g m : Nat) : Nat → State
  | 0 => s
  | fuel + 1 =>
    let v := (s.mem g m).q
    match v.middle with
    | [] => s
    | p :: rest =>
      if sumCells v.head + v.inboundCells < s.f (BLG.EDDYCFG g) 29 16 && s.eddyUse + s.eddyReads + 44 ≤ 16384 then
        ((s.setEq g m { v with middle := rest, inbound := v.inbound ++ [p] }).drcPut {
          port := dpEDDYR, addr := p.page * 4096, len := 4096, client := p.id }).eddyRefills g m fuel
      else s

/-- Outbound pages, then the tail, join the head. -/
def State.eddyJoins (s : State) (g m : Nat) : State :=
  let v := (s.mem g m).q
  let low (v : Queue) : Bool := decide (sumCells v.head < s.f (BLG.EDDYCFG g) 29 16)
  if !v.spill || !v.inbound.isEmpty || !v.middle.isEmpty || !low v then s
  else
    let v := if v.outbound.any fun p => !p.drop then v.joinOutbound else v
    if low v then
      let v := v.joinTail
      s.setEq g m { v with spill := decide (s.f (BLG.EDDYCFG g) 13 0 ≤ sumCells v.tarn) }
    else s.setEq g m v

/-- Reads that waited for cells start, the lower group and member first (log entry 116). -/
def State.eddyRefillAll (s : State) : State :=
  s.blg.members.foldl (fun t e =>
    if e.2.q.spill then t.eddyRefills (e.1 / 16) (e.1 % 16) e.2.q.middle.length else t) s

def State.eddyPump (s : State) (g m : Nat) : State :=
  (if (s.mem g m).q.spill then
    let s := s.eddyAsk g m
    (s.eddyRefills g m ((s.mem g m).q.middle.length)).eddyJoins g m
  else s).eddyRefillAll

/-- A page BPM granted to a member queue. -/
def State.eddyGrant (s : State) (g m page : Nat) : State :=
  let v := (s.mem g m).q
  if v.spill && v.pageReady then
    let id := s.blg.nextId
    let f := v.form id page
    let s := (s.setBlg { s.blg with nextId := id + 1 }).setEq g m f.1
    (s.drcPut { port := dpEDDYW, write := true, addr := page * 4096, len := cdiv f.2.2 64 * 64, client := id }).eddyPump g m
  else (s.setEq g m { v with asked := false }).givePage ownEDDY page

/-- The lowest SEQ of some, in serial order. -/
def lowestSeq : List Nat → Option Nat
  | [] => none
  | a :: t => some (t.foldl (fun b x => if serGt b x then x else b) a)

/-- Held frames of a group. -/
def State.eddyHolds (s : State) (g : Nat) : Bool := !(s.eddyHeads g).isEmpty

/-- NEXT moves to the lowest held SEQ (R264). -/
def State.gapRelease (s : State) (g : Nat) : State :=
  match lowestSeq ((s.eddyHeads g).map fun e => e.2.seq) with
  | none => s
  | some n =>
    let skip := (n + 4294967296 - (s.rd (BLG.RXNEXT g)).toNat) % 4294967296
    let s := (s.wr (BLG.RXNEXT g) (BitVec.ofNat 32 n)).setGrp g { s.grp g with gapAt := none }
    let s := if skip ≤ (s.rd BLG.JUMPTH).toNat then s.gcountN g gcLOST skip
      else (s.gcount g gcJUMPS).irq pgBLG irqJUMP
    s.irq pgBLG irqGAPREL

/-- The group delivers: it is in RUN, or BLG is leaving or has left RUNNING with frames still held (R269). -/
def State.eddyRuns (s : State) (g : Nat) : Bool :=
  s.f (BLG.GSTAT g) 1 0 == rxRUN || s.f (BLG.GSTAT g) 1 0 == rxOFF

/-- Every RX-active member has shown a later SEQ than NEXT; with BLG not RUNNING a gap does not wait. -/
def State.gapFree (s : State) (g : Nat) : Bool :=
  !s.running pgBLG || (List.range 16).all fun m =>
    (s.mem g m).lastRx.isNone || serGt (s.rd (BLG.RXHIGH g m)).toNat (s.rd (BLG.RXNEXT g)).toNat

/-- The gap of a group follows what has changed (R264). -/
def State.gapPoll (s : State) (g : Nat) : State :=
  let next := (s.rd (BLG.RXNEXT g)).toNat
  let hs := s.eddyHeads g
  if !s.eddyRuns g || hs.isEmpty || hs.any (fun e => e.2.seq = next) then s.setGrp g { s.grp g with gapAt := none }
  else if s.gapFree g then s.gapRelease g
  else s.setGrp g { s.grp g with gapAt := some ((s.grp g).gapAt.getD s.now) }

/-- GAP_LOSS_TIMEOUT (R264). -/
def execGapLossTimeout (g : Fin 32) (s : State) : Host.Outcome State Fault Refusal :=
  .next (match (s.grp g).gapAt with
    | none => s
    | some t => (s.until (t + s.f (BLG.LOSSTO g) 11 0 * 1000)).gapRelease g)

/-- SYNC_TIMEOUT (R265). -/
def execSyncTimeout (g : Fin 32) (s : State) : Host.Outcome State Fault Refusal :=
  .next (match (s.grp g).syncAt with
    | none => s
    | some t =>
      let s := s.until (t + s.f (BLG.LOSSTO g) 11 0 * 1000)
      match lowestSeq ((s.eddyHeads g).map fun e => e.2.seq) with
      | none => s.setGrp g { s.grp g with syncAt := none }
      | some n =>
        let s := s.setGrp g { s.grp g with syncAt := none, lateRun := 0, gapAt := none }
        ((s.wr (BLG.RXNEXT g) (BitVec.ofNat 32 n)).setF (BLG.GSTAT g) 1 0 rxRUN).gapPoll g)

/-- Bytes free in a port group's receive buffer (R22). -/
def State.rxRoom (s : State) (g : Nat) : Nat := 32768 - (s.pg g).rxbuf.foldl (fun a p => a + p.len) 0

/-- A held frame without its shim (R263), as traffic of the home port (R245). -/
def State.unshim (s : State) (home : Nat) (p : Pkt) : Pkt :=
  let et := s.f (BLG.ETYPE (shimF p.bytes).etidx) 15 0
  { p with bytes := p.bytes.take 12 ++ beBytes 2 et ++ p.bytes.drop 22, port := home, m := { p.m with srcPort := home } }

/-- Frames at the heads with a SEQ that has just been delivered are duplicates. -/
def State.dropDups (s : State) (g seq : Nat) : State :=
  (List.range 16).foldl (fun t m =>
    match (t.mem g m).q.oldest with
    | some x => if x.seq = seq then ((t.setEq g m ((t.mem g m).q.without [x.id])).gcount g gcDUP).eddyPump g m else t
    | none => t) s

/-- EDDY_DELIVER (R263): the frame at NEXT, once it is on chip and the home receive buffer has room. -/
def execEddyDeliver (g : Fin 32) (s : State) : Host.Outcome State Fault Refusal :=
  .next (
    let g := g.val
    let next := (s.rd (BLG.RXNEXT g)).toNat
    if !s.eddyRuns g then s
    else match (s.eddyHeads g).find? fun e => e.2.seq = next with
      | none => s.gapPoll g
      | some (m, x) =>
        let home := s.memPort g (s.f (BLG.GCFG g) 4 1)
        let p := s.unshim home x.pkt
        if (s.mem g m).q.head.head? ≠ some x || s.rxRoom (pgOf home) < p.len then s
        else
          let s := (s.setEq g m ((s.mem g m).q.without [x.id])).eddyPump g m
          let s := s.setPg (pgOf home) { s.pg (pgOf home) with rxbuf := (s.pg (pgOf home)).rxbuf ++ [p] }
          let s := (s.gcount g gcDELIVERED).event pgBLG 0x101 1 fun q => q % 32 == g
          let s := s.wr (BLG.RXNEXT g) (BitVec.ofNat 32 (next + 1))
          (s.dropDups g next).gapPoll g)

/-- A data frame reaches the Eddy (R263, R265, R266). -/
def State.eddyArrive (s : State) (g m : Nat) (p : Pkt) (seq : Nat) : State :=
  let v := s.mem g m
  let st := s.f (BLG.GSTAT g) 1 0
  let s := s.setMem g m { v with prev := some seq }
  if (match v.prev with | some q => !serGt seq q | none => false) then
    (s.setGrp g { s.grp g with lateRun := 0 }).gcount g gcDUP
  else
    if st = rxRUN && 2147483648 ≤ (seq + 4294967296 - (s.rd (BLG.RXNEXT g)).toNat) % 4294967296 then
      let s := s.gcount g gcLATE
      let n := (s.grp g).lateRun + 1
      if n < 64 then s.setGrp g { s.grp g with lateRun := n }
      else
        let s := s.setGrp g { s.grp g with lateRun := 0, gapAt := none, syncAt := none }
        ((s.setF (BLG.GSTAT g) 1 0 rxSYNC).gcount g gcRESYNCS).irq pgBLG irqRESYNC
    else
      let sync := if st = rxSYNC then some ((s.grp g).syncAt.getD s.now) else (s.grp g).syncAt
      let s := s.setGrp g { s.grp g with lateRun := 0, syncAt := sync }
      if 16384 < s.eddyUse + s.eddyReads + p.cells then (s.gcount g gcOVF).irq pgBLG irqEDDYOVF
      else
        let id := s.blg.nextId
        let s := s.setBlg { s.blg with nextId := id + 1 }
        let x : QPkt := { id := id, pkt := p, enq := seq }
        let q := (s.mem g m).q
        let q := if !q.spill && s.basinUse && s.f (BLG.EDDYCFG g) 13 0 ≤ sumCells q.tarn then { q with spill := true } else q
        if q.spill then (s.setEq g m { q with tail := q.tail ++ [x] }).eddyPump g m
        else s.setEq g m { q with head := q.head ++ [x] }

/-- RX-active follows a valid frame on the member while its port is UP (R262). -/
def State.rxAlive (s : State) (g m : Nat) : State :=
  if s.isUp (s.memPort g m) then s.setMem g m { s.mem g m with lastRx := some s.now } else s

/-- RXHIGH rises only in serial order. -/
def State.rxHigh (s : State) (g m seq : Nat) : State :=
  if serGt (seq % 4294967296) (s.rd (BLG.RXHIGH g m)).toNat then s.wr (BLG.RXHIGH g m) (BitVec.ofNat 32 seq) else s

/-- A heartbeat is consumed (R260, R261). -/
def State.heartbeat (s : State) (g m : Nat) (f : List Byte) (h : ShimF) : State :=
  let s := (((s.rxAlive g m).rxHigh g m h.seq).setF (BLG.MASKS g) 31 16 (beNat (slice f 22 2))).gcount g gcHBRX
  let s := if h.cape then s.wr (BLG.CAPECHO g m) (BitVec.ofNat 32 (beNat (slice f 24 2) % 2048 + 65536)) else s
  ((List.range 16).foldl (fun t i => t.memberPoll g i) s).gapPoll g

/-- BLG examines a shimmed frame of a port (R261). -/
def State.shimmed (s : State) (p : Nat) (k : Pkt) : State :=
  let h := shimF k.bytes
  let grp := s.memberOf p
  let count (s : State) (ix : Nat) : State := match grp with | some (g, _) => s.gcount g ix | none => s.bump BLG.NOGRP
  if !s.running pgBLG then count s gcRSTDROP
  else if !h.crcOk then count s gcCRCERR
  else match grp with
    | none => s.bump BLG.NOGRP
    | some (g, m) =>
      if h.group ≠ g || h.member ≠ m then s.gcount g gcIDERR
      else if h.hb then s.heartbeat g m k.bytes h
      else if s.f (BLG.ETYPE h.etidx) 15 0 = 0 then s.gcount g gcIDERR
      else
        let s := (s.rxAlive g m).rxHigh g m (h.seq + 1)
        let s := if h.eob then s.gcount g gcEOBRX else s
        (s.eddyArrive g m k h.seq).gapPoll g

/-- SHIMMED_FRAME_RECEIVED (R261): the next shimmed frame of the port. -/
def execShimmedFrameReceived (p : Port) (s : State) : Host.Outcome State Fault Refusal :=
  .next (match (s.port p).shimq with
    | [] => s
    | k :: rest => (s.setPort p { s.port p with shimq := rest }).shimmed p k)

/-- The member stops being RX-active. -/
def State.rxInactive (s : State) (g m : Nat) : State := (s.setMem g m { s.mem g m with lastRx := none }).gapPoll g

/-- RX_ACTIVE_TIMEOUT (R262). -/
def execRxActiveTimeout (g : Fin 32) (m : Fin 16) (s : State) : Host.Outcome State Fault Refusal :=
  .next (match (s.mem g m).lastRx with
    | none => s
    | some t => (s.until (t + s.f BLG.TIMING 31 16 * 1000)).rxInactive g m)

/-- What BLG sees of a port's entering or leaving UP. -/
def State.blgPort (s : State) (p : Nat) : State :=
  match s.memberOf p with
  | none => s
  | some (g, m) =>
    let s := if s.isUp p || (s.mem g m).lastRx.isNone then s else s.rxInactive g m
    s.memberPoll g m

/-! ## Eddy pages -/

/-- The member queue with a page of a number in a segment. -/
def State.eddyPage (s : State) (seg : Queue → List PageRec) (id : Nat) : Option (Nat × Nat × PageRec) :=
  s.blg.members.findSome? fun e => ((seg e.2.q).find? fun p => p.id = id).map fun p => (e.1 / 16, e.1 % 16, p)

/-- EDDYUNC: frames with a byte in a page are lost; their sequences become gaps. -/
def State.eddyFail (s : State) (g m : Nat) (l : List QPkt) : State :=
  ((s.setEq g m ((s.mem g m).q.without (l.map fun x => x.id))).fault pgBLG 1).gapPoll g

/-- EDDY_SPILL_DONE (R266). -/
def execEddySpillDone (s : State) : Host.Outcome State Fault Refusal :=
  .next (match s.drcTake dpEDDYW true with
    | none => s
    | some (r, s) =>
      match s.eddyPage (fun v => v.outbound) r.client with
      | none => s
      | some (g, m, p) =>
        let s := if r.fin = some true then s else s.eddyFail g m (p.starts ++ p.ends)
        let v := (s.mem g m).q
        let p := (v.outbound.find? fun o => o.id = p.id).getD p
        let rest := v.outbound.filter fun o => o.id ≠ p.id
        if p.drop || r.fin = some false then ((s.setEq g m { v with outbound := rest }).givePage ownEDDY p.page).eddyPump g m
        else (s.setEq g m { v with outbound := rest, middle := v.middle ++ [{ p with ends := [] }] }).eddyPump g m)

/-- EDDY_REFILL_RETURN (R266): complete frames join the head. -/
def execEddyRefillReturn (s : State) : Host.Outcome State Fault Refusal :=
  .next (match s.drcTake dpEDDYR false with
    | none => s
    | some (r, s) =>
      match s.eddyPage (fun v => v.inbound) r.client with
      | none => s
      | some (g, m, p) =>
        let s := s.givePage ownEDDY p.page
        let v := (s.mem g m).q
        let rest := v.inbound.filter fun o => o.id ≠ p.id
        if r.fin = some true && !p.lost then
          let first := if p.contEnds then v.partialIn.toList else []
          let whole := if p.split then p.starts.dropLast else p.starts
          let pin := if p.split then p.starts.getLast? else if 0 < p.cont && !p.contEnds then v.partialIn else none
          (s.setEq g m { v with
            inbound := rest, partialIn := pin, head := v.head ++ first ++ whole,
            partBytes := if p.split then p.part else if 0 < p.cont && !p.contEnds then v.partBytes + 4096 else 0 }).eddyPump g m
        else
          let s := s.eddyFail g m (p.starts ++ (if 0 < p.cont then v.partialIn.toList else []))
          let v := (s.mem g m).q
          (s.setEq g m { v with inbound := v.inbound.filter fun o => o.id ≠ p.id }).eddyPump g m)

/-- BPM's soft reset revokes the Eddy's extension (R218, R266). -/
def State.eddyBasinLost (s : State) : State :=
  s.blg.members.foldl (fun (t : State) (e : Nat × Member) =>
    let g := e.1 / 16
    let m := e.1 % 16
    let v := (t.mem g m).q
    let pages := v.inbound ++ v.middle ++ v.outbound
    if pages.isEmpty then t
    else
      let ids := (v.partialIn.toList ++ v.tailPkt.toList ++ pages.flatMap fun p => p.starts ++ p.ends).map fun x => x.id
      let gone := (v.all.filter fun x => ids.contains x.id).length
      let v := { (v.without ids) with inbound := [], middle := [], outbound := [], asked := false }
      (((t.setEq g m v).gcountN g gcEXTLOST gone).eddyPump g m).gapPoll g) s

/-! ## Quiesce and reset (R269) -/

/-- BLG enters or leaves RUNNING, or a group's EN changes. -/
def State.rxStates (s : State) : State :=
  (List.range 32).foldl (fun t g =>
    let on := t.fb (BLG.GCFG g) 0 && t.running pgBLG
    let st := t.f (BLG.GSTAT g) 1 0
    if on && st = rxOFF then (t.setF (BLG.GSTAT g) 1 0 rxSYNC).setGrp g { t.grp g with syncAt := none, lateRun := 0, gapAt := none }
    else if !on && st ≠ rxOFF then
      ((t.setF (BLG.GSTAT g) 1 0 rxOFF).setGrp g { t.grp g with syncAt := none, lateRun := 0 }).gapPoll g
    else t) s

/-- BLG's accepted work: frames granted through a group root, and frames held in the Eddy. -/
def State.blgWork (s : State) : Bool :=
  s.blg.members.any (fun e => !e.2.q.all.isEmpty) || s.eps.any fun e => e.2.inq.any fun x => x.2.shim.isSome

/-- A channel's contents are lost: Eddy pages on it (R305; log entry 143). -/
def State.eddyChanLost (s : State) (n : Nat) : State :=
  s.setBlg { s.blg with members := s.blg.members.map fun (e : Nat × Member) =>
    (e.1, { e.2 with q := s.chanPages n dpEDDYW e.2.q }) }

/-- A soft reset of BLG. -/
def State.blgReset (s : State) : State :=
  let s := s.blg.members.foldl (fun (t : State) (e : Nat × Member) =>
    t.gcountN (e.1 / 16) gcRSTDROP e.2.q.all.length) s
  let s := s.setBlg { s.blg with
    members := s.blg.members.map fun e => (e.1, { e.2 with q := {}, prev := none, joinAt := none, lastTx := none, lastRx := none }),
    groups := [] }
  let s := s.reclaim ownEDDY
  let s := (List.range 32).foldl (fun t g =>
    let t := ((t.setF (BLG.GSTAT g) 1 0 rxOFF).setF (BLG.MASKS g) 31 16 0).wr (BLG.RXNEXT g) 0
    (List.range 16).foldl (fun u m =>
      let u := u.zero [BLG.RXHIGH g m, BLG.CAPECHO g m]
      if u.txState g m = mtOFF || u.txState g m = mtDOWN then u else u.setTx g m mtDOWN) t) s
  (List.range 512).foldl (fun t i => t.memberPoll (i / 16) (i % 16)) s

/-! ## Views -/

/-- MSTAT and MASKS as they read. -/
def State.mstat (s : State) (g m : Nat) : Nat :=
  let v := s.mem g m
  s.txState g m + b2n v.lastRx.isSome * 8 + v.pend.length * 16 + s.f (BLG.MSTAT g m) 31 16 * 65536

def State.rxMask (s : State) (g : Nat) : Nat :=
  (List.range 16).foldl (fun a m => a + b2n (s.mem g m).lastRx.isSome * 2 ^ m) 0

end Sys2Proof.Machine
end

