-- ==== Sys2Proof/Machine/Msc.lean ====
section
/-! DEFINITION. MSC: MACsec on transmit and receive (R271 to R281), release-early (R279) and the users' cipher contexts
(R292). -/

namespace Sys2Proof.Machine

/-! ## Contexts (R273) -/

/-- Port p is protected (R272). -/
def State.isProtected (s : State) (p : Nat) : Bool := s.present pgMSC && s.fb (PG.SECEN (pgOf p)) (slotOf p)

def State.secyCfg (s : State) (y : Nat) : Word := s.rd (MSC.SECYCFG y)

/-- SecY y is enabled and bound to port p. -/
def State.secyOn (s : State) (y p : Nat) : Bool := fld (s.secyCfg y) 0 0 == 1 && fld (s.secyCfg y) 8 1 == p

/-- The cipher suite of a SecY: code, XPN, and key bytes. -/
def State.suite (s : State) (y : Nat) : Nat := fld (s.secyCfg y) 10 9
def isXpn (cs : Nat) : Bool := 2 ≤ cs
def suiteLen (cs : Nat) : Nat := if cs % 2 = 0 then 16 else 32

/-- The confidentiality offset of a CONF code; none for integrity only. -/
def confOfs : Nat → Option Nat
  | 1 => some 0
  | 2 => some 30
  | 3 => some 50
  | _ => none

/-- The SecY and AN of an SA index: transmit SA n, or receive SA n - 32,768. -/
def State.saSecy (s : State) (sa : Nat) : Nat :=
  if sa < 32768 then sa / 4 else s.f (MSC.RXSCCFG ((sa - 32768) / 4)) 12 1

def State.saInUse (s : State) (sa : Nat) : Bool := s.fb (MSC.SACFG0 sa) 16
def State.saSlot (s : State) (sa : Nat) : Nat := s.f (MSC.SACFG0 sa) 15 0
def State.nextPn (s : State) (sa : Nat) : Nat := s.rd64 (MSC.NEXTPN_LO sa) (MSC.NEXTPN_HI sa)

/-- A count of a SecY: UNTAGGED 0, BADTAG 1, NOSCI 2, NOSA 3, TXNOSA 4, TXEXH 5, ICVLATE 6, NOKEY 7. -/
def State.secyCount (s : State) (y i : Nat) : State := s.bump (bankKey (MSC.SECYCNT i) y)

/-- Count i of an SA. -/
def State.saCount (s : State) (sa i : Nat) : State := s.bump (bankKey (MSC.SACNT i) sa)

/-- A packet-number mark (R281). -/
def State.pnMark (s : State) (sa : Nat) : State := s.journal (.pnMark (decide (32768 ≤ sa)) (sa % 32768) (s.nextPn sa))

/-- NextPN advances; a mark is sent where it crosses a multiple of 65,536 (R281). -/
def State.setNextPn (s : State) (sa pn : Nat) : State :=
  let old := s.nextPn sa
  let s := s.wr64 (MSC.NEXTPN_LO sa) (MSC.NEXTPN_HI sa) pn
  if old / 65536 ≠ s.nextPn sa / 65536 then s.pnMark sa else s

/-- LASTEVT records a SecY. -/
def State.lastEvt (s : State) (y : Nat) : State := s.setF MSC.LASTEVT 11 0 y

/-- INUSE of an SA is written: a rise is marked (R281) and lets PNTHRESH warn again. -/
def State.setInUse (s : State) (sa : Nat) (v : Bool) : State :=
  let was := s.saInUse sa
  let s := s.setF (MSC.SACFG0 sa) 16 16 (b2n v)
  if v && !was then
    let s := { s with msc := { s.msc with warned := s.msc.warned.filter fun x => x ≠ sa } }
    s.pnMark sa
  else s

/-- The key and salt of an SA's slot as the suite uses them. -/
def State.saKey (s : State) (sa cs : Nat) : Option (List Byte × List Byte) :=
  let k := s.kslot (s.saSlot sa)
  k.key.map fun l =>
    let key := if l.length = suiteLen cs then l else Config.suiteKey l (suiteLen cs)
    (key, k.salt.getD (Config.missingSalt l))

/-- The IV of a frame: SCI and PN, or for XPN the salt XORed with SSCI and PN. -/
def secIv (cs : Nat) (sci ssci pn : Nat) (salt : List Byte) : List Byte :=
  if isXpn cs then xorL (beBytes 4 ssci ++ beBytes 8 pn) salt else beBytes 8 sci ++ beBytes 4 pn

/-! ## Bypass -/

/-- The EtherType at offset 12 is that of an enabled BYPASS entry. -/
def State.bypass (s : State) (l : List Byte) : Bool :=
  let t := beNat (slice l 12 2)
  (MSC.BYPASS0 :: [MSC.BYPASS 0, MSC.BYPASS 1, MSC.BYPASS 2]).any fun k => s.fb k 16 && s.f k 15 0 == t

/-! ## Transmit (R274 to R276) -/

/-- The SecY that TXSEL selects. -/
def State.txSecy (s : State) (p : Nat) (ud : Nat) : Option Nat :=
  let c := s.rd (MSC.PORT p)
  match fld c 13 12 with
  | 0 => some (fld c 11 0)
  | 1 => some (ud / 2 ^ fld c 19 14 % 4096)
  | _ => none

/-- The SA's last usable PN is passed (R276). -/
def State.exhausted (s : State) (y sa : Nat) : Bool :=
  let limit := s.rd64 (MSC.PNLIMIT_LO y) (MSC.PNLIMIT_HI y)
  let last := if isXpn (s.suite y) then limit else min limit 4294967295
  s.nextPn sa = 0 || decide (last < s.nextPn sa)

/-- The encoding SA a frame uses, with AUTONEXT; none where it is discarded. At most four SAs are tried. -/
def State.txSa (s : State) (y : Nat) : Nat → State × Option Nat
  | 0 => ((s.secyCount y 5).lastEvt y |>.irq pgMSC 1, none)
  | n + 1 =>
    let an := fld (s.secyCfg y) 14 13
    let sa := 4 * y + an
    if !s.saInUse sa || s.msc.unc.contains y then (s.secyCount y 4, none)
    else if !s.exhausted y sa then (s, some sa)
    else
      let nx := 4 * y + (an + 1) % 4
      if fld (s.secyCfg y) 15 15 = 1 && s.saInUse nx && (s.kslot (s.saSlot nx)).key.isSome then
        let s := (s.setInUse sa false).setF (MSC.SECYCFG y) 14 13 ((an + 1) % 4)
        ((s.lastEvt y).irq pgMSC 3).txSa y n
      else ((s.secyCount y 5).lastEvt y |>.irq pgMSC 1, none)

/-- The frame after encryption: SecTAG, secure data and ICV (R275). -/
def secEncrypt (key iv sci : List Byte) (an pn : Nat) (conf : Option Nat) (l : List Byte) : List Byte :=
  let data := l.drop 12
  let tci := 32 + (if conf.isSome then 12 else 0) + an
  let sl := if data.length < 48 then data.length else 0
  let tag := [0x88, 0xE5] ++ beBytes 1 tci ++ beBytes 1 sl ++ beBytes 4 pn ++ sci
  let plain := match conf with | some o => data.take o | none => data
  let ct := match conf with | some o => gcmCrypt key iv (data.drop o) | none => []
  let head := l.take 12 ++ tag ++ plain
  head ++ ct ++ gcmTag key iv head ct

/-- PNTHRESH is reported once for an SA (R276). -/
def State.pnThresh (s : State) (y sa : Nat) : State :=
  if s.rd64 (MSC.PNTHRESH_LO y) (MSC.PNTHRESH_HI y) ≤ s.nextPn sa && !s.msc.warned.contains sa then
    let s := { s with msc := { s.msc with warned := sa :: s.msc.warned } }
    (s.lastEvt y).irq pgMSC 0
  else s

/-- A frame leaving port p passes MSC: the bytes that go on, and whether they were encrypted; none where the frame is
discarded. -/
def State.mscTx (s : State) (p : Nat) (ud : Nat) (l : List Byte) : State × Option (List Byte × Bool) :=
  if !s.isProtected p || s.bypass l then (s, some (l, false))
  else if !s.running pgMSC then (s.bump MSC.NOTRUNDROP, none)
  else
    match s.txSecy p ud with
    | none => (s.bump MSC.TXSELERR, none)
    | some y =>
      if !s.secyOn y p then (s.bump MSC.TXSELERR, none)
      else
        let x := s.txSa y 4
        match x.2 with
        | none => (x.1, none)
        | some sa =>
          let s := x.1
          let cs := s.suite y
          match s.saKey sa cs with
          | none => (s.secyCount y 7, none)
          | some (key, salt) =>
            let pn := s.nextPn sa
            let sci := s.rd64 (MSC.SCI_LO y) (MSC.SCI_HI y)
            let iv := secIv cs sci (s.rd (MSC.SSCI sa)).toNat pn salt
            let out := secEncrypt key iv (beBytes 8 sci) (sa % 4) pn (confOfs (fld (s.secyCfg y) 12 11)) l
            let s := (s.setNextPn sa (pn + 1)).pnThresh y sa
            ((s.saCount sa 0).event pgMSC 0x100 1 fun _ => true, some (out, true))

/-! ## Receive (R278 to R280) -/

/-- LowestPN (R280). -/
def State.lowestPn (s : State) (sa : Nat) : Nat := s.nextPn sa - (s.rd (MSC.REPLAYWIN ((sa - 32768) / 4))).toNat

/-- The 64-bit PN recovered from 32 bits: the upper half of LowestPN, one more where LowestPN's low half is past its
middle and the received one is not (PRESUMED: IEEE 802.1AE; log entry 26). -/
def xpnRecover (low pn : Nat) : Nat :=
  let hi := low / 4294967296
  let up := bit low 31 && !bit pn 31
  (hi + b2n up) % 4294967296 * 4294967296 + pn

/-- The indices of receive SCs whose RXSCCFG holds EN 1, lowest first. -/
def State.rxScs (s : State) : List Nat :=
  (s.regs.filter fun e => e.1 % 16777216 == 1180292 && decide (16777216 ≤ e.1) && decide (e.1 < 1152921504606846976) &&
    fld e.2 0 0 == 1).map fun e => e.1 / 16777216 - 1

/-- The receive SC of a frame on port p (check 4). -/
def State.rxSc (s : State) (p : Nat) (l : List Byte) : Option Nat :=
  let tci := beNat (slice l 14 1)
  if !bit tci 5 && !bit tci 6 then
    let y := s.f (MSC.PORT p) 11 0
    s.rxScs.find? fun c => s.f (MSC.RXSCCFG c) 12 1 == y && s.fb (MSC.RXSCCFG c) 14 && s.secyOn y p
  else
    let sci := if bit tci 5 then beNat (slice l 20 8) else beNat (slice l 6 6) * 65536 + 1
    s.rxScs.find? fun c =>
      s.secyOn (s.f (MSC.RXSCCFG c) 12 1) p && s.rd64 (MSC.RXSCI_LO c) (MSC.RXSCI_HI c) == sci

/-- Check 3 applies; `xpn` is the suite's. -/
def badTag (xpn : Bool) (l : List Byte) : Bool :=
  let tci := beNat (slice l 14 1)
  let sl := beNat (slice l 15 1)
  let tag := if bit tci 5 then 16 else 8
  let d := l.length - (28 + tag)
  bit tci 7 || bit tci 4 || (bit tci 6 && bit tci 5) || (bit tci 2 && !bit tci 3) || decide (48 ≤ sl) ||
    decide (l.length < 44) || (if sl = 0 then decide (d < 48) else d != sl) || (!xpn && beNat (slice l 16 4) == 0)

/-- The outcome of MSC for a received frame. -/
inductive SecOut where
  | clear (l : List Byte)
  | drop
  | ok (l : List Byte) (secy : Nat) (sa pn : Nat) (good : Bool)
  deriving DecidableEq, Repr

/-- What check 7 needs: the frame's data in the clear and whether the ICV is right. -/
def secDecrypt (key iv : List Byte) (conf : Option Nat) (l : List Byte) : List Byte × Bool :=
  let tag := if bit (beNat (slice l 14 1)) 5 then 16 else 8
  let o := match conf with | some o => o | none => l.length
  let body := (l.drop (12 + tag)).take (l.length - (28 + tag))
  let head := l.take (12 + tag) ++ body.take o
  let ct := body.drop o
  (l.take 12 ++ body.take o ++ gcmCrypt key iv ct, gcmTag key iv head ct == l.drop (l.length - 16))

/-- A frame with check 8: counted and, if its PN is new, NextPN moves past it (R280). -/
def State.secAccept (s : State) (sa pn : Nat) : State :=
  let s := (s.saCount sa 0).event pgMSC 0x101 1 fun _ => true
  let s := if !s.fb (MSC.RXSCCFG ((sa - 32768) / 4)) 13 && pn < s.lowestPn sa then s.saCount sa 3 else s
  if s.nextPn sa ≤ pn then s.setNextPn sa ((pn + 1) % 18446744073709551616) else s

/-- Check 6. -/
def State.replayed (s : State) (sa pn : Nat) : Bool :=
  s.fb (MSC.RXSCCFG ((sa - 32768) / 4)) 13 && decide (pn < s.lowestPn sa)

/-- Checks 1 to 7 (R278) on a frame of protected port p, without its FCS. -/
def State.mscRx (s : State) (p : Nat) (l : List Byte) : State × SecOut :=
  let c := s.rd (MSC.PORT p)
  let dy := fld c 11 0
  if s.bypass l then (s, .clear l)
  else if !s.running pgMSC then (s.bump MSC.NOTRUNDROP, .drop)
  else if beNat (slice l 12 2) ≠ 0x88E5 then
    (s.secyCount dy 0, if fld c 21 20 = 1 then .clear l else .drop)
  else
    let sc := s.rxSc p l
    let y := match sc with | some i => s.f (MSC.RXSCCFG i) 12 1 | none => dy
    let cs := s.suite y
    if badTag (isXpn cs) l then (s.secyCount y 1, .drop)
    else
      match sc with
      | none => (s.secyCount dy 2, .drop)
      | some i =>
        let sa := 32768 + 4 * i + beNat (slice l 14 1) % 4
        match s.saKey sa cs with
        | none => (s.secyCount y 3, .drop)
        | some (key, salt) =>
          if !s.saInUse sa || s.msc.unc.contains y then (s.secyCount y 3, .drop)
          else
            let pn32 := beNat (slice l 16 4)
            let pn := if isXpn cs then xpnRecover (s.lowestPn sa) pn32 else pn32
            if s.replayed sa pn then (s.saCount sa 2, .drop)
            else
              let tci := beNat (slice l 14 1)
              let conf := if bit tci 3 then some ((confOfs (fld (s.secyCfg y) 12 11)).getD 0) else none
              let sci := s.rd64 (MSC.RXSCI_LO i) (MSC.RXSCI_HI i)
              let iv := secIv cs sci (s.rd (MSC.SSCI sa)).toNat pn salt
              let d := secDecrypt key iv conf l
              (s, .ok d.1 y sa pn d.2)

/-- Verify-before-release: check 7 decides before any byte enters the piste (R279). -/
def State.secVerify (s : State) (sa pn : Nat) (good : Bool) : State × Bool :=
  if good then (s.secAccept sa pn, true) else (s.saCount sa 1, false)

/-- Release-early: the packet goes on under a number, and its ICV is pending. -/
def State.secRelease (s : State) (p y sa pn : Nat) (good : Bool) : State × Nat :=
  let tok := s.msc.nextTok
  let slot := s.saSlot sa
  let ps := s.port p
  let i : Icv := { tok := tok, secy := y, sa := sa, pn := pn, ok := good, slot := slot, gen := s.kgen slot }
  let s := { s with msc := { s.msc with nextTok := tok + 1 } }
  (s.setPort p { ps with icv := ps.icv ++ [i] }, tok)

/-! ## Late failures (R279) -/

/-- The packet with a number is marked bad. -/
def Pkt.fail (tok : Nat) (p : Pkt) : Pkt :=
  if p.tok = tok then { p with bad := true, m := { p.m with fcsBad := true } } else p

def QPkt.fail (tok : Nat) (x : QPkt) : QPkt := { x with pkt := x.pkt.fail tok }

def PageRec.fail (tok : Nat) (r : PageRec) : PageRec :=
  { r with starts := r.starts.map (QPkt.fail tok), ends := r.ends.map (QPkt.fail tok) }

def Queue.fail (tok : Nat) (q : Queue) : Queue :=
  { q with
    head := q.head.map (QPkt.fail tok), inbound := q.inbound.map (PageRec.fail tok)
    middle := q.middle.map (PageRec.fail tok), outbound := q.outbound.map (PageRec.fail tok)
    tail := q.tail.map (QPkt.fail tok), tailPkt := q.tailPkt.map (QPkt.fail tok)
    partialIn := q.partialIn.map (QPkt.fail tok) }

def IngOut.fail (tok : Nat) : IngOut → IngOut
  | .forward p => .forward (p.fail tok)
  | .host u q c p => .host u q c (p.fail tok)

/-- FCS_BAD is set on the packet wherever it is. -/
def State.lateFail (s : State) (tok : Nat) : State :=
  { s with
    pgs := s.pgs.map fun (e : Nat × PgSt) => (e.1, { e.2 with rxbuf := e.2.rxbuf.map (Pkt.fail tok) })
    ips := s.ips.map fun (e : Nat × IpSt) => (e.1, { e.2 with
      out := e.2.out.map (IngOut.fail tok)
      arriving := e.2.arriving.map fun a => if a.2.2 = tok then (a.1, true, tok) else a })
    eps := s.eps.map fun (e : Nat × EpSt) => (e.1, { e.2 with
      inq := e.2.inq.map (fun a => (a.1, a.2.fail tok)), lift := e.2.lift.map (Pkt.fail tok) })
    ports := s.ports.map fun (e : Nat × PortSt) => (e.1, { e.2 with shimq := e.2.shimq.map (Pkt.fail tok) })
    tmg := { s.tmg with
      queues := s.tmg.queues.map (fun (e : Nat × Queue) => (e.1, e.2.fail tok))
      mcq := s.tmg.mcq.map fun j => { j with pkt := j.pkt.fail tok } }
    blg := { s.blg with
      members := s.blg.members.map fun (e : Nat × Member) => (e.1, { e.2 with q := e.2.q.fail tok }) } }

/-- The outcome of one pending ICV. -/
def State.icvDone (s : State) (i : Icv) : State :=
  let late (s : State) (n : Nat) : State := (((s.saCount i.sa n).secyCount i.secy 6).irq pgMSC 2).lateFail i.tok
  if s.replayed i.sa i.pn then late s 2
  else if !i.ok then late s 1
  else s.secAccept i.sa i.pn

/-- The oldest pending ICV of a port completes. -/
def State.icvNext (s : State) (p : Nat) : State :=
  match (s.port p).icv with
  | [] => s
  | i :: rest => (s.setPort p { s.port p with icv := rest }).icvDone i

/-- ICV_COMPLETE (R279). -/
def execIcvComplete (p : Port) (s : State) : Host.Outcome State Fault Refusal := .next (s.icvNext p.val)

/-- ICVs of a port complete in arrival order until none holds old material of a slot. -/
def State.icvOld (s : State) (p slot : Nat) : Nat → State
  | 0 => s
  | n + 1 =>
    if (s.port p).icv.any fun i => i.slot == slot && i.gen != s.kgen slot then (s.icvNext p).icvOld p slot n else s

/-- OLD_KEY_RELEASE (R283): the operations that hold the slot's old generation end, and KEY zeroises it. -/
def execOldKeyRelease (slot : BitVec 16) (s : State) : Host.Outcome State Fault Refusal :=
  .next (
    let n := slot.toNat
    if (s.kslot n).old then
      let s := s.ports.foldl (fun (t : State) (e : Nat × PortSt) => t.icvOld e.1 n e.2.icv.length) s
      s.setKslot n { s.kslot n with old := false }
    else s)

/-! ## User contexts (R292) -/

/-- The SA that is user u's context l. -/
def State.ctxSa (s : State) (u l : Nat) : Option Nat :=
  ((s.regs.filter fun e => e.1 % 16777216 == 1180420 && decide (16777216 ≤ e.1) && decide (e.1 < 1152921504606846976) &&
      fld e.2 17 17 == 1 && fld e.2 23 18 == u).map fun e => e.1 / 16777216 - 1).find? fun sa =>
    s.f (MSC.SACFG1 sa) 11 0 == l

/-- USER.CAP.CIPHER. -/
def State.ctxCount (s : State) (u : Nat) : Nat :=
  (s.regs.filter fun e => e.1 % 16777216 == 1180420 && decide (16777216 ≤ e.1) && decide (e.1 < 1152921504606846976) &&
    fld e.2 17 17 == 1 && fld e.2 23 18 == u).length

/-- No two SAs are one user's context of one number (R292). -/
def State.ctxUnique (s : State) (sa : Nat) : Bool :=
  let w := s.rd (MSC.SACFG0 sa)
  fld w 17 17 == 0 ||
    (s.regs.filter fun e => e.1 % 16777216 == 1180420 && decide (16777216 ≤ e.1) && decide (e.1 < 1152921504606846976) &&
      e.1 != MSC.SACFG0 sa && fld e.2 17 17 == 1 && fld e.2 23 18 == fld w 23 18 &&
      s.f (MSC.SACFG1 (e.1 / 16777216 - 1)) 11 0 == s.f (MSC.SACFG1 sa) 11 0).isEmpty

/-- A write of NEXTPN (R280): 0 is written as 1; on an SA in use only a raise of a receive SA takes effect. -/
def State.writeNextPn (s : State) (sa pn : Nat) : State :=
  let pn := if pn = 0 then 1 else pn
  if s.saInUse sa && (sa < 32768 || pn ≤ s.nextPn sa) then s.badAcc
  else
    let s := s.wr64 (MSC.NEXTPN_LO sa) (MSC.NEXTPN_HI sa) pn
    s.pnMark sa

/-- The context a user's registers act on. -/
def State.curCtx (s : State) (u : Nat) : Option Nat := s.ctxSa u (s.f (USER.CTXIDX u) 11 0)

/-- A write of USER.CTXCFG. -/
def State.ctxCfgWr (s : State) (u : Nat) (w : Word) : State :=
  match s.curCtx u with
  | none => s.denied u
  | some sa =>
    let l := fld w 15 0
    if fld w 17 17 = 1 && 32768 ≤ sa then s.denied u
    else if !s.kRange u l then s.denied u
    else
      let s := (s.setF (MSC.SACFG0 sa) 15 0 (s.kbase u + l)).setInUse sa (fld w 16 16 = 1)
      if fld w 17 17 = 1 then s.setF (MSC.SECYCFG (sa / 4)) 14 13 (sa % 4) else s

/-- ENCODING_SA_SET (R292). -/
def execEncodingSaSet (fn : Fn) (w : Word) (s : State) : Host.Outcome State Fault Refusal :=
  .next (s.userWr fn.val 0x4108 pgMSC fun s => s.ctxCfgWr fn.val w)

/-- USER.CTXINFO. -/
def State.ctxInfo (s : State) (u : Nat) : Nat :=
  match s.curCtx u with
  | none => 0
  | some sa => 1 + b2n (decide (32768 ≤ sa)) * 2 + sa % 4 * 4 + s.suite (s.saSecy sa) * 16

/-! ## Soft reset, drain (R295) -/

/-- MSC's accepted work: frames in the cipher engines. -/
def State.mscWork (s : State) : Bool := s.ports.any fun e => !e.2.icv.isEmpty

/-- A soft reset discards the frames in the engines: those whose ICV is pending end as bad frames (R295). -/
def State.mscReset (s : State) : State :=
  let l := s.ports.flatMap fun e => e.2.icv
  let s := l.foldl (fun (t : State) i => (t.bump MSC.NOTRUNDROP).lateFail i.tok) s
  { s with ports := s.ports.map fun (e : Nat × PortSt) => (e.1, { e.2 with icv := [] }) }

end Sys2Proof.Machine
end

