-- ==== Sys2Proof/Machine/Egress.lean ====
section
/-! DEFINITION. The egress piste: stages (R170, R171), rewrite (R172, R173), exceptions (R174), the Lift (R175), the bond
shim on transmit (R256 to R260) and the way to the MAC. -/

namespace Sys2Proof.Machine

/-! ## Stages -/

/-- What a packet's egress stages have decided. -/
structure EgrSt where
  tpl : Nat := 0
  ud : Nat := 0
  wTpl : Bool := false
  wLo : Bool := false
  wHi : Bool := false
  lift : Bool := false
  drop : Bool := false
  stop : Bool := false
  ecc : Bool := false
  hits : List Nat := []
  misses : List Nat := []
  deriving DecidableEq, Repr, Inhabited

/-- A record of R171 under R109. -/
def egrMerge (t : EgrSt) (ar : Nat) : EgrSt :=
  let may (flag : Bool) (n : Nat) : Bool := bit ar n && (!flag || bit ar 104)
  let t := if may t.wTpl 99 then { t with tpl := rbits ar 23 12, wTpl := true } else t
  let hi := rbits ar 96 96
  let t := if may (if hi = 1 then t.wHi else t.wLo) 100 then
      { t with ud := udPut t.ud hi (rbits ar 95 64), wHi := t.wHi || hi == 1, wLo := t.wLo || hi == 0 }
    else t
  { t with lift := t.lift || bit ar 24, drop := t.drop || bit ar 25, stop := t.stop || bit ar 11 }

/-- A key word of an egress stage. -/
def egrWord (p : Pkt) (t : EgrSt) (sel : Nat) : Nat :=
  match sel with
  | 0 => t.ud % 4294967296
  | 1 => t.ud / 4294967296
  | 2 => p.m.cls * 16777216 + p.m.egrPort * 65536 + t.tpl
  | 3 => p.m.srcPort + p.m.colour * 256 + p.m.pass * 4096
  | 4 => p.m.hash.toNat
  | 5 => p.m.qid
  | 6 => t.hits.foldl (fun a i => setBit a i true) 0
  | _ => 0

/-- Stage e of egress piste g. -/
def State.egrStage (g : Nat) (p : Pkt) (acc : State × EgrSt) (e : Nat) : State × EgrSt :=
  let s := acc.1
  let t := acc.2
  let cfg := s.rd (EP.STAGECFG g e)
  let cstage := fld cfg 19 17
  let cond := match fld cfg 16 14 with
    | 0 => true
    | 1 => t.hits.contains cstage
    | 2 => t.misses.contains cstage
    | _ => false
  if fld cfg 1 0 ≠ 1 then acc
  else if t.stop || t.ecc || !cond then (s.bump (EP.SNOTRUN g e), t)
  else
    let h := halfOf g
    let res := fld cfg 4 2
    let resid := fld cfg 10 5
    let ws := (List.range (fld cfg 13 11 + 1)).map fun j => egrWord p t (selOf (s.rd (EP.STAGEKEYA g e)) (s.rd (EP.STAGEKEYB g e)) j)
    let l := if res = 1 || res = 4 then s.look h res resid (s.vis p.m.vertag) ws else {}
    let s := s.lookEffect h res resid false l
    if l.ecc.isSome then (s.bump (EP.MISSCNT g e), { t with ecc := true, misses := e :: t.misses })
    else if l.hit then (s.bump (EP.HITCNT g e), egrMerge { t with hits := e :: t.hits } l.rec128)
    else (s.bump (EP.MISSCNT g e), egrMerge { t with misses := e :: t.misses } (missRec s fun k => EP.MISSACT g e k))

/-! ## Rewrite (R172, R173) -/

/-- Data block n of a piste as bytes. -/
def State.dblk (s : State) (g n : Nat) : List Byte := (List.range 16).flatMap fun k => beBytes 4 (s.rd (EP.DBLK g n k)).toNat

/-- The Internet checksum over bytes: the ones' complement of their ones' complement sum. -/
def inetSum (l : List Byte) : Nat :=
  let v := onesSum l
  let r := if v = 0 then 0 else (v - 1) % 65535 + 1
  65535 - r

/-- Steps 1 to 4. -/
def State.rwPush (s : State) (g tpl ud : Nat) (l : List Byte) : List Byte :=
  let pushed := (s.dblk g (rbits tpl 20 13)).take (rbits tpl 12 6)
  let n := rbits tpl 30 27
  let ovr := (beBytes 8 ud).take n
  let ofs := rbits tpl 26 21
  let pushed := splice pushed ofs ovr.length ovr
  let f := pushed ++ l.drop (2 * rbits tpl 5 0)
  f ++ List.replicate (60 - f.length) 0

/-- Step 5. -/
def rwLen (tpl : Nat) (f : List Byte) : Option (List Byte) :=
  let o := rbits tpl 47 41
  if !bit tpl 48 then some f
  else if f.length < o + 4 then none
  else some (splice f (o + 2) 2 (beBytes 2 (f.length - o)))

/-- Step 6. -/
def rwDec (tpl : Nat) (f : List Byte) : Option (List Byte) :=
  let o := rbits tpl 37 31
  if !bit tpl 38 then some f
  else if f.length ≤ o then none
  else
    let b := f[o]?.getD 0
    some (f.set o (if b = 0 then 0 else b - 1))

/-- Step 7. -/
def rwCsum (tpl : Nat) (f : List Byte) : Option (List Byte) :=
  let o := rbits tpl 47 41
  let c := rbits tpl 40 39
  if c = 0 then some f
  else if f.length ≤ o then none
  else
    let n := 4 * ((f[o]?.getD 0).toNat % 16)
    if n < 20 || f.length < o + n || (c = 2 && f.length < o + n + 8) then none
    else
      let f := splice f (o + 10) 2 [0, 0]
      let f := splice f (o + 10) 2 (beBytes 2 (inetSum (slice f o n)))
      some (if c = 2 then splice f (o + n + 6) 2 [0, 0] else f)

/-- The rewrite; none is REWRITE_LIMIT (R174). -/
def State.rewrite (s : State) (g tpl ud : Nat) (l : List Byte) : Option (List Byte) :=
  if l.length < 2 * rbits tpl 5 0 then none
  else do
    let f ← rwLen tpl (s.rwPush g tpl ud l)
    let f ← rwDec tpl f
    let f ← rwCsum tpl f
    if rbits tpl 50 49 ≠ 0 && f.length < rbits tpl 58 51 + 44 then none else some f

/-! ## Ways out of the piste -/

/-- A frame is discarded after its grant: its holder ends, and a sequence number it carried is void (R160, R255). -/
def State.egrDrop (s : State) (p : Pkt) : State :=
  let s := match p.shim with | some t => s.gcount t.group gcSEQVOID | none => s
  s.release p.m.vertag

/-- An exception of an egress piste: counted in ingress piste g's map, and the packet discarded (R115, R174). -/
def State.egrRaise (s : State) (g : Nat) (p : Pkt) (code : Nat) : State := (s.raise g p.m.exc code).1.egrDrop p

/-- Bytes a Lift buffer holds. -/
def State.liftLvl (s : State) (g : Nat) : Nat := (s.ep g).lift.foldl (fun a p => a + p.len) 0

/-- The packet goes to the Lift (R175). -/
def State.toLift (s : State) (g : Nat) (p : Pkt) : State :=
  if !s.running (pgIP g) || 16384 < s.liftLvl g + p.len then ((s.bump (EP.LIFTDROP g)).irq (pgEP g) 0).egrDrop p
  else
    let s := s.event (pgEP g) 0x102 1 fun _ => true
    let s := match p.shim with | some t => s.gcount t.group gcSEQVOID | none => s
    let p := { p with shim := none, store := none, m := { p.m with pass := p.m.pass + 1, exc := 0, cut := false } }
    s.setEp g { s.ep g with lift := (s.ep g).lift ++ [p] }

/-- The ETYPE entry equal to two bytes. -/
def State.etIndex (s : State) (et : Nat) : Option Nat :=
  if et = 0 then none else (List.range 16).find? fun i => s.f (BLG.ETYPE i) 15 0 == et

/-- The shim goes in at offset 12 (R256, R259). -/
def State.shimIn (s : State) (t : BondTag) (cls i : Nat) (l : List Byte) : List Byte :=
  let et := beBytes 2 (s.f BLG.CFG 15 0)
  l.take 12 ++ et ++ shimBytes et t.group t.member cls i t.seq false false t.eob ++ l.drop 14

/-- A shimmed frame leaves a member: HBINT counts from now, and EOB makes heartbeats due on the others (R257, R258). -/
def State.shimSent (s : State) (t : BondTag) : State :=
  let s := (s.gcount t.group gcTXFRAMES).event pgBLG 0x100 1 fun q => q % 32 == t.group
  let s := s.setMem t.group t.member { s.mem t.group t.member with lastTx := some s.now }
  if t.eob then
    let l := (List.range 16).filter fun m =>
      m != t.member && s.usable t.group m && s.txState t.group m != mtOFF && s.txState t.group m != mtDOWN
    s.setGrp t.group { s.grp t.group with eob := (s.grp t.group).eob ++ l.filter fun m => !(s.grp t.group).eob.contains m }
  else s

/-- A frame reaches the MAC of a port: discarded there while the port is not UP or its group not RUNNING (R80, R81). -/
def State.toMac (s : State) (p : Nat) (f : TxFrame) : State :=
  if s.isUp p && s.running (pgPG (pgOf p)) then s.setPort p { s.port p with txq := (s.port p).txq ++ [f] }
  else
    let s := s.pcount PG.LINKDROP p
    let s := match f.grp with | some g => s.gcount g gcSEQVOID | none => s
    s.txRelease f

/-- The PTP fields a two-step capture records: messageType, domainNumber, sequenceId. -/
def ptpHdr (f : List Byte) (o : Nat) : Nat × Nat × Nat := (beNat (slice f o 1) % 16, beNat (slice f (o + 4) 1), beNat (slice f (o + 30) 2))

/-- BLG, MSC and the MAC (steps 10 and 11 of the packet's path). -/
def State.toPort (s : State) (port tpl : Nat) (poison : Bool) (p : Pkt) : State :=
  let po := rbits tpl 58 51
  let x : State × Option (List Byte × Nat) := match p.shim with
    | none => (s, some (p.bytes, po))
    | some t =>
      match s.etIndex (beNat (slice p.bytes 12 2)) with
      | none => ((s.gcount t.group gcETMISS).egrDrop p, none)
      | some i => (s.shimSent t, some (s.shimIn t p.m.cls i p.bytes, if 14 ≤ po then po + 8 else po))
  match x.2 with
  | none => x.1
  | some (l, po) =>
    let y := x.1.mscTx port p.m.userData.toNat l
    match y.2 with
    | none => y.1.egrDrop p
    | some (out, enc) =>
      y.1.toMac port { bytes := out, m := p.m, ptp := rbits tpl 50 49, ptpOfs := po, hdr := ptpHdr l po, encrypted := enc,
                       poison := poison, grp := p.shim.map fun t => t.group, store := p.store }

/-- A rewritten frame goes to its port, unless it is longer than MAXLEN allows (R174). -/
def State.egrSend (s : State) (g port tpl : Nat) (p : Pkt) (f : List Byte) : State :=
  let max := s.f (PG.MAXLEN (pgOf port) (slotOf port)) 13 0
  let long := decide (max < f.length + 4 + (if p.m.bond.isSome then 8 else 0))
  if long && !p.m.cut then s.egrRaise g p 0x21
  else if long then (s.raise g p.m.exc 0x21).1.toPort port tpl true { p with bytes := f.take (max - 4) }
  else s.toPort port tpl p.bad { p with bytes := f }

/-- Template n of a piste (R172). -/
def State.egrTpl (s : State) (g n : Nat) : Nat := s.rd64 (EP.TPL_LO g n) (EP.TPL_HI g n)

/-- A packet that no stage has dropped is rewritten and leaves for the Lift or its port (R173 to R175). -/
def State.egrRewrite (s : State) (g port : Nat) (p : Pkt) (t : EgrSt) : State :=
  (s.rewrite g (s.egrTpl g t.tpl) t.ud p.bytes).elim (s.egrRaise g p 0x22) fun f =>
    if t.lift then s.toLift g { p with bytes := f } else s.egrSend g port (s.egrTpl g t.tpl) p f

/-- What follows the stages: an error, a drop, the Lift's limit, or the way out of the piste (R171, R175). The Lift's limit
comes before the rewrite, so a packet that meets both raises 0x2F (R19; log entry 112). -/
def State.egressOut (s : State) (g port : Nat) (p : Pkt) (t : EgrSt) : State :=
  let p := { p with m := { p.m with template := t.tpl, userData := BitVec.ofNat 64 t.ud } }
  if t.ecc then s.egrRaise g p 0x20
  else if t.drop then (s.bump (EP.ACTDROP g)).egrDrop p
  else if t.lift && 3 ≤ p.m.pass then s.egrRaise g p 0x2F
  else s.egrRewrite g port p t

/-- A packet granted to a port passes egress piste g. -/
def State.egress (s : State) (g port : Nat) (p : Pkt) : State :=
  let s := (s.event (pgEP g) 0x100 1 fun _ => true).event (pgEP g) 0x101 p.len fun _ => true
  let x := (List.range 8).foldl (State.egrStage g p) (s, { tpl := p.m.template, ud := p.m.userData.toNat })
  x.1.egressOut g port p x.2

/-- EGRESS_PACKET (R170): the oldest granted packet of the piste; one whose ICV is pending waits for it (R279, R200). In
RESETTING it is discarded (R177). -/
def execEgressPacket (i : PgIx) (s : State) : Host.Outcome State Fault Refusal :=
  .next (match (s.ep i.val).inq with
    | [] => s
    | (port, p) :: rest =>
      if s.icvPending p.tok then s
      else
        let s := s.setEp i.val { s.ep i.val with inq := rest }
        if s.busy (pgEP i.val) then (s.bump (EP.RSTDROP i.val)).egrDrop p else s.egress i.val port p)

/-- EP's accepted work. -/
def State.epWork (s : State) (g : Nat) : Bool := !(s.ep g).inq.isEmpty

/-- A soft reset of an egress piste (R177). -/
def State.epReset (s : State) (g : Nat) : State :=
  let l := (s.ep g).inq
  let s := (s.addF (EP.RSTDROP g) 31 0 l.length).setEp g { s.ep g with inq := [] }
  l.foldl (fun t x => t.egrDrop x.2) s

/-! ## Heartbeats (R257, R258, R260) -/

/-- The member may send heartbeats. -/
def State.hbMay (s : State) (g m : Nat) : Bool :=
  let st := s.txState g m
  s.running pgBLG && (st == mtJOINING || st == mtACTIVE || st == mtEXCLUDED) && s.usable g m && s.maySend (s.memPort g m)

/-- A heartbeat's SEQ: the oldest frame granted to the member that has not passed BLG, or TXSEQ. -/
def State.hbSeq (s : State) (g m : Nat) : Nat :=
  let port := s.memPort g m
  match (s.ep (pgOf port)).inq.findSome? (fun x => match x.2.shim with
      | some t => if t.group = g && t.member = m then some t.seq else none
      | none => none) with
  | some q => q
  | none => (s.rd (BLG.TXSEQ g)).toNat

/-- The 60 bytes of a heartbeat before its FCS. -/
def State.hbBytes (s : State) (g m : Nat) : List Byte :=
  let et := beBytes 2 (s.f BLG.CFG 15 0)
  beBytes 6 (s.rd64 BLG.HBDA_LO BLG.HBDA_HI) ++ beBytes 6 (s.rd64 BLG.HBSA_LO BLG.HBSA_HI) ++ et ++
    shimBytes et g m 0 0 (s.hbSeq g m) true true false ++ beBytes 2 (s.rxMask g) ++ beBytes 2 (s.curCap g m) ++
    List.replicate 34 0

/-- A heartbeat enters the member's transmit path at the next frame boundary, after MSC where the port is protected: behind
the frames that have passed BLG, whose SEQ may be lower. -/
def State.hbSend (s : State) (g m : Nat) : State :=
  let port := s.memPort g m
  let s := s.setGrp g { s.grp g with eob := (s.grp g).eob.filter fun x => x ≠ m }
  if !s.hbMay g m then s
  else
    let l := s.hbBytes g m
    let s := s.setMem g m { s.mem g m with lastTx := some s.now }
    let y := s.mscTx port 0 l
    match y.2 with
    | none => y.1
    | some (out, enc) =>
      let ps := y.1.port port
      y.1.setPort port { ps with txq := ps.txq ++ [{ bytes := out, encrypted := enc, holder := false }] }

/-- HEARTBEAT_SEND (R257): HBINT µs after the last shimmed frame of the member. -/
def execHeartbeatSend (g : Fin 32) (m : Fin 16) (s : State) : Host.Outcome State Fault Refusal :=
  .next (if s.hbMay g m then
      let s := match (s.mem g m).lastTx with
        | some t => s.until (t + s.f BLG.CFG 23 16 * 1000)
        | none => s
      s.hbSend g m
    else s)

/-- EOB_HEARTBEAT (R258): the heartbeats due after an EOB frame. -/
def execEobHeartbeat (g : Fin 32) (s : State) : Host.Outcome State Fault Refusal :=
  .next ((s.grp g).eob.foldl (fun t m => t.hbSend g m) s)

end Sys2Proof.Machine
end

