-- ==== Sys2Proof/Machine/Mac.lean ====
section
/-! DEFINITION. The MAC: frames received (R76, R77, R80, R278), frames sent with their PTP action (R87, R88), and the
frames the Mogul holds (R94). -/

namespace Sys2Proof.Machine

/-! ## Receive -/

/-- A packet goes from the MAC, or from MSC, to BLG or to the receive buffer (R22, R261). -/
def State.rxDeliver (s : State) (p : Nat) (k : Pkt) : State :=
  let g := pgOf p
  if beNat (slice k.bytes 12 2) = s.f BLG.CFG 15 0 && s.memberPort p then s.setPort p { s.port p with shimq := (s.port p).shimq ++ [k] }
  else if k.len ≤ s.rxRoom g then s.setPg g { s.pg g with rxbuf := (s.pg g).rxbuf ++ [k] }
  else (s.pcount PG.RXBUFDROP p).fault (pgPG g) 0

/-- A frame that passed the MAC's checks goes through MSC where its port is protected (R278, R279). -/
def State.rxSec (s : State) (p : Nat) (k : Pkt) : State :=
  if !s.isProtected p then s.rxDeliver p k
  else
    let x := s.mscRx p k.bytes
    match x.2 with
    | .drop => x.1
    | .clear l => x.1.rxDeliver p { k with bytes := l }
    | .ok l y sa pn good =>
      let k := { k with bytes := l, m := { k.m with secyOk := true } }
      if s.fb (MSC.PORT p) 22 then
        let r := x.1.secRelease p y sa pn good
        r.1.rxDeliver p { k with tok := r.2 }
      else
        let v := x.1.secVerify sa pn good
        if v.2 then v.1.rxDeliver p k else v.1

/-- The MAC frame check (R76, R77); `wire` ends with the FCS, and `stored` tells a frame that the Mogul held. A frame that
an uncorrectable codeword overlaps counts in FCSERR whatever its FCS (log entry 104). -/
def State.macCheck (s : State) (p : Nat) (wire : List Byte) (fec : Bool) (ingTs : Nat) (stored : Bool) : State :=
  if wire.length < 64 || s.f (PG.MAXLEN (pgOf p) (slotOf p)) 13 0 < wire.length then s.pcount PG.LENERR p
  else
    let bad := fec || !fcsGood wire
    let s := if bad then s.pcount PG.FCSERR p else s
    if isPfc wire then (if bad then s else s.pfcApply p wire)
    else if isPause wire then (if bad then s else s.pauseApply p wire)
    else s.rxSec p { bytes := wire.take (wire.length - 4), bad := bad, port := p, stored := stored,
                     m := { srcPort := p, ingTs := ingTs, fcsBad := bad } }

/-- The port takes received frames: the device forwards, the port is UP and its group RUNNING (R58, R80, R81, R381). -/
def State.receives (s : State) (p : Nat) : Bool := s.forwarding && s.isUp p && s.running (pgPG (pgOf p))

/-- A frame arrives at a port's receiver: discarded and counted where the port does not receive, then the Mogul, then the
MAC. A receiver that an injected flap holds without signal gets nothing (R94). -/
def State.frameIn (s : State) (p : Nat) (wire : List Byte) (fec : Bool) (corr : Nat) : State :=
  if !s.carries p || (s.port p).flapRx.isSome then s
  else
    let s := s.addF (PG.FECCORR (pgOf p) (slotOf p)) 31 0 corr
    let s := if fec then s.pcount PG.FECUNC p else s
    if !s.receives p then s.pcount PG.NOTRUN p
    else
      let g := pgOf p
      let slot := slotOf p
      let s := (s.event (pgPG g) 0x100 1 fun q => q % 8 == slot).event (pgPG g) 0x101 wire.length fun q => q % 8 == slot
      let ts := s.tai % 281474976710656
      let x := s.mogAct g slot .rx 0 wire { dir := .rx, slot := slot, wire := wire, fec := fec, ingTs := ts }
      match x.2 with
      | .drop => x.1
      | .held => x.1
      | .pass w => x.1.macCheck p w fec ts false

/-- FRAME_RECEIVED (R76): a frame with its FCS, whether an uncorrectable codeword overlaps it, and the codewords of it
that RS-FEC corrected (R75). -/
def execFrameReceived (p : Port) (frame : List Byte) (fec : FecMark) (s : State) :
    Host.Outcome State Fault Refusal :=
  .next (s.frameIn p.val frame fec.bad fec.corr)

/-- PFC_RECEIVED (R77): the MAC tells a PFC frame by its bytes. -/
def execPfcReceived (p : Port) (frame : List Byte) (fec : FecMark) (s : State) :
    Host.Outcome State Fault Refusal :=
  .next (s.frameIn p.val frame fec.bad fec.corr)

/-- PAUSE_RECEIVED (R77): likewise. -/
def execPauseReceived (p : Port) (frame : List Byte) (fec : FecMark) (s : State) :
    Host.Outcome State Fault Refusal :=
  .next (s.frameIn p.val frame fec.bad fec.corr)

/-- VERIFY_RESPONSE (R78): a valid respond frame to a verify frame the MAC has sent. -/
def execVerifyResponse (p : Port) (s : State) : Host.Outcome State Fault Refusal :=
  .next (let ps := s.port p
    if s.verifies p && ps.vstat = .running && 1 ≤ ps.vsent then (s.setPort p { ps with vstat := .succeeded }).xokPoll p
    else s)

/-! ## PTP on transmit (R86 to R88) -/

/-- An IPv4 header of 4 * n bytes with protocol 17 stands right before offset u. -/
def ipv4Before (f : List Byte) (u n : Nat) : Bool :=
  decide (14 + 4 * n ≤ u) && beNat (slice f (u - 4 * n) 1) == 64 + n && beNat (slice f (u - 4 * n + 9) 1) == 17

/-- The bytes of an IPv6 extension header of a type at offset a; none where the type is none. -/
def ip6Ext (f : List Byte) (type a : Nat) : Option Nat :=
  let len := beNat (slice f (a + 1) 1)
  if type = 44 then some 8
  else if type = 51 then some (4 * (len + 2))
  else if [0, 43, 60, 135, 139, 140].contains type then some (8 * (len + 1))
  else none

/-- A chain of IPv6 headers whose next one has a type and stands at offset a leads to a UDP header at offset u. -/
def ip6Leads (f : List Byte) (u : Nat) : Nat → Nat → Nat → Bool
  | 0, _, _ => false
  | n + 1, type, a =>
    if type = 17 then a == u
    else match ip6Ext f type a with
      | some k => decide (a < u) && ip6Leads f u n (beNat (slice f a 1)) (a + k)
      | none => false

/-- An IPv6 header, and the extension headers it may have, stand right before a UDP header at offset u. -/
def ipv6Before (f : List Byte) (u : Nat) : Bool :=
  (List.range (u - 53)).any fun i =>
    beNat (slice f (14 + i) 1) / 16 == 6 && ip6Leads f u u (beNat (slice f (20 + i) 1)) (54 + i)

/-- The offset of the UDP header of a frame whose PTP header is at o, if it runs over UDP: eight bytes before it, with an
IPv4 header of protocol 17, or an IPv6 header and its extension headers, right before that, whatever stands in front; a PTP
header right behind its EtherType 0x88F7 runs over none (log entry 27). -/
def udpAt (f : List Byte) (o : Nat) : Option Nat :=
  if o < 42 || slice f (o - 2) 2 = [0x88, 0xF7] then none
  else if ipv6Before f (o - 8) || (List.range 11).any fun i => ipv4Before f (o - 8) (5 + i) then some (o - 8)
  else none

/-- The UDP checksum after the PTP header's 44 bytes have changed: the incremental update; a zero checksum over IPv4
means none and stays, and a result of zero is sent as all ones. -/
def udpFix (old new : List Byte) (o : Nat) : List Byte :=
  match udpAt old o with
  | none => new
  | some u =>
    let c := beNat (slice old (u + 6) 2)
    if c = 0 then new
    else
      let inv (l : List Byte) : List Byte := l.map fun b => ~~~ b
      let sum := (65535 - c) + onesSum (inv (slice old o 44)) + onesSum (slice new o 44)
      let r := if sum = 0 then 0 else (sum - 1) % 65535 + 1
      let v := 65535 - r
      splice new (u + 6) 2 (beBytes 2 (if v = 0 then 65535 else v))

/-- Add to correctionField, in units of 2^-16 ns, modulo 2^64. -/
def corrAdd (f : List Byte) (o : Nat) (d : Int) : List Byte :=
  let v : Int := beNat (slice f (o + 8) 8)
  splice f (o + 8) 8 (beBytes 8 (Int.toNat ((v + d) % 18446744073709551616)))

/-- Seconds and nanoseconds of a timestamp in units of 2^-16 ns. -/
def ptpTime (t : Int) : Nat × Nat :=
  let ns := Int.toNat (t / 65536)
  (ns / 1000000000 % 281474976710656, ns % 1000000000)

/-- One-step origin and correction (R87). -/
def State.oneStep (s : State) (p : Nat) (f : TxFrame) (b : List Byte) : List Byte :=
  let t := s.txStamp p
  let o := f.ptpOfs
  let n :=
    if f.ptp = 1 then
      let b := splice b (o + 34) 10 (beBytes 6 (ptpTime t).1 ++ beBytes 4 (ptpTime t).2)
      corrAdd b o (t % 65536)
    else corrAdd b o (t - s.rxStamp f.m.srcPort f.m.ingTs)
  udpFix b n o

/-! ## Transmit -/

/-- The frame enters the MAC transmit path: PTP action, FCS and counts. It is sent and ends as a holder (R160), or, where
preemption is active and it is preemptable, stays in transmission (R78). An FCS that the Mogul broke stays broken; a port
whose transmitter an injected flap holds idle sends nothing (R94). -/
def State.sendWire (s : State) (p : Nat) (f : TxFrame) (wire : List Byte) : State :=
  let g := pgOf p
  let slot := slotOf p
  let body := wire.take (wire.length - 4)
  let xor := if f.poison then 0xFFFFFFFF else BitVec.ofNat 32 (leNat (wire.drop (wire.length - 4))) ^^^ crc32 body
  let q (n : Nat) : Bool := n % 8 == slot
  let twoStep := f.ptp = 3 || (f.encrypted && f.ptp ≠ 0)
  let s := if f.encrypted && (f.ptp = 1 || f.ptp = 2) then s.pcount PG.DEMOTED p else s
  let body := if f.ptp = 0 || twoStep then body else s.oneStep p f body
  let s := if twoStep then
      let t := ptpTime (s.txStamp p)
      s.tsfPush g { slot := slot, msg := f.hdr.1, domain := f.hdr.2.1, seq := f.hdr.2.2, secs := t.1, ns := t.2 }
    else s
  let s := (s.event (pgPG g) 0x102 1 q).event (pgPG g) 0x103 wire.length q
  let lat := (s.tai + 281474976710656 - f.m.ingTs) % 281474976710656
  let s := if f.m.express && s.pact p then
      ((s.event (pgPG g) 0x110 1 q).event (pgPG g) 0x111 lat q).event (pgPG g) 0x112 1
        fun n => n % 8 == slot && decide (n / 8 * 128 < lat)
    else s
  let s := if f.poison then (s.pcAdd p 12).irq pgTMG 4 else s
  if s.pact p && !f.m.express then
    s.setPort p { s.port p with txNow := some { f := f, body := body, xor := xor, ts := s.tim.count, start := some s.now } }
  else (s.emitPort p (.frame p body xor s.tim.count)).txRelease f

/-- The frame the MAC takes next. While preemption is active (R78) an express frame goes first, and a preemptable one
waits while another is in transmission or HOLD is 1 (R234); else the oldest goes. -/
def State.nextTx (s : State) (p : Nat) : Option TxFrame :=
  let q := (s.port p).txq
  if s.pact p then
    (q.find? fun f => f.m.express) <|> (if (s.port p).txNow.isSome || s.gateHold p then none else q.head?)
  else q.head?

/-- A frame at the MAC of a port that is no longer UP (R80). -/
def State.linkDrop (s : State) (p : Nat) (f : TxFrame) : State :=
  let s := s.pcount PG.LINKDROP p
  let s := match f.grp with | some g => s.gcount g gcSEQVOID | none => s
  s.txRelease f

/-- A preempted frame goes on, and one in transmission completes. -/
def State.txClear (s : State) (p : Nat) : State := (s.txResume p).txFinish p

/-- The frame in transmission on a port that is no longer UP (R80). -/
def State.txLost (s : State) (p : Nat) : State :=
  match (s.port p).txNow with
  | none => s
  | some x => (s.setPort p { s.port p with txNow := none }).linkDrop p x.f

/-- What a preemptable frame in transmission does before the MAC takes its next frame: a port that is not UP loses it, an
express frame preempts it; else it completes, or, preempted before, goes on unless HOLD is 1 (R78, R80, R234). -/
def State.txBefore (s : State) (p : Nat) : State :=
  if !s.isUp p then s.txLost p
  else match (s.port p).txNow with
    | none => s
    | some x =>
      if (s.port p).txq.any fun f => f.m.express then s.txCut p
      else if x.start.isSome then s.txFinish p
      else if s.gateHold p then s
      else s.txResume p

/-- The MAC takes its next frame: through the Mogul, to the wire; of a port that is not UP it is dropped. -/
def State.txTake (s : State) (p : Nat) : State :=
  match s.nextTx p with
  | none => s
  | some f =>
    let g := pgOf p
    let slot := slotOf p
    let s := s.setPort p { s.port p with txq := (s.port p).txq.erase f }
    if !s.isUp p then s.linkDrop p f
    else if f.past then s.sendWire p f (f.bytes ++ fcsOf f.bytes)
    else
      let wire := f.bytes ++ fcsOf f.bytes
      let x := s.mogAct g slot .tx f.m.cls wire { dir := .tx, slot := slot, wire := wire, tx := f }
      match x.2 with
      | .held => x.1
      | .drop => x.1.txRelease f
      | .pass w => x.1.sendWire p f w

/-- FRAME_TRANSMIT (R87): the frame in transmission goes on, and the MAC takes its next one. With preemption active a
preemptable frame is sent by the command that follows it (log entry 103). -/
def execFrameTransmit (p : Port) (s : State) : Host.Outcome State Fault Refusal := .next ((s.txBefore p).txTake p)

/-! ## Frames the Mogul holds (R94) -/

/-- A held frame goes on unchanged; a preemptable one for which HOLD is 1 waits at the MAC (R234). -/
def State.mogRelease (s : State) (g : Nat) (h : MogHeld) : State :=
  let s := s.mogTake g h
  let p := g * 8 + h.slot
  match h.dir with
  | .rx => if s.receives p then s.macCheck p h.wire h.fec h.ingTs true else s.pcount PG.NOTRUN p
  | .tx =>
    if !s.isUp p then s.linkDrop p h.tx
    else if s.pact p && !h.tx.m.express && s.gateHold p then
      s.setPort p { s.port p with txq := { h.tx with past := true } :: (s.port p).txq }
    else (if h.tx.m.express then s.txCut p else s.txClear p).sendWire p h.tx h.wire

/-- The held frame of a kind whose time ends first. -/
def firstHeld (l : List MogHeld) : Option MogHeld :=
  l.foldl (fun a h => match a with | none => some h | some b => if h.until_ < b.until_ then some h else a) none

/-- MOGUL_DELAY_EXPIRE (R94). -/
def execMogulDelayExpire (g : PgIx) (s : State) : Host.Outcome State Fault Refusal :=
  .next (match firstHeld ((s.pg g.val).held.filter fun h => h.left.isNone) with
    | none => s
    | some h => (s.until h.until_).mogRelease g.val h)

/-- MOGUL_REORDER_RELEASE (R94): its later frames have passed, or 100 µs. -/
def execMogulReorderRelease (g : PgIx) (s : State) : Host.Outcome State Fault Refusal :=
  .next (
    let l := (s.pg g.val).held.filter fun h => h.left.isSome
    match l.find? fun h => h.left == some 0 with
    | some h => s.mogRelease g.val h
    | none => match firstHeld l with
      | none => s
      | some h => (s.until h.until_).mogRelease g.val h)

/-- On leaving RUN or STANDBY, before the state changes, the device disarms every Mogul, releases what is held and ends the
flaps (R92). -/
def State.mogLeave (s : State) : State :=
  (List.range s.nPg).foldl (fun t g =>
    let t := if t.fb (PG.MOGCTL g) 0 then t.setF (PG.MOGCTL g) 0 0 0 else t
    let t := (t.pg g).held.foldl (fun u h => u.mogRelease g h) t
    (List.range 8).foldl (fun u i =>
      let p := g * 8 + i
      if (u.port p).flapRx.isSome || (u.port p).flapTx.isSome then (u.flapEnds p).irq (pgPG g) 11 else u) t) s

/-- A quiesce discards what the Mogul holds (R81). -/
def State.mogFlush (s : State) (g : Nat) : State :=
  let l := (s.pg g).held
  let s := (s.addF (PG.MOGSTAT g) 31 20 l.length).setPg g { s.pg g with held := [] }
  l.foldl (fun t h => if h.dir = .tx then t.txRelease h.tx else t) s

end Sys2Proof.Machine
end

