-- ==== Sys2Proof/Machine/Link.lean ====
section
/-! DEFINITION. Link states of a port (R79, R80): the events that move it. -/

namespace Sys2Proof.Machine

/-- A port enters or leaves UP: LINKCHG, a new verify exchange (R78), what BLG sees (R80), and XOK (R239). -/
def State.linkMoved (s : State) (p : Nat) : State :=
  (((s.setPort p { s.port p with vstat := .idle, vsent := 0 }).linkChg p).blgPort p).xokPoll p

/-- PORT_ENABLE (R79): an enabled port in OFF starts. -/
def execPortEnable (p : Port) (s : State) : Host.Outcome State Fault Refusal :=
  .next (if (s.port p).link = .off && s.portEnabled p then s.startLink p else s)

/-- A port that is no longer enabled goes to OFF; a frame in transmission completes, also one preempted. -/
def State.portOff (s : State) (p : Nat) : State :=
  let ps := s.port p
  if ps.link = .off || s.portEnabled p then s
  else
    let was := ps.link
    let s := s.txClear p
    let s := (s.setPort p { s.port p with link := .off, since := s.now, downAt := none }).sends p .off
    if was = .up then s.linkMoved p else s

/-- PORT_DISABLE (R79). -/
def execPortDisable (p : Port) (s : State) : Host.Outcome State Fault Refusal := .next (s.portOff p)

/-- TRAINING_COMPLETE (R79). -/
def execTrainingComplete (p : Port) (s : State) : Host.Outcome State Fault Refusal :=
  .next (
    let s := s.leaveDown p
    if (s.port p).link = .train then
      ((s.addF (PG.TRAINCNT (pgOf p) (slotOf p)) 15 0 1).setPort p { s.port p with link := .align, since := s.now }).sends p
        .idle
    else s)

/-- TRAIN_TIMEOUT (R79): 500 ms without completion. -/
def execTrainTimeout (p : Port) (s : State) : Host.Outcome State Fault Refusal :=
  .next (
    let s := s.leaveDown p
    if (s.port p).link = .train then
      let s := s.until ((s.port p).since + 500000000)
      (s.addF (PG.TRAINCNT (pgOf p) (slotOf p)) 31 16 1).setPort p { s.port p with since := s.now }
    else s)

/-- The receiver sees lock and no fault. -/
def PortSt.clean (ps : PortSt) : Bool := ps.lock && !ps.lf && !ps.rf

/-- PCS_FEC_LOCK (R79): lock is gained, or a received fault clears. A receiver that an injected flap holds without signal
gains none (R94). -/
def execPcsFecLock (p : Port) (s : State) : Host.Outcome State Fault Refusal :=
  .next (
    let ps := s.port p
    if ps.flapRx.isSome || !s.carries p then s
    else s.setPort p { ps with lock := true, lf := false, rf := false, lockAt := some (ps.lockAt.getD s.now), downAt := none })

/-- UPHOLD_EXPIRE (R79): lock has held for UPHOLD. -/
def execUpholdExpire (p : Port) (s : State) : Host.Outcome State Fault Refusal :=
  .next (
    let s := s.leaveDown p
    let ps := s.port p
    match ps.lockAt with
    | some t =>
      if ps.link = .align && ps.clean && s.portEnabled p then
        let s := s.until (t + s.f (PG.LINKCFG (pgOf p) (slotOf p)) 31 16 * 100000)
        ((s.setPort p { s.port p with link := .up, since := s.now, downAt := none }).sends p .idle).linkMoved p
      else s
    | none => s)

/-- LOCK_LOST (R79): lock is lost, or a local or remote fault is received; an UP port starts DOWNHOLD. -/
def execLockLost (p : Port) (cause : LinkFault) (s : State) : Host.Outcome State Fault Refusal :=
  .next (
    let ps := s.port p
    let down := if ps.link = .up && ps.downAt.isNone then some s.now else ps.downAt
    let ps := { ps with lockAt := none, downAt := down }
    s.setPort p (match cause with
      | .lockLost => { ps with lock := false }
      | .localFault => { ps with lf := true }
      | .remoteFault => { ps with rf := true }))

/-- DOWNHOLD_EXPIRE (R79): the fault has persisted for DOWNHOLD; on a local fault the port sends remote fault. From DOWN
it goes on in the next clock (State.leaveDown, State.linkShown). -/
def execDownholdExpire (p : Port) (s : State) : Host.Outcome State Fault Refusal :=
  .next (
    let ps := s.port p
    match ps.downAt with
    | some t =>
      if ps.link = .up then
        let s := s.until (t + s.f (PG.LINKCFG (pgOf p) (slotOf p)) 15 0 * 1000)
        let s := s.setPort p { s.port p with link := .down, since := s.now, downAt := none }
        (if (s.port p).lf then s.sends p .remoteFault else s).linkMoved p
      else s
    | none => s)

/-- A soft reset or a disable of a port group takes its ports to OFF (R79, R81). -/
def State.pgPortsOff (s : State) (g : Nat) : State := (List.range 8).foldl (fun t i => t.portOff (g * 8 + i)) s

/-- A port group's accepted work: frames in its receive and transmit paths (R81). -/
def State.pgWork (s : State) (g : Nat) : Bool :=
  !(s.pg g).rxbuf.isEmpty ||
    (List.range 8).any fun i => !(s.port (g * 8 + i)).txq.isEmpty || (s.port (g * 8 + i)).txNow.isSome

/-- A soft reset of a port group (R81, R46): its receive buffer, frames at the MAC, FIFO and Mogul are emptied, each rule's
LFSR is as at ARM and its match count 0, its ports are OFF, and its lane PLLs lock again (log entry 37). -/
def State.pgReset (s : State) (g : Nat) : State :=
  let pg := s.pg g
  let s := (List.range 8).foldl (fun t i =>
    let p := g * 8 + i
    let l := (t.port p).txq ++ ((t.port p).txNow.map fun x => x.f).toList
    let t := l.foldl (fun u f => u.txRelease f) t
    t.setPort p { t.port p with txq := [], txNow := none, pauses := [], pfcSent := [] }) s
  let s := pg.held.foldl (fun t h => if h.dir = .tx then t.txRelease h.tx else t) s
  let s := (s.setPg g {}).setF (PG.TSFSTAT g) 15 8 0
  (List.range 8).foldl (fun t i => t.flapEnds (g * 8 + i)) (s.pgPortsOff g)

end Sys2Proof.Machine
end

