-- ==== Sys2Proof/Machine/RegCore.lean ====
section
/-! DEFINITION. Writing one register: access codes (R8), limits of the register tables, and the seal (R9, R40, R64, R66,
R71). The writer is a PCIe function 0 to 63, the I2C slave 64 or the loader 65 (R42). -/

namespace Sys2Proof.Machine

/-- The I2C slave and the loader as access paths (R42). -/
abbrev whoI2C : Nat := 64
abbrev whoLoader : Nat := 65

/-- The value a field takes for a written one, as its register table says. -/
def Field.limit (f : Field) (old v : Nat) : Nat :=
  match f.lim with
  | .any => v
  | .near lo hi => if v < lo then lo else if hi < v then hi else v
  | .sub lo hi d => if lo ≤ v && v ≤ hi then v else d
  | .keep lo hi => if lo ≤ v && v ≤ hi then v else old
  | .mod n => v % n
  | .align n => v / n * n

/-- RWS fields take writes: before the seal, and under SECURE_BOOT from the loader only (R9, R64). -/
def State.rwsFree (s : State) (who : Nat) : Bool := !s.dev.sealed && (who = whoLoader || !s.secureBoot)

/-- A rejected write of an RWS field (R9, R71). -/
def State.sealReject (s : State) (key : Nat) : State :=
  ((s.addF DEV.SEALREJ 30 0 1).wr DEV.SEALREJADDR (BitVec.ofNat 32 (key % 16777216))).irq pgDEV 5

/-- VALID no longer holds once CFGGEN differs from VALGEN (R69). -/
def State.dropValid (s : State) : State :=
  if s.rd DEV.CFGGEN ≠ s.rd DEV.VALGEN then s.setF DEV.VALSTAT 1 1 0 else s

/-- An accepted change of an RWS field (R66). -/
def State.cfgGen (s : State) : State := (s.wr DEV.CFGGEN (s.rd DEV.CFGGEN + 1)).dropValid

/-- A write reaches an RWS field: the value it carries, and what the field takes. -/
def State.rwsPut (s : State) (who key : Nat) (f : Field) (v : Nat) : State :=
  let old := s.f key f.hi f.lo
  if v = old then s
  else if !s.rwsFree who then s.sealReject key
  else
    let n := f.limit old v
    if n = old then s else (s.setF key f.hi f.lo n).cfgGen

/-- A written value reaches a field under its access code. -/
def State.fieldPut (s : State) (who key : Nat) (w : Word) (f : Field) : State :=
  let v := fld w f.hi f.lo
  let old := s.f key f.hi f.lo
  match f.acc with
  | .rw => s.setF key f.hi f.lo (f.limit old v)
  | .w1c => s.setF key f.hi f.lo (old - Nat.land old v)
  | .w1s => s.setF key f.hi f.lo (Nat.lor old v)
  | .rws => s.rwsPut who key f v
  | .ro | .wo => s

/-- A write reaches every field of a register. -/
def State.regPut (s : State) (who key : Nat) (r : Row) (w : Word) : State :=
  r.fields.foldl (fun t f => t.fieldPut who key w f) s

/-- The access carries a 1 in a W1C, W1S or WO field of the register (R46). -/
def Row.acts (r : Row) (w : Word) : Bool :=
  r.fields.any fun f => (f.acc == .w1c || f.acc == .w1s || f.acc == .wo) && fld w f.hi f.lo != 0

/-- The word without its W1C, W1S and WO fields. -/
def Row.quiet (r : Row) (w : Word) : Word :=
  r.fields.foldl (fun a f => if f.acc == .w1c || f.acc == .w1s || f.acc == .wo then ins a f.hi f.lo 0 else a) w

/-- The word without its WO fields. -/
def Row.noWO (r : Row) (w : Word) : Word := r.fields.foldl (fun a f => if f.acc == .wo then ins a f.hi f.lo 0 else a) w

end Sys2Proof.Machine
end

