-- ==== Sys2Proof/Machine/Pages.lean ====
section
/-! DEFINITION. Grants and refusals of Basin pages as their owners take them (R209, R210, R212). -/

namespace Sys2Proof.Machine

/-- An owner is refused (R210). -/
def State.tellRefused (s : State) (r : Nat × Nat) : State :=
  if r.1 = ownTMG then s.tmgRefused r.2
  else if r.1 = ownEDDY then s.eddyRefused (r.2 / 16) (r.2 % 16)
  else s.emit (.readData 0 0)

/-- An owner is granted a page; a HOST grant completes the read of HOSTALLOC. -/
def State.tellGranted (s : State) (r : Nat × Nat) (page : Nat) : State :=
  if r.1 = ownTMG then s.tmgGrant r.2 page
  else if r.1 = ownEDDY then s.eddyGrant (r.2 / 16) (r.2 % 16) page
  else s.emit (.readData 0 (BitVec.ofNat 32 (page + 2147483648)))

/-- One core clock of R209 with what the owners do. -/
def State.pageClock (s : State) : State :=
  let g := s.grantClock
  let s := g.2.refused.foldl (fun t r => t.tellRefused r) g.1
  match g.2.granted with
  | some (r, p) => s.tellGranted r p
  | none => s

/-- PAGE_GRANT (R209). -/
def execPageGrant (s : State) : Host.Outcome State Fault Refusal := .next s.pageClock

/-- HOSTALLOC (R212, R216): a PF read makes one HOST request, which is refused at once where it does not qualify; with
BPM absent the read returns 0. A qualifying one completes at its grant. -/
def State.hostAlloc (s : State) : State :=
  if !s.present pgBPM then s.emit (.readData 0 0)
  else if s.qualifies ownHOST then s.askPage ownHOST 0
  else (s.countRefusal ownHOST).emit (.readData 0 0)

def execHostalloc (s : State) : Host.Outcome State Fault Refusal := .next s.hostAlloc

end Sys2Proof.Machine
end

