-- ==== Sys2Proof/Machine/Hst.lean ====
section
/-! DEFINITION. The host port: reads and posted writes on PCIe (R324 to R326), queue pair interrupts (R328), the CPU
packet port (R329 to R333), and the host's configuration writes and link (R324, R327). -/

namespace Sys2Proof.Machine

/-- HST's causes. -/
abbrev irqFLR : Nat := 0
abbrev irqCPLERR : Nat := 1
abbrev irqRXNOQP : Nat := 2
abbrev irqLINKCHG : Nat := 3

/-- Units of LASTCPLERR. -/
abbrev cuDMA : Nat := 0
abbrev cuDESC : Nat := 1
abbrev cuCPU : Nat := 2

/-! ## Requests on the link (R326, R340) -/

/-- A range cut into requests of at most `max` bytes that cross no 4 KiB boundary. -/
def pieces (max : Nat) : Nat → Nat → Nat → List (Nat × Nat)
  | 0, _, _ => []
  | fuel + 1, a, n =>
    if n = 0 then []
    else
      let k := min n (min max (4096 - a % 4096))
      (a, k) :: pieces max fuel (a + k) (n - k)

/-- Max Payload Size and Max Read Request Size of a function (log entry 28). -/
def State.mps (s : State) (u : Nat) : Nat := 128 * 2 ^ kgetD s.pci.mps u 0
def State.mrrs (s : State) (u : Nat) : Nat := 128 * 2 ^ kgetD s.pci.mrrs u 2

/-- Posted writes with function u's requester ID. -/
def State.hostPut (s : State) (u a : Nat) (bytes : List Byte) : State :=
  (pieces (s.mps u) bytes.length a bytes.length).foldl
    (fun t p => t.emit (.hostWrite u p.1 (slice bytes (p.1 - a) p.2))) s

/-- Read requests with function u's requester ID. -/
def State.hostGet (s : State) (u a n : Nat) : State :=
  (pieces (s.mrrs u) n a n).foldl (fun t p => t.emit (.hostRead u p.1 p.2)) s

/-- The kind of a failed read; none where it returned its data. -/
def cplKind : Cpl → Option Nat
  | .data _ => none
  | .ur => some 0
  | .ca => some 1
  | .poisoned => some 2
  | .timeout => some 3

/-- The bytes of a completion that failed nothing. -/
def cplData : Cpl → List Byte
  | .data l => l
  | _ => []

/-- The shortest completion timeout, in ns, of each code of Device Control 2 (log entry 125). -/
def cplTmoNs (code : Nat) : Nat :=
  match code with
  | 2 => 1000000
  | 5 => 16000000
  | 6 => 65000000
  | 9 => 260000000
  | 10 => 1000000000
  | 13 => 4000000000
  | 14 => 17000000000
  | _ => 50000

/-- The AER bits of a failed read: a poisoned completion and a completion timeout (log entry 126). -/
def aerOf (kind : Nat) : Nat := match kind with | 2 => 4096 | 3 => 16384 | _ => 0

/-- A read of a unit failed (R326, R346). One issued at a model time times out after the function's Device Control 2
value. -/
def State.cplErr (s : State) (u kind unit at_ : Nat) : State :=
  let s := if kind = 3 then s.until (at_ + cplTmoNs (kgetD s.pci.cplTmo u 0)) else s
  let s := { s with pci := { s.pci with aerUnc := kset s.pci.aerUnc u (kgetD s.pci.aerUnc u 0 ||| aerOf kind) } }
  let s := s.bump HST.CPLERR
  let s := ((s.setF HST.LASTCPLERR 5 0 u).setF HST.LASTCPLERR 9 8 kind).setF HST.LASTCPLERR 13 12 unit
  (s.irq pgHST irqCPLERR).fault pgHST 1

/-! ## Queue pairs (R327, R329) -/

def State.qpMask (s : State) (u q : Nat) : Bool := bit (s.f (HST.FUNC u) 13 6) q
def State.qpUsable (s : State) (u q : Nat) : Bool := s.userOk u && s.qpMask u q
def State.txRuns (s : State) (u q : Nat) : Bool := s.qpUsable u q && s.fb (USER.QPCFG u q) 0
def State.rxRuns (s : State) (u q : Nat) : Bool := s.qpUsable u q && s.fb (USER.QPCFG u q) 1
def State.txSize (s : State) (u q : Nat) : Nat := 2 ^ s.f (USER.QPCFG u q) 5 2
def State.rxSize (s : State) (u q : Nat) : Nat := 2 ^ s.f (USER.QPCFG u q) 9 6

/-- The ingress piste of a queue pair. -/
def State.qpPiste (s : State) (u q : Nat) : Nat := s.rd64 (HST.QPISTE0 u) (HST.QPISTE1 u) / 2 ^ (5 * q) % 32

/-- QSTAT (R329). -/
def State.qpStat (s : State) (u q : Nat) : Nat :=
  b2n (s.qpUsable u q) + 2 * b2n (s.txRuns u q) + 4 * b2n (s.rxRuns u q)

/-! ## Interrupts of a queue pair (R328) -/

/-- A pending, unmasked completion whose HOLDOFF has passed raises the request, and its message is sent. -/
def State.qpPoll (s : State) (u q : Nat) : State :=
  let k := u * 8 + q
  if s.hst.waits.contains k && (s.rd (USER.QIRQSTAT u q) &&& ~~~ (s.rd (USER.QIRQMASK u q))) ≠ 0 &&
      (match kget? s.hst.sent k with
        | some t => decide (t + s.f (USER.HOLDOFF u q) 15 0 * 1000 ≤ s.now)
        | none => true) then
    { s with hst := { s.hst with sent := kset s.hst.sent k s.now, waits := s.hst.waits.filter fun x => x ≠ k } }.sendMsix u
      (1 + q)
  else s

/-- A completion on a queue pair. -/
def State.qpDone (s : State) (u q : Nat) : State :=
  let k := u * 8 + q
  let s := if s.hst.waits.contains k then s else { s with hst := { s.hst with waits := s.hst.waits ++ [k] } }
  s.qpPoll u q

/-- QP_HOLDOFF_EXPIRE (R328): HOLDOFF µs have passed since the queue pair's last message. -/
def execQpHoldoffExpire (fn : Fn) (q : Fin 8) (s : State) : Host.Outcome State Fault Refusal :=
  .next (match kget? s.hst.sent (fn.val * 8 + q.val) with
    | some t =>
      if s.hst.waits.contains (fn.val * 8 + q.val) then
        (s.until (t + s.f (USER.HOLDOFF fn.val q.val) 15 0 * 1000)).qpPoll fn.val q.val
      else s
    | none => s)

/-! ## Transmit (R330, R331) -/

/-- The injection bucket of a user, in 1/8,000 byte: MBPS adds that many units in a nanosecond. -/
def State.injLvl (s : State) (u : Nat) : Int :=
  let cap : Int := (s.f (HST.INJBURST u) 19 0 : Nat) * 8000
  match kget? s.hst.buckets u with
  | some (l, t) => min cap (l + (s.f (HST.INJRATE u) 19 0 * (s.now - t) : Nat))
  | none => cap

/-- The bucket is credited up to now, at the rate in force, less a charge. -/
def State.injCharge (s : State) (u bytes : Nat) : State :=
  { s with hst := { s.hst with buckets := kset s.hst.buckets u (s.injLvl u - (bytes * 8000 : Nat), s.now) } }

/-- Descriptor and buffer checks: the status of R330, or the frame. -/
def txStatus (desc buf : Cpl) : Nat :=
  let d := cplData desc
  let len := leNat (slice d 8 4) % 16384
  if (cplKind desc).isSome then 3
  else if len < 60 || 15996 < len || leNat (slice d 8 4) ≠ len || 16 ≤ leNat (slice d 12 4) then 1
  else if (cplKind buf).isSome then 3
  else
    let h := (cplData buf).take 16
    if 8 ≤ (h.headD 0).toNat || (h.drop 1).any fun b => b ≠ 0 then 2 else 0

/-- Word 3 is written back and TXCIDX advances (R330, R331). -/
def State.txDone (s : State) (u q st : Nat) : State :=
  let i := s.f (IDX.TXCIDX u q) 11 0
  let s := s.hostPut u (s.rd64 (USER.TXRING_LO u q) (USER.TXRING_HI u q) + 16 * i + 12) (leBytes 4 (1 + 2 * st))
  let s := s.setF (IDX.TXCIDX u q) 11 0 ((i + 1) % s.txSize u q)
  let s := s.bump (if st = 0 then USER.TXPKTS u q else USER.TXERRS u q)
  let s := s.setB (USER.QIRQSTAT u q) 1
  (if st = 0 then s else s.setB (USER.QIRQSTAT u q) 2).qpDone u q

/-- The packet of a transmit buffer enters its piste: SRCPORT 160 + u and the header's CLASS. The spec gives no ING_TS to
it (log entry 29). -/
def State.inject (s : State) (u q : Nat) (buf : List Byte) : State :=
  let g := s.qpPiste u q
  let t := s.drawFree
  let p : Pkt := { bytes := buf.drop 16,
                   m := { srcPort := 160 + u, cls := (buf.headD 0).toNat % 8, ingTs := t.1.toNat % 281474976710656 } }
  let s := t.2.injCharge u (buf.length - 16 + 4)
  let s := s.setIp g { s.ip g with cpuIn := (s.ip g).cpuIn ++ [p] }
  (s.bump (HST.INJPKTS u)).event pgHST 0x100 1 fun _ => true

/-- The reads of a descriptor and its buffer, and the failure that ends them. -/
def State.txReads (s : State) (u q : Nat) (desc buf : Cpl) : State :=
  let s := s.hostGet u (s.rd64 (USER.TXRING_LO u q) (USER.TXRING_HI u q) + 16 * s.f (IDX.TXCIDX u q) 11 0) 16
  match cplKind desc with
  | some k => s.cplErr u k cuCPU s.now
  | none =>
    if txStatus desc buf = 1 then s
    else
      let d := cplData desc
      let s := s.hostGet u (leNat (d.take 8)) (leNat (slice d 8 4) % 16384 + 16)
      match cplKind buf with
      | some k => s.cplErr u k cuCPU s.now
      | none => s

/-- The completions have the lengths that were asked for. -/
def txFits (desc buf : Cpl) : Bool :=
  let d := cplData desc
  ((cplKind desc).isSome || d.length == 16) &&
    (txStatus desc buf = 1 || (cplKind desc).isSome || (cplKind buf).isSome ||
      (cplData buf).length == leNat (slice d 8 4) % 16384 + 16)

/-- The packet of a queue pair that has been fetched and waits for its user's rate. -/
def State.txHeld (s : State) (u q : Nat) : Option (List Byte) := kget? s.hst.fetched (u * 8 + q)

/-- HST takes a descriptor of the queue pair now: the transmit side runs, entries are posted, its piste is RUNNING and
packets may enter it (R58, R119, R329, R331). -/
def State.txTakes (s : State) (u q : Nat) : Bool :=
  s.txRuns u q && s.f (IDX.TXCIDX u q) 11 0 ≠ s.f (IDX.TXPIDX u q) 11 0 % s.txSize u q && s.running (pgIP (s.qpPiste u q)) &&
    s.forwarding

/-- The user's bucket lets a packet in: its level is at 0 or above, and INJRATE 0 injects nothing. -/
def State.injOk (s : State) (u : Nat) : Bool := s.f (HST.INJRATE u) 19 0 ≠ 0 && decide (0 ≤ s.injLvl u)

/-- The queue pair has something for its piste: a descriptor to take, or a fetched packet that the rate lets in. -/
def State.txWants (s : State) (u q : Nat) : Bool :=
  s.txRuns u q && (match s.txHeld u q with
    | some _ => s.running (pgIP (s.qpPiste u q)) && s.forwarding && s.injOk u
    | none => s.txTakes u q)

/-- The queue pair whose turn it is at an ingress piste: round robin over users, and over the queue pairs of one
(R331). -/
def State.txPick (s : State) (g : Nat) : Option (Nat × Nat) :=
  ((List.range 64).map fun i => (kgetD s.hst.uLast g 63 + 1 + i) % 64).findSome? fun u =>
    (((List.range 8).map fun i => (kgetD s.hst.qLast u 7 + 1 + i) % 8).find? fun q =>
      s.txWants u q && s.qpPiste u q == g).map fun q => (u, q)

/-- It is the queue pair's turn at its piste. -/
def State.txTurn (s : State) (u q : Nat) : Bool := s.txPick (s.qpPiste u q) == some (u, q)

/-- The queue pair has had its turn. -/
def State.txServed (s : State) (u q : Nat) : State :=
  { s with hst := { s.hst with uLast := kset s.hst.uLast (s.qpPiste u q) u, qLast := kset s.hst.qLast u q } }

/-- The fetched packet is waited for no longer. -/
def State.txUnheld (s : State) (u q : Nat) : State :=
  { s with hst := { s.hst with fetched := kerase s.hst.fetched (u * 8 + q) } }

/-- The transmit side has stopped: a packet fetched and not injected completes FLUSHED (R330). -/
def State.txFlush (s : State) (u q : Nat) : State :=
  match s.txHeld u q with
  | some _ => if s.txRuns u q then s else if s.userOk u then (s.txUnheld u q).txDone u q 4 else s.txUnheld u q
  | none => s

/-- The oldest posted descriptor is taken; an injection that the rate holds back leaves its packet fetched. -/
def State.descTake (s : State) (u q : Nat) (desc buf : Cpl) : State :=
  let st := txStatus desc buf
  let s := s.txReads u q desc buf
  if st = 0 && !s.injOk u then { s with hst := { s.hst with fetched := kset s.hst.fetched (u * 8 + q) (cplData buf) } }
  else (if st = 0 then s.inject u q (cplData buf) else s).txDone u q st

/-- CPU_TX_INJECT (R330, R331): in its turn, the packet of the queue pair that the rate has held back, else the oldest
posted descriptor with what its reads return. -/
def execCpuTxInject (fn : Fn) (q : Fin 8) (desc buf : Cpl) (s : State) : Host.Outcome State Fault Refusal :=
  .next (
    let u := fn.val
    let q := q.val
    match s.txHeld u q with
    | some b =>
      if !s.txRuns u q then s.txFlush u q
      else if s.txTurn u q then (((s.txUnheld u q).inject u q b).txDone u q 0).txServed u q
      else s
    | none => if s.txTurn u q && txFits desc buf then (s.descTake u q desc buf).txServed u q else s)

/-! ## Receive (R332, R333) -/

/-- The CPU receive header. COPY is 1 on a copy of a packet that goes on: IC does not count its cells (R117). -/
def cpuHeader (x : QPkt) (copy : Bool) : List Byte :=
  let m := x.pkt.m
  leBytes 4 (m.ingTs % 4294967296) ++
    leBytes 4 (m.ingTs / 4294967296 % 65536 + m.srcPort % 256 * 65536 + m.exc % 256 * 16777216) ++ leBytes 4 m.hash.toNat ++
    leBytes 4 (m.vertag % 16 + m.pass % 4 * 16 + b2n copy * 64) ++ leBytes 4 (x.pkt.bytes.length % 16384) ++ leBytes 12 0

/-- Buffers a packet takes. -/
def State.rxNeeds (s : State) (u q : Nat) (x : QPkt) : Nat :=
  cdiv (32 + x.pkt.bytes.length) (s.f (USER.QPCFG u q) 16 10 * 256)

/-- Buffers the host has posted. -/
def State.rxPosted (s : State) (u q : Nat) : Nat :=
  let n := s.rxSize u q
  (s.f (IDX.RXPIDX u q) 11 0 % n + n - s.f (IDX.RXCIDX u q) 11 0 % n) % n

/-- The packet leaves its host queue: its cells are freed and its version holder ends. -/
def State.hostLeave (s : State) (hq : Nat) (x : QPkt) : State :=
  ((((s.unqueue hq x).tmgUnhold x.pkt.m.vertag).freeRef x.data).release x.pkt.m.vertag).pump hq

/-- The packet is written: data into each buffer, then words 2 and 3 of each descriptor, then RXCIDX. -/
def State.rxWrite (s : State) (u q : Nat) (x : QPkt) (copy : Bool) (ring : List Byte) : State :=
  let size := s.f (USER.QPCFG u q) 16 10 * 256
  let n := s.rxNeeds u q x
  let data := cpuHeader x copy ++ x.pkt.bytes
  let base := s.rd64 (USER.RXRING_LO u q) (USER.RXRING_HI u q)
  let ix (i : Nat) : Nat := (s.f (IDX.RXCIDX u q) 11 0 + i) % s.rxSize u q
  let s := (List.range n).foldl (fun t i => t.hostGet u (base + 16 * ix i) 16) s
  let s := (List.range n).foldl (fun t i => t.hostPut u (leNat (slice ring (16 * i) 8)) (slice data (size * i) size)) s
  let s := (List.range n).foldl (fun t i =>
    let len := (slice data (size * i) size).length
    t.hostPut u (base + 16 * ix i + 8)
      (leBytes 8 (len + b2n (i == 0) * 16384 + b2n (i + 1 == n) * 32768 + 4294967296))) s
  let s := (s.setF (IDX.RXCIDX u q) 11 0 (ix n)).bump (USER.RXPKTS u q)
  (s.setB (USER.QIRQSTAT u q) 0).qpDone u q

/-- The host queue's head, past the packets that are due or known bad (R193, R200). -/
def State.hostHead (s : State) (hq : Nat) : Nat → State
  | 0 => s
  | fuel + 1 =>
    match s.headDiscard hq, s.headPkt hq with
    | some code, some x => ((s.kill hq code [x.id]).pump hq).hostHead hq fuel
    | _, _ => s

/-- CPU_RX_DELIVER (R332, R333): the oldest packet of a host queue, and the receive descriptors from RXCIDX as host
memory holds them. -/
def execCpuRxDeliver (fn : Fn) (q : Fin 8) (ring : List Byte) (s : State) : Host.Outcome State Fault Refusal :=
  .next (
    let u := fn.val
    let hq := hostQ u q.val
    let s := s.hostHead hq (s.tq hq).all.length
    match s.headPkt hq with
    | none => s
    | some x =>
      let copy := match s.tdata x.data with | some d => !d.ic | none => false
      if !s.rxRuns u q.val then ((s.hostLeave hq x).bump (HST.RXNOQP u)).irq pgHST irqRXNOQP
      else if s.rxPosted u q.val < s.rxNeeds u q.val x || ring.length < 16 * s.rxNeeds u q.val x then s
      else (s.rxWrite u q.val x copy ring).hostLeave hq x)

/-! ## The link and the host's configuration writes (R52, R324, R327) -/

/-- LINKSTAT.UP changes. -/
def State.linkUp (s : State) (v : Bool) : State :=
  let was := s.fb HST.LINKSTAT 8
  let s := s.setF HST.LINKSTAT 8 8 (b2n v)
  if was ≠ v then s.irq pgHST irqLINKCHG else s

/-- Lanes that STRAP[3:2] PCIEW allows (R55). -/
def State.maxLanes (s : State) : Nat := 8 / 2 ^ (s.dev.straps.toNat / 4 % 4)

/-- PCIE_LINK_UP (R324): training ended at a speed and a width of 2^width lanes. 64 GT/s is always FLIT mode. The link
trains from its Detect on, at no more lanes than the strap allows. -/
def execPcieLinkUp (speed : Fin 6) (width : Fin 4) (flit : Bool) (s : State) : Host.Outcome State Fault Refusal :=
  .next (if !s.dev.detect || s.maxLanes < 2 ^ width.val then s
    else
      let s := (s.setF HST.LINKSTAT 2 0 (speed.val + 1)).setF HST.LINKSTAT 6 3 (2 ^ width.val)
      (s.setF HST.LINKSTAT 7 7 (b2n (flit || speed.val == 5))).linkUp true)

/-- An element is in a list, once, or is not. -/
def member (l : List Nat) (x : Nat) (v : Bool) : List Nat :=
  if v then (if l.contains x then l else l ++ [x]) else l.filter fun y => y ≠ x

/-- What a function's own reset leaves of the configuration (R344): everything of it is lost but the AER status, which is
sticky, and Max Payload Size. -/
def Pci.forget (p : Pci) (u : Nat) : Pci :=
  { p with
    bme := member p.bme u false, mrrs := kerase p.mrrs u, cplTmo := kerase p.cplTmo u, d3 := member p.d3 u false,
    msixEn := member p.msixEn u false, msixHush := member p.msixHush u false,
    vecOpen := p.vecOpen.filter (fun k => k / 64 ≠ u), vecPend := p.vecPend.filter fun k => k / 64 ≠ u }

/-- What a configuration write sets. VF Enable 0 takes the VFs' configuration away with them. -/
def Pci.write (p : Pci) (u : Nat) : CfgReq → Pci
  | .read _ => p
  | .vfEnable v =>
    if u ≠ 0 then p
    else if v then { p with vfEn := true }
    else { (List.range 63).foldl (fun p i => p.forget (i + 1)) p with vfEn := false }
  | .numVfs n => if u = 0 && !p.vfEn then { p with numVfs := n.toNat } else p
  | .busMaster v => { p with bme := member p.bme u v }
  | .maxPayload c => { p with mps := kset p.mps u c.val }
  | .maxReadReq c => { p with mrrs := kset p.mrrs u c.val }
  | .cplTimeout c => { p with cplTmo := kset p.cplTmo u c.val }
  | .powerState v => { p with d3 := member p.d3 u v }
  | .msixEnable v => { p with msixEn := member p.msixEn u v }
  | .msixFnMask v => { p with msixHush := member p.msixHush u v }
  | .msixMask vec v => { p with vecOpen := member p.vecOpen (u * 64 + vec.val) (!v) }
  | .aerCorrectable w => { p with aerCorr := kset p.aerCorr u (kgetD p.aerCorr u 0 &&& (~~~ w).toNat) }
  | .aerUncorrectable w => { p with aerUnc := kset p.aerUnc u (kgetD p.aerUnc u 0 &&& (~~~ w).toNat) }

/-- Vectors of a function (R328). -/
def msixVectors (u : Nat) : Nat := if u = 0 then 64 else 9

/-- What a configuration read answers (R325 to R328). -/
def State.cfgRead (s : State) (u : Nat) (r : CfgReg) : Word :=
  let p := s.pci
  let n (x : Nat) : Word := BitVec.ofNat 32 x
  match r with
  | .ids => n ((if u = 0 then 0x3200 else 0x3201) * 65536 + Config.vendorId.toNat)
  | .classCode => 0x020000
  | .busMaster => n (b2n (p.bme.contains u))
  | .totalVfs => n (s.f HST.CFG 6 0)
  | .vfOffsetStride => 0x00010001
  | .vfEnable => n (b2n p.vfEn)
  | .numVfs => n p.numVfs
  | .maxPayload => n (kgetD p.mps u 0)
  | .maxReadReq => n (kgetD p.mrrs u 2)
  | .cplTimeout => n (kgetD p.cplTmo u 0)
  | .d3hot => n (b2n (p.d3.contains u))
  | .msixSize => n (msixVectors u)
  | .msixEnable => n (b2n (p.msixEn.contains u))
  | .msixFnMask => n (b2n (p.msixHush.contains u))
  | .msixMask v => n (b2n (!p.vecOpen.contains (u * 64 + v.val)))
  | .msixPending v => n (b2n (p.vecPend.contains (u * 64 + v.val)))
  | .aerCorrectable => n (kgetD p.aerCorr u 0)
  | .aerUncorrectable => n (kgetD p.aerUnc u 0)

/-- The pending vectors of a function that are masked no longer send their messages (R328). -/
def State.msixPoll (s : State) (u : Nat) : State :=
  ((List.range (msixVectors u)).filter fun v => s.pci.vecPend.contains (u * 64 + v)).foldl (fun t v =>
    if t.msixOn u && !t.msixMasked u v then
      { t with out := t.out ++ [.msix u v], pci := { t.pci with vecPend := member t.pci.vecPend (u * 64 + v) false } }
    else t) s

/-- The word that completes a configuration request: a write's carries none. -/
def State.cfgWord (s : State) (u : Nat) : CfgReq → Word
  | .read r => s.cfgRead u r
  | _ => 0

/-- CONFIG_REQUEST (R52, R327): a function that exists takes the request once HST completes configuration requests
normally; before that it is answered with Configuration Request Retry Status. -/
def execConfigRequest (fn : Fn) (c : CfgReq) (s : State) : Host.Outcome State Fault Refusal :=
  .next (
    let u := fn.val
    if !s.dev.cfgReady then s.emit (.cfgRetry u)
    else if !s.fnHere u then s
    else (({ s with pci := s.pci.write u c }).msixPoll u).emit (.cfgDone u (s.cfgWord u c)))

/-! ## Reset of the host side (R344) -/

/-- A queue pair's state is uncertain (QPUNC, R346). -/
def State.qpUnc (s : State) (u q : Nat) : State := (s.setF (USER.QPCFG u q) 1 0 0).txFlush u q

/-- A correctable error on the link, recorded in the PF's AER (LINKCORR, R346; log entry 126): receiver error, bad TLP, bad
DLLP, replay number rollover, replay timer timeout or an advisory error. -/
def State.linkCorr (s : State) (k : Nat) : State :=
  let b := [1, 64, 128, 256, 4096, 8192].getD (k % 6) 1
  { s with pci := { s.pci with aerCorr := kset s.pci.aerCorr 0 (kgetD s.pci.aerCorr 0 0 ||| b) } }

end Sys2Proof.Machine
end

