-- ==== Sys2Proof/Machine/Dma.lean ====
section
/-! DEFINITION. The DMA engine (R334 to R345): descriptors, triggers, the one active transfer, and its completion. -/

namespace Sys2Proof.Machine

/-- DSTAT.STATE codes. -/
abbrev dsIDLE : Nat := 0
abbrev dsWAITTRIG : Nat := 1
abbrev dsREADY : Nat := 2
abbrev dsACTIVE : Nat := 3
abbrev dsSTOPPING : Nat := 4
abbrev dsFETCHERR : Nat := 5

/-- Spaces (R336). -/
abbrev spHOST : Nat := 0
abbrev spBASIN : Nat := 1
abbrev spTABLE : Nat := 2

/-- STATUS codes (R337, R341, R342). -/
abbrev dmOK : Nat := 0
abbrev dmDESC : Nat := 1
abbrev dmALIGN : Nat := 2
abbrev dmOVERLAP : Nat := 3
abbrev dmRANGE : Nat := 4
abbrev dmDENIED : Nat := 5
abbrev dmBEATERR : Nat := 6
abbrev dmSTOPPED : Nat := 7

/-! ## Channels -/

def State.dch (s : State) (c : Nat) : DmaCh := kgetD s.dma.chans c {}
def State.setDch (s : State) (c : Nat) (v : DmaCh) : State := { s with dma := { s.dma with chans := kset s.dma.chans c v } }
def State.dmaSt (s : State) (c : Nat) : Nat := s.f (DMA.DSTAT c) 2 0
def State.dmaGo (s : State) (c st : Nat) : State := s.setF (DMA.DSTAT c) 2 0 st

/-- The owner of a channel: the user whose FUNC names it, else user 0 (R327). -/
def State.dmaOwner (s : State) (c : Nat) : Nat :=
  ((List.range 64).find? fun u => s.fb (HST.FUNC u) 5 && s.f (HST.FUNC u) 4 0 == c).getD 0

/-- The channel a user reaches through its page. -/
def State.userCh (s : State) (u : Nat) : Option Nat := if s.fb (HST.FUNC u) 5 then some (s.f (HST.FUNC u) 4 0) else none

def State.dmaSize (s : State) (c : Nat) : Nat := 2 ^ s.f (DMA.RINGSIZE c) 3 0
def State.dmaRing (s : State) (c : Nat) : Nat := s.rd64 (DMA.RINGLO c) (DMA.RINGHI c)
def State.dmaHead (s : State) (c : Nat) : Nat := s.f (DMA.CIDX c) 11 0

/-- The engine issues nothing new while the device is in HOLD (R343). -/
def State.dmaHeld (s : State) : Bool := s.dev.state = .hold

/-! ## Descriptors (R335) -/

/-- Word i of a descriptor. -/
def dw (d : List Byte) (i : Nat) : Nat := leNat (slice d (4 * i) 4)
def dSrc (d : List Byte) : Nat := leNat (slice d 0 8)
def dDst (d : List Byte) : Nat := leNat (slice d 8 8)
def dLen (d : List Byte) : Nat := dw d 4 % 16777216
def dSrcSp (d : List Byte) : Nat := dw d 4 / 16777216 % 4
def dDstSp (d : List Byte) : Nat := dw d 4 / 67108864 % 4
def dSwap (d : List Byte) : Nat := dw d 4 / 268435456 % 4
def dIrq (d : List Byte) : Bool := bit (dw d 4) 30
def dTrig (d : List Byte) : Nat := dw d 5 % 4
def dTsel (d : List Byte) : Nat := dw d 5 / 4 % 32

/-- A reserved bit is not 0. -/
def dReserved (d : List Byte) : Bool := bit (dw d 4) 31 || decide (128 ≤ dw d 5) || dw d 7 / 64 % 4 ≠ 0

/-- The source byte of each byte of a word (R335). -/
def swapIx (swap k : Nat) : Nat :=
  match swap with
  | 0 => k
  | 1 => k / 4 * 4 + (3 - k % 4)
  | 2 => k / 4 * 4 + (k % 4 + 2) % 4
  | _ => k / 2 * 2 + (1 - k % 2)

/-- Bytes in destination order. -/
def swapBytes (swap : Nat) (l : List Byte) : List Byte := (List.range l.length).map fun k => l.getD (swapIx swap k) 0

/-- The owner may name the space (R336). -/
def State.spaceOk (s : State) (own sp : Nat) : Bool :=
  match sp with
  | 0 => true
  | 1 => s.basinCap ≠ 0 && s.fb BPM.STAT 0
  | 2 => own == 0
  | _ => false

/-- A range in a space that R337 admits. -/
def State.rangeOk (s : State) (sp a len : Nat) : Bool :=
  match sp with
  | 1 => decide (a + len ≤ s.managed * 4096) &&
      (List.range ((a + len - 1) / 4096 - a / 4096 + 1)).all fun i => s.owner (a / 4096 + i) == ownHOST
  | 2 => decide (a < 34359738368)
  | _ => true

/-- The checks of R337, in order. -/
def State.dmaCheck (s : State) (own : Nat) (d : List Byte) : Nat :=
  let len := dLen d
  let tbl (sp a : Nat) : Bool := sp = spTABLE && (a % 64 ≠ 0 || len % 64 ≠ 0)
  if len = 0 || dSrcSp d = 3 || dDstSp d = 3 || dReserved d then dmDESC
  else if !s.spaceOk own (dSrcSp d) || !s.spaceOk own (dDstSp d) then dmDENIED
  else if tbl (dSrcSp d) (dSrc d) || tbl (dDstSp d) (dDst d) ||
      (dSwap d ≠ 0 && (dSrc d % 4 ≠ 0 || dDst d % 4 ≠ 0 || len % 4 ≠ 0)) then dmALIGN
  else if !s.rangeOk (dSrcSp d) (dSrc d) len || !s.rangeOk (dDstSp d) (dDst d) len then dmRANGE
  else if dSrcSp d = dDstSp d && decide (dSrc d < dDst d + len) && decide (dDst d < dSrc d + len) then dmOVERLAP
  else dmOK

/-- A head descriptor that completes before any wait (R338). -/
def State.dmaAtOnce (s : State) (c : Nat) (d : List Byte) : Option Nat :=
  match dTrig d with
  | 0 => none
  | 1 => if 15 < dTsel d then some dmDESC else none
  | 2 => if dTsel d = c then some dmDESC else if s.dmaOwner (dTsel d) ≠ s.dmaOwner c then some dmDENIED else none
  | _ => some dmDESC

/-! ## Interrupts and triggers (R328, R338) -/

/-- The channel requests vector 0 of its owner. -/
def State.dmaReq (s : State) (c : Nat) : Bool := (s.rd (DMA.DIRQSTAT c) &&& ~~~ (s.rd (DMA.DIRQMASK c))) ≠ 0

/-- The message of vector 0, where the request rose. -/
def State.dmaEdge (s : State) (c : Nat) (before : Bool) : State :=
  if !before && s.dmaReq c then s.sendMsix (s.dmaOwner c) 0 else s

/-- DIRQSTAT.ERR and with it DMA's XFERERR. -/
def State.dmaErrBit (s : State) (c : Nat) : State := (s.setB (DMA.DIRQSTAT c) 1).irq pgDMA 0

/-- A timer fires (kind 1) or a channel completes without error (kind 2): each channel whose head descriptor waits for
that latches one firing; further ones are lost. -/
def State.dmaTrigger (s : State) (kind n : Nat) : State :=
  s.dma.chans.foldl (fun (t : State) (e : Nat × DmaCh) =>
    match e.2.desc with
    | some d =>
      if dTrig d = kind && dTsel d = n then
        if t.dmaSt e.1 = dsWAITTRIG then (t.setDch e.1 { e.2 with latch := true }).dmaGo e.1 dsREADY
        else t.bump (DMA.TRIGLOST e.1)
      else t
    | none => t) s

/-! ## Completion (R341) -/

/-- The channel's head descriptor completes; `wb` writes word 7. -/
def State.dmaFinish (s : State) (c status : Nat) (late : Bool) (resid : Nat) (wb : Bool) : State :=
  match (s.dch c).desc with
  | none => s
  | some d =>
    let own := s.dmaOwner c
    let was := s.dmaReq c
    let bad := status ≠ 0 || late
    let s := if wb then
        s.hostPut own (s.dmaRing c + 32 * s.dmaHead c + 28) (leBytes 4 (1 + status * 2 + b2n late * 32 + resid * 256))
      else s
    let s := s.setF (DMA.CIDX c) 11 0 ((s.dmaHead c + 1) % s.dmaSize c)
    let s := (s.bump (DMA.COMPLETED c)).bump DMA.XFERS
    let s := if bad then (s.bump DMA.FAILS).dmaErrBit c else s
    let s := if late then s.bump DMA.LATEERRS else s
    let s := if dIrq d then s.setB (DMA.DIRQSTAT c) 0 else s
    let s := ((s.setF (DMA.DSTAT c) 6 3 status).setF (DMA.DSTAT c) 7 7 (b2n late)).setF (DMA.DSTAT c) 31 8 resid
    let s := (s.setDch c {}).dmaGo c dsIDLE
    let s := s.dmaEdge c was
    if bad then s else s.dmaTrigger 2 c

/-! ## The head descriptor (R334, R338) -/

/-- The channel takes its next descriptor now. -/
def State.dmaFetches (s : State) (c : Nat) : Bool :=
  s.running pgDMA && !s.dmaHeld && s.userOk (s.dmaOwner c) && s.fb (DMA.DCTL c) 0 && s.dmaSt c = dsIDLE &&
    (s.dch c).desc.isNone && s.dmaHead c ≠ s.f (DMA.PIDX c) 11 0 % s.dmaSize c

/-- DMA_DESC_FETCH (R334, R338, R341): the ring's next entry, as its read returns it. -/
def execDmaDescFetch (ch : Fin 32) (cpl : Cpl) (s : State) : Host.Outcome State Fault Refusal :=
  .next (
    let c := ch.val
    if !s.dmaFetches c then s
    else
      let own := s.dmaOwner c
      let g := s.hostGet own (s.dmaRing c + 32 * s.dmaHead c) 32
      match cplKind cpl with
      | some k =>
        let was := g.dmaReq c
        let g := ((g.cplErr own k cuDESC g.now).setF (DMA.DCTL c) 0 0 0).dmaGo c dsFETCHERR
        (((g.dmaErrBit c).irq pgDMA 1).dmaEdge c was).fault pgDMA 0
      | none =>
        let d := cplData cpl
        if d.length ≠ 32 then s
        else
          let g := g.setDch c { desc := some d }
          match g.dmaAtOnce c d with
          | some st => g.dmaFinish c st false (dLen d) true
          | none => g.dmaGo c (if dTrig d = 0 then dsREADY else dsWAITTRIG))

/-- The active transfer stops (R342): no further beat, and what its reads return is discarded. `mute` completes nothing
(R344). Reads of host memory are still awaited, for their failures count. -/
def State.dmaStop (s : State) (mute : Bool) : State :=
  match s.dma.act with
  | some x =>
    let host := match (s.dch x.ch).desc with | some d => dSrcSp d == spHOST | none => false
    ({ s with dma := { s.dma with
      act := some { x with stop := true, mute := x.mute || mute, reads := if host then x.reads else [], buf := [] } } }).drcSweep
  | none => s

/-- A write of DCTL (R341, R342). -/
def State.dctlWr (s : State) (c : Nat) (w : Word) : State :=
  let s := s.setF (DMA.DCTL c) 0 0 (fld w 0 0)
  let st := s.dmaSt c
  if fld w 0 0 = 1 then (if st = dsFETCHERR then s.dmaGo c dsIDLE else s)
  else if st = dsACTIVE then (s.dmaGo c dsSTOPPING).dmaStop false
  else if st = dsIDLE || st = dsWAITTRIG || st = dsREADY then (s.setDch c {}).dmaGo c dsIDLE
  else s

/-- A write of DCTL in a user page. -/
def State.userDctl (s : State) (u : Nat) (w : Word) : State :=
  s.userWr u 0x1000 pgDMA fun s => match s.userCh u with
    | some c => s.dctlWr c w
    | none => s.denied u

/-- DMA_ENABLE (R338, R341). -/
def execDmaEnable (fn : Fn) (w : Word) (s : State) : Host.Outcome State Fault Refusal := .next (s.userDctl fn.val w)

/-- DMA_STOP (R342). -/
def execDmaStop (fn : Fn) (w : Word) (s : State) : Host.Outcome State Fault Refusal := .next (s.userDctl fn.val w)

/-! ## Moving data (R340) -/

def State.setX (s : State) (x : DmaXfer) : State := { s with dma := { s.dma with act := some x } }

/-- A table address: half, memory and row (R140). -/
def taddr (a : Nat) : Option (Nat × Nat × Nat) :=
  if a < 34359738368 then some (a / 17179869184, a / 1073741824 % 16, a / 64 % 16777216) else none

/-- A request of the HOST port, widened to 64-byte alignment; `data` are the bytes of a write. -/
def widened (n a len : Nat) (data : Option (List Byte)) : DReq :=
  let lo := a / 64 * 64
  let hi := cdiv (a + len) 64 * 64
  { port := dpHOST, write := data.isSome, addr := lo, len := hi - lo, client := n,
    data := match data with
      | some l => List.replicate (a - lo) none ++ l.map some ++ List.replicate (hi - (a + len)) none
      | none => [] }

/-- Reads of host memory that DMA has outstanding, those of stopped transfers among them (R326). -/
def State.dmaOut (s : State) (x : DmaXfer) : Nat := x.reads.length + s.dma.orphans.length

/-- The next read of the source, if the limits allow one. -/
def State.dmaRead (s : State) (x : DmaXfer) (d : List Byte) : State × DmaXfer :=
  let a := dSrc d + x.asked
  let left := dLen d - x.asked
  if x.err || x.stop || left = 0 || 256 ≤ s.dmaOut x then (s, x)
  else match dSrcSp d with
    | 0 =>
      let k := min left (min (s.mrrs x.own) (4096 - a % 4096))
      (s.emit (.hostRead x.own a k), { x with asked := x.asked + k, reads := x.reads ++ [(k, s.now)] })
    | 1 =>
      let k := min left (4096 - a % 4096)
      if s.owner (a / 4096) ≠ ownHOST then (s, { x with err := true })
      else (s.drcPut (widened x.n a k none), { x with asked := x.asked + k, reads := x.reads ++ [(k, s.now)] })
    | _ => (s, { x with asked := x.asked + 64, reads := x.reads ++ [(64, s.now)] })

/-- Reads are issued up to the limit of outstanding reads. -/
def State.dmaReads (s : State) (x : DmaXfer) (d : List Byte) : State :=
  let r := (List.range 256).foldl (fun (a : State × DmaXfer) _ => a.1.dmaRead a.2 d) (s, x)
  r.1.setX r.2

/-- One destination request. -/
def State.dmaWrite (s : State) (x : DmaXfer) (sp a : Nat) (l : List Byte) : State × DmaXfer :=
  let gone := { x with handed := x.handed + l.length }
  if x.err then (s, x)
  else match sp with
    | 0 => (s.emit (.hostWrite x.own a l), gone)
    | 1 =>
      if s.owner (a / 4096) ≠ ownHOST then (s, { x with err := true })
      else (s.drcPut (widened x.n a l.length (some l)), { gone with acks := x.acks + 1 })
    | _ =>
      let last := gone.handed = x.len
      let fail (t : State) : State × DmaXfer := (t.bump TBL.DMAERR, { gone with err := !last, late := last })
      match taddr a with
      | none => fail s
      | some (h, m, r) =>
        let w := if s.running pgTBL then s.rowWrite h m r (leNat l) else (s, { st := stBADSTATE })
        if w.2.st = 0 then (w.1, gone) else fail w.1

/-- Returned bytes go on to the destination, unless the engine is held; to a table, whole rows. -/
def State.dmaHand (s : State) (x : DmaXfer) (d : List Byte) : State :=
  if s.dmaHeld || x.err || x.stop then s.setX x
  else
    let sp := dDstSp d
    let a0 := dDst d + x.handed
    let max := match sp with | 0 => s.mps x.own | 1 => 4096 | _ => 64
    let n := if sp = spTABLE then x.buf.length / 64 * 64 else x.buf.length
    let r := (pieces max n a0 n).foldl (fun (a : State × DmaXfer) p =>
      a.1.dmaWrite a.2 sp p.1 (slice x.buf (p.1 - a0) p.2)) (s, x)
    (r.1.event pgDMA 0x100 (r.2.handed - x.handed) fun _ => true).setX { r.2 with buf := x.buf.drop n }

/-- The active transfer and its descriptor; none once its channel has been reset. -/
def State.dmaAct (s : State) : Option (DmaXfer × List Byte) :=
  match s.dma.act with
  | some x =>
    if x.mute then none
    else match (s.dch x.ch).desc with | some d => some (x, d) | none => none
  | none => none

/-- The engine goes on where it stood: it hands on what has returned and issues further reads. -/
def State.dmaGoOn (s : State) : State :=
  if s.dmaHeld then s
  else match s.dmaAct with
    | none => s
    | some (x, d) =>
      let s := s.dmaHand x d
      match s.dma.act with
      | some x => s.dmaReads x d
      | none => s

/-- A source read returns: its data, or none for a failure; a failure is a beat error. -/
def State.dmaGot (s : State) (data : Option (List Byte)) : State :=
  match s.dmaAct with
  | none => s
  | some (x, d) =>
    let x := { x with reads := x.reads.drop 1 }
    match data with
    | none => s.setX { x with err := true, buf := [] }
    | some l =>
      if x.err || x.stop then s.setX x
      else (s.setX { x with buf := x.buf ++ swapBytes (dSwap d) l }).dmaGoOn

/-- A read from host memory that a stopped transfer has left returns (R326, R342): its data is discarded, its failure
counts. -/
def State.orphanRet (s : State) (o : Nat × Nat) (cpl : Cpl) : State :=
  let s := { s with dma := { s.dma with orphans := s.dma.orphans.drop 1 } }
  match cplKind cpl with
  | some e => s.cplErr o.1 e cuDMA o.2
  | none => s

/-- The source address of the oldest read outstanding. -/
def DmaXfer.readAt (x : DmaXfer) (d : List Byte) : Nat := dSrc d + (x.asked - (x.reads.map fun r => r.1).foldl (fun a b => a + b) 0)

/-- The oldest outstanding read of the active transfer, of k bytes issued at a model time, returns. -/
def State.xferRet (s : State) (x : DmaXfer) (d : List Byte) (k at_ : Nat) (cpl : Cpl) : State :=
  match dSrcSp d with
  | 0 =>
    match cplKind cpl with
    | some e => (s.cplErr x.own e cuDMA at_).dmaGot none
    | none => if (cplData cpl).length = k then s.dmaGot (some (cplData cpl)) else s
  | 1 =>
    match s.drcTake dpHOST false with
    | none => s
    | some (r, s) =>
      if r.fin = some false then s.dmaGot none
      else s.dmaGot (some (((r.data.map fun b => b.getD 0).drop (x.readAt d - r.addr)).take k))
  | _ =>
    match taddr (x.readAt d) with
    | none => (s.bump TBL.DMAERR).dmaGot none
    | some (h, m, r) =>
      let v := if s.running pgTBL then s.rowRead h m r else { st := stBADSTATE }
      if v.st = 0 then s.dmaGot (some (leBytes 64 v.data)) else (s.bump TBL.DMAERR).dmaGot none

/-- DMA_READ_RETURN (R340, R341): the oldest outstanding read returns; `cpl` is what host memory answers. -/
def State.dmaRet (s : State) (cpl : Cpl) : State :=
  match s.dma.orphans with
  | o :: _ => s.orphanRet o cpl
  | [] =>
    match s.dmaAct with
    | none => s
    | some (x, d) => (match x.reads with | [] => s | (k, at_) :: _ => s.xferRet x d k at_ cpl)

def execDmaReadReturn (cpl : Cpl) (s : State) : Host.Outcome State Fault Refusal := .next (s.dmaRet cpl)

/-- The oldest read that DMA has outstanding is one from host memory. -/
def State.dmaAwaitsHost (s : State) : Bool :=
  !s.dma.orphans.isEmpty || (match s.dmaAct with | some (_, d) => dSrcSp d == spHOST | none => false)

/-- COMPLETION_TIMEOUT (R326): the oldest read from host memory gets no completion. The reads of descriptors and of the
CPU packet port carry their completion in their own commands. -/
def execCompletionTimeout (s : State) : Host.Outcome State Fault Refusal :=
  .next (if s.dmaAwaitsHost then s.dmaRet .timeout else s)

/-! ## Starting and ending a transfer (R339, R341) -/

/-- The next ready channel in round robin order after the one that started last. -/
def State.dmaNext (s : State) : Option Nat :=
  ((List.range 32).map fun i => (s.dma.last + 1 + i) % 32).find? fun c => s.dmaSt c == dsREADY && s.userOk (s.dmaOwner c)

/-- DMA_START (R337, R339). -/
def execDmaStart (s : State) : Host.Outcome State Fault Refusal :=
  .next (
    if !s.running pgDMA || s.dmaHeld || s.dma.act.isSome then s
    else match s.dmaNext with
      | none => s
      | some c =>
        match (s.dch c).desc with
        | none => s
        | some d =>
          let own := s.dmaOwner c
          let st := s.dmaCheck own d
          if st ≠ 0 then s.dmaFinish c st false (dLen d) true
          else
            let s := (s.setDch c { desc := some d }).dmaGo c dsACTIVE
            let x : DmaXfer := { n := s.dma.next, ch := c, own := own, len := dLen d }
            let s := { s with dma := { s.dma with last := c, next := s.dma.next + 1 } }
            s.dmaReads x d)

/-- The active transfer ends with a status; its reads of host memory that are still outstanding are discarded when they
return. -/
def State.dmaEnd (s : State) (x : DmaXfer) (d : List Byte) (st : Nat) (late wb : Bool) : State :=
  let left := if dSrcSp d = spHOST then x.reads.map fun (r : Nat × Nat) => (x.own, r.2) else []
  let s := { s with dma := { s.dma with act := none, orphans := s.dma.orphans ++ left } }
  s.dmaFinish x.ch st late (dLen d - x.handed) wb

/-- The active transfer of a channel that has been reset ends once its acknowledgements are back (R344). -/
def State.dmaMuted (s : State) : State :=
  match s.dma.act with
  | some x => if x.mute && x.acks = 0 then { s with dma := { s.dma with act := none } } else s
  | none => s

/-- DMA_COMPLETE (R341, R342): a transfer whose count has reached 0 and whose acknowledgements are back, one stopped by a
beat error once its reads are back, or one stopped by EN = 0 once its acknowledgements are. -/
def execDmaComplete (s : State) : Host.Outcome State Fault Refusal :=
  .next (
    match s.dmaAct with
    | none => s.dmaMuted
    | some (x, d) =>
      if x.stop then (if x.acks = 0 then s.dmaEnd x d dmSTOPPED false true else s)
      else if x.err then (if x.reads.isEmpty then s.dmaEnd x d dmBEATERR false true else s)
      else if x.handed = dLen d && x.acks = 0 then s.dmaEnd x d dmOK x.late true
      else s)

/-! ## Quiesce and resets (R344, R345) -/

/-- DMA's accepted work: the active transfer. -/
def State.dmaWork (s : State) : Bool := s.dma.act.isSome

/-- STAT (R339, R340, R343). -/
def State.dmaStat (s : State) : Nat :=
  match s.dma.act with
  | some x => 1 + x.ch * 2 + b2n s.dmaHeld * 64 + s.dmaOut x * 256
  | none => b2n s.dmaHeld * 64 + s.dma.orphans.length * 256

/-- The reads of host memory that a transfer has outstanding are those of a transfer that is gone: their failures still
count, and they still count against the limit (R326). -/
def State.dmaOrphan (s : State) : State :=
  match s.dma.act with
  | some x => { s with dma := { s.dma with
      act := some { x with reads := [] }, orphans := s.dma.orphans ++ x.reads.map fun (r : Nat × Nat) => (x.own, r.2) } }
  | none => s

/-- A channel's head is dropped and its transfer stops without a write-back (R344): it ends once its acknowledgements are
back. -/
def State.dmaAbort (s : State) (c : Nat) : State :=
  let s := match s.dma.act with
    | some x => if x.ch = c then (s.dmaStop true).dmaOrphan.dmaMuted else s
    | none => s
  (s.setDch c {}).dmaGo c dsIDLE

/-- A soft reset of DMA (R345): the active transfer stops as in R342, which BUSY waits for, and latched triggers clear. -/
def State.dmaReset (s : State) : State :=
  let s := match s.dmaAct with
    | some (x, _) => (s.dmaGo x.ch dsSTOPPING).dmaStop false
    | none => s
  let s := { s with dma := { s.dma with last := 31 } }
  s.dma.chans.foldl (fun (t : State) (e : Nat × DmaCh) =>
    let v := t.dch e.1
    let t := t.setDch e.1 { v with latch := false }
    match v.desc with
    | some d => if dTrig d ≠ 0 && t.dmaSt e.1 = dsREADY then t.dmaGo e.1 dsWAITTRIG else t
    | none => t) s

end Sys2Proof.Machine
end

