-- ==== Sys2Proof/Machine/Tim.lean ====
section
/-! DEFINITION. The timebase (R82, R85): holdover and PPS. -/

namespace Sys2Proof.Machine

/-- TIM's block-specific causes. -/
abbrev irqPPSIN : Nat := 16
abbrev irqHOLDOVER : Nat := 17
abbrev irqSTEPDONE : Nat := 18

/-- HOLDOVER_ENTRY (R82): with SRC 1 and TB_CLK absent for 1 µs. -/
def execHoldoverEntry (s : State) : Host.Outcome State Fault Refusal :=
  .next (if s.fb TIM.CFG 0 && !s.fb TIM.STAT 1 then
      (((s.setB TIM.STAT 1).setF TIM.STAT 0 0 0).irq pgTIM irqHOLDOVER).fault pgTIM 0
    else s)

/-- HOLDOVER_EXIT (R82): TB_CLK has been present for 10 ms. -/
def execHoldoverExit (s : State) : Host.Outcome State Fault Refusal :=
  .next (if s.fb TIM.STAT 1 then (s.setF TIM.STAT 1 1 0).setB TIM.STAT 0 else s)

/-- PPS operates in every state but RESET and STRAP (R85). -/
def State.ppsOn (s : State) : Bool := !s.initialising

/-- PPS_CAPTURE (R85): a rising edge of PPS_IN captures the instant. -/
def execPpsCapture (s : State) : Host.Outcome State Fault Refusal :=
  .next (if s.ppsOn then
      (({ s with tim := { s.tim with ppsCap := (s.tim.count, s.tim.frac) } }).setB TIM.STAT 2).irq pgTIM irqPPSIN
    else s)

/-- The next count at or after c with (count - OFS) mod 10^9 = 0. -/
def nextPps (c ofs : Nat) : Nat := c + (ofs % 1000000000 + 1000000000 - c % 1000000000) % 1000000000

/-- PPS_OUT_RISE (R85): with EN 1, PPS_OUT rises at the instant (count - PPSOUT_OFS) mod 10^9 = 0. -/
def execPpsOutRise (s : State) : Host.Outcome State Fault Refusal :=
  .next (if s.ppsOn && s.fb TIM.PPSOUT 0 && s.tim.ppsHigh.isNone then
      let s := s.untilInstant (nextPps s.tai (s.f TIM.PPSOUT_OFS 29 0))
      { s with tim := { s.tim with ppsHigh := some (s.now + s.f TIM.PPSOUT 15 6 * 1000000) } }
    else s)

/-- PPS_OUT_FALL (R85): it falls WIDTH ms after its rise. -/
def execPpsOutFall (s : State) : Host.Outcome State Fault Refusal :=
  .next (match s.tim.ppsHigh with
    | none => s
    | some t => let s := s.until t
      { s with tim := { s.tim with ppsHigh := none } })

/-- PPS_OUT is high: EN 0 holds it low (R85). -/
def State.ppsOut (s : State) : Bool := s.ppsOn && s.fb TIM.PPSOUT 0 && s.tim.ppsHigh.isSome

/-- The limits of RATE, ±4,294,967; a value beyond is written as the limit (R82, TIM.RATE). -/
def rateClamp (w : Word) : Word × Bool :=
  let v := sext 32 w.toNat
  if v > 4294967 then (BitVec.ofInt 32 4294967, true)
  else if v < -4294967 then (BitVec.ofInt 32 (-4294967), true)
  else (w, false)

/-- A write of TIM.RATE: a clamped value sets STAT.CLAMP. -/
def State.writeRate (s : State) (w : Word) : State :=
  let c := rateClamp w
  let s := s.wr TIM.RATE c.1
  if c.2 then s.setB TIM.STAT 3 else s

end Sys2Proof.Machine
end

