-- ==== Sys2Proof/Machine/Timers.lean ====
section
/-! DEFINITION. The event timers of TIM (R90, R395). -/

namespace Sys2Proof.Machine

/-- A timer fires: its actions, FIRED, and the reload or the end. -/
def State.timerFires (s : State) (n : Nat) : State :=
  let act := s.f (TIM.TMRCTL n) 3 1
  let tgt := s.rd64 (TIM.TGT_LO n) (TIM.TGT_HI n)
  let per := s.rd64 (TIM.PERIOD_LO n) (TIM.PERIOD_HI n)
  let known := kgetD s.tim.learned n 0
  let s := if bit act 0 then s.irq pgTIM n else s
  let s := if bit act 1 then
      (if known + 1000 ≤ tgt then s.snapRequest tgt false else s.snapRequest (known + 1000) true)
    else s
  let s := if bit act 2 then s.dmaTrigger 1 n else s
  let s := s.wr (TIM.FIRED n) (s.rd (TIM.FIRED n) + 1)
  if per = 0 then s.setF (TIM.TMRCTL n) 0 0 0
  else
    let s := s.wr64 (TIM.TGT_LO n) (TIM.TGT_HI n) ((tgt + per) % 18446744073709551616)
    { s with tim := { s.tim with learned := kset s.tim.learned n s.tai } }

/-- A write of +0x10 of a timer (R90): ACT, LATE (W1C) and EN; a rise of EN arms it, and one past its target fires at
once and sets LATE. -/
def State.timerWr (s : State) (n : Nat) (w : Word) : State :=
  let k := TIM.TMRCTL n
  let was := s.fb k 0
  let s := (s.setF k 3 1 (fld w 3 1)).setF k 0 0 (fld w 0 0)
  let s := if fld w 4 4 = 1 then s.setF k 4 4 0 else s
  if was || fld w 0 0 = 0 then s
  else
    let s := { s with tim := { s.tim with learned := kset s.tim.learned n s.tai } }
    if s.rd64 (TIM.TGT_LO n) (TIM.TGT_HI n) < s.tai then (s.timerFires n).setB k 4 else s

/-- TIMER_ARM (R90). -/
def execTimerArm (n : Fin 16) (w : Word) (s : State) : Host.Outcome State Fault Refusal :=
  .next (s.hostWr (TIM.TMRCTL n.val) fun s => s.timerWr n.val w)

/-- TIMER_FIRE (R90): the target instant comes. -/
def execTimerFire (n : Fin 16) (s : State) : Host.Outcome State Fault Refusal :=
  .next (if s.fb (TIM.TMRCTL n.val) 0 then
      (s.untilInstant (s.rd64 (TIM.TGT_LO n.val) (TIM.TGT_HI n.val))).timerFires n.val
    else s)

end Sys2Proof.Machine
end

