-- ==== Sys2Proof/Machine/Quiesce.lean ====
section
/-! DEFINITION. The states of a block (R43, R44), its drain (R45) and its soft reset (R46), over the accepted work and the
resets that each block's quiesce rule gives, and what they mean to open fault records (R352, R354). -/

namespace Sys2Proof.Machine

/-! ## What the fault hub learns (R352, R354) -/

/-- The reaction of a record waits. -/
def State.fltWaits (s : State) (r : FltRec) : Bool := s.flt.waits.any fun w => w.page == r.page && w.seq == r.seq

/-- Records of a page that some reaction keeps open are done, but those whose reactions wait. -/
def State.fltDone (s : State) (p : Nat) (reacts : List Nat) : State :=
  { s with flt := { s.flt with log := s.flt.log.map fun (e : Nat × FltRec) =>
      if e.2.page = p && reacts.contains e.2.react && !s.fltWaits e.2 then (e.1, { e.2 with done := true }) else e } }

/-- A reaction on a page opens a window (R354). -/
def State.fltWindow (s : State) (p seq : Nat) (inj : Bool) : State :=
  { s with flt := { s.flt with wins := s.flt.wins ++ [{ page := p, seq := seq, inj := inj }] } }

/-- The page of its windows has reached QUIESCED or set RSTDONE: CWIN µs remain of each that did not run out already. -/
def State.fltWinEnds (s : State) (p : Nat) : State :=
  let c := s.f FLT.CWIN 15 0
  let shut (w : FltWin) : Bool := w.page == p && w.ends.isNone
  { s with flt := { s.flt with
    wins := if c = 0 then s.flt.wins.filter fun w => !shut w
      else s.flt.wins.map fun w => if shut w then { w with ends := some (s.now + c * 1000) } else w } }

/-! ## Accepted work and soft resets by kind -/

/-- The block has accepted work that is not complete. TCM and SCH carry out what they accept at once; a frame that EVT
sends or applies is whole in its command. -/
def State.blkWork (s : State) (p : Nat) : Bool :=
  match kindOf p with
  | some (.cnt, _) => s.cntWork
  | some (.dma, _) => s.dmaWork
  | some (.key, _) => s.keyWork
  | some (.bpm, _) => s.bpmWork
  | some (.drc, _) => s.drcWork
  | some (.tmg, _) => s.tmgWork
  | some (.blg, _) => s.blgWork
  | some (.tbl, _) => s.tblWork
  | some (.lrn, _) => s.lrnWork
  | some (.msc, _) => s.mscWork
  | some (.ver, _) => s.verWork
  | some (.ip, g) => s.ipWork g
  | some (.ep, g) => s.epWork g
  | some (.pg, g) => s.pgWork g
  | some (.dc, n) => s.dcWork n
  | _ => false

/-- EVT's soft reset (R388): the journal and held entries are discarded; an active unit holds its peer STALE, a standby
becomes STALE. -/
def State.evtReset (s : State) : State :=
  let s := { s with evt := { s.evt with journal := [], bulk := none, bulkEnd := none, held := [] } }
  if s.role = roleActive then s.peerStale
  else if s.role = roleStandby then s.setSelf stStale
  else s

/-- What a soft reset discards and resets of the block's own state. -/
def State.blkReset (s : State) (p : Nat) : State :=
  match kindOf p with
  | some (.cnt, _) => s.cntReset
  | some (.dma, _) => s.dmaReset
  | some (.evt, _) => s.evtReset
  | some (.key, _) => s.keyReset
  | some (.bpm, _) => s.bpmReset.tmgBasinLost.eddyBasinLost
  | some (.drc, _) => s.drcReset
  | some (.tmg, _) => s.tmgReset
  | some (.sch, _) => s.schReset
  | some (.blg, _) => s.blgReset
  | some (.tbl, _) => s.tblReset
  | some (.tcm, _) => s.tcmReset
  | some (.lrn, _) => s.lrnReset
  | some (.msc, _) => s.mscReset
  | some (.ver, _) => s.verReset
  | some (.ip, g) => s.ipReset g
  | some (.ep, g) => s.epReset g
  | some (.pg, g) => s.pgReset g
  | some (.dc, n) =>
    let failed := s.chSt n = csFAILED
    let s := s.dcReset n
    if failed then ((s.tmgChanLost n).eddyChanLost n).ringChanLost n else s
  | _ => s

/-! ## Transitions (R44) -/

/-- What else follows when a block stops being RUNNING: channels held in self-refresh, the Mogul's frames, the peer that
no longer follows. -/
def State.blkStops (s : State) (p : Nat) : State :=
  let s := match kindOf p with
    | some (.pg, g) => s.mogFlush g
    | some (.evt, _) => if s.role = roleActive then s.peerStale else s
    | _ => s
  s.xokAll.rxStates

/-- What else follows when a block becomes RUNNING. -/
def State.blkStarts (s : State) (p : Nat) : State :=
  let s := match kindOf p with
    | some (.tbl, _) => (s.setHalf 0 { s.tbl.east with ageDue := 0 }).setHalf 1 { s.tbl.west with ageDue := 0 }
    | some (.evt, _) => s.resyncPoll
    | some (.drc, _) => if s.drc.refAt.isSome then s else { s with drc := { s.drc with refAt := some (s.now, s.tai) } }
    | _ => s
  s.xokAll.rxStates

def State.blkSt (s : State) (p : Nat) (st : BlkState) : State := s.setBlk p { s.blk p with st := st }

/-- A soft reset begins (R46). Read-only counts outside the header stay, unless the block's chapter resets them (log entry
109). A drain that it cuts short has ended (R352). The Eddy's frames are discarded as they stand, and release no gap
(R269). -/
def State.resetStart (s : State) (p : Nat) : State :=
  let st := (s.blk p).st
  let s := s.setBlk p { s.blk p with st := .resetting, qto := false }
  let s := if st = .running then (if p = pgBLG then s.xokAll else s.blkStops p) else s
  let s := if st = .draining then s.fltDone p [2] else s
  let s := (s.zero [HDR.FLTSTAT p, HDR.FLTCNT p, HDR.IRQSTAT p]).clearCounters p
  s.blkReset p

/-- The reaction that has waited longest on a page starts (R358); a QUIESCE where the page stands still already is
complete, and the next one follows. -/
def State.resumeNext (p : Nat) (stands : Bool) : Nat → State → State
  | 0, s => s
  | n + 1, s =>
    match s.flt.waits.find? fun w => w.page = p with
    | none => s
    | some w =>
      let s := ({ s with flt := { s.flt with waits := s.flt.waits.erase w } }).fltWindow p w.seq w.inj
      if w.code = 2 then
        let s := s.setBlk p { s.blk p with fltq := true }
        if stands then resumeNext p stands n ((s.fltDone p [2]).fltWinEnds p) else s
      else s.resetStart p

/-- The reaction in progress on a page has completed: those that wait for it go on. -/
def State.fltResume (s : State) (p : Nat) (stands : Bool) : State := State.resumeNext p stands s.flt.waits.length s

/-- A drain ends (R44): QUIESCED or DISABLED, QDONE, QTO 0; a QUIESCE reaction has completed. -/
def State.drainEnd (s : State) (p : Nat) : State :=
  let en := s.fb (HDR.BLKCTL p) 0
  let s := s.setBlk p { s.blk p with st := if en then .quiesced else .disabled, qto := false }
  let s := (s.irq p 31).fltDone p [2]
  let s := s.fltWinEnds p
  let s := match kindOf p with
    | some (.pg, g) => if en then s else s.pgPortsOff g
    | some (.drc, _) => s.chans.foldl (fun t n => t.chHold n) s
    | some (.dc, n) => s.chHold n
    | _ => s
  s.fltResume p true

/-- One row of R44 that the block's request, ENABLE and work call for now. -/
def State.blkStep (s : State) (p : Nat) : State :=
  let en := s.fb (HDR.BLKCTL p) 0
  match (s.blk p).st with
  | .disabled =>
    if !en then s
    else if s.request p then (s.blkSt p .quiesced).irq p 31
    else (s.blkSt p .running).blkStarts p
  | .running => if s.request p then (s.setBlk p { s.blk p with st := .draining, since := s.now }).blkStops p else s
  | .draining => if s.blkWork p then s else s.drainEnd p
  | .quiesced =>
    if !en then
      let s := s.blkSt p .disabled
      match kindOf p with | some (.pg, g) => s.pgPortsOff g | _ => s
    else if s.request p then s
    else (s.blkSt p .running).blkStarts p
  | .resetting => s

/-- The rows of R44 up to a state that stands: a drain without work passes at once. -/
def State.blkPoll (s : State) (p : Nat) : State := (((s.blkStep p).blkStep p).blkStep p).blkStep p

/-- The page has block states: present, and not always on. -/
def State.hasStates (s : State) (p : Nat) : Bool := s.present p && !alwaysOn p

/-- A soft reset of a page that has one (R46). -/
def State.softReset (s : State) (p : Nat) : State := if s.hasStates p then s.resetStart p else s

/-- A write of BLKCTL (R43, R44): ENABLE and QUIESCE first, then SRESET, which is a WO bit (R46). On always-on pages
ENABLE is RO and the others RSV. -/
def State.blkctlWr (s : State) (who p : Nat) (w : Word) : State :=
  if alwaysOn p then s
  else
    let k := HDR.BLKCTL p
    let s := (s.rwsPut who k ⟨0, 0, .rws, 0, .any⟩ (fld w 0 0)).setF k 1 1 (fld w 1 1)
    if fld w 2 2 = 0 then s.blkPoll p
    else if s.busy p then s.badAcc.blkPoll p
    else s.softReset p

/-- BLOCK_ENABLE_WRITE (R44). -/
def execBlockEnableWrite (page : PageId) (w : Word) (s : State) : Host.Outcome State Fault Refusal :=
  .next (s.hostWr (HDR.BLKCTL page.val) fun s => s.blkctlWr 0 page.val w)

/-- QUIESCE_REQUEST (R43, R44). -/
def execQuiesceRequest (page : PageId) (w : Word) (s : State) : Host.Outcome State Fault Refusal :=
  .next (s.hostWr (HDR.BLKCTL page.val) fun s => s.blkctlWr 0 page.val w)

/-- SOFT_RESET (R46). -/
def execSoftReset (page : PageId) (w : Word) (s : State) : Host.Outcome State Fault Refusal :=
  .next (s.hostWr (HDR.BLKCTL page.val) fun s => s.blkctlWr 0 page.val w)

/-- DRAIN_COMPLETE (R44): the last accepted work has completed. -/
def execDrainComplete (page : PageId) (s : State) : Host.Outcome State Fault Refusal :=
  .next (if s.hasStates page.val && (s.blk page.val).st = .draining then s.blkPoll page.val else s)

/-- QUIESCE_TIMEOUT (R44): the drain lasts past DEV.QTIMEOUT. -/
def execQuiesceTimeout (page : PageId) (s : State) : Host.Outcome State Fault Refusal :=
  .next (
    let p := page.val
    let b := s.blk p
    if s.hasStates p && b.st = .draining && !b.qto && s.blkWork p then
      let s := s.until (b.since + s.f DEV.QTIMEOUT 19 0 * 1000)
      let s := s.setBlk p { s.blk p with qto := true }
      match (kindOf p).bind fun k => qtoBit k.1 with
      | some i => s.fault p i
      | none => s
    else s)

/-- A DRAM channel's soft reset lasts until its training or retrain has ended (R322). -/
def State.resetBusy (s : State) (p : Nat) : Bool :=
  match kindOf p with
  | some (.dc, n) => s.chSt n = csTRAINING || s.chSt n = csRETRAIN || s.chSt n = csFCHANGE
  | some (.dma, _) => s.dma.act.isSome
  | _ => false

/-- RESET_COMPLETE (R44): BUSY clears and RSTDONE is set. In FENCED a block stays in RESETTING (R356). -/
def execResetComplete (page : PageId) (s : State) : Host.Outcome State Fault Refusal :=
  .next (
    let p := page.val
    if s.hasStates p && (s.blk p).st = .resetting && s.dev.state ≠ .fenced && !s.resetBusy p then
      let en := s.fb (HDR.BLKCTL p) 0
      let req := s.request p
      let s := if !req then (s.blkSt p .running).blkStarts p
        else s.blkSt p (if en then .quiesced else .disabled)
      let s := ((s.irq p 30).fltDone p [2, 3, 4]).fltWinEnds p
      let s := s.fltResume p req
      if (s.blk p).st = .running then s.blkPoll p else s
    else s)

end Sys2Proof.Machine
end

