-- ==== Sys2Proof/Machine/Dev.lean ====
section
/-! DEFINITION. The device state machine (R57, R58, R356, R365, R372) and what entering or leaving a state does. -/

namespace Sys2Proof.Machine

/-- The role ends with FENCED or RESET (R376), and with it what the unit was doing about it. -/
def State.roleEnd (s : State) : State :=
  let s := (s.setRole roleNone).setF EVT.STAT 5 2 0
  { s.setF EVT.STAT 15 15 0 with evt := { s.evt with
    journal := [], bulk := none, bulkEnd := none, held := [], goAt := none, claim := none, askedAt := none,
    accepted := false, decided := false } }

/-- Entry to FENCED (R356): every present page with a soft reset enters RESETTING, the role ends, the Evtur lanes stop
(R371) and KEY zeroises. -/
def State.fenced (s : State) : State :=
  let s := (allPages.filter fun p => s.hasStates p).foldl (fun t p => t.softReset p) s
  let s := if s.present pgKEY then s.zeroize else s
  (s.roleEnd.setLanes 0).irq pgDEV 7

/-- DEV.STATE changes (R57, R69, R372): the Mogul on leaving RUN or STANDBY, while its frames still have their way (R92);
STATE_CHG, PREV at HOLD and FENCED, VALID on leaving HELD or LOAD, a commit in progress at HOLD (R161), DMA on leaving it
(R343). -/
def State.enterDev (s : State) (st : DevState) : State :=
  let old := s.dev.state
  if old = st then s
  else
    let s := if old = .run || old = .standby then s.mogLeave else s
    let s := { s with dev := { s.dev with
      state := st, prev := if st == DevState.hold || st == DevState.fenced then some old else s.dev.prev } }
    let s := s.irq pgDEV 6
    let s := if (old = .held || old = .load) && st ≠ .armed then s.setF DEV.VALSTAT 1 1 0 else s
    let s := if st = .fenced then s.fenced else s
    let s := if st = .hold then s.commitHold true else if old = .hold then s.dmaGoOn.commitHold false else s
    s.xokAll.rxStates

/-- The device is fenced for a reason (R56, R57). RESET and STRAP are not left by a fence; a FENCED device stays. -/
def State.fence (s : State) (reason : Nat) : State :=
  if s.dev.state = .reset || s.dev.state = .fenced then s
  else (s.setF DEV.FENCE 7 0 reason).enterDev .fenced

/-- HOLD begins (R57, R364). -/
def State.holdIn (s : State) : State := s.enterDev .hold

/-- HOLD ends in the state it was entered from. -/
def State.holdOut (s : State) : State :=
  if s.dev.state = .hold then s.enterDev (s.dev.prev.getD .held) else s

/-- A role change moves DEV.STATE to RUN or STANDBY (R376). In HOLD the state to return to changes instead (log entry
30). -/
def State.roleState (s : State) (st : DevState) : State :=
  if s.dev.state = .hold then { s with dev := { s.dev with prev := some st } }
  else if s.dev.state = .armed || s.dev.state = .run || s.dev.state = .standby then s.enterDev st
  else s

/-- The GO event in ARMED (R57, R376): RUN without Evtur; with it the state of the role, and without a role the unit is
GOREADY and waits for one. -/
def State.goEvent (s : State) : State :=
  if s.dev.state ≠ .armed then s
  else if !s.evtEn || s.role = roleActive then s.enterDev .run
  else if s.role = roleStandby then s.enterDev .standby
  else { s with evt := { s.evt with goAt := some (s.evt.goAt.getD s.now) } }

/-- A write of RUNCTL.GO 1 (R57). -/
def State.runGo (s : State) : State := if s.dev.state = .armed then s.goEvent else s.badAcc

/-- A write of RUNCTL. AUTOGO is RWS. -/
def State.runctl (s : State) (who : Nat) (w : Word) : State :=
  let s := s.rwsPut who DEV.RUNCTL ⟨1, 1, .rws, 0, .any⟩ (fld w 1 1)
  if fld w 0 0 = 1 then s.runGo else s

/-- RUN_GO (R57). -/
def execRunGo (w : Word) (s : State) : Host.Outcome State Fault Refusal :=
  .next (s.hostWr DEV.RUNCTL fun s => s.runctl 0 w)

end Sys2Proof.Machine
end

