-- ==== Sys2Proof/Machine/Evt.lean ====
section
/-! DEFINITION. The Evtur link: lanes, frames, roles and pins, the journal, takeover, handoff and the bulk copy (R371 to
R388). -/

namespace Sys2Proof.Machine

/-! ## Lanes and frames (R371 to R374) -/

/-- EVT operates: EVT_EN 1, and a DEV.STATE in which the lanes run. -/
def State.evtOn (s : State) : Bool := s.evtEn && !s.initialising && s.dev.state ≠ .fenced

def State.evtLink (s : State) : Bool := s.fb EVT.STAT 10

/-- EVT_LANE_UP (R371). -/
def execEvtLaneUp (l : Fin 4) (s : State) : Host.Outcome State Fault Refusal :=
  .next (if s.evtOn then s.setLanes (setBit (s.f EVT.STAT 9 6) l.val true) else s)

/-- EVT_LANE_DOWN (R371): the lane's loss of lock fires LANEDOWN with its number. -/
def execEvtLaneDown (l : Fin 4) (s : State) : Host.Outcome State Fault Refusal :=
  .next (if s.evtOn && bit (s.f EVT.STAT 9 6) l.val then
      (s.setLanes (setBit (s.f EVT.STAT 9 6) l.val false)).fire pgEVT 1 false (BitVec.ofNat 32 l.val)
    else s)

/-- FLAGS of a frame this unit sends (R372). -/
def State.evtFlags (s : State) : Nat :=
  b2n (s.role = roleActive) + b2n (s.role = roleStandby && s.self = stCurrent) * 2 +
    b2n (s.role = roleActive && s.peer = stStale) * 4 + b2n (s.strap 4) * 8 +
    b2n (s.evt.goAt.isSome && s.role = roleNone) * 16

/-- A frame of a TYPE (R372). -/
def State.evtFrame (s : State) (type count jseq : Nat) (payload : List Byte) : List Byte :=
  let serial := s.fuses.serial.toNat % 281474976710656
  let head := [(0x03 : Byte), 0, 0, 0, 0x88, 0xB6] ++ beBytes 6 serial ++ beBytes 2 (s.f EVT.CFG 31 16) ++
    beBytes 1 (16 + type) ++ beBytes 1 s.evtFlags ++ beBytes 2 (s.f EVT.CFG 15 0) ++ beBytes 2 count ++
    beBytes 4 (s.rd EVT.EPOCH).toNat ++ beBytes 4 jseq ++ beBytes 4 (s.rd EVT.APPLIED).toNat
  let body := head ++ payload ++ List.replicate (28 - payload.length) 0
  body ++ fcsOf body

/-- The lane that sends the next frame: the up lanes in turn (R371). -/
def State.nextLane (s : State) : Nat :=
  (((List.range 4).map fun i => (s.evt.lane + i) % 4).find? fun l => bit (s.f EVT.STAT 9 6) l).getD 0

/-- A frame goes out while the link is up; every frame carries ACKSEQ. -/
def State.evtSend (s : State) (type count jseq : Nat) (payload : List Byte) : State :=
  if s.evtOn && s.evtLink then
    { s.emit (.evtur s.nextLane (s.evtFrame type count jseq payload)) with
      evt := { s.evt with ackDue := false, lane := (s.nextLane + 1) % 4 } }
  else s

/-- HELLO payload. -/
def State.helloBody (s : State) : List Byte := beBytes 4 (s.rd DEV.CFGCRC).toNat ++ [BitVec.ofNat 8 s.dev.state.code, 0, 0, 0]
def State.sendHello (s : State) : State := s.evtSend 1 0 0 s.helloBody
def State.sendRole (s : State) (op reason : Nat) : State :=
  s.evtSend 4 0 0 [BitVec.ofNat 8 op, BitVec.ofNat 8 reason, 0, 0, 0, 0, 0, 0]
def State.sendSyncreq (s : State) : State := s.evtSend 5 0 0 []

/-- The instant of the next periodic HELLO: HELLOUS µs after the last (R373). -/
def State.helloDue (s : State) : Nat :=
  match s.evt.helloSent with | some t => max s.now (t + s.f EVT.HELLO 7 0 * 1000) | none => s.now

/-- HELLO_SEND (R373, R388): every HELLOUS µs on the link, while EVT is RUNNING. -/
def execHelloSend (s : State) : Host.Outcome State Fault Refusal :=
  .next (if s.running pgEVT && s.evtOn && s.evtLink then
      let s := s.until s.helloDue
      { s with evt := { s.evt with helloSent := some s.now } }.sendHello
    else s)

/-- ACK_SEND (R373): the standby's ACKSEQ has advanced, no other frame has carried it, and no HELLO is due within 1 µs. -/
def execAckSend (s : State) : Host.Outcome State Fault Refusal :=
  .next (if s.running pgEVT && s.role = roleStandby && s.evt.ackDue && decide (s.now + 1000 < s.helloDue) then
      s.evtSend 3 0 0 []
    else s)

/-- A journal entry on the wire (R374). -/
def JEntry.bytes : JEntry → List Byte
  | .row h m r img => beBytes 8 (2 ^ 60 + m % 16 * 2 ^ 56 + h % 2 * 2 ^ 55 + r % 524288 * 2 ^ 32) ++ beBytes 64 img.toNat
  | .verstate pend slots => beBytes 8 (2 * 2 ^ 60 + pend % 65536 * 2 ^ 32 + slots % 2 ^ 32)
  | .foldDone v => beBytes 8 (3 * 2 ^ 60 + v % 16)
  | .pnMark rx sa pn => beBytes 8 (4 * 2 ^ 60 + b2n rx * 2 ^ 59 + sa % 32768 * 2 ^ 32) ++ beBytes 8 pn
  | .seqMark g q => beBytes 8 (5 * 2 ^ 60 + g % 32 * 2 ^ 32 + q % 2 ^ 32)
  | .bulkBegin => beBytes 8 (6 * 2 ^ 60)
  | .bulkEnd => beBytes 8 (7 * 2 ^ 60)

/-- The entries of a JOURNAL payload; it ends at a KIND that R374 does not list. -/
def jParse : Nat → List Byte → List JEntry
  | 0, _ => []
  | n + 1, l =>
    let d := beNat (l.take 8)
    let fd (hi lo : Nat) : Nat := d / 2 ^ lo % 2 ^ (hi + 1 - lo)
    match fd 63 60 with
    | 1 => .row (fd 55 55) (fd 59 56) (fd 50 32) (BitVec.ofNat 512 (beNat (slice l 8 64))) :: jParse n (l.drop 72)
    | 2 => .verstate (fd 47 32) (fd 31 0) :: jParse n (l.drop 8)
    | 3 => .foldDone (fd 3 0) :: jParse n (l.drop 8)
    | 4 => .pnMark (fd 59 59 = 1) (fd 46 32) (beNat (slice l 8 8)) :: jParse n (l.drop 16)
    | 5 => .seqMark (fd 36 32) (fd 31 0) :: jParse n (l.drop 8)
    | 6 => .bulkBegin :: jParse n (l.drop 8)
    | 7 => .bulkEnd :: jParse n (l.drop 8)
    | _ => []

/-- JOURNAL_SEND (R373): up to 16 entries from the next JSEQ to send. -/
def execJournalSend (s : State) : Host.Outcome State Fault Refusal :=
  .next (
    let l := (s.evt.journal.filter fun e => e.1 = s.evt.sendAt || serGt e.1 s.evt.sendAt).take 16
    match l with
    | [] => s
    | e :: _ =>
      if s.role = roleActive && s.running pgEVT && s.evtOn && s.evtLink then
        let s := s.evtSend 2 l.length e.1 (l.flatMap fun x => x.2.1.bytes)
        let s := { s with evt := { s.evt with sendAt := (e.1 + l.length) % 4294967296 } }
        s.event pgEVT 0x100 l.length fun _ => true
      else s)

/-! ## Becoming active (R376, R377, R383) -/

/-- The role becomes ACTIVE: its EPOCH, and DEV.STATE RUN. While EVT is not RUNNING the peer is held STALE (R388). -/
def State.becomeActive (s : State) : State :=
  let e := max (s.rd EVT.EPOCH).toNat s.evt.rxEpoch + 1
  let s := (s.wr EVT.EPOCH (BitVec.ofNat 32 e)).setRole roleActive
  let s := s.setF EVT.STAT 5 2 0
  let s := { s with evt := { s.evt with goAt := none, claim := none, accepted := false, decided := false, held := [],
                                        bulk := none, bulkEnd := none, journal := [] } }
  (if s.evtEn && !s.running pgEVT then s.peerStale else s).roleState .run

/-- The open slot is aborted at once (R162, R383). -/
def State.dropOpen (s : State) : State :=
  match s.ver.opened with
  | none => s
  | some v =>
    let s := ((s.fixHalf 0 v true).fixHalf 1 v true).setF TBL.FOLDSTAT v v 0
    let s := { s.setF TBL.VERERR v v 0 with ver := { s.ver with busy := .none_, refused := false } }
    (s.irq pgVER irqAbortDone).setB EVT.STAT 14

/-- The NextPN that a new active unit sets a transmit SA to (R281): one whose last mark is 0, past its last PN, or that the
margin takes past 2^64 - 1, has no PN left. -/
def takeoverPn (mark margin : Nat) : Nat := if mark = 0 || 18446744073709551616 ≤ mark + margin then 0 else mark + margin

/-- A takeover (R383). -/
def State.takeoverDo (s : State) : State :=
  let s := s.dropOpen
  let pm := s.rd64 EVT.PNMARGIN_LO EVT.PNMARGIN_HI
  let s := s.evt.pnMarks.foldl (fun t e =>
    t.wr64 (MSC.NEXTPN_LO e.1) (MSC.NEXTPN_HI e.1) (if e.1 < 32768 then takeoverPn e.2 pm else e.2)) s
  let s := s.evt.seqMarks.foldl (fun t e =>
    if t.fb (BLG.GCFG e.1) 0 then t.wr (BLG.TXSEQ e.1) (BitVec.ofNat 32 (e.2 + (t.rd EVT.SEQMARGIN).toNat)) else t) s
  let s := (List.range 32).foldl (fun t g =>
    if t.f (BLG.GSTAT g) 1 0 = rxOFF then t
    else (t.setF (BLG.GSTAT g) 1 0 rxSYNC).setGrp g { t.grp g with syncAt := none, lateRun := 0, gapAt := none }) s
  (s.resetAllLevels.becomeActive).bump EVT.TAKEOVERS

/-- The unit becomes a standby. -/
def State.becomeStandby (s : State) (self : Nat) : State :=
  let s := ((s.setRole roleStandby).setF EVT.STAT 3 2 0).setSelf self
  { s with evt := { s.evt with goAt := none, claim := none, journal := [], bulk := none, bulkEnd := none, held := [],
                               decided := false, follows := false } }.roleState .standby

/-- The unit leaves ACTIVE (R385): admission stops, and TMG discards every queued packet. -/
def State.leaveActive (s : State) : State :=
  let outs := s.ips.flatMap fun (e : Nat × IpSt) => e.2.out.map fun o => o.pkt
  let s := { s with ips := s.ips.map fun (e : Nat × IpSt) => (e.1, { e.2 with out := [] }) }
  let s := outs.foldl (fun t p => t.discard 0xA noPort p) s
  let s := s.tmgReset
  ({ s.setF EVT.STAT 15 15 0 with evt := { s.evt with askedAt := none } }).becomeStandby stSyncing

/-- This unit wins over the peer of the last HELLO (R376). -/
def State.wins (s : State) : Bool :=
  let mine := s.strap 4
  let peer := bit s.evt.flags 3
  if mine ≠ peer then mine
  else decide (s.fuses.serial.toNat % 281474976710656 < s.rd64 EVT.PEERSERIAL_LO EVT.PEERSERIAL_HI)

def State.pinIn (s : State) : Bool := s.fb EVT.STAT 12

/-- ACTIVE_OUT (R375). -/
def State.pinOut (s : State) : Bool :=
  (s.role = roleActive && (s.dev.state = .run || s.dev.state = .hold)) ||
    (s.role = roleClaiming && (match s.evt.claim with | some (_, _, some _) => true | _ => false))

/-! ## Received frames (R373, R377, R380, R381, R384) -/

/-- The frame is discarded as a bad one (R373). -/
def State.evtBad (s : State) (f : List Byte) : Bool :=
  let n := f.length - 4
  let type := beNat (slice f 14 1) % 16
  f.drop n ≠ fcsOf (f.take n) || beNat (slice f 14 1) / 16 ≠ 1 || type = 0 || 5 < type ||
    beNat (slice f 16 2) ≠ s.f EVT.CFG 15 0 || beNat (slice f 12 2) ≠ s.f EVT.CFG 31 16 ||
    (type = 2 && (!bit (beNat (slice f 15 1)) 0 || decide (beNat (slice f 20 4) < (s.rd EVT.EPOCH).toNat)))

/-- ACKSEQ of a received frame releases entries (R380); the peer is CURRENT once BULKEND is acknowledged (R386). -/
def State.ackIn (s : State) (a : Nat) : State :=
  if s.role ≠ roleActive then s
  else
    let e := s.evt
    let left := e.journal.filter fun x => !serGt a x.1
    let moved := left.length < e.journal.length
    let done := match e.bulkEnd with | some b => serGt a b | none => false
    let s := (s.wr EVT.ACKED (BitVec.ofNat 32 a))
    let s := { s with evt := { e with
      journal := left, ackAt := if moved then s.now else e.ackAt, bulkEnd := if done then none else e.bulkEnd,
      sendAt := if serGt a e.sendAt then a else e.sendAt } }
    if done && s.peer = stSyncing then s.setPeer stCurrent else s

/-- A received HELLO (R376, R377, R382). -/
def State.helloIn (s : State) (f : List Byte) : State :=
  let flags := beNat (slice f 15 1)
  let epoch := beNat (slice f 20 4)
  let active := bit flags 0
  let s := s.wr EVT.PEERCRC (BitVec.ofNat 32 (beNat (slice f 32 4)))
  let diff := s.rd EVT.PEERCRC ≠ s.rd DEV.CFGCRC
  let was := s.fb EVT.STAT 13
  let s := s.setF EVT.STAT 13 13 (b2n diff)
  let s := if diff && !was then s.irq pgEVT 5 else s
  let s := { s with evt := { s.evt with
    flags := flags, helloAt := some s.now, activeAt := if active then some s.now else s.evt.activeAt } }
  let s := if active && !s.pinIn then (s.bump EVT.PINMISM).irq pgEVT 4 else s
  if s.role = roleActive then
    if active && ((s.rd EVT.EPOCH).toNat < epoch || ((s.rd EVT.EPOCH).toNat = epoch && !s.wins)) then
      s.leaveActive.bump EVT.SPLITS
    else s
  else if s.role = roleNone then
    if active && s.evt.goAt.isSome then (s.becomeStandby stSyncing).sendSyncreq else s
  else if s.role = roleStandby && bit flags 2 then s.setSelf stStale
  else s

/-- A row image from the journal (R381): written through TBL's internal path; tagged rows join the fold list. -/
def State.jRow (s : State) (h mem row : Nat) (img : BitVec 512) : State :=
  if rowMax mem ≤ row then s
  else
    let s := s.rowReplace h mem row img.toNat
    let key := memKey mem row
    let mark (t : State) (ctl : Nat) : State :=
      let add (u : State) (v : Nat) : State := u.setHalf h ((u.half h).fold1 v key)
      let t := if bit ctl 18 then add t (rbits ctl 22 19) else t
      if bit ctl 23 then add t (rbits ctl 27 24) else t
    if mem ≤ 1 then
      match s.rowFmt h row with
      | some fm => (List.range (fmtN fm)).foldl (fun t i => mark t (entCtl img.toNat fm i)) s
      | none => s
    else if mem = 13 then mark s (rbits img.toNat 287 256)
    else if mem = 3 then
      (List.range 16).foldl (fun t i =>
        let p := rbits img.toNat (32 * i + 31) (32 * i)
        if bit p 29 && bit p 28 then t.setHalf h ((t.half h).fold1 (rbits p 27 24) key) else t) s
    else s

/-- Slot states from the journal; slots that become committed join the commit order (log entry 31). -/
def State.jSlots (s : State) (pend slots : Nat) : State :=
  let st (i : Nat) : Slot := match slots / 4 ^ i % 4 with | 0 => .free | 1 => .open_ | 2 => .current | _ => .live
  let ids : List Nat := List.range 16
  let l := ids.map st
  let lives := ids.filter fun i => (st i = .live || bit pend i) && st i ≠ .open_ && st i ≠ .current
  let old := s.ver.order.filter fun i => (lives.contains i || st i = .current) && st i ≠ .open_
  let order := (lives.filter fun i => !old.contains i) ++ old ++
    (ids.filter fun i => st i = .current && !old.contains i)
  let s := s.setF TBL.FOLDSTAT 15 0 pend
  { s with ver := { s.ver with slots := l, order := order } }

/-- One journal entry is applied (R381). -/
def State.jApply (s : State) (e : JEntry) : State :=
  let s := s.event pgEVT 0x100 1 fun _ => true
  match e with
  | .row h m r img =>
    let s := s.jRow h m r img
    if s.evt.bulk.isSome then s.addF EVT.BULKROWS 21 0 1 else s
  | .verstate p v => s.jSlots p v
  | .foldDone v =>
    let clr (t : State) (h : Nat) : State := t.setHalf h { t.half h with fold := (t.half h).fold.filter fun x => x.1 ≠ v }
    clr (clr s 0) 1
  | .pnMark rx sa pn =>
    { s with evt := { s.evt with pnMarks := kset s.evt.pnMarks (if rx then sa + 32768 else sa) pn } }
  | .seqMark g q => { s with evt := { s.evt with seqMarks := kset s.evt.seqMarks g q } }
  | .bulkBegin => ({ s.zero [EVT.BULKROWS] with evt := { s.evt with bulk := some 0, follows := true } }).setSelf stSyncing
  | .bulkEnd =>
    let s := { s with evt := { s.evt with bulk := none } }
    if s.fb EVT.POLICY 1 && s.rd EVT.PEERCRC ≠ s.rd DEV.CFGCRC then s else s.setSelf stCurrent

/-- When the gap at APPLIED opened: the first entry beyond it arrived then. -/
def State.gapAt (s : State) : Option Nat := (s.evt.held.map fun e => e.2.2).min?

/-- The entry at APPLIED is applied, and those held behind it. -/
def State.jNext (s : State) (e : JEntry) : Nat → State
  | 0 => s
  | fuel + 1 =>
    let s := s.jApply e
    let a := (s.rd EVT.APPLIED + 1).toNat
    let s := { s.wr EVT.APPLIED (BitVec.ofNat 32 a) with evt := { s.evt with ackDue := true } }
    match kget? s.evt.held a with
    | none => s
    | some n => ({ s with evt := { s.evt with held := kerase s.evt.held a } }).jNext n.1 fuel

/-- The standby follows the journal: since a BULKBEGIN, and while it is not STALE (R382). -/
def State.follows (s : State) : Bool := s.evt.follows && s.self ≠ stStale

/-- One received entry: in order it is applied, beyond a gap held, else a duplicate (R381). A copy starts at its
BULKBEGIN, whatever its JSEQ, where no copy or journal is followed (log entry 32). -/
def State.jIn (s : State) (seq : Nat) (e : JEntry) : State :=
  let a := (s.rd EVT.APPLIED).toNat
  let follows := s.follows
  if e = .bulkBegin && !follows then
    let s := s.wr EVT.APPLIED (BitVec.ofNat 32 seq)
    ({ s with evt := { s.evt with held := s.evt.held.filter fun x => serGt x.1 seq } }).jNext e (s.evt.held.length + 1)
  else if !follows then s
  else if seq = a then s.jNext e (s.evt.held.length + 1)
  else if serGt seq a then
    if (kget? s.evt.held seq).isSome then s else { s with evt := { s.evt with held := kset s.evt.held seq (e, s.now) } }
  else s

/-- A received JOURNAL frame. -/
def State.journalIn (s : State) (f : List Byte) : State :=
  if s.role ≠ roleStandby || !s.running pgEVT then s
  else
    let l := jParse (beNat (slice f 18 2)) ((f.take (f.length - 4)).drop 32)
    let j := beNat (slice f 24 4)
    (l.zip (List.range l.length)).foldl (fun t e => t.jIn ((j + e.2) % 4294967296) e.1) s

/-- A handoff ends without change (R384). -/
def State.handoffFail (s : State) : State :=
  ({ s.setF EVT.STAT 15 15 0 with evt := { s.evt with askedAt := none } }).bump EVT.HOFAIL

/-- A received ROLE frame (R376, R384). -/
def State.roleIn (s : State) (f : List Byte) : State :=
  match beNat (slice f 32 1) with
  | 1 =>
    if s.role ≠ roleStandby then s.sendRole 3 2
    else if s.self = stCurrent then ({ s with evt := { s.evt with accepted := true } }).sendRole 2 0
    else s.sendRole 3 1
  | 2 =>
    if s.role = roleActive && s.evt.askedAt.isSome then
      let s := s.leaveActive
      if s.running pgEVT then s.sendHello else s
    else s
  | 3 => if s.evt.askedAt.isSome then s.handoffFail else s
  | _ => s

/-- A received SYNCREQ starts a bulk resynchronisation (R380). -/
def State.syncIn (s : State) : State := if s.role = roleActive && s.running pgEVT then s.startBulk else s

/-- A frame arrives on a lane that is up. -/
def State.evtRx (s : State) (f : List Byte) : State :=
  if !(s.evtOn && s.evtLink) then s
  else if s.evtBad f then s.bump EVT.BADFRAME
  else
    let s := s.wr64 EVT.PEERSERIAL_LO EVT.PEERSERIAL_HI (beNat (slice f 6 6))
    let s := { s with evt := { s.evt with rxEpoch := max s.evt.rxEpoch (beNat (slice f 20 4)) } }
    let s := if s.running pgEVT then s.ackIn (beNat (slice f 28 4)) else s
    match beNat (slice f 14 1) % 16 with
    | 1 => s.helloIn f
    | 2 => s.journalIn f
    | 4 => s.roleIn f
    | 5 => s.syncIn
    | _ => s

/-- HELLO_RECEIVED (R377). -/
def execHelloReceived (frame : List Byte) (s : State) : Host.Outcome State Fault Refusal := .next (s.evtRx frame)

/-- JOURNAL_RECEIVED (R381). -/
def execJournalReceived (frame : List Byte) (s : State) : Host.Outcome State Fault Refusal := .next (s.evtRx frame)

/-- ACK_RECEIVED (R380). -/
def execAckReceived (frame : List Byte) (s : State) : Host.Outcome State Fault Refusal := .next (s.evtRx frame)

/-- ROLE_REQUEST (R384). -/
def execRoleRequest (frame : List Byte) (s : State) : Host.Outcome State Fault Refusal := .next (s.evtRx frame)

/-- ROLE_ACCEPT (R384). -/
def execRoleAccept (frame : List Byte) (s : State) : Host.Outcome State Fault Refusal := .next (s.evtRx frame)

/-- ROLE_REFUSE (R384). -/
def execRoleRefuse (frame : List Byte) (s : State) : Host.Outcome State Fault Refusal := .next (s.evtRx frame)

/-- SYNCREQ (R380). -/
def execSyncreq (frame : List Byte) (s : State) : Host.Outcome State Fault Refusal := .next (s.evtRx frame)

/-- EVT_BADFRAME (R373). -/
def execEvtBadframe (frame : List Byte) (s : State) : Host.Outcome State Fault Refusal := .next (s.evtRx frame)

/-! ## Roles and pins (R376, R378, R382) -/

/-- ROLE_DECISION (R376): 2 x HELLOUS after GO, with the link up, once. A unit whose peer wins waits from then on for the
peer's HELLO with ACTIVE. -/
def execRoleDecision (s : State) : Host.Outcome State Fault Refusal :=
  .next (match s.evt.goAt with
    | some t =>
      if s.role ≠ roleNone || !s.evtOn || !s.evtLink || s.evt.decided then s
      else
        let s := s.until (t + 2 * s.f EVT.HELLO 7 0 * 1000)
        let fl := if s.evt.helloAt.isSome then s.evt.flags else 0
        if bit fl 0 then (s.becomeStandby stSyncing).sendSyncreq
        else if bit fl 4 && !s.wins then { s with evt := { s.evt with decided := true } }
        else s.becomeActive
    | none => s)

/-- CLAIM_START (R376, R378): LINKWAIT ms after GO without link. -/
def execClaimStart (s : State) : Host.Outcome State Fault Refusal :=
  .next (match s.evt.goAt with
    | some t =>
      if s.role ≠ roleNone || !s.evtOn || s.evtLink then s
      else
        let s := s.until (t + s.f EVT.CLAIM 31 16 * 1000000)
        let s := s.setRole roleClaiming
        if s.pinIn then s.becomeStandby stStale else { s with evt := { s.evt with claim := some (0, s.now, none) } }
    | none => s)

/-- d(k) in ns (R378). -/
def State.claimWait (s : State) (k : Nat) : Nat :=
  let k := k % 16
  let c := s.f EVT.CLAIM 15 0 * 1000
  c * (1 + s.fuses.serial.toNat / 16 ^ k % 16) + (if s.strap 4 then 0 else 16 * c)

/-- CLAIM_RAISE (R378): PEER_ACTIVE_IN has been low for d(k) since the attempt began. -/
def execClaimRaise (s : State) : Host.Outcome State Fault Refusal :=
  .next (match s.evt.claim with
    | some (k, t, none) =>
      if s.pinIn then s
      else
        let s := s.until (max t s.evt.pinAt + s.claimWait k)
        { s with evt := { s.evt with claim := some (k, t, some s.now) } }
    | _ => s)

/-- CLAIM_SUCCESS (R378): PEER_ACTIVE_IN has stayed low for 10 µs after the raise. -/
def execClaimSuccess (s : State) : Host.Outcome State Fault Refusal :=
  .next (match s.evt.claim with
    | some (_, _, some r) => if s.pinIn then s else (s.until (r + 10000)).becomeActive
    | _ => s)

/-- The filtered level of PEER_ACTIVE_IN changes (R376, R378). -/
def State.pinTake (s : State) (level : Bool) : State :=
  let s := { s.setF EVT.STAT 12 12 (b2n level) with evt := { s.evt with pinAt := s.now } }
  if level then
    match s.evt.claim with
    | some (_, _, none) => s.becomeStandby stStale
    | some (k, _, some _) => { s with evt := { s.evt with claim := some (k + 1, s.now, none) } }
    | none => s
  else if s.evt.accepted && s.role = roleStandby then s.takeoverDo
  else s

/-- One sample of PEER_ACTIVE_IN (R375), at the next 100 ns: a level is taken once three consecutive samples agree. -/
def State.pinSample (s : State) (level : Bool) : State :=
  let s := s.nextTick 100
  let n := if level = s.evt.pinLast then min 3 (s.evt.pinRun + 1) else 1
  let s := { s with evt := { s.evt with pinLast := level, pinRun := n } }
  if n = 3 && s.pinIn ≠ level then s.pinTake level else s

/-- PEER_PIN_CHANGE (R375, R376, R378): the next samples of the pin. -/
def execPeerPinChange (samples : List Bool) (s : State) : Host.Outcome State Fault Refusal :=
  .next (if !s.evtEn || s.initialising then s else samples.foldl State.pinSample s)

/-- TAKEOVER (R376, R382, R383): PEER_ACTIVE_IN low and no HELLO with ACTIVE for FALLUS µs. -/
def execTakeOver (s : State) : Host.Outcome State Fault Refusal :=
  .next (
    if s.role ≠ roleStandby || s.pinIn then s
    else
      let s := s.until (max s.evt.pinAt (s.evt.activeAt.getD 0) + s.f EVT.HELLO 15 8 * 1000)
      if s.self = stCurrent || s.fb EVT.POLICY 2 then s.takeoverDo else s.irq pgEVT 3)

/-! ## CTL (R376, R384, R386) -/

/-- A peer is present: the link is up and a HELLO has been received. -/
def State.peerHere (s : State) : Bool := s.evtLink && s.evt.helloAt.isSome

/-- A handoff is requested (R384); R355 calls it without the register. -/
def State.handoff (s : State) : State :=
  ({ s.setB EVT.STAT 15 with evt := { s.evt with askedAt := some s.now } }).sendRole 1 0

def State.mayHandoff (s : State) : Bool := s.role = roleActive && s.peer = stCurrent

/-- A write of EVT.CTL. A RESYNC that finds EVT not RUNNING, where the peer stays STALE (R388), is dropped like one without
a peer (log entry 127). -/
def State.evtCtl (s : State) (w : Word) : State :=
  let s := if fld w 0 0 = 0 then s else if s.mayHandoff then s.handoff else s.badAcc
  let s := if fld w 1 1 = 0 then s
    else if s.role = roleActive && s.peerHere && s.running pgEVT then s.startBulk
    else s.badAcc
  if fld w 2 2 = 0 then s else if s.role = roleStandby && !s.pinIn then s.takeoverDo else s.badAcc

/-- HANDOFF (R384). -/
def execHandoffRequest (w : Word) (s : State) : Host.Outcome State Fault Refusal := .next (s.hostWO EVT.CTL w fun s => s.evtCtl w)

/-- RESYNC (R386). -/
def execResyncRequest (w : Word) (s : State) : Host.Outcome State Fault Refusal := .next (s.hostWO EVT.CTL w fun s => s.evtCtl w)

/-- FORCE (R376). -/
def execForceRole (w : Word) (s : State) : Host.Outcome State Fault Refusal := .next (s.hostWO EVT.CTL w fun s => s.evtCtl w)

/-- HANDOFF_TIMEOUT (R384): no answer within 100 µs. -/
def execHandoffTimeout (s : State) : Host.Outcome State Fault Refusal :=
  .next (match s.evt.askedAt with
    | some t => (s.until (t + 100000)).handoffFail
    | none => s)

/-! ## The journal's limits (R380, R382) -/

/-- RETRANSMIT (R380): ACKSEQ has not advanced for RETXUS µs while entries are held. -/
def execRetransmit (s : State) : Host.Outcome State Fault Refusal :=
  .next (match s.evt.journal with
    | (q, _, t) :: _ =>
      let s := s.until (max t s.evt.ackAt + s.f EVT.ACKCFG 7 0 * 1000)
      ({ s with evt := { s.evt with sendAt := q, ackAt := s.now } }).bump EVT.RETX
    | [] => s)

/-- ACK_TIMEOUT (R380): the oldest entry has not been acknowledged within ACKTO µs. -/
def execAckTimeout (s : State) : Host.Outcome State Fault Refusal :=
  .next (match s.evt.journal with
    | (_, _, t) :: _ => (s.until (t + s.f EVT.ACKCFG 31 16 * 1000)).peerStale
    | [] => s)

/-- DEAD_TIMEOUT (R382): no HELLO for DEADTO µs. -/
def execDeadTimeout (s : State) : Host.Outcome State Fault Refusal :=
  .next (match s.evt.helloAt with
    | some t => if s.role = roleStandby then (s.until (t + s.f EVT.HELLO 31 16 * 1000)).setSelf stStale else s
    | none => s)

/-- JOURNAL_GAP_TIMEOUT (R382): a gap is older than ACKTO. -/
def execJournalGapTimeout (s : State) : Host.Outcome State Fault Refusal :=
  .next (match s.gapAt with
    | some t =>
      if s.role ≠ roleStandby then s
      else
        let s := s.until (t + s.f EVT.ACKCFG 31 16 * 1000)
        ({ s with evt := { s.evt with held := [], bulk := none } }).setSelf stStale
    | none => s)

/-! ## Bulk copy (R386) -/

/-- Row k of a copy: memory, half and row in MEM, half and ROW order. -/
def bulkRow (k : Nat) : Option (Nat × Nat × Nat) :=
  ((List.range 14).foldl (fun (a : Nat × Option (Nat × Nat × Nat)) m =>
    match a.2 with
    | some _ => a
    | none =>
      let n := rowMax m
      if a.1 < 2 * n then (0, some (m, a.1 / n, a.1 % n)) else (a.1 - 2 * n, none)) (k, none)).2

/-- Rows of a copy (R386). -/
abbrev bulkRows : Nat := 2625536

/-- A copy goes on at a position. -/
def State.bulkAt (s : State) (k : Nat) : State := { s with evt := { s.evt with bulk := some k } }

/-- The copy may enter an entry of a number of bytes: not before BULKGBPS lets it (R386); what it takes of the rate is kept
in picoseconds. -/
def State.bulkPace (s : State) (bytes : Nat) : State :=
  let s := s.until (cdiv s.evt.bulkDue 1000)
  { s with evt := { s.evt with
    bulkDue := max s.evt.bulkDue (s.now * 1000) + cdiv (bytes * 8000) (max 1 (s.f EVT.POLICY 16 8)) } }

/-- The first SA in use from a number on. -/
def State.nextSa (s : State) (n : Nat) : Option Nat :=
  (((s.indexed (MSC.SACFG0 0)).filter fun e => fld e.2 16 16 = 1 && decide (n ≤ e.1)).map fun e => e.1).min?

/-- The first enabled group from a number on. -/
def State.nextGrp (s : State) (n : Nat) : Option Nat := (List.range 32).find? fun g => decide (n ≤ g) && s.fb (BLG.GCFG g) 0

/-- The entry j after the last row of a copy: VERSTATE, the SAs in use, the enabled groups, and BULKEND. -/
def State.bulkTail (s : State) (j : Nat) : State :=
  let at_ (n : Nat) (s : State) : State := s.bulkAt (bulkRows + n)
  if j = 0 then (at_ 1 (s.bulkPace 8)).jVer
  else match (if j ≤ 65536 then s.nextSa (j - 1) else none) with
    | some sa => (at_ (sa + 2) (s.bulkPace 16)).pnMark sa
    | none =>
      match s.nextGrp (j - 65537) with
      | some g => (at_ (65538 + g) (s.bulkPace 8)).journal (.seqMark g (s.rd (BLG.TXSEQ g)).toNat)
      | none =>
        let s := s.bulkPace 8
        { s with evt := { s.evt with bulk := none, bulkEnd := some s.evt.jseq } }.journal .bulkEnd

/-- BULK_ROW (R386): the next row is read and enters the journal, or the next entry after the last row, while JLEVEL is
below 8,192 (for the latter log entry 128). -/
def execBulkRow (s : State) : Host.Outcome State Fault Refusal :=
  .next (match s.evt.bulk with
    | some k =>
      if s.role ≠ roleActive || 8192 ≤ s.evt.journal.length then s
      else match bulkRow k with
        | none => s.bulkTail (k - bulkRows)
        | some (m, h, r) =>
          let s := (s.bulkPace 72).bulkAt (k + 1)
          (s.addF EVT.BULKROWS 21 0 1).journal (.row h m r (BitVec.ofNat 512 ((s.half h).row m r)))
    | none => s)

end Sys2Proof.Machine
end

