-- ==== Sys2Proof/Machine/Flt.lean ====
section
/-! DEFINITION. The fault hub: detections, records, reactions, windows, the fence limit, injection and the outputs (R347 to
R362). -/

namespace Sys2Proof.Machine

/-! ## What a detection does beside its event (R201, R242, R270, R296, R346, R362) -/

/-- A reference that SERDESREF names serves these port groups (R55). -/
def State.refServes (s : State) (k g : Nat) : Bool :=
  match s.dev.straps.toNat / 256 % 4 with
  | 0 => g / 4 == k
  | 1 => k == 0
  | 2 => (k == 0 && decide (g < 10)) || (k == 1 && decide (10 ≤ g))
  | _ => false

/-- A port loses lock (R79). -/
def State.loseLock (s : State) (p : Nat) : State :=
  let ps := s.port p
  s.setPort p { ps with
    lock := false, lockAt := none, downAt := if ps.link = .up && ps.downAt.isNone then some s.now else ps.downAt }

/-- A PLL that CLK feeds loses its lock (R68, R362), with the timebase PLL or not (log entry 33). -/
def State.pllLoss (s : State) (timebase : Bool) : State :=
  let s := { s with dev := { s.dev with plls := false } }
  if timebase then s.setF TIM.STAT 0 0 0 else s

/-- BUFUNC: a word of the receive buffer (place 0), or of the frame that stands at a place of the Mogul buffer, is lost with
its frame. -/
def State.bufUnc (s : State) (g loc : Nat) : State :=
  let v := s.pg g
  if loc = 0 then s.setPg g { v with rxbuf := v.rxbuf.drop 1 }
  else match v.held[loc - 1]? with
    | some h =>
      let s := s.setPg g { v with held := v.held.eraseIdx (loc - 1) }
      if h.dir = .tx then s.txRelease h.tx else s
    | none => s

/-- The error of a source at a place: `loc` is its INFO where the source has a layout, else what the error hit (log entry
33). -/
def State.fltEffect (s : State) (k : Kind) (inst src loc : Nat) : State :=
  match k, src with
  | .clk, 0 => s.pllLoss (loc % 5 = 3)
  | .clk, 1 =>
    (List.range 16).foldl State.pllUnlocked (s.pllLoss (s.f TIM.CFG 0 0 = 0))
  | .clk, 2 => (List.range (8 * s.nPg)).foldl (fun t p => if t.refServes loc (p / 8) then t.loseLock p else t) s
  | .clk, 3 => s.pllUnlocked (loc % 16)
  | .cnt, 1 => s.gaugeUnc (loc / 8 % 256) (loc % 8)
  | .tmg, 1 => s.cellLost loc
  | .tmg, 2 => s.pageLost loc
  | .ver, 1 =>
    if s.ver.stuck.contains (loc % 16) then s else { s with ver := { s.ver with stuck := s.ver.stuck ++ [loc % 16] } }
  | .ip, 1 =>
    match (s.ip inst).out with
    | o :: t => ((s.setIp inst { s.ip inst with out := t }).bump (IP.RSTDROP inst)).release o.pkt.m.vertag
    | [] => s
  | .ep, 1 =>
    match (s.ep inst).inq with
    | o :: t => ((s.setEp inst { s.ep inst with inq := t }).bump (EP.RSTDROP inst)).egrDrop o.2
    | [] => s
  | .pg, 1 => s.bufUnc inst loc
  | .pg, 2 =>
    let v := s.pg inst
    if v.pllLost.contains (loc % 8) then s else s.setPg inst { v with pllLost := v.pllLost ++ [loc % 8] }
  | .bpm, 3 =>
    if s.bpm.ring.isEmpty then s else s.ringPop.ringLoss s.freePages (ringTake 16 s.bpm.ring).1.length
  | .sch, 2 => s.resetLevels (shPol (loc / 131072 % 2) (loc % 131072))
  | .sch, 3 => s.gateUnc (loc % 256)
  | .blg, 1 =>
    match s.blg.members.find? fun e => e.2.q.all.any fun x => x.id = loc with
    | some e =>
      let g := e.1 / 16
      (s.setEq g (e.1 % 16) (e.2.q.without [loc])).gapPoll g
    | none => s
  | .msc, 1 => s.setInUse loc false
  | .msc, 2 => { s with msc := { s.msc with unc := if s.msc.unc.contains loc then s.msc.unc else s.msc.unc ++ [loc] } }
  | .key, 1 => (s.kslotErase loc).1
  | .key, 2 => s.setB KEY.STAT 18
  | .hst, 0 => s.linkCorr loc
  | .hst, 2 => s.qpUnc (loc / 8 % 64) (loc % 8)
  | .flt, 1 => s.bump FLT.LOSTREC
  | _, _ => s

/-- The sources whose INFO has a layout. -/
def hasInfo (k : Kind) (src : Nat) : Bool :=
  match k, src with
  | .dev, 0 | .clk, 2 | .cnt, 1 | .evt, 1 | .tbl, 1 | .tcm, 2 | .sch, 2 | .sch, 3 | .dc, 1 => true
  | _, _ => false

/-- A source of a present page detects an error. -/
def State.detect (s : State) (page src : Nat) (loc : Word) : State :=
  match kindOf page, srcInfo page src with
  | some (k, i), some _ =>
    if !s.present page then s
    else (s.fltEffect k i src loc.toNat).fire page src false (if hasInfo k src then loc else 0)
  | _, _ => s

/-! ## Records (R351 to R353) -/

/-- A record is open until its reaction has completed and the host has acknowledged it (R352). -/
def FltRec.isOpen (r : FltRec) : Bool := !(r.done && r.acked)

/-- The open records, oldest first. -/
def State.openRecs (s : State) : List FltRec :=
  let l := (s.flt.log.map fun (e : Nat × FltRec) => e.2).filter FltRec.isOpen
  let age (r : FltRec) : Nat := (r.seq + 256 - s.flt.next % 256) % 256
  l.mergeSort fun a b => age a ≤ age b

/-- A record as its eight words (R351). -/
def FltRec.words (r : FltRec) : List Word :=
  let w0 := r.seq % 256 + r.page * 256 + r.src * 65536 + r.cls * 2097152 + r.react * 8388608 + b2n r.inj * 67108864 +
    b2n r.conseq * 134217728 + b2n r.limit * 268435456 + b2n r.foskip * 536870912 + b2n r.abandoned * 1073741824 +
    b2n r.isOpen * 2147483648
  let w3 := r.seccnt + (match r.sec with | some (p, x) => p * 65536 + x * 16777216 + 536870912 | none => 0)
  let w4 := (match r.primref with | some q => q + 256 | none => 0) + r.devstate * 512
  [BitVec.ofNat 32 w0, r.time.setWidth 32, (r.time >>> 32).setWidth 32, BitVec.ofNat 32 w3, BitVec.ofNat 32 w4, r.info, 0, 0]

/-- STAT.ACTIVE (R359). -/
def State.fltActive (s : State) : Bool :=
  s.flt.fatal || s.openRecs.any fun r => decide (s.f FLT.CFG 1 0 ≤ r.cls) && !r.conseq

/-- FAULT_P and FAULT_N as driven (R359). -/
def State.faultPins (s : State) : Bool × Bool := if s.initialising then (false, false) else (s.fltActive, !s.fltActive)

/-- ERR_N is pulled low (R361). -/
def State.errN (s : State) : Bool := s.strap 6 && s.fltActive && !s.initialising

/-- The next record's slot holds an open record (R352). -/
def State.fltFull (s : State) : Bool :=
  match kget? s.flt.log (s.flt.next % 64) with | some r => r.isOpen | none => false

/-! ## Neighbours (R354) -/

/-- Page x is a neighbour of page y under reaction. -/
def neighbour (y x : Nat) : Bool :=
  match kindOf y, kindOf x with
  | some (ky, iy), some (kx, ix) =>
    match ky with
    | .ip => ((kx == .pg || kx == .ep) && iy == ix) || [Kind.tmg, .tbl, .tcm, .lrn, .ver, .msc].contains kx
    | .ep => ((kx == .pg || kx == .ip) && iy == ix) || [Kind.tmg, .sch, .blg, .msc, .tbl, .tcm].contains kx
    | .pg => ((kx == .ip || kx == .ep) && iy == ix) || [Kind.blg, .msc, .sch].contains kx
    | .tmg => [Kind.ip, .ep, .sch, .bpm, .drc, .ver, .blg, .hst].contains kx
    | .sch => [Kind.tmg, .blg, .ep].contains kx
    | .bpm => [Kind.tmg, .blg, .drc, .dma].contains kx
    | .drc | .dc => [Kind.tmg, .bpm, .blg, .dma, .drc, .dc].contains kx && x ≠ y
    | .blg => [Kind.sch, .tmg, .bpm, .drc, .pg, .ep].contains kx
    | .msc => [Kind.key, .pg, .ip, .ep].contains kx
    | .key => kx == .msc
    | .tbl => [Kind.tcm, .lrn, .ver, .evt, .dma, .ip, .ep].contains kx
    | .tcm => [Kind.tbl, .ip, .ep].contains kx
    | .lrn => [Kind.tbl, .evt, .hst].contains kx
    | .ver => [Kind.tbl, .tmg, .evt].contains kx
    | .dma => [Kind.hst, .drc, .bpm, .tbl].contains kx
    | .evt => [Kind.tbl, .lrn, .ver, .msc, .blg].contains kx
    | _ => false
  | _, _ => false

/-! ## Reactions (R348, R349, R354 to R357) -/

/-- The reaction RXVAL holds for a page's source (R349). -/
def State.reactionOf (s : State) (page src : Nat) : Nat :=
  match kindOf page, srcInfo page src with
  | some (k, _), some (_, d) => kgetD s.flt.react (k.base * 32 + src) d
  | _, _ => 0

/-- A reaction on a page waits for the one in progress there: an injected one for any, a real one for an injected one
(R358, log entry 91). -/
def State.reactWaits (s : State) (page seq : Nat) (inj : Bool) : Bool :=
  (inj && (s.blk page).st == .resetting) ||
    s.openRecs.any fun r => r.page == page && r.seq ≠ seq && (inj || r.inj) && !r.done && !s.fltWaits r

/-- It is put behind. -/
def State.fltWait (s : State) (page code seq : Nat) (inj : Bool) : State :=
  { s with flt := { s.flt with waits := s.flt.waits ++ [{ page := page, code := code, seq := seq, inj := inj }] } }

/-- A real event takes its own reaction: injected ones on its page that have not started are abandoned (R358). -/
def State.fltAbandon (s : State) (page : Nat) : State :=
  { s with flt := { s.flt with
    log := s.flt.log.map fun (e : Nat × FltRec) =>
      if e.2.page = page && e.2.inj && s.fltWaits e.2 then (e.1, { e.2 with abandoned := true, done := true }) else e,
    waits := s.flt.waits.filter fun w => w.page ≠ page || !w.inj } }

/-- The hub's reaction on a page. The record, where there is one, is `seq`. -/
def State.react (s : State) (page code seq : Nat) (inj handoff : Bool) : State :=
  match code with
  | 2 =>
    if !s.hasStates page then s.fltDone page [2]
    else if s.reactWaits page seq inj then s.fltWait page code seq inj
    else
      let s := (s.fltWindow page seq inj).setBlk page { s.blk page with fltq := true }
      let st := (s.blk page).st
      if st = .quiesced || st = .disabled then ((s.blkPoll page).fltDone page [2]).fltWinEnds page else s.blkPoll page
  | 3 | 4 =>
    let s := if !s.hasStates page then s.fltDone page [3, 4]
      else if s.reactWaits page seq inj then s.fltWait page code seq inj
      else (s.fltWindow page seq inj).softReset page
    if handoff then s.handoff else s
  | 5 => if s.dev.state = .reset || s.dev.state = .strap then s else s.fence 5
  | _ => s

/-- The fence count of a page (R357). -/
def State.fcount (s : State) (page : Nat) : Nat := (kgetD s.flt.fence page (0, 0)).1

/-- A counted primary record: the fence count after it, and whether the limit is reached. -/
def State.fcountUp (s : State) (page : Nat) : State × Bool :=
  let n := min 15 (s.fcount page + 1)
  let lim := s.f FLT.QUIET 19 16
  ({ s with flt := { s.flt with fence := kset s.flt.fence page (n, s.now) } }, lim ≠ 0 && n == lim)

/-- The open record that an event merges into (R353): of several, the oldest (log entry 34). -/
def State.mergesInto (s : State) (e : FltEv) (cls : Nat) : Option FltRec :=
  if cls = clFATAL then none
  else s.openRecs.find? fun r =>
    let own := s.flt.wins.any fun w => w.page == e.page && (!w.inj || e.inj)
    let still := s.flt.wins.any fun w => r.primref = some w.seq && neighbour w.page e.page && (!w.inj || e.inj)
    r.page == e.page && !r.inj && (!r.conseq || still) && (decide (cls ≤ r.cls) || own)

/-- The window that makes an event consequential (R354, R358): of several, the one that opened first (log entry 34). -/
def State.conseqOf (s : State) (e : FltEv) (cls : Nat) : Option Nat :=
  if cls = clFATAL then none
  else (s.flt.wins.find? fun w => neighbour w.page e.page && (!w.inj || e.inj)).map fun w => w.seq

/-- A record is written, or lost to a full log (R352). -/
def State.record (s : State) (r : FltRec) : State :=
  let s := if r.cls = clFATAL then
      { s with flt := { s.flt with fatal := true, first := some (s.flt.first.getD r) } }
    else s
  let s := if 1 ≤ r.react then s.irq pgFLT 0 else s
  if s.fltFull then (s.bump FLT.LOSTREC).irq pgFLT 1
  else { s with flt := { s.flt with
    log := kset s.flt.log (s.flt.next % 64) r, next := (s.flt.next + 1) % 256, corr := s.flt.corr || r.cls = clCORR } }

/-- The hub takes an event (R350 to R358). -/
def State.fltTake (s : State) (e : FltEv) : State :=
  match srcInfo e.page e.src with
  | none => s
  | some (cls, _) =>
    match s.mergesInto e cls with
    | some r =>
      let r' := { r with seccnt := min 65535 (r.seccnt + 1), sec := some (r.sec.getD (e.page, e.src)) }
      { s with flt := { s.flt with log := s.flt.log.map fun (x : Nat × FltRec) => if x.2 = r then (x.1, r') else x } }
    | none =>
      let base : FltRec := { seq := s.flt.next, page := e.page, src := e.src, cls := cls, inj := e.inj, time := s.tim.count,
                             devstate := s.dev.state.code, info := e.info }
      match s.conseqOf e cls with
      | some q => s.record { base with conseq := true, primref := some q, done := true }
      | none =>
        let code := s.reactionOf e.page e.src
        let up := if !e.inj && 2 ≤ code && code ≤ 4 then s.fcountUp e.page else (s, false)
        let s := up.1
        let code := if up.2 then 5 else code
        let ho := code = 4 && s.dev.state = .run && s.evtEn && s.mayHandoff
        let s := s.record { base with react := code, limit := up.2, foskip := code = 4 && !ho,
                                      done := code ≤ 1 || code = 5 }
        (if e.inj then s else s.fltAbandon e.page).react e.page code base.seq e.inj ho

/-- The event the hub takes next: by management clock, then FATAL first, then page, then source (R350). -/
def State.fltNext (s : State) : Option FltEv :=
  let key (e : FltEv) : Nat :=
    let c := match srcInfo e.page e.src with | some (c, _) => c | none => 0
    ((e.at_ / 4 * 4 + (3 - c)) * 256 + e.page) * 32 + e.src
  s.flt.events.foldl (fun a e => match a with | none => some e | some b => if key e < key b then some e else some b) none

/-- FAULT_EVENT (R350): a detection, if the command brings one, and then the hub takes one event. -/
def execFaultEvent (det : Option (PageId × Fin 32 × Word)) (s : State) : Host.Outcome State Fault Refusal :=
  .next (
    let s := match det with
      | some (p, i, w) => s.detect p.val i.val w
      | none => s
    match s.fltNext with
    | some e => ({ s with flt := { s.flt with events := s.flt.events.erase e } }).fltTake e
    | none => s)

/-! ## Injection (R358) -/

/-- A write of FLTFORCE. -/
def State.forceWr (s : State) (page : Nat) (w : Word) : State :=
  if !s.factory then s.badAcc
  else
    let hit := (List.range 32).filter fun i => w.getLsbD i
    let s := (hit.filter fun i => (srcInfo page i).isSome).foldl (fun t i => t.fire page i true 0) s
    if hit.any fun i => (srcInfo page i).isNone then s.badAcc else s

/-- FAULT_INJECT (R358). -/
def execFaultInject (page : PageId) (w : Word) (s : State) : Host.Outcome State Fault Refusal :=
  .next (s.hostWO (HDR.FLTFORCE page.val) w fun s => s.forceWr page.val w)

/-! ## FLT's registers (R349, R351, R352, R361) -/

/-- A write of ACK. -/
def State.fltAck (s : State) (w : Word) : State :=
  let seq := fld w 7 0
  match kget? s.flt.log (seq % 64) with
  | none => s.badAcc
  | some r =>
    if r.seq ≠ seq || !r.isOpen then s.badAcc
    else
      let s := { s with flt := { s.flt with log := kset s.flt.log (seq % 64) { r with acked := true } } }
      if r.react = 2 && !(s.openRecs.any fun x => x.react == 2 && x.page == r.page && x.seq ≠ seq) then
        (s.setBlk r.page { s.blk r.page with fltq := false }).blkPoll r.page
      else s

/-- FAULT_ACK (R352). -/
def execFaultAck (w : Word) (s : State) : Host.Outcome State Fault Refusal := .next (s.hostWO FLT.ACK w fun s => s.fltAck w)

/-- The page of the kind RXIDX names, and the source. -/
def State.rxIdx (s : State) : Nat × Nat := (s.f FLT.RXIDX 7 0, s.f FLT.RXIDX 12 8)

/-- The kind RXIDX.TYPE names: the page of its instance 0. -/
def typeKind (t : Nat) : Option Kind := match kindOf t with | some (k, i) => if i = 0 then some k else none | none => none

/-- A write of RXVAL (R349), RWS. -/
def State.rxvalWr (s : State) (who : Nat) (w : Word) : State :=
  let i := s.rxIdx
  let v := fld w 2 0
  match typeKind i.1, srcInfo i.1 i.2 with
  | some k, some (cls, _) =>
    if 5 < v || (cls = clFATAL && v ≠ 5) || ((v = 2 || v = 3) && alwaysOn i.1) then s.badAcc
    else if s.reactionOf i.1 i.2 = v then s
    else if !s.rwsFree who then s.sealReject (FLT.RXVAL (k.base * 32 + i.2))
    else
      let key := FLT.RXVAL (k.base * 32 + i.2)
      ({ s with flt := { s.flt with react := kset s.flt.react (k.base * 32 + i.2) v } }.setF key 2 0 v).cfgGen
  | _, _ => s.badAcc

/-- REACTION_WRITE (R349). -/
def execReactionWrite (w : Word) (s : State) : Host.Outcome State Fault Refusal :=
  .next (s.hostWr 196884 fun s => s.rxvalWr 0 w)

/-- RXVAL as it reads. -/
def State.rxvalRd (s : State) : Nat :=
  let i := s.rxIdx
  match typeKind i.1, srcInfo i.1 i.2 with
  | some _, some (cls, _) => s.reactionOf i.1 i.2 + cls * 8 + 32
  | _, _ => 0

/-- A read of REC0 or FREC0 latches the eight words. -/
def State.recLatch (s : State) (frozen : Bool) : State :=
  if frozen then
    { s with flt := { s.flt with firstLatch := match s.flt.first with | some r => r.words | none => List.replicate 8 0 } }
  else
    { s with flt := { s.flt with
      recLatch := match kget? s.flt.log (s.f FLT.RECSEL 5 0) with | some r => r.words | none => List.replicate 8 0 } }

/-- RECORD_READ (R351). -/
def execRecordRead (frozen : Bool) (s : State) : Host.Outcome State Fault Refusal :=
  .next (
    let s := s.recLatch frozen
    s.emit (.readData 0 ((if frozen then s.flt.firstLatch else s.flt.recLatch).headD 0)))

/-- STAT as it reads (R352, R359 to R361). -/
def State.fltStat (s : State) : Nat :=
  b2n s.fltActive + b2n s.flt.fatal * 2 + b2n s.fltFull * 4 + b2n (s.strap 6) * 8 + b2n s.flt.wireP * 16 +
    b2n s.flt.wireN * 32 + s.openRecs.length * 64

/-- The KD-1200 status word (R361). -/
def State.legacyWord (s : State) : Nat :=
  b2n s.fltActive + b2n s.flt.fatal * 2 + b2n s.flt.corr * 4 + b2n (s.flt.wireP || s.flt.wireN) * 8 +
    min 15 s.openRecs.length * 16 +
    (match s.openRecs with | r :: _ => r.page * 256 + r.src * 65536 + r.cls * 2097152 | [] => 0)

/-- A write of LEGCLR. -/
def State.legClr (s : State) (w : Word) : State :=
  let s := if fld w 0 0 = 1 then { s with flt := { s.flt with corr := false } } else s
  if fld w 1 1 = 1 then s.wr FLT.LOSTREC 0 else s

/-- LEGACY_CLEAR (R361). -/
def execLegacyClear (w : Word) (s : State) : Host.Outcome State Fault Refusal :=
  .next (s.hostWO FLT.LEGCLR w fun s => s.legClr w)

/-! ## Timers and pins (R354, R357, R360) -/

/-- A window is over. -/
def State.fltWinGone (s : State) (w : FltWin) : State := { s with flt := { s.flt with wins := s.flt.wins.erase w } }

/-- CONSEQ_WINDOW_END (R354): the page's window that ends first. -/
def execConseqWindowEnd (page : PageId) (s : State) : Host.Outcome State Fault Refusal :=
  .next (match s.flt.wins.find? fun w => w.page = page.val && w.ends.isSome with
    | some w => (s.until (w.ends.getD 0)).fltWinGone w
    | none => s)

/-- FENCE_COUNT_DECAY (R357). -/
def execFenceCountDecay (page : PageId) (s : State) : Host.Outcome State Fault Refusal :=
  .next (match kget? s.flt.fence page.val with
    | some (n + 1, t) =>
      let s := s.until (t + s.f FLT.QUIET 15 0 * 1000000)
      { s with flt := { s.flt with fence := kset s.flt.fence page.val (n, s.now) } }
    | _ => s)

/-- FAULT_PIN_SAMPLE (R360): the levels at the two pads, every 1 µs. -/
def execFaultPinSample (p n : Bool) (s : State) : Host.Outcome State Fault Refusal :=
  .next (
    let s := s.nextTick 1000
    let d := s.faultPins
    let f := s.flt
    let badP := if p ≠ d.1 then min 4 (f.badP + 1) else 0
    let badN := if n ≠ d.2 then min 4 (f.badN + 1) else 0
    let okP := if p = d.1 then min 4 (f.okP + 1) else 0
    let okN := if n = d.2 then min 4 (f.okN + 1) else 0
    let riseP := badP = 4 && f.badP ≠ 4
    let riseN := badN = 4 && f.badN ≠ 4
    let s := { s with flt := { f with
      badP := badP, badN := badN, okP := okP, okN := okN,
      wireP := if badP = 4 then true else if okP = 4 then false else f.wireP,
      wireN := if badN = 4 then true else if okN = 4 then false else f.wireN } }
    let s := if riseP then (s.irq pgFLT 2).fault pgFLT 2 else s
    if riseN then (s.irq pgFLT 2).fault pgFLT 3 else s)

end Sys2Proof.Machine
end

