-- ==== Sys2Proof/Machine/Pwr.lean ====
section
/-! DEFINITION. Supplies, temperature, the core regulator and the Snowplough (R363 to R370). -/

namespace Sys2Proof.Machine

/-! ## Supplies (R363, R364) -/

/-- The AVS setpoint in mV: before step 3 of R52 the 0.72 V of boot (R407). -/
def State.setpoint (s : State) : Nat := if s.dev.fused then s.f PWR.AVSSTAT 10 0 else 720

/-- Warning, fault and high level of a monitor: 0 the core rail, k + 1 VMONk; none where the monitor is not used. -/
def State.supplyTh (s : State) (i : Nat) : Option (Nat × Nat × Nat) :=
  if i = 0 then
    let v := s.setpoint
    let w := s.rd PWR.CORETH
    some (v - fld w 7 0, v - fld w 15 8, v + fld w 23 16)
  else if s.fb (PWR.VMONTH1 (i - 1)) 16 then
    some (s.f (PWR.VMONTH0 (i - 1)) 11 0, s.f (PWR.VMONTH0 (i - 1)) 27 16, s.f (PWR.VMONTH1 (i - 1)) 11 0)
  else none

/-- A run of samples that show a condition, after one more. -/
def runNext (m : KMap Nat) (i lim : Nat) (b : Bool) : KMap Nat :=
  kset m i (if b then min lim (kgetD m i 0 + 1) else 0)

/-- One monitor's sample; one that is not used has no runs. Else its three runs, and a fault for a run below fault or above high that has just become long
enough. -/
def State.supplyOne (s : State) (i v : Nat) : State :=
  let lim := max 1 (s.f PWR.FILT 3 0)
  match s.supplyTh i with
  | none => { s with pwr := { s.pwr with
      low := kerase s.pwr.low i, bad := kerase s.pwr.bad i, ovr := kerase s.pwr.ovr i,
      badFired := s.pwr.badFired.filter (fun x => x ≠ i), overFired := s.pwr.overFired.filter fun x => x ≠ i } }
  | some (w, f, h) =>
    let p := s.pwr
    let p := { p with low := runNext p.low i lim (decide (v < w)), bad := runNext p.bad i lim (decide (v < f)),
                      ovr := runNext p.ovr i lim (decide (h < v)) }
    let bad := kgetD p.bad i 0 = lim
    let ovr := kgetD p.ovr i 0 = lim
    let newBad := bad && !p.badFired.contains i
    let newOver := ovr && !p.overFired.contains i
    let s := { s with pwr := { p with
      badFired := (p.badFired.filter fun x => x ≠ i) ++ (if bad then [i] else []),
      overFired := (p.overFired.filter fun x => x ≠ i) ++ (if ovr then [i] else []) } }
    let s := if newBad then s.fault pgPWR 1 else s
    if newOver then s.fault pgPWR 2 else s

/-- Some monitor is below its warning level (R363). -/
def State.supplyLow (s : State) : Bool :=
  (List.range 9).any fun i => (s.supplyTh i).isSome && kgetD s.pwr.low i 0 == max 1 (s.f PWR.FILT 3 0)

/-- The states that a brownout holds (R57, R364). -/
def State.holdable (s : State) : Bool :=
  s.dev.state = .load || s.dev.state = .held || s.dev.state = .armed || s.dev.state = .run || s.dev.state = .standby

/-- The supply side of DEV.STATE after a sample (R364). -/
def State.supplyState (s : State) (was allOk : Bool) : State :=
  if s.pwr.brown then
    { s with pwr := { s.pwr with okAt := if allOk then some (s.pwr.okAt.getD s.now) else none } }
  else if !s.supplyLow then s
  else if s.holdable then
    let s := { s.bump PWR.BROWNCNT with pwr := { s.pwr with brown := true, okAt := none } }
    ((s.fault pgPWR 0).irq pgPWR 0).holdIn
  else if was then s
  else s.bump PWR.BROWNCNT

/-- SUPPLY_SAMPLE (R363, R364): the core rail and VMON0 to VMON7 in mV, every 1 µs. -/
def execSupplySample (core : Nat) (vmon : List Nat) (s : State) : Host.Outcome State Fault Refusal :=
  if vmon.length ≠ 8 || 2047 < core || (vmon.any fun v => decide (4095 < v)) then .fault .illFormed
  else .next (
    let s := s.nextTick 1000
    let was := s.supplyLow
    let vs := core :: vmon
    let s := s.setF PWR.CORE 10 0 core
    let s := (vmon.zip (List.range 8)).foldl (fun t e => t.setF (PWR.VMONVAL e.2) 11 0 e.1) s
    let s := (vs.zip (List.range 9)).foldl (fun t e => t.supplyOne e.2 e.1) s
    let hyst := s.f PWR.FILT 23 16
    let ok := (vs.zip (List.range 9)).all fun e => match s.supplyTh e.2 with
      | some (w, _, _) => decide (w + hyst ≤ e.1)
      | none => true
    s.supplyState was ok)

/-- HOLD_RESUME (R364): every monitor has stayed above warning + HYST for RESUMEDLY µs. -/
def execHoldResume (s : State) : Host.Outcome State Fault Refusal :=
  .next (match s.pwr.okAt with
    | some t =>
      if !s.pwr.brown then s
      else
        let s := s.until (t + s.f PWR.RESUMEDLY 19 0 * 1000)
        (({ s with pwr := { s.pwr with brown := false, okAt := none } }).holdOut).irq pgPWR 1
    | none => s)

/-! ## Temperature (R366) -/

/-- THERMAL_READ (R366): sixteen sensors, signed °C as bytes, every 100 µs. -/
def execThermalRead (temps : List Nat) (s : State) : Host.Outcome State Fault Refusal :=
  if temps.length ≠ 16 || (temps.any fun v => decide (255 < v)) then .fault .illFormed
  else .next (
    let s := s.nextTick 100000
    let best := (temps.zip (List.range 16)).foldl (fun (a : Int × Nat) e => if a.1 < sext 8 e.1 then (sext 8 e.1, e.2) else a)
      (-129, 0)
    let s := s.wr PWR.TEMP (BitVec.ofNat 32 ((BitVec.ofInt 8 best.1).toNat + best.2 * 256))
    let warn : Int := s.f PWR.THERM 7 0
    let crit : Int := s.f PWR.THERM 15 8
    let warnHit := decide (warn ≤ best.1) && !s.pwr.warm
    let critHit := decide (crit ≤ best.1) && !s.pwr.crit
    let s := { s with pwr := { s.pwr with
      warm := decide (warn ≤ best.1) || (s.pwr.warm && decide (warn - 5 < best.1)),
      crit := decide (crit ≤ best.1) || (s.pwr.crit && decide (crit - 5 < best.1)) } }
    let s := if warnHit then (s.irq pgPWR 2).fault pgPWR 4 else s
    if critHit then s.fault pgPWR 5 else s)

/-! ## The regulator (R367) -/

/-- The setpoint the fuses and TRIM call for. -/
def State.avsTarget (s : State) : Nat :=
  let v : Int := (s.fuses.mv : Int) + sext 6 (s.f PWR.AVSCFG 5 0)
  Int.toNat (max 660 (min 800 v))

/-- AVS_STEP (R365, R367, R407): from step 3 of R52 on, one step of at most 5 mV toward the setpoint called for, 100 µs after
the last; not in HOLD. A transaction that fails three times is AVSERR of FAULT_EVENT and leaves the setpoint as it was. -/
def execAvsStep (s : State) : Host.Outcome State Fault Refusal :=
  .next (
    if s.dev.state = .hold || !s.dev.fused || !s.fb PWR.AVSCFG 6 then s
    else
      let s := match s.pwr.avsAt with | some t => s.until (t + 100000) | none => s
      let s := { s with pwr := { s.pwr with avsAt := some s.now } }
      let v := s.f PWR.AVSSTAT 10 0
      let t := s.avsTarget
      let n := if v < t then min t (v + 5) else max t (v - 5)
      (s.setF PWR.AVSSTAT 10 0 n).setF PWR.AVSSTAT 27 27 (b2n (n ≠ t)))

/-- AVS_CURRENT_READ (R367, R368): every 100 µs the reading in A, or a transaction that failed three times. The reading
corrects the gain of I_est, whose value is open (log entry 35). -/
def execAvsCurrentRead (amps : Nat) (ok : Bool) (s : State) : Host.Outcome State Fault Refusal :=
  if 1023 < amps then .fault .illFormed
  else .next (
    let s := s.nextTick 100000
    if ok then s.setF PWR.CORE 25 16 amps else s.fault pgPWR 3)

/-! ## The Snowplough (R23, R368 to R370) -/

/-- The pistes whose slots are withheld in the window that begins now. -/
def State.withheld (s : State) : List Nat :=
  (List.range s.nPg).filter fun g => (kgetD s.pwr.bursts g {}).left ≠ 0

/-- A piste's burst begins with a number of slots, at 3 a nanosecond. Bursts are staggered: no two pistes' bursts begin in
one window, and a piste's begins 1 µs or more after the end of its last one (R23, R369). -/
def State.burstStart (s : State) (g slots : Nat) : State :=
  let mayBurst := match kget? s.pwr.bursts g with
    | some b => b.left = 0 && decide (b.until_ + 1000 ≤ s.now)
    | none => true
  if mayBurst && decide (g < s.nPg) then
    { s with pwr := { s.pwr with bursts := kset s.pwr.bursts g { left := slots, until_ := s.now + cdiv slots 3 } } }
  else s

/-- The 24 slots of each withheld piste that lie in the window pass, and are counted. -/
def State.burstGo (s : State) : State :=
  s.withheld.foldl (fun t g =>
    let b := kgetD t.pwr.bursts g {}
    let n := min 24 b.left
    let t := (t.addF PWR.WITHHELD 31 0 n).event (pgIP g) 0x105 n fun _ => true
    { t with pwr := { t.pwr with bursts := kset t.pwr.bursts g { b with left := b.left - n } } }) s

/-- A window whose activity would rise by more than the rise allowance: a burst on one piste and a deferral by SCH are
asked for. Which piste, how long, and whether SCH is asked are open (log entry 35). -/
def State.slowRise (s : State) (v : Nat) : State :=
  let s := s.burstStart (v / 1024 % 32) (v / 32768 % 120 + 1)
  if bit v 22 then
    let s := (s.bump PWR.DEFERS).bump SCH.SNOWDEFER
    { s with pwr := { s.pwr with defer := s.now + 40 } }
  else s

/-- What a window that the Snowplough governs does with an activity of `act` A: what withholding and deferral take off a
rise (`relief`, at most the excess), ballast (`spare` is what idle banks and slots can take), allowances and the overrun. -/
def State.plough (s : State) (act relief spare : Nat) : State :=
  let step := s.f PWR.SPCFG 15 8 * 1000
  let slew := s.f PWR.SPCFG 24 16 * 8
  let rise := min step (s.pwr.rise + slew)
  let fall := min step (s.pwr.fall + slew)
  let prev := s.pwr.iest
  let act := act - min relief (act - (prev + rise / 1000))
  let low := cdiv (prev * 1000 - fall) 1000
  let total := min 1023 (max (max act (s.f PWR.SPFLOOR 9 0)) (min low (act + spare)))
  let up := (total - prev) * 1000
  let down := (prev - total) * 1000
  let ovr := decide (rise < up) || decide (fall < down)
  let s := { s with pwr := { s.pwr with
    iest := total, rise := if rise < up then 0 else rise - up, fall := if fall < down then 0 else fall - down } }
  let s := (s.setF PWR.SPSTAT 9 0 total).setF PWR.SPSTAT 25 16 (total - act)
  let s := if act < total then
      let ns := s.pwr.ballastNs + 8
      let s := { s with pwr := { s.pwr with ballastNs := ns % 1000 } }
      (s.addF PWR.BALLASTUS 31 0 (ns / 1000)).event pgPWR 0x100 8 fun _ => true
    else s
  if ovr then ((s.bump PWR.SLEWOVER).irq pgPWR 3).fault pgPWR 6 else s

/-- Before DEV.STATE leaves STRAP (R406): an activity as the device ungates its core domains, by at most 15 A and 10 µs or
more after the last time, at most 180 A in all; a change never exceeds its allowance. -/
def State.ramp (s : State) (act : Nat) : State × Nat :=
  let prev := s.pwr.iest
  let may := s.pwr.rampAt.elim true fun t => decide (t + 10000 ≤ s.now)
  let up := min 180 (prev + (if may then 15 else 0))
  let fall := min (s.f PWR.SPCFG 15 8 * 1000) (s.pwr.fall + s.f PWR.SPCFG 24 16 * 8)
  let n := max (prev - fall / 1000) (min up act)
  (if prev < n then { s with pwr := { s.pwr with rampAt := some s.now } } else s, n)

/-- SNOWPLOUGH_WINDOW (R368 to R370): the next 8 ns window. The activity behind I_est, what throttling takes off it and
the ballast that idle resources can carry are values the spec leaves open (log entry 35); throttling starts only on a rise
beyond its allowance, and bursts and deferrals keep the limits of R23 and R223. -/
def execSnowploughWindow (s : State) : Host.Outcome State Fault Refusal :=
  .next (
    let s := s.nextTick 8
    let d := s.drawFree
    let s := d.2
    let v := d.1.toNat
    let x := if s.initialising then s.ramp (v % 1024) else (s, v % 1024)
    let s := x.1
    let act := x.2
    if !s.fb PWR.SPCFG 0 then
      let bursts := s.pwr.bursts.map fun (e : Nat × SnowBurst) => (e.1, { e.2 with left := 0, until_ := min e.2.until_ s.now })
      let s := { s with pwr := { s.pwr with iest := act, bursts := bursts } }
      s.wr PWR.SPSTAT (BitVec.ofNat 32 act)
    else
      let rise := min (s.f PWR.SPCFG 15 8 * 1000) (s.pwr.rise + s.f PWR.SPCFG 24 16 * 8)
      let s := if rise < (act - s.pwr.iest) * 1000 then s.slowRise v else s
      let on := !s.withheld.isEmpty || decide (s.now < s.pwr.defer)
      let s := s.burstGo.plough act (if on then v / 8388608 % 1024 else 0) (v / 8589934592 % 1024)
      s.setF PWR.SPSTAT 26 26 (b2n on))

end Sys2Proof.Machine
end

