-- ==== Sys2Proof/Machine/RegRead.lean ====
section
/-! DEFINITION. Reading registers: what each reads as (R8, R34, R36, R39, R47, R48, R72), and what a read does besides (the
latches of R7 and of the registers that latch others). A register that shows state held elsewhere reads as that state;
every other reads as stored, its WO fields as 0. -/

namespace Sys2Proof.Machine

/-! ## The common header (R36) -/

/-- BLKCAP0 and BLKCAP1. -/
def State.blkCaps (s : State) (k : Kind) : Nat × Nat :=
  match k with
  | .ip => (0x04007E10, 0)
  | .ep => (0x10000008, 0)
  | .tmg => (0xC0000, 0x20000)
  | .bpm => (s.basinPages, 0x4000)
  | .sch => (0x2000, 0x020000A0)
  | .blg => (0x41020, 0x4000)
  | .msc => (0x20001000, 0x80004000)
  | .key => (0x10000, 0)
  | .drc => (0x60300, 0)
  | .dc => (24 + 16 * 256 + (if s.nCh = 0 then 0 else s.basinGiB * 1024 / s.nCh) * 65536, 0)
  | .hst => (0x00400840, 0)
  | .dma => (0x01000020, 0)
  | .ver => (0x10, 0)
  | .evt => (0x40000004, 0)
  | .cnt => (0x800, 0x800)
  | _ => (0, 0)

/-- BLKSTAT. -/
def State.blkStat (s : State) (p : Nat) : Nat :=
  let b := s.blk p
  if alwaysOn p then 1 + b2n s.initialising * 4
  else b2n (s.running p) + b2n (b.st = .quiesced || b.st = .disabled) * 2 + b2n (s.busy p) * 4 + b2n b.fltq * 8 + b2n b.qto * 16

/-- Header registers that are not read as stored. -/
def State.viewHdr (s : State) (p o : Nat) : Option Nat :=
  match kindOf p with
  | none => none
  | some (k, i) =>
    if o = 0 then some (k.base + i * 256 + p * 65536 + 2147483648)
    else if o = 8 then some (s.blkCaps k).1
    else if o = 12 then some (s.blkCaps k).2
    else if o = 16 && alwaysOn p then some 1
    else if o = 20 then some (s.blkStat p)
    else none

/-! ## Pages -/

def hi32 (n : Nat) : Nat := n / 4294967296

/-- DEV (R39, R72). -/
def State.viewDev (s : State) (o : Nat) : Option Nat :=
  let part := s.fuses.part
  if o = 0x104 then some s.fuses.serial.toNat
  else if o = 0x108 then some (hi32 s.fuses.serial.toNat)
  else if o = 0x10C then
    some (b2n (part ≠ .kd3200n) * 3 + b2n (part ≠ .kd3200s) * 4 + 8 + s.nPg * 16 + s.nPg * 512 + s.nCh * 16384)
  else if o = 0x110 then some (63 + 32 * 64 + 16 * 4096 + s.basinCap * 131072 + b2n s.factory * 1048576)
  else if o = 0x180 then
    some (s.dev.state.code + (match s.dev.prev with | some d => d.code | none => 0) * 16 + b2n s.dev.sealed * 256
      + b2n s.squelch * 512)
  else if o = 0x184 then some s.dev.straps.toNat
  else none

/-- FLT (chapter 15). -/
def State.viewFlt (s : State) (o : Nat) : Option Nat :=
  if o = 0x104 then some s.fltStat
  else if o = 0x114 then some s.rxvalRd
  else if o = 0x124 then some (s.fcount (s.f FLT.FCIDX 7 0))
  else if o = 0x128 then some s.legacyWord
  else if 0x140 ≤ o && o < 0x160 then some (s.flt.recLatch.getD ((o - 0x140) / 4) 0).toNat
  else if 0x160 ≤ o && o < 0x180 then some (s.flt.firstLatch.getD ((o - 0x160) / 4) 0).toNat
  else none

/-- The accumulators GIDX names: live and snapshot (R391, R394). -/
def State.gaugeShown (s : State) : Nat × Nat :=
  let i := s.f CNT.GIDX 10 0
  if s.present (i / 8) then ((s.gacc i).acc, (s.gacc i).snap) else (0, 0)

/-- CNT. -/
def State.viewCnt (s : State) (o : Nat) : Option Nat :=
  if o = 0x104 then some (b2n s.cnt.snap.isSome + s.f CNT.STAT 2 1 * 2 + b2n s.cnt.freeze.isSome * 8)
  else if o = 0x144 then some s.gaugeShown.1
  else if o = 0x148 then some (hi32 s.gaugeShown.1)
  else if o = 0x14C then some s.gaugeShown.2
  else if o = 0x150 then some (hi32 s.gaugeShown.2)
  else none

/-- DMA (R334, R343). -/
def State.viewDma (s : State) (o : Nat) : Option Nat :=
  if o = 0x100 then some s.dmaStat
  else if 0x1000 ≤ o && o < 0x1800 && o % 64 = 0x3C then some (s.dmaOwner ((o - 0x1000) / 64))
  else none

/-- TIM: the count and the PPS capture, and the fractions that a read of the low word latched. -/
def State.viewTim (s : State) (o : Nat) : Option Nat :=
  if o = 0x104 then some s.tim.count.toNat
  else if o = 0x108 then some (hi32 s.tim.count.toNat)
  else if o = 0x10C then some s.tim.nowLatch.toNat
  else if o = 0x124 then some (s.f TIM.STEPCTL 1 1 * 2 + b2n s.tim.step.isSome * 4)
  else if o = 0x128 then some s.tim.ppsCap.1.toNat
  else if o = 0x12C then some (hi32 s.tim.ppsCap.1.toNat)
  else if o = 0x130 then some s.tim.ppsLatch.toNat
  else none

/-- EVT. -/
def State.viewEvt (s : State) (o : Nat) : Option Nat :=
  if o = 0x124 then some ((ins (s.rd EVT.STAT) 11 11 (b2n s.pinOut)).toNat)
  else if o = 0x12C then some s.evt.journal.length
  else if o = 0x130 then some s.evt.jseq
  else none

/-- KEY (R282, R290). -/
def State.viewKey (s : State) (o : Nat) : Option Nat :=
  if o = 0x104 then some (s.kloaded + b2n s.fuses.ds.isNone * 131072 + s.f KEY.STAT 18 18 * 262144)
  else if o = 0x124 then some (s.kinfo (s.f KEY.SLOTSEL 15 0))
  else none

/-- BPM. -/
def State.viewBpm (s : State) (o : Nat) : Option Nat :=
  if o = 0x108 then some s.basinPages
  else if o = 0x10C then some s.managed
  else if o = 0x110 then some s.freePages
  else if o = 0x118 then some s.bpmStat
  else none

/-- DRC (R310, R320). -/
def State.viewDrc (s : State) (o : Nat) : Option Nat :=
  let use (h : Nat) := (List.range 6).foldl (fun a p => a + s.tags p h) 0
  if o = 0x104 then some s.drcStat
  else if o = 0x12C then some (use 0 + s.f DRC.TAGUSE_E 25 16 * 65536)
  else if o = 0x130 then some (use 1 + s.f DRC.TAGUSE_W 25 16 * 65536)
  else if o = 0x134 then some (s.wbuf 0)
  else if o = 0x138 then some (s.wbuf 1)
  else if 0x400 ≤ o && o < 0x580 && o % 64 = 0x20 then
    some (s.tags ((o - 0x400) / 64) 0 + s.tags ((o - 0x400) / 64) 1 * 65536)
  else none

/-- TMG. -/
def State.viewTmg (s : State) (o : Nat) : Option Nat :=
  let q := s.f TMG.QIDX 16 0
  if o = 0x114 then some s.sharedFree
  else if o = 0x118 then some s.tarnUsed
  else if o = 0x11C then some s.tmgPages
  else if o = 0x120 then some s.tmgStat
  else if o = 0x1808 then some (s.qCells q)
  else if o = 0x180C then some (s.tq q).pages
  else if o = 0x1810 then some (s.qState q)
  else if o = 0x184C then some (s.rd (bankKey TMG.MCENT0 (s.f TMG.MCEIDX 17 0))).toNat
  else if 0x1A04 ≤ o && o < 0x1A40 then some (s.tmg.pcLatch.getD ((o - 0x1A04) / 4) 0)
  else none

/-- SCH. -/
def State.viewSch (s : State) (o : Nat) : Option Nat :=
  if o = 0x220 then some s.sch.nodeLvl.1.toNat
  else if o = 0x224 then some s.sch.nodeLvl.2.toNat
  else if o = 0x2D8 then some s.sch.polLvl.1.toNat
  else if o = 0x2DC then some s.sch.polLvl.2.toNat
  else if 0x1000 ≤ o && o < 0x2400 && o % 32 = 0x18 then some (s.pstat ((o - 0x1000) / 32))
  else if 0x1000 ≤ o && o < 0x2400 && o % 32 = 0x1C then some (s.dmax ((o - 0x1000) / 32))
  else if 0x3000 ≤ o && o < 0x5000 && o % 16 = 0xC then some (lvlWord (s.levels (shCap ((o - 0x3000) / 16))).1).toNat
  else if 0x6000 ≤ o && o < 0x7400 && o % 32 = 0 then some (s.gatectl ((o - 0x6000) / 32))
  else none

/-- BLG. -/
def State.viewBlg (s : State) (o : Nat) : Option Nat :=
  if o = 0x114 then some s.eddyUse
  else if 0x1000 ≤ o && o < 0x9000 then
    let g := (o - 0x1000) / 1024
    let d := (o - 0x1000) % 1024
    if d = 0x18 then some (s.f (BLG.GSTAT g) 1 0 + s.txAct g * 65536)
    else if d = 0x1C then some (s.rxMask g + s.f (BLG.MASKS g) 31 16 * 65536)
    else if d = 0x20 then some (s.eddyPages g)
    else if d = 0x24 then some (s.eddyCells g)
    else if 0x100 ≤ d && d < 0x300 && d % 32 = 8 then some (s.mstat g ((d - 0x100) / 32))
    else none
  else none

/-- ENTRIES: slots of a partition with VALID 1, in both ways. -/
def State.entries (s : State) (h p : Nat) : Nat :=
  let t := s.half h
  let q := s.partn h p
  (t.partRows q).foldl (fun a mr => a + ((List.range (fmtN q.fmt)).filter fun i =>
    bit (entCtl (t.row mr.1 mr.2) q.fmt i) 17).length) 0

/-- TBL. -/
def State.viewTbl (s : State) (o : Nat) : Option Nat :=
  if o = 0x108 then some (ins (ins (s.rd TBL.CMDSTAT) 23 13 s.tbl.tags.length) 12 12 (b2n s.foldWaiting)).toNat
  else if o = 0x11C then some s.tbl.east.fold.length
  else if o = 0x120 then some s.tbl.west.fold.length
  else if 0x300 ≤ o && o < 0x34C then some (s.cmplWord ((o - 0x300) / 4)).toNat
  else if 0x1000 ≤ o && o < 0x2000 && o % 2048 < 512 && o % 32 = 0x10 then
    some (s.entries ((o - 0x1000) / 2048) (o % 2048 / 32))
  else none

/-- LRN. -/
def State.viewLrn (s : State) (o : Nat) : Option Nat :=
  if o = 0x214 then some s.tbl.east.notices.length
  else if o = 0x294 then some s.tbl.west.notices.length
  else none

/-- MSC: the counts that SECYIDX and SAIDX latched. -/
def State.viewMsc (s : State) (o : Nat) : Option Nat :=
  if 0x220 ≤ o && o < 0x240 then some (s.msc.secyLatch.getD ((o - 0x220) / 4) 0).toNat
  else if 0x320 ≤ o && o < 0x330 then some (s.msc.saLatch.getD ((o - 0x320) / 4) 0).toNat
  else none

/-- VER (R158). -/
def State.viewVer (s : State) (o : Nat) : Option Nat :=
  if o = 0x104 then some s.verStat else if o = 0x108 then some s.ver.slotState else none

/-- A port group. -/
def State.viewPg (s : State) (g o : Nat) : Option Nat :=
  let e := (s.pg g).tsfLatch
  if 0x200 ≤ o && o < 0x400 && o % 64 = 0x10 then some (s.portStat (g * 8 + (o - 0x200) / 64))
  else if o = 0x400 then some (s.tsfTag g)
  else if o = 0x404 then some (match e with | some e => e.ns | none => 0)
  else if o = 0x408 then some (match e with | some e => e.secs | none => 0)
  else if o = 0x40C then some (match e with | some e => hi32 e.secs | none => 0)
  else if o = 0x414 then some ((s.pg g).tsf.length + s.f (PG.TSFSTAT g) 15 8 * 256)
  else if o = 0x500 then some ((ins (s.rd (PG.MOGCTL g)) 1 1 (b2n (s.mogActive g))).toNat)
  else none

/-- A register that shows state held elsewhere. -/
def State.view (s : State) (p o : Nat) : Option Nat :=
  if o < 256 then s.viewHdr p o
  else match kindOf p with
    | some (.dev, _) => s.viewDev o
    | some (.flt, _) => s.viewFlt o
    | some (.cnt, _) => s.viewCnt o
    | some (.dma, _) => s.viewDma o
    | some (.tim, _) => s.viewTim o
    | some (.evt, _) => s.viewEvt o
    | some (.key, _) => s.viewKey o
    | some (.bpm, _) => s.viewBpm o
    | some (.drc, _) => s.viewDrc o
    | some (.tmg, _) => s.viewTmg o
    | some (.sch, _) => s.viewSch o
    | some (.blg, _) => s.viewBlg o
    | some (.tbl, _) => s.viewTbl o
    | some (.lrn, _) => s.viewLrn o
    | some (.msc, _) => s.viewMsc o
    | some (.ver, _) => s.viewVer o
    | some (.pg, g) => s.viewPg g o
    | some (.ep, g) =>
      if o = 0x110 then some ((s.ep g).lift.foldl (fun a k => a + k.len) 0) else none
    | some (.dc, n) => if o = 0x100 then some ((ins (s.rd (DC.DCSTAT n)) 10 8 (n % 8)).toNat) else none
    | _ => none

/-! ## One word -/

/-- The store key of a register of a page: the entry that its index register selects, where it has one. -/
def State.regKey (s : State) (p o : Nat) (r : Row) : Nat :=
  match r.bank with
  | some ix => bankKey (p * 65536 + o) (s.rd (p * 65536 + ix)).toNat
  | none => p * 65536 + o

/-- What a BAR0 word reads as (R3, R8, R33, R34). -/
def State.peek (s : State) (p o : Nat) : Word :=
  if !s.present p then 0
  else match s.view p o with
    | some v => BitVec.ofNat 32 v
    | none =>
      match pageRow p o with
      | some r => r.noWO (s.rd (s.regKey p o r))
      | none => 0

/-! ## User pages (R47, R48, R397) -/

/-- A word of a user page: the value, or none where the resource is not assigned to the user (R48). -/
def State.userPeek (s : State) (u o : Nat) : Option Nat :=
  let whole (k : Nat) : Nat := (match findRow rowsUSER o with | some r => r.noWO (s.rd k) | none => 0).toNat
  if o = 0 then some (u + 2147483648)
  else if o = 4 then
    some (b2n (s.userCh u).isSome + s.f (HST.FUNC u) 13 6 * 2 + (if s.present pgMSC then s.ctxCount u else 0) * 512)
  else if o = 0x10 then some s.dev.state.code
  else if o < 0x1000 then some (whole (bar2Key u o))
  else if o < 0x2000 then
    match s.userCh u with
    | some c => if o < 0x1030 then some (s.peek pgDMA (0x1000 + c * 64 + (o - 0x1000))).toNat else some 0
    | none => none
  else if o < 0x4000 then
    if !s.qpMask u ((o - 0x2000) / 1024) then none
    else if o % 1024 = 0x18 then some (s.qpStat u ((o - 0x2000) / 1024))
    else some (whole (bar2Key u o))
  else if o < 0x4100 then
    if !s.present pgKEY then some 0
    else if o = 0x4000 then some (s.kcount u)
    else if o = 0x4060 then
      let l := s.f (USER.KSLOTSEL u) 15 0
      if s.kRange u l then some (s.kinfo (s.kbase u + l) % 65536) else none
    else some (whole (bar2Key u o))
  else if o < 0x8000 then
    if !s.present pgMSC then some 0
    else if o = 0x4100 then some (s.rd (USER.CTXIDX u)).toNat
    else if 0x4128 ≤ o then some 0
    else match s.curCtx u with
      | none => none
      | some sa =>
        if o = 0x4104 then some (s.ctxInfo u)
        else if o = 0x4108 then some ((s.saSlot sa + 65536 - s.kbase u) % 65536 + b2n (s.saInUse sa) * 65536)
        else if o = 0x410C then some (s.nextPn sa)
        else if o = 0x4110 then some (hi32 (s.nextPn sa))
        else if o = 0x4114 then some (s.rd (MSC.SSCI sa)).toNat
        else some (s.rd (bankKey (MSC.SACNT ((o - 0x4118) / 4)) sa)).toNat
  else if o < 0x9000 then
    match s.grant u ((o - 0x8000) / 16) with
    | none => none
    | some k =>
      let a := s.gacc k
      if !s.present (k / 8) then some 0
      else match o % 16 with
        | 0 => some a.acc
        | 4 => some (hi32 a.acc)
        | 8 => some a.snap
        | _ => some (hi32 a.snap)
  else if o = 0x9000 then some (s.rd CNT.SNAPINST_LO).toNat
  else if o = 0x9004 then some (s.rd CNT.SNAPINST_HI).toNat
  else if o = 0x9008 then some (s.rd CNT.SNAPSEQ).toNat
  else some 0

/-- A word of BAR4: the ring indices, under R48 as the user page (R329). -/
def State.idxPeek (s : State) (u o : Nat) : Option Nat :=
  if !s.qpMask u (o / 8192) then none
  else match findRow rowsIDX o with
    | some _ => some (s.rd (bar4Key u o)).toNat
    | none => some 0

/-! ## Accesses -/

/-- The access path of a function, the I2C slave or the loader (R42). -/
def State.path (s : State) (who : Nat) : Access := kgetD s.acc who {}
def State.setPath (s : State) (who : Nat) (a : Access) : State := { s with acc := kset s.acc who a }

/-- The words that a read of this register latches for other registers. -/
def State.readLatch (s : State) (p o : Nat) : State :=
  if !s.present p then s
  else match kindOf p with
    | some (.tim, _) =>
      if o = 0x104 then
        { s with tim := { s.tim with nowLatch := s.tim.frac } }
      else if o = 0x128 then
        { s with tim := { s.tim with ppsLatch := s.tim.ppsCap.2 } }
      else s
    | some (.pg, g) => if o = 0x400 then s.tsfLatch g else s
    | some (.tbl, _) => if o = 0x300 then s.cmplLatch else s
    | some (.flt, _) => if o = 0x140 then s.recLatch false else if o = 0x160 then s.recLatch true else s
    | _ => s

/-- A read through the latch of R7: `key` is the register's, `low` and `high` its row and the row before it. -/
def State.latched (s : State) (who key : Nat) (low high : Bool) (v hi : Word) : Word × State :=
  let a := s.path who
  if low then (v, s.setPath who { a with latch := some (key, hi) })
  else if high then
    match a.latch with
    | some (k, w) => (if k = key - 4 then w else v, s)
    | none => (v, s)
  else (v, s)

/-- The row is the low word of a pair. -/
def isLow (r : Option Row) : Bool := match r with | some r => r.pair | none => false

/-- The page of the unit behind an offset of a user page: the always-on HST where there is none. -/
def userUnit (o : Nat) : Nat :=
  if 0x1000 ≤ o && o < 0x2000 then pgDMA
  else if 0x4000 ≤ o && o < 0x4100 then pgKEY
  else if 0x4100 ≤ o && o < 0x8000 then pgMSC
  else if 0x8000 ≤ o then pgCNT
  else pgHST

/-- One 32-bit read of BAR0. On an absent page a low word latches 0 and a high word reads 0 (R3, R34). -/
def State.read0 (s : State) (who p o : Nat) : Word × State :=
  let s := s.readLatch p o
  s.latched who (p * 65536 + o) (isLow (pageRow p o)) (4 ≤ o && s.present p && isLow (pageRow p (o - 4))) (s.peek p o) (s.peek p (o + 4))

/-- One 32-bit read of function u's user page; a denied one reads 0 and counts (R48), and an absent unit's reads
as an absent page does (R4, R34). -/
def State.read2 (s : State) (u o : Nat) : Word × State :=
  let x := s.userPeek u o
  let s := if x.isSome then s else s.denied u
  let w (x : Option Nat) : Word := BitVec.ofNat 32 (x.getD 0)
  s.latched u (bar2Key u o) (isLow (findRow rowsUSER o)) (4 ≤ o && s.present (userUnit o) && isLow (findRow rowsUSER (o - 4))) (w x) (w (s.userPeek u (o + 4)))

/-- One 32-bit read of function u's BAR4. -/
def State.read4 (s : State) (u o : Nat) : Word × State :=
  match s.idxPeek u o with
  | some v => (BitVec.ofNat 32 v, s)
  | none => (0, s.denied u)

/-- A malformed access to BAR0 or BAR2 (R31). -/
def State.malformed (s : State) : State := s.badAcc.irq pgDEV 1

/-- PAIR_LOW_READ (R7): a host's read of the low word of a pair, as of any register; an unaligned one is malformed (R31). A
PF read of HOSTALLOC asks for a page (R212). -/
def execPairLowRead (fn : Fn) (bar : Sys2Proof.Bar) (off : Offset) (s : State) : Host.Outcome State Fault Refusal :=
  let u := fn.val
  let o := off.toNat
  let send (x : Word × State) : State := x.2.emit (.readData u x.1)
  match bar with
  | .bar0 =>
    .next (if u ≠ 0 then s
      else if o % 4 ≠ 0 then (s.malformed).emit (.readData u 0)
      else if o = BPM.HOSTALLOC then s.hostAlloc
      else send (s.read0 0 (o / 65536) (o % 65536)))
  | .bar2 =>
    if 65536 ≤ o then .fault .illFormed
    else .next (if !s.fnHere u then s
      else if o % 4 ≠ 0 then (s.malformed).emit (.readData u 0)
      else send (s.read2 u o))
  | .bar4 =>
    if 65536 ≤ o || o % 4 ≠ 0 then .fault .illFormed
    else .next (if !s.fnHere u then s else send (s.read4 u o))

/-- MALFORMED_ACCESS (R31): the requested length of zero bytes, or a dropped write. -/
def execMalformedAccess (fn : Fn) (access : BadAccess) (s : State) : Host.Outcome State Fault Refusal :=
  .next (if !s.fnHere fn.val then s
    else match access with
      | .write => s.malformed
      | .read len => s.malformed.emit (.readBytes fn.val (List.replicate len.val 0)))

end Sys2Proof.Machine
end

