-- ==== Sys2Proof/Machine/Reset.lean ====
section
/-! DEFINITION. Reset: RESET_N and the start-up steps of R52, the full reset (R53), and the resets of the host side (R54,
R344). -/

namespace Sys2Proof.Machine

/-! ## RESET_N and the full reset (R51 to R53) -/

/-- Every block, the timebase and PCIe are reset and DEV.STATE is RESET. What the board and the die hold stays: the fuses,
the latched straps, the JTAG instruction and the level at PEER_ACTIVE_IN. `internal` is the model time at which a full
reset's internal reset ends. -/
def State.cleared (s : State) (internal : Option Nat) : State :=
  ({ fuses := s.fuses, dev := { straps := s.dev.straps, i2cAddr := s.dev.i2cAddr, internal := internal }, now := s.now,
     out := s.out, free := s.free, jtag := s.jtag, pending := s.pending } : State).setF EVT.STAT 12 12 (s.f EVT.STAT 12 12)

/-- Boundary-scan instructions that act only while RESET_N is low (R414). -/
def isScan : JtagInstr → Bool
  | .extest | .extestPulse | .extestTrain | .clamp | .highz => true
  | _ => false

/-- RESET_N is low. -/
def State.resetLow (s : State) : Bool := s.dev.state = .reset && s.dev.internal.isNone

/-- RESET ends in STRAP, and the timebase counts from 0 (R57, R82). -/
def State.leaveReset (s : State) : State :=
  ({ s with dev := { s.dev with internal := none }, tim := { s.tim with count := 0, frac := 0 } }).enterDev .strap

/-- RESET_N_ASSERT (R51). -/
def execResetNAssert (s : State) : Host.Outcome State Fault Refusal := .next (s.cleared none)

/-- RESET_N_RISE (R52, step 1): the straps are latched. A boundary-scan instruction ends, and a private one where FACTORY is
now 0 (R414). -/
def execResetNRise (pins : ResetPins) (s : State) : Host.Outcome State Fault Refusal :=
  .next (if s.resetLow then
      ({ s with
        dev := { s.dev with straps := pins.straps, i2cAddr := pins.i2c.val }
        jtag := if isScan s.jtag || (s.jtag = JtagInstr.priv && !pins.straps.getLsbD 10) then .bypass else s.jtag }).leaveReset
    else s)

/-- RESET_INTERNAL_ELAPSED (R53, R57): 10 µs into a full reset. -/
def execResetInternalElapsed (s : State) : Host.Outcome State Fault Refusal :=
  .next (match s.dev.internal with
    | some t => if s.dev.state = .reset then (s.until t).leaveReset else s
    | none => s)

/-- A write of DEV.RSTCTL (R53). -/
def State.rstctlWr (s : State) (w : Word) : State :=
  if s.dev.state = .reset then s
  else if fld w 15 0 = 0xC1EA then s.cleared (some (s.now + 10000)) else s.badAcc

/-- FULL_RESET (R53, R65): in every DEV.STATE. -/
def execFullReset (w : Word) (s : State) : Host.Outcome State Fault Refusal := .next (s.rstctlWr w)

/-- PLLS_LOCKED (R52, step 2). With SRC 0 the timebase PLL locks to CORE_REFCLK. -/
def execPllsLocked (s : State) : Host.Outcome State Fault Refusal :=
  .next (if s.dev.state = .strap && !s.dev.plls then
      ({ s with dev := { s.dev with plls := true } }).setB TIM.STAT 0
    else s)

/-- FENCE.REASON of a strap error; 0 where there is none (R56). -/
def State.strapCheck (s : State) : Nat :=
  let v := s.dev.straps.toNat
  if v % 4 = 3 || v / 256 % 4 = 3 || v / 16384 ≠ 0 || (v / 4096 % 4 = 3 && s.strap 7 && s.nCh ≠ 0) then 1
  else if s.factory && s.secureBoot then 2
  else if s.secureBoot && v % 4 = 0 then 3
  else 0

/-- FUSE_READ (R52, step 3; R367, R407): the straps are checked, and the setpoint takes its first step from the 0.72 V of
boot, or its AVSBus transaction fails three times. -/
def execFuseRead (avsOk : Bool) (s : State) : Host.Outcome State Fault Refusal :=
  .next (if s.dev.state = .strap && s.dev.plls && !s.dev.fused then
      let s := { s with
        dev := { s.dev with fused := true, strapErr := s.strapCheck }, pwr := { s.pwr with avsAt := some s.now } }
      let s := (s.setF PWR.AVSSTAT 26 16 s.fuses.mv).setF PWR.AVSSTAT 10 0 720
      let t := s.avsTarget
      if avsOk then
        let n := if 720 < t then min t 725 else max t 715
        (s.setF PWR.AVSSTAT 10 0 n).setF PWR.AVSSTAT 27 27 (b2n (n ≠ t))
      else (s.setF PWR.AVSSTAT 27 27 (b2n (t ≠ 720))).fault pgPWR 3
    else s)

/-- PCIE_DETECT (R52, step 4). -/
def execPcieDetect (s : State) : Host.Outcome State Fault Refusal :=
  .next (if s.dev.fused then { s with dev := { s.dev with detect := true } } else s)

/-- INIT_COMPLETE (R52, step 5; R56, R57). -/
def execInitComplete (s : State) : Host.Outcome State Fault Refusal :=
  .next (if s.dev.state = .strap && s.dev.fused then
      let s := s.zeroizeAll
      if s.dev.strapErr ≠ 0 then s.fence s.dev.strapErr
      else if s.boot = 0 then s.enterDev .held
      else
        let s := { s with dev := { s.dev with loader := { phase := .reading } } }
        (s.wr DEV.LOADSTAT 1).enterDev .load
    else s)

/-- PCIE_CONFIG_READY (R52, step 6). -/
def execPcieConfigReady (s : State) : Host.Outcome State Fault Refusal :=
  .next (if s.dev.detect && !s.initialising then { s with dev := { s.dev with cfgReady := true } } else s)

/-! ## The host side (R54, R344) -/

/-- A register's word with every field but the RWS ones at its reset value. -/
def Row.rwsOnly (r : Row) (w : Word) : Word :=
  r.fields.foldl (fun a f => if f.acc == .rws then a else ins a f.hi f.lo f.reset) w

/-- Every register of a page but its RWS fields and those of `keep` returns to its reset value. -/
def State.pageReset (s : State) (p : Nat) (keep : List Nat) : State :=
  (s.listed (p * 65536) (p * 65536 + 65536)).foldl (fun t e =>
    if keep.contains e.1 then t
    else match pageRow p (e.1 % 65536) with
      | some r => t.wr e.1 (r.rwsOnly e.2)
      | none => t) s

/-- Registers whose keys lie in a range return to their reset values. -/
def State.rangeReset (s : State) (lo hi : Nat) : State :=
  { s with regs := s.regs.filter fun e => e.1 < lo || hi ≤ e.1 }

/-- The transfer and the registers of a channel are reset. -/
def State.chanReset (s : State) (c : Nat) : State :=
  (s.dmaAbort c).rangeReset (DMA.DCTL c) (DMA.DCTL c + 64)

/-- BAR2 and BAR4 of function u, and the result of its import. -/
def State.fnReset (s : State) (u : Nat) : State :=
  let s := (s.rangeReset (bar2Key u 0) (bar2Key u 65536)).rangeReset (bar4Key u 0) (bar4Key u 65536)
  { s with
    key := { s.key with imports := s.key.imports.map fun i => if i.fn = u then { i with lost := true } else i }
    hst := { s.hst with
      sent := s.hst.sent.filter (fun e => e.1 / 8 ≠ u), waits := s.hst.waits.filter (fun k => k / 8 ≠ u),
      fetched := s.hst.fetched.filter (fun e => e.1 / 8 ≠ u), qLast := kerase s.hst.qLast u }
    acc := kerase s.acc u }

/-- A reset of the whole host side: HST, DMA, every function's BAR2 and BAR4, and the latches of R7. -/
def State.hostSideReset (s : State) : State :=
  let s := (List.range 32).foldl (fun t c => t.chanReset c) s
  let s := (List.range 64).foldl (fun t u => t.fnReset u) s
  let s := (s.clearCounters pgHST).clearCounters pgDMA
  let s := (s.pageReset pgHST [HST.LINKSTAT]).pageReset pgDMA []
  ({ s with hst := {}, dma := { s.dma with orphans := [], last := 31 } }).blkPoll pgDMA

/-- What a reset of the link does besides: the functions' configuration and the link. -/
def State.linkReset (s : State) : State :=
  let t := s.hostSideReset
  ({ t with pci := { aerCorr := t.pci.aerCorr, aerUnc := t.pci.aerUnc } }).linkUp false

/-- HOT_RESET (R54). -/
def execHotReset (s : State) : Host.Outcome State Fault Refusal := .next s.linkReset

/-- PCIE_LINK_DOWN (R54). -/
def execPcieLinkDown (s : State) : Host.Outcome State Fault Refusal := .next s.linkReset

/-- FUNCTION_LEVEL_RESET (R54, R344). A function-level reset clears the function's configuration, the PF's that of every
function with VF Enable and NumVFs, and keeps Max Payload Size and the sticky AER status (log entry 28). -/
def execFunctionLevelReset (fn : Fn) (s : State) : Host.Outcome State Fault Refusal :=
  .next (
    let u := fn.val
    if !s.fnHere u then s
    else if u = 0 then { s.hostSideReset with
      pci := { mps := s.pci.mps, aerCorr := s.pci.aerCorr, aerUnc := s.pci.aerUnc } }
    else
      let s := match s.userCh u with | some c => s.chanReset c | none => s
      let s := s.fnReset u
      let s := { s with pci := s.pci.forget u }
      (if u < 32 then s.setB HST.FLRSTAT_LO u else s.setB HST.FLRSTAT_HI (u - 32)).irq pgHST irqFLR)

end Sys2Proof.Machine
end

