-- ==== Sys2Proof/Machine/Access.lean ====
section
/-! DEFINITION. The management and test ports: the I2C slave (R42, R413) and JTAG (R414). -/

namespace Sys2Proof.Machine

/-- The I2C slave answers at an address: 0b0110xyz with the three pins latched at the RESET_N rise (R413). -/
def State.i2cMine (s : State) (addr : Fin 128) : Bool := s.dev.state ≠ .reset && addr.val == 48 + s.dev.i2cAddr

/-- I2C_OFFSET_WRITE (R413): three bytes set the offset, and the bytes after them are discarded and counted once. -/
def execI2cOffsetWrite (t : I2cWrite) (s : State) : Host.Outcome State Fault Refusal :=
  .next (if !s.i2cMine t.addr || t.bytes.length < 3 then s
    else
      let s := { s with i2c := BitVec.ofNat 24 (beNat (t.bytes.take 3)) }
      if 3 < t.bytes.length then s.badAcc else s)

/-- n registers read through I2C, least significant byte first. -/
def State.i2cRegs (s : State) : Nat → List Byte × State
  | 0 => ([], s)
  | n + 1 =>
    let o := s.i2c.toNat
    let x := if o % 4 ≠ 0 then (0, s.malformed) else s.read0 whoI2C (o / 65536) (o % 65536)
    let y := ({ x.2 with i2c := s.i2c + 4 }).i2cRegs n
    (leBytes 4 x.1.toNat ++ y.1, y.2)

/-- I2C_READ (R413). -/
def execI2cRead (t : I2cFetch) (s : State) : Host.Outcome State Fault Refusal :=
  .next (if !s.i2cMine t.addr then s
    else
      let x := s.i2cRegs t.words
      x.2.emit (.i2c x.1))

/-- The instruction that takes effect (R414): boundary scan only while RESET_N is low, private ones only in factory
mode. -/
def State.jtagTakes (s : State) (i : JtagInstr) : JtagInstr :=
  if isScan i && !s.resetLow then .bypass
  else if i = .priv && !s.factory then .bypass
  else i

/-- The IDCODE of R414; STEP is 0. -/
def idcode : Word :=
  BitVec.ofNat 32 (0x3200 * 4096 + Sys2Proof.Config.jtagManufacturer.toNat * 2 + 1)

/-- JTAG_INSTRUCTION (R414). -/
def execJtagInstruction (i : JtagInstr) (s : State) : Host.Outcome State Fault Refusal :=
  .next (
    let j := s.jtagTakes i
    let s := { s with jtag := j }
    if j = .idcode then s.emit (.jtag idcode) else s)

end Sys2Proof.Machine
end

