-- ==== Sys2Proof/Machine/Ecdsa.lean ====
section
/-! DEFINITION. ECDSA over P-384 (FIPS 186-5, SP 800-186), for the signature of an image (R62). -/

namespace Sys2Proof.Machine

/-- The field's prime, 2^384 - 2^128 - 2^96 + 2^32 - 1. -/
def p384P : Nat := 2 ^ 384 - 2 ^ 128 - 2 ^ 96 + 2 ^ 32 - 1

/-- The order of the base point. -/
def p384N : Nat := 0xffffffffffffffffffffffffffffffffffffffffffffffffc7634d81f4372ddf581a0db248b0a77aecec196accc52973

/-- The curve's coefficient b; a is -3. -/
def p384B : Nat := 0xb3312fa7e23ee7e4988e056be3f82d19181d9c6efe8141120314088f5013875ac656398d8a2ed19d2a85c8edd3ec2aef

/-- The base point. -/
def p384G : Nat × Nat :=
  (0xaa87ca22be8b05378eb1c71ef320ad746e1d3b628ba79b9859f741e082542a385502f25dbf55296c3a545e3872760ab7,
   0x3617de4a96262c6f5d9e98bf9292dc29f8f41dbd289a147ce9da3113b5f0b8c00a60b1ce1d7e819d7a431d7c90ea0e5f)

/-- Bits of a number, the highest of k first. -/
def bitsDown (k v : Nat) : List Bool := (List.range k).map fun i => bit v (k - 1 - i)

/-- x^e modulo m, for a 384-bit e. -/
def powMod (m x e : Nat) : Nat := (bitsDown 384 e).foldl (fun a b => if b then a * a % m * x % m else a * a % m) (1 % m)

/-- The inverse modulo a prime. -/
def invMod (m x : Nat) : Nat := powMod m x (m - 2)

/-- A point in Jacobian coordinates; Z 0 is the point at infinity. -/
structure JPoint where
  x : Nat
  y : Nat
  z : Nat

def fsub (a b : Nat) : Nat := (a + p384P - b % p384P) % p384P

/-- Twice a point, on a curve with a = -3. -/
def JPoint.double (q : JPoint) : JPoint :=
  let p := p384P
  let delta := q.z * q.z % p
  let gamma := q.y * q.y % p
  let beta := q.x * gamma % p
  let alpha := 3 * (fsub q.x delta * (q.x + delta)) % p
  let x := fsub (alpha * alpha) (8 * beta)
  ⟨x, fsub (alpha * fsub (4 * beta) x) (8 * gamma * gamma), fsub ((q.y + q.z) * (q.y + q.z)) (gamma + delta)⟩

/-- The sum of two points. -/
def JPoint.add (q r : JPoint) : JPoint :=
  if q.z = 0 then r
  else if r.z = 0 then q
  else
    let p := p384P
    let zq := q.z * q.z % p
    let zr := r.z * r.z % p
    let u1 := q.x * zr % p
    let u2 := r.x * zq % p
    let s1 := q.y * zr % p * r.z % p
    let s2 := r.y * zq % p * q.z % p
    if u1 = u2 then if s1 = s2 then q.double else ⟨1, 1, 0⟩
    else
      let h := fsub u2 u1
      let k := fsub s2 s1
      let hh := h * h % p
      let hhh := h * hh % p
      let v := u1 * hh % p
      let x := fsub (k * k) (hhh + 2 * v)
      ⟨x, fsub (k * fsub v x) (s1 * hhh), h * q.z % p * r.z % p⟩

/-- k times a point. -/
def JPoint.mul (k : Nat) (q : JPoint) : JPoint :=
  (bitsDown 384 k).foldl (fun a b => if b then a.double.add q else a.double) ⟨1, 1, 0⟩

/-- The signature (r, s) of the 48-byte hash e verifies under the public key (x, y). -/
def ecdsaOk (x y : Nat) (e : List Byte) (r s : Nat) : Bool :=
  let n := p384N
  let p := p384P
  decide (0 < r) && decide (r < n) && decide (0 < s) && decide (s < n) && decide (x < p) && decide (y < p) &&
    y * y % p == fsub (x * x % p * x + p384B) (3 * x) &&
    (let w := invMod n s
     let q := (JPoint.mul (beNat e * w % n) ⟨p384G.1, p384G.2, 1⟩).add (JPoint.mul (r * w % n) ⟨x, y, 1⟩)
     let zi := invMod p q.z
     q.z != 0 && q.x * (zi * zi % p) % p % n == r)

end Sys2Proof.Machine
end

