-- ==== Sys2Proof/Machine/Validate.lean ====
section
/-! DEFINITION. The checks of validation (R68), code by code, as the chapter of each block lists them. -/

namespace Sys2Proof.Machine

/-- A failing register: page, offset, entry index and, where a queue fails, its number. A check over several registers
names the first of its entry (log entry 36). -/
structure VFail where
  page : Nat
  off : Nat
  ix : Nat := 0
  q : Option Nat := none
  deriving DecidableEq, Repr

/-- One failure where the condition holds. -/
def failIf (b : Bool) (page off ix : Nat) : List VFail := if b then [⟨page, off, ix, none⟩] else []

/-- The present pistes and port groups. -/
def State.pistes (s : State) : List Nat := List.range s.nPg

/-! ## Conditions of the device (R68, R70) -/

/-- CLOCK: the PLLs of R52, the timebase PLL (TBLOCK), those of the controller domains of an enabled DRC, and the lane PLLs
of the enabled port groups (log entry 37). No register holds them: the failure names CLK, offset 0 (log entry 105). -/
def State.vClock (s : State) : List VFail :=
  failIf (!s.dev.plls || !s.fb TIM.STAT 0 ||
    (s.present pgDRC && s.fb (HDR.BLKCTL pgDRC) 0 && s.drc.unlocked.any fun k => decide (4 * k < s.nCh)) ||
    s.pistes.any fun g => s.fb (HDR.BLKCTL (pgPG g)) 0 && !(s.pg g).pllLost.isEmpty) pgCLK 0 0

/-- SUPPLY: the rails PWR reports below their warning level. -/
def State.vSupply (s : State) : List VFail :=
  (List.range 9).flatMap fun i =>
    failIf ((s.supplyTh i).isSome && kgetD s.pwr.low i 0 == max 1 (s.f PWR.FILT 3 0)) pgPWR
      (if i = 0 then 0x108 else 0x15C + 4 * i) 0

/-- BLOCKSTATE. -/
def State.vBlocks (s : State) : List VFail :=
  (allPages.filter fun p => s.hasStates p).flatMap fun p =>
    failIf (s.fb (HDR.BLKCTL p) 0 && (s.busy p || (s.blk p).qto)) p 0x14 0

/-! ## Ports and MACsec (R74, R272, R294) -/

/-- PORTMODE of one port group. -/
def State.vPortGroup (s : State) (g : Nat) : List VFail :=
  let pg := pgPG g
  failIf (8 ≤ s.f (PG.MODE g) 3 0) pg 0x100 0 ++
    (List.range 8).flatMap fun i =>
      let w := s.rd (PG.PORTCFG g i)
      let on := s.carries (8 * g + i)
      let mx := s.f (PG.MAXLEN g i) 13 0
      let vt := fld w 31 24
      let pre := s.f (PG.LANETX g i) 3 0
      failIf (pre = 0 || 5 < pre) pg (0x110 + 4 * i) i
        ++ failIf ((fld w 0 0 = 1 && !on) || (on && ((fld w 3 3 = 1 && fld w 4 4 = 1) || (fld w 8 7 ≠ 0 && fld w 5 5 = 0)
            || vt = 0 || 128 < vt))) pg (0x200 + 64 * i) i
        ++ failIf (mx < 64 || 16000 < mx) pg (0x204 + 64 * i) i

def State.vPorts (s : State) : List VFail := s.pistes.flatMap s.vPortGroup

/-- MACSEC_ABSENT. -/
def State.vMacsecAbsent (s : State) : List VFail :=
  if s.present pgMSC then []
  else (List.range (8 * s.nPg)).flatMap fun p =>
    failIf (s.carries p && s.fb (PG.SECEN (pgOf p)) (slotOf p)) (pgPG (pgOf p)) 0x10C (slotOf p)

/-- MACSEC_CFG. -/
def State.vMacsec (s : State) : List VFail :=
  if !s.present pgMSC then []
  else
    ((List.range (8 * s.nPg)).filter s.isProtected).flatMap (fun p =>
      let w := s.rd (MSC.PORT p)
      let v := fld w 21 20
      failIf (!s.secyOn (fld w 11 0) p || 2 ≤ fld w 13 12 || 52 < fld w 19 14 || v = 0 || v = 3) pgMSC (0x1000 + 4 * p) p)
    ++ (s.indexed (MSC.SECYCFG 0)).flatMap fun e =>
      failIf (fld e.2 0 0 = 1 && !(s.isProtected (fld e.2 8 1) && s.carries (fld e.2 8 1))) pgMSC 0x204 (0x1000 + e.1)

/-! ## DRAM and buffers (R202, R217, R321) -/

/-- The fields of timing set i other than RATE, as the registers of the set lay them out. -/
def State.setFields (s : State) (i : Nat) : List Nat :=
  let w0 := s.rd (if i = 0 then DRC.SETA0 else DRC.SETB0)
  let two (k : Nat) : List Nat := [s.f k 15 0, s.f k 31 16]
  [fld w0 10 4, fld w0 17 11] ++ two (DRC.SET1 i) ++ two (DRC.SET2 i) ++ two (DRC.SET3 i) ++ two (DRC.SET4 i)
    ++ [s.f (DRC.SET5 i) 19 0] ++ two (DRC.SET6 i) ++ [s.f (DRC.SET7 i) 19 0]

/-- DRAM. -/
def State.vDram (s : State) : List VFail :=
  if s.basinCap = 0 || !s.fb (HDR.BLKCTL pgDRC) 0 then []
  else
    let share (p : Nat) : Nat := s.f (DRC.PCFG p) 6 0
    let sum := (List.range 6).foldl (fun a p => a + share p) 0
    let set (i : Nat) : List VFail :=
      let rate := s.f (if i = 0 then DRC.SETA0 else DRC.SETB0) 3 0
      failIf (6 ≤ rate || (s.setFields i).any (· == 0)) pgDRC (0x200 + 64 * i) (0x200 + i)
    s.chans.flatMap (fun n =>
      let c := s.chSt n
      failIf (!(c = csREADY || c = csSELFREF || c = csFCHANGE)) (pgDC n) 0x100 n)
    ++ failIf (s.f DRC.CFG 2 0 = 7 || 2 ≤ s.f DRC.CFG 5 4) pgDRC 0x100 0x100
    ++ (List.range 6).flatMap (fun p => failIf (share p = 0 || sum ≠ 100) pgDRC (0x400 + 64 * p) (0x100 + p))
    ++ failIf (768 < ([dpREFILL, dpEDDYR, dpBPM, dpHOST].foldl (fun a p => a + s.tagMin p) 0)) pgDRC 0x400 0x100
    ++ set 0 ++ (if s.fb DRC.CFG 14 then set 1 else [])

/-- BUFFER in TMG. -/
def State.vTmg (s : State) : List VFail :=
  let use := s.basinUse
  let age := s.f TMG.AGE 12 0
  failIf (786432 < s.reserved) pgTMG 0x108 0
    ++ failIf (age = 0 || 5000 < age) pgTMG 0x104 0
    ++ failIf (use && s.f TMG.REFILLRES 19 0 < 44) pgTMG 0x10C 0
    ++ (List.range 64).flatMap (fun i =>
      let n := i / 8
      let c := i % 8
      failIf (s.f (TMG.XOFF n c) 19 0 < s.f (TMG.XON n c) 19 0 || s.f (TMG.ILIM n c) 19 0 < s.f (TMG.IMIN n c) 19 0) pgTMG
        (0x400 + 0x100 * n + 0x20 * c) i)
    ++ (List.range 64).flatMap fun m =>
      let lim := s.f (TMG.QLIM m) 19 0
      let on := s.f (TMG.SPILLON m) 19 0
      let off := s.f (TMG.SPILLOFF m) 19 0
      let spill := s.fb (TMG.QPCTL m) 0
      failIf (lim < s.f (TMG.QMIN m) 19 0
        || (spill && use && !(s.f (TMG.PREFETCH m) 19 0 < off && off < on && on + 64 ≤ lim))
        || (spill && s.f (TMG.BMAX m) 25 0 = 0)) pgTMG (0x1000 + 0x20 * m) (0x100 + m)

/-- BUFFER in BPM. -/
def State.vBpm (s : State) : List VFail :=
  if !s.basinUse then []
  else
    let lo := s.f BPM.CFG 14 0
    let hi := s.f BPM.CFG 30 16
    let mn (o : Nat) : Nat := s.f (BPM.OMIN (o - 1)) 25 0
    failIf (hi ≤ lo || 16368 < hi) pgBPM 0x100 0x200
      ++ failIf (s.managed < mn 1 + mn 2 + mn 3) pgBPM 0x220 0x200
      ++ [1, 2, 3].flatMap fun o => failIf (s.f (BPM.OMAX (o - 1)) 25 0 < mn o) pgBPM (0x200 + 0x20 * o) (0x200 + o)

/-! ## Tables (R156) -/

/-- Partitions of a half. -/
def State.vParts (s : State) (h : Nat) : List VFail :=
  let ps := ((List.range 16).map fun p => (p, s.partn h p)).filter fun e => e.2.en
  ps.flatMap fun e =>
    let t := e.2
    let hi := t.base + 2 ^ t.log2
    failIf (t.log2 < 10 || 18 < t.log2 || 393216 < hi || t.seed0 = t.seed1
      || (ps.any fun x => x.1 ≠ e.1 && t.base < x.2.base + 2 ^ x.2.log2 && x.2.base < hi)
      || (t.learn && (t.fmt ≠ 0 || 131071 < t.lrnbase + 223))) pgTBL (0x1000 + 0x800 * h + 0x20 * e.1) (h * 16 + e.1)

/-- A nonzero stride after a 0. -/
def strideGap : List Nat → Bool
  | [] => false
  | x :: t => (x = 0 && t.any fun y => y ≠ 0) || strideGap t

/-- Strides and leaf bases of a half. -/
def State.vLpm (s : State) (h : Nat) : List VFail :=
  (List.range 2).flatMap (fun f =>
    let st := (List.range 9).map (s.stride h f)
    failIf ((st.any fun x => 16 < x) || st.foldl (· + ·) 0 ≠ (if f = 0 then 32 else 128) || strideGap st) pgTBL
      (0x1210 + 0x800 * h + 8 * f) (h * 2 + f))
  ++ (List.range 9).flatMap fun k =>
    failIf (32768 < s.f (TBL.LEAFBASE h k) 15 0) pgTBL (0x1240 + 0x800 * h + 4 * k) (h * 9 + k)

/-- Chains of a half. -/
def State.vChains (s : State) (h : Nat) : List VFail :=
  let cs := ((List.range 64).map fun c => (c, s.chain h c)).filter fun e => e.2.en
  cs.flatMap fun e =>
    let c := e.2
    let hi := c.first + c.w * c.depth
    failIf (c.depth = 0 || 48 < c.depth || 96 < hi
      || (cs.any fun x => x.1 ≠ e.1 && c.first < x.2.first + x.2.w * x.2.depth && x.2.first < hi)
      || (List.range c.depth).any fun d =>
          let v := s.rd (TCM.BANKPF h (c.first + d * c.w))
          c.first + d * c.w < 96 && fld v 5 5 = 1 && 16 * c.w - 1 < fld v 4 0) pgTCM (0x1200 + 0x800 * h + 4 * e.1) (h * 64 + e.1)

/-- A stage's resource is not defined or does not fit its key (TABLES). -/
def State.stageTable (s : State) (h : Nat) (w : Word) : Bool :=
  let id := fld w 10 5
  let n := fld w 13 11 + 1
  fld w 1 0 ≠ 0 &&
    ((fld w 4 2 = 1 && (!(s.partn h (id % 16)).en || n ≠ fmtWords (s.partn h (id % 16)).fmt))
      || (fld w 4 2 = 4 && (!(s.chain h id).en || 4 * (s.chain h id).w < n)))

/-- Stages of every piste, and the stage LRN learns from. -/
def State.vStages (s : State) : List VFail :=
  s.pistes.flatMap (fun g =>
    (List.range 16).flatMap (fun i => failIf (s.stageTable (halfOf g) (s.rd (IP.STAGECFG g i))) (pgIP g) (0x1000 + 64 * i) i)
    ++ (List.range 8).flatMap (fun i => failIf (s.stageTable (halfOf g) (s.rd (EP.STAGECFG g i))) (pgEP g) (0x1000 + 64 * i) i)
    ++ (if s.fb LRN.CFG 0 then
        let i := s.f LRN.CFG 4 1
        let w := s.rd (IP.STAGECFG g i)
        let t := s.partn (halfOf g) (fld w 8 5)
        failIf (fld w 4 2 ≠ 1 || 15 < fld w 10 5 || !t.learn) (pgIP g) (0x1000 + 64 * i) i
      else []))

def State.vTables (s : State) : List VFail :=
  (List.range 2).flatMap (fun h => s.vParts h ++ s.vLpm h ++ s.vChains h) ++ s.vStages

/-! ## Parse graph, stages, profiles and templates (R118, R176) -/

/-- The selectors below KEYWORDS. -/
def selsOf (w a b : Word) : List Nat := (List.range (fld w 13 11 + 1)).map (selOf a b)

/-- An ingress stage fails (R118). -/
def State.ipStageBad (s : State) (g i : Nat) : Bool :=
  let w := s.rd (IP.STAGECFG g i)
  let mode := fld w 1 0
  let res := fld w 4 2
  let n := fld w 13 11 + 1
  let cond := fld w 16 14
  let m := missRec s (IP.MISSACT g i)
  mode = 3 || m / 2 ^ 60 % 16 ≠ 0 || m / 2 ^ 105 ≠ 0 ||
    (mode ≠ 0 && (5 ≤ res || (mode = 2 && res ≠ 1) || (res = 1 && 15 < fld w 10 5) || (res = 2 && n ≠ 2) || (res = 3 && n ≠ 5)
      || (selsOf w (s.rd (IP.STAGEKEYA g i)) (s.rd (IP.STAGEKEYB g i))).any (fun x =>
          0x48 ≤ x || (mode = 2 && 0x42 ≤ x && x ≤ 0x45))
      || 5 ≤ cond || ((cond = 1 || cond = 2) && i ≤ fld w 20 17)))

/-- The bits of a miss record an egress stage reads (R171). -/
def egressBit (i : Nat) : Bool :=
  i = 11 || (12 ≤ i && i ≤ 25) || (64 ≤ i && i ≤ 96) || i = 99 || i = 100 || i = 104

/-- An egress stage fails (R176). -/
def State.epStageBad (s : State) (g i : Nat) : Bool :=
  let w := s.rd (EP.STAGECFG g i)
  let mode := fld w 1 0
  let res := fld w 4 2
  let cond := fld w 16 14
  let m := missRec s (EP.MISSACT g i)
  2 ≤ mode || ((List.range 128).any fun k => bit m k && !egressBit k) ||
    (mode ≠ 0 && (!(res = 0 || res = 1 || res = 4) || 3 ≤ cond || ((cond = 1 || cond = 2) && i ≤ fld w 19 17)
      || (selsOf w (s.rd (EP.STAGEKEYA g i)) (s.rd (EP.STAGEKEYB g i))).any fun x => decide (7 ≤ x)))

/-- A parse state is valid. -/
def State.stateOk (s : State) (g n : Nat) : Bool := decide (n < 126) && fld (s.rd (IP.PSW0 g n)) 31 31 == 1

/-- The valid transitions of a piste: entry and word. Only those off their reset value can be valid. -/
def State.transitions (s : State) (g : Nat) : List (Nat × Word) :=
  ((s.listed (IP.TRANS0 g 0) (IP.TRANS0 g 1024)).filter fun e => e.1 % 8 = IP.TRANS0 g 0 % 8 && fld e.2 7 7 = 1).map
    fun e => ((e.1 - IP.TRANS0 g 0) / 8, e.2)

/-- States reached from those given; each round adds what the valid ones lead to. -/
def State.reach (s : State) (g : Nat) (tr : List (Nat × Word)) : Nat → List Nat → List Nat
  | 0, l => l
  | fuel + 1, l =>
    let next := (l.filter fun n => s.stateOk g n).flatMap fun n =>
      s.f (IP.PSW2 g n) 6 0 :: ((tr.filter fun e => fld e.2 6 0 = n).map fun e => fld e.2 14 8)
    let new := (next.filter fun n => decide (n < 126) && !l.contains n).eraseDups
    if new.isEmpty then l else s.reach g tr fuel (l ++ new)

/-- The states reachable from a start state. -/
def State.reached (s : State) (g : Nat) : List Nat :=
  let start := (s.f (IP.IPCFG g) 6 0 :: s.f (IP.IPCFG g) 14 8 :: (List.range 8).map fun i => s.f (IP.PSLOT g i) 6 0)
  s.reach g (s.transitions g) 126 (start.filter fun n => decide (n < 126)).eraseDups

/-- Words and descriptors of a valid state; NB and NCONT are counts (R99). -/
def State.vState (s : State) (g n : Nat) : List VFail :=
  let o := 0x2000 + 64 * n
  failIf (s.f (IP.PSW0 g n) 10 9 = 3) (pgIP g) o (n * 8)
    ++ failIf (254 < s.f (IP.PSW1 g n) 15 8) (pgIP g) (o + 4) (n * 8)
    ++ (List.range 8).flatMap fun d =>
      let w := s.rd (IP.PXD g n d)
      let nb := fld w 9 8 + 1
      let nc := fld w 12 10 + 1
      let dp := fld w 14 13
      failIf (fld w 27 27 = 1 && (4 < dp + nb || (1 < nc && (nb ≠ 4 || dp ≠ 0)) || 64 < fld w 26 21 + nc)) (pgIP g)
        (o + 16 + 4 * d) (n * 8 + d)

/-- PARSE of one ingress piste. -/
def State.vIp (s : State) (g : Nat) : List VFail :=
  let pg := pgIP g
  let pc := s.rd (IP.POLCFG g)
  (List.range 16).flatMap (fun i => failIf (s.ipStageBad g i) pg (0x1000 + 64 * i) i)
    ++ (s.reached g).flatMap (fun n => failIf (!s.stateOk g n) pg (0x2000 + 64 * n) n)
    ++ ((List.range 126).filter fun n => s.stateOk g n).flatMap (s.vState g)
    ++ (s.transitions g).flatMap (fun e =>
      let n := fld e.2 14 8
      failIf (126 ≤ fld e.2 6 0 || 126 ≤ n || !s.stateOk g n) pg (0x4000 + 8 * e.1) e.1)
    ++ (List.range 4).flatMap (fun k =>
      let w := s.rd (IP.HASHPAIR g k)
      let n := fld w 17 16 + 1
      failIf (64 < fld w 5 0 + n || 64 < fld w 13 8 + n) pg (0x110 + 4 * k) k)
    ++ failIf (fld pc 1 0 = 3 || (fld pc 1 0 = 2 && 26 < fld pc 12 8)) pg 0x108 0
    ++ (List.range 4).flatMap (fun k =>
      let w := s.rd (IP.PRECOLMAP g k)
      failIf ((List.range 16).any fun i => fld w (2 * i + 1) (2 * i) = 3) pg (0x160 + 4 * k) 0)
    ++ (s.listed (IP.APROF0 g 0) (IP.APROF0 g 4096)).flatMap fun e =>
      let a := (e.1 - IP.APROF0 g 0) / 8
      failIf ((e.1 - IP.APROF0 g 0) % 8 = 0 && (2 ≤ fld e.2 12 11 || 60 < fld e.2 7 2)) pg (0x8000 + 8 * a) a

/-- A template fails (R176). -/
def tplBad (v : Nat) : Bool :=
  let push := rbits v 12 6
  let ul := rbits v 30 27
  rbits v 40 39 = 3 || 64 < push || 8 < ul || push < rbits v 26 21 + ul || v / 2 ^ 59 ≠ 0

/-- PARSE of one egress piste. Templates off their reset value are looked at; a zero one passes. -/
def State.vEp (s : State) (g : Nat) : List VFail :=
  (List.range 8).flatMap (fun i => failIf (s.epStageBad g i) (pgEP g) (0x1000 + 64 * i) i)
    ++ (((s.listed (EP.TPL_LO g 0) (EP.TPL_LO g 4096)).map fun e => (e.1 - EP.TPL_LO g 0) / 8).eraseDups).flatMap fun t =>
      failIf (tplBad (s.rd64 (EP.TPL_LO g t) (EP.TPL_HI g t))) (pgEP g) (0x8000 + 8 * t) t

def State.vParse (s : State) : List VFail := s.pistes.flatMap fun g => s.vIp g ++ s.vEp g

/-! ## Queues, hierarchy and gate lists (R240) -/

/-- The enabled nodes from one to its root, or as far as the fuel goes round a cycle. -/
def State.pathNodes (s : State) : Nat → Nat → List Nat
  | 0, _ => []
  | fuel + 1, n =>
    let w := s.rd (SCH.NODECFG n)
    if fld w 19 19 = 0 then []
    else n :: (if fld w 16 16 = 1 then [] else s.pathNodes fuel (fld w 12 0))

/-- The nodes that lie on a path of R220, from a queue's node to its root, of more than five nodes. -/
def State.longPaths (s : State) (ns qs : List (Nat × Word)) : List Nat :=
  (qs.flatMap fun q =>
    let l := s.pathNodes (ns.length + 6) (fld q.2 12 0)
    if 5 < l.length then l else []).eraseDups

/-- The children of a node: whether each is a node, and its slot. A group root is a child of each member's port root, in
slot GSLOT (R255). -/
def State.kids (s : State) (ns qs : List (Nat × Word)) (n : Nat) (w : Word) : List (Bool × Nat) :=
  ((ns.filter fun e => fld e.2 16 16 = 0 && fld e.2 12 0 = n).map fun e => (true, fld e.2 15 13))
    ++ ((qs.filter fun e => fld e.2 12 0 = n).map fun e => (false, fld e.2 15 13))
    ++ (if fld w 16 16 = 1 && fld w 17 17 = 0 then
        (ns.filter fun e => fld e.2 16 16 = 1 && fld e.2 17 17 = 1 && ((List.range 16).any fun m =>
          s.memEn (fld e.2 27 20 % 32) m && s.memPort (fld e.2 27 20 % 32) m == fld w 27 20)).map
          fun e => (true, fld e.2 30 28)
      else [])

/-- A node breaks a rule of the hierarchy. -/
def State.nodeBad (s : State) (ns qs : List (Nat × Word)) (long : List Nat) (n : Nat) (w : Word) : Bool :=
  let root := fld w 16 16 = 1
  let kind := fld w 17 17
  let up := s.pathNodes (ns.length + 5) n
  let leaf := fld w 18 18 = 1
  let ks := s.kids ns qs n w
  let inSlot (k : Nat) : Nat := (ks.filter fun e => e.2 == k).length
  (if root then
      decide ((if kind = 1 then 31 else 159) < fld w 27 20) || (kind = 1 && 5 ≤ fld w 30 28)
        || (ns.any fun e => e.1 ≠ n && fld e.2 16 16 = 1 && fld e.2 17 17 = kind && fld e.2 27 20 = fld w 27 20)
    else fld (s.rd (SCH.NODECFG (fld w 12 0))) 19 19 = 0)
  || (up.drop 1).contains n || long.contains n
  || 5 ≤ fld w 15 13
  || ((List.range 4).any fun k => decide (1 < inSlot k))
  || decide ((if leaf then 1024 else 16) < inSlot 4)
  || (ks.any fun e => if leaf then e.1 else !e.1 && e.2 ≠ 5)

/-- SCHEDULER. -/
def State.vScheduler (s : State) : List VFail :=
  let ns := s.nodes
  let qs := s.queues
  let long := s.longPaths ns qs
  ns.flatMap (fun e => failIf (s.nodeBad ns qs long e.1 e.2) pgSCH 0x204 e.1)
    ++ qs.flatMap fun e =>
      let slot := fld e.2 15 13
      let n := s.rd (SCH.NODECFG (fld e.2 12 0))
      let root := fld n 19 19 = 1 && fld n 16 16 = 1 && fld n 17 17 = 0
      if 6 ≤ slot || (slot = 5 && !root) || (slot == 5) != s.isXq e.1 then [⟨pgSCH, 0x244, 0xFFFF, some e.1⟩] else []

/-- QUEUES. -/
def State.vQueues (s : State) : List VFail :=
  let fuel := s.nodes.length + 5
  s.queues.flatMap fun e =>
    let bad := fld (s.rd (SCH.NODECFG (fld e.2 12 0))) 19 19 = 0 ||
      (match (s.pathNodes fuel (fld e.2 12 0)).getLast? with
        | some n => s.fb (SCH.NODECFG n) 16 && !s.fb (SCH.NODECFG n) 17 && !s.carries (s.f (SCH.NODECFG n) 27 20)
        | none => false)
    if bad then [⟨pgSCH, 0x244, 0xFFFF, some e.1⟩] else []

/-- SLALOM. -/
def State.vSlalom (s : State) : List VFail :=
  s.sch.gates.flatMap fun e =>
    failIf (s.fb (SCH.GATECTL e.1) 4 &&
      (e.2.op.toList ++ e.2.pend.toList).any fun r => !s.slalomOk e.1 r.list r.len r.cyc) pgSCH (0x6000 + 32 * e.1) e.1

/-! ## Bonded groups, versions, Evtur and host (R176, R268, R327, R387) -/

/-- The enabled members: group, member and port. -/
def State.vMembers (s : State) : List (Nat × Nat × Nat) :=
  (List.range 512).filterMap fun k =>
    if s.fb (BLG.MCFG (k / 16) (k % 16)) 0 then some (k / 16, k % 16, s.memPort (k / 16) (k % 16)) else none

/-- A group fails. -/
def State.groupBad (s : State) (ms : List (Nat × Nat × Nat)) (g : Nat) : Bool :=
  let en := s.fb (BLG.GCFG g) 0
  let home := s.f (BLG.GCFG g) 4 1
  let root := s.nodes.any fun e => fld e.2 16 16 = 1 && fld e.2 17 17 = 1 && fld e.2 27 20 = g
  let hg := pgOf (s.memPort g home)
  let load := ((List.range 8).foldl (fun a i => a + s.portRate (8 * hg + i)) 0)
    + (ms.filter fun m => m.1 = g && pgOf m.2.2 ≠ hg).foldl (fun a m => a + s.portRate m.2.2) 0
  (en && (!s.fb (BLG.MCFG g 0) 0 || !s.fb (BLG.MCFG g home) 0 || 1600 < load)) || en != root
    || s.f (BLG.EDDYCFG g) 13 0 ≤ s.f (BLG.EDDYCFG g) 29 16 || (s.f (BLG.EDDYMAX g) 25 0 = 0 && s.basinUse)

/-- BOND. -/
def State.vBond (s : State) : List VFail :=
  let ms := s.vMembers
  let shim := s.f BLG.CFG 15 0
  (List.range 32).flatMap (fun g => failIf (s.groupBad ms g) pgBLG (0x1000 + 1024 * g) (16 * g))
    ++ ms.flatMap (fun m =>
      let src := s.f (BLG.MCFG m.1 m.2.1) 11 9
      failIf (!s.carries m.2.2 || 5 ≤ src || (src < 4 && !bit (s.f BLG.CNEN 3 0) src)
        || 1 < (ms.filter fun x => x.2.2 == m.2.2).length) pgBLG (0x1100 + 1024 * m.1 + 32 * m.2.1) (16 * m.1 + m.2.1))
    ++ (List.range 16).flatMap (fun i =>
      let v := s.f (BLG.ETYPE i) 15 0
      failIf (v ≠ 0 && (v = shim || (List.range i).any fun j => s.f (BLG.ETYPE j) 15 0 = v)) pgBLG (0x140 + 4 * i) (0x200 + i))
    ++ failIf (shim < 0x600) pgBLG 0x100 0x300

/-- VERSION. -/
def State.vVersion (s : State) : List VFail := failIf s.ver.current.isNone pgVER 0x108 0

/-- EVTUR. -/
def State.vEvtur (s : State) : List VFail :=
  if !s.evtEn then []
  else
    let et := s.f EVT.CFG 31 16
    let pn := s.rd64 EVT.PNMARGIN_LO EVT.PNMARGIN_HI
    let sq := (s.rd EVT.SEQMARGIN).toNat
    failIf (!s.fb (HDR.BLKCTL pgEVT) 0 || s.f EVT.CFG 15 0 = 0) pgEVT 0x100 0
      ++ failIf (et < 0x600 || et = s.f BLG.CFG 15 0) pgEVT 0x100 1
      ++ failIf (pn < 131072 || 281474976710656 ≤ pn) pgEVT 0x110 2
      ++ failIf (sq < 131072 || 1073741824 ≤ sq) pgEVT 0x118 3
      ++ failIf (s.f EVT.HELLO 15 8 ≤ 2 * s.f EVT.HELLO 7 0 || s.f EVT.ACKCFG 31 16 ≤ s.f EVT.ACKCFG 7 0) pgEVT 0x104 4

/-- HOST. -/
def State.vHost (s : State) : List VFail :=
  failIf (63 < s.f HST.CFG 6 0) pgHST 0x100 0
    ++ (List.range 512).flatMap fun k =>
      failIf (s.nPg ≤ s.qpPiste (k / 8) (k % 8)) pgHST (0x1004 + 32 * (k / 8)) k

/-! ## All codes (R68) -/

/-- The registers that fail a code. -/
def State.vCode (s : State) (code : Nat) : List VFail :=
  match code with
  | 0x01 => s.vClock
  | 0x02 => s.vSupply
  | 0x03 => s.vBlocks
  | 0x04 => s.vPorts
  | 0x05 => s.vMacsecAbsent
  | 0x06 => s.vMacsec
  | 0x07 => s.vDram
  | 0x08 => s.vTmg ++ s.vBpm
  | 0x09 => s.vTables
  | 0x0A => s.vParse
  | 0x0B => s.vQueues
  | 0x0C => s.vScheduler
  | 0x0D => s.vSlalom
  | 0x0E => s.vBond
  | 0x0F => s.vVersion
  | 0x10 => s.vEvtur
  | 0x11 => s.vHost
  -- the change names no register of its own: DEV.CFGGEN stands for it (log entry 105)
  | 0x12 => failIf (s.dev.valStart ≠ some (s.rd DEV.CFGGEN)) pgDEV 0x1A8 0
  | _ => []

/-- The first of some failures in page, offset and index order. -/
def firstFail (l : List VFail) : Option VFail :=
  l.foldl (fun a f => match a with
    | none => some f
    | some g =>
      let key (x : VFail) : Nat := ((x.page * 65536 + x.off) * 65536 + x.ix) * 131072 + x.q.getD 0
      if key f < key g then some f else a) none

/-! ## The express bound (R74, R240) -/

/-- Cells of XRES that a port's express traffic asks for (R238). -/
def State.xTerm (s : State) (p : Nat) : Nat := cdiv (s.f (SCH.XBE p) 23 0 + s.f (SCH.XSMAX p) 11 0) 64

/-- VALSTAT.WARN. -/
def State.vWarn (s : State) : Bool :=
  let xp := (List.range (8 * s.nPg)).filter fun p => !(s.expressQueues p).isEmpty
  let perm (p : Nat) : Bool := s.fb (PG.MOGULPERMIT (pgOf p)) 0
  ((List.range (8 * s.nPg)).any fun p => s.carries p && s.fb (cfgKey p) 9 && (!s.fb (cfgKey p) 5 || s.fb (cfgKey p) 23))
    || (s.pistes.any fun g => s.fb (PG.MOGULPERMIT g) 0)
    || (xp.any fun p =>
      let xs := s.f (SCH.XSMAX p) 11 0
      !s.fb (cfgKey p) 5 || decide (s.portRate p * 1000000 < 2 * (s.rd (SCH.XCIR p)).toNat) || xs = 0 || 2048 < xs || perm p
        || (s.expressQueues p).any fun q => decide (s.f (TMG.QLIM (s.qProf q)) 19 0 < s.xTerm p))
    || decide (s.f TMG.XRES 19 0 < xp.foldl (fun a p => a + s.xTerm p) 0)
    || !s.fb TMG.CFG 0

end Sys2Proof.Machine
end

