-- ==== Sys2Proof/Machine/Seal.lean ====
section
/-! DEFINITION. Validation, the seal and the end of a load (R57, R66 to R71). -/

namespace Sys2Proof.Machine

/-! ## The configuration check value -/

/-- The RWS fields that differ from reset, by register (R67, CFGCRC). -/
def State.rwsList (s : State) : List (Nat × Word) :=
  s.regs.filterMap fun e => match keyRow e.1 with
    | some r =>
      let v := r.rwsOnly e.2
      if v = r.resetVal then none else some (e.1, v)
    | none => none

/-- CFGCRC (R67). -/
def State.cfgCrc (s : State) : Word := crc32c (Config.cfgBytes s.rwsList)

/-- The first page and offset, as page × 65,536 + offset, at which two lists of RWS values differ. -/
def firstDiff (a b : List (Nat × Word)) : Option Nat :=
  (((a ++ b).filter fun e => kget? a e.1 ≠ kget? b e.1).map fun e => e.1 % 16777216).min?

/-- CFGCRC_RECHECK (R362, CFGDRIFT): once sealed, every 10 ms, the check value is computed again; INFO is the first page and
offset that differs from what was sealed. -/
def execCfgcrcRecheck (s : State) : Host.Outcome State Fault Refusal :=
  .next (if !s.dev.sealed then s
    else
      let s := s.nextTick 10000000
      if s.cfgCrc ≠ s.rd DEV.CFGCRC then
        s.fire pgDEV 0 false (BitVec.ofNat 32 ((firstDiff s.dev.sealCfg s.rwsList).getD 0))
      else s)

/-! ## The end of a load -/

/-- LOADSTAT.RESULT. -/
def State.loadResult (s : State) (r : Nat) : State := s.setF DEV.LOADSTAT 3 0 r

/-- LOAD ends in HELD. -/
def State.loadEnds (s : State) (r : Nat) : State :=
  let s := s.loadResult r
  ({ s with dev := { s.dev with loader := {} } }).enterDev .held

/-- The image is rejected, or its application ends with an error (R57, R63). -/
def State.loadFails (s : State) (r : Nat) : State :=
  if s.secureBoot then
    let s := s.loadResult r
    ({ s with dev := { s.dev with loader := {} } }).fence 4
  else (s.loadEnds r).irq pgDEV 3

/-- A write of LOADCTL (R57). -/
def State.loadctlWr (s : State) (w : Word) : State :=
  if fld w 0 0 = 0 then s
  else if s.dev.state = .load && !s.secureBoot then s.loadEnds 0xA
  else s.badAcc

/-- LOAD_ABORT (R57, R65). -/
def execLoadAbort (w : Word) (s : State) : Host.Outcome State Fault Refusal := .next (s.loadctlWr w)

/-! ## The seal (R70) -/

/-- The code for which a seal is refused now; none where every condition on the configuration and the live checks hold:
0x12 before the live codes, and of those the lowest (log entry 106). A seal refused for VALID 0 alone leaves REASON. -/
def State.sealCode (s : State) : Option Nat :=
  if s.rd DEV.CFGGEN ≠ s.rd DEV.VALGEN then some 0x12
  else [1, 2, 3, 7].find? fun c => !(s.vCode c).isEmpty

/-- The seal is refused. -/
def State.sealRefused (s : State) : State :=
  let c := s.sealCode
  let s := (s.setF DEV.VALSTAT 1 1 0).setF DEV.VALSTAT 3 3 1
  match c with | some c => s.setF DEV.VALSTAT 15 8 c | none => s

/-- The seal is accepted. -/
def State.sealAccepted (s : State) : State :=
  let s := ({ s with dev := { s.dev with sealed := true, sealCfg := s.rwsList } }).enterDev .armed
  if s.fb DEV.RUNCTL 1 then s.goEvent else s

/-- VALID is 1, and no condition fails. -/
def State.sealOk (s : State) : Bool := s.fb DEV.VALSTAT 1 && s.sealCode.isNone

/-- The loader asks for the seal after its validation, or a record of an image asks for it (log entry 40). -/
def State.loaderSeal (s : State) : State :=
  let done := s.dev.loader.phase == .validating
  let go := s.dev.loader.go
  if done && s.sealOk then
    let s := s.loadResult 2
    let s := (({ s with dev := { s.dev with loader := {} } }).irq pgDEV 2).sealAccepted
    if go then s.goEvent else s
  else
    let s := s.sealRefused.loadEnds 0xB
    (if done then s.irq pgDEV 2 else s).irq pgDEV 3

/-- A write of SEAL.KEY by an access path (R70). -/
def State.sealWr (s : State) (who : Nat) (w : Word) : State :=
  if fld w 15 0 ≠ 0x5EA1 then s.badAcc
  else if who = whoLoader then s.loaderSeal
  else if s.dev.state ≠ .held then s.badAcc
  else if s.sealOk then s.sealAccepted
  else s.sealRefused

/-- SEAL (R70). -/
def execSealConfig (w : Word) (s : State) : Host.Outcome State Fault Refusal :=
  .next (s.hostWr DEV.SEAL fun s => s.sealWr 0 w)

/-! ## Validation (R67) -/

/-- Validation starts: the host's in HELD, the loader's in LOAD. -/
def State.valBegin (s : State) : State :=
  let g := s.rd DEV.CFGGEN
  ({ s with dev := { s.dev with valStart := some g } }).setF DEV.VALSTAT 0 0 1

/-- A write of VALIDATE.GO. -/
def State.validateWr (s : State) (w : Word) : State :=
  if fld w 0 0 = 0 then s
  else if s.dev.state ≠ .held || s.fb DEV.VALSTAT 0 then s.badAcc
  else s.valBegin

/-- VALIDATE_GO (R67). -/
def execValidateGo (w : Word) (s : State) : Host.Outcome State Fault Refusal :=
  .next (s.hostWr DEV.VALIDATE fun s => s.validateWr w)

/-- The failing codes, lowest first, each with its first failing register in page and offset order. -/
def State.valFails (s : State) : List (Nat × VFail) :=
  (List.range 18).filterMap fun k => (firstFail (s.vCode (k + 1))).map fun f => (k + 1, f)

/-- What the end of validation writes (R67, R68). PAGE and VALDETAIL name the first failing register of REASON's code. -/
def State.valReport (s : State) : State :=
  let l := s.valFails
  let pass := l.isEmpty
  let (c, p, o, i) : Nat × Nat × Nat × Nat := match l with
    | [] => (0, 0, 0, 0)
    | (c, f) :: _ => (c, f.page, f.off, f.ix)
  let gen := (s.dev.valStart.getD 0)
  let warn := s.vWarn
  let crc := s.cfgCrc
  let q := ((s.vCode 0x0B ++ s.vCode 0x0C).filterMap VFail.q).head?
  let s := s.wr DEV.VALSTAT (BitVec.ofNat 32 (b2n pass * 2 + b2n warn * 4 + c * 256 + p * 65536))
  let s := s.wr DEV.VALFAILS (BitVec.ofNat 32 (l.foldl (fun a e => a + 2 ^ e.1) 0))
  let s := s.wr DEV.VALDETAIL (BitVec.ofNat 32 (o % 65536 + i % 65536 * 65536))
  let s := s.wr DEV.CFGCRC crc
  let s := if pass then s.wr DEV.VALGEN gen else s
  let s := match q with | some q => s.wr SCH.VALQ (BitVec.ofNat 32 q) | none => s
  ({ s with dev := { s.dev with valStart := none } }).irq pgDEV 4

/-- Validation ends; the loader's goes on to the seal, or LOAD ends (R57). A loader that HOLD has paused waits (log entry
39). -/
def State.valEnd (s : State) : State :=
  let mine := s.dev.loader.phase == .validating
  if !s.fb DEV.VALSTAT 0 || (mine && s.dev.state ≠ .load) then s
  else
    let s := s.valReport
    if !mine then s
    else if s.fb DEV.VALSTAT 1 then s.sealWr whoLoader 0x5EA1
    else ((s.loadEnds 0xB).irq pgDEV 2).irq pgDEV 3

/-- VALIDATION_END (R67). -/
def execValidationEnd (s : State) : Host.Outcome State Fault Refusal := .next s.valEnd

end Sys2Proof.Machine
end

