-- ==== Sys2Proof/Machine/Steps.lean ====
section
/-! DEFINITION. Steps of the timebase (R83, R84), and the scheduled actions that a forward step makes due. -/

namespace Sys2Proof.Machine

/-- An action scheduled at an instant: a capacity notice of a member, the start of a gate list, the next entry of one, an
event timer, a snapshot, a freeze. -/
inductive Due where
  | capacity (g m : Nat)
  | gateStart (p : Nat)
  | gateEntry (p : Nat)
  | timer (n : Nat)
  | snapshot
  | freeze
  deriving DecidableEq, Repr

/-- Every scheduled action with its instant. -/
def State.dues (s : State) : List (Nat × Due) :=
  (s.blg.members.flatMap fun e =>
    if s.fb (BLG.MCFG (e.1 / 16) (e.1 % 16)) 0 then
      (firstDue e.2.pend).toList.map fun n => (n.due, Due.capacity (e.1 / 16) (e.1 % 16))
    else []) ++
  (s.sch.gates.flatMap fun e =>
    (e.2.pend.toList.map fun r => (r.start, Due.gateStart e.1)) ++
    e.2.op.toList.map fun r => (s.gateNext e.1 r, Due.gateEntry e.1)) ++
  (((List.range 16).filter fun n => s.fb (TIM.TMRCTL n) 0).map fun n => (s.rd64 (TIM.TGT_LO n) (TIM.TGT_HI n), Due.timer n)) ++
  ((s.cnt.snap.toList.filter fun p => p.latched.isNone).map fun p => (p.at_, Due.snapshot)) ++
  (s.cnt.freeze.toList.map fun p => (p.1, Due.freeze))

/-- The action whose instant comes first, of those that the count has reached. -/
def State.nextDue (s : State) : Option Due :=
  ((s.dues.filter fun e => e.1 ≤ s.tai).foldl (fun (a : Option (Nat × Due)) e =>
    match a with | none => some e | some b => if e.1 < b.1 then some e else a) none).map fun e => e.2

/-- The action takes place. -/
def State.perform (s : State) : Due → State
  | .capacity g m => s.capacityApply g m
  | .gateStart p => s.gateStart p
  | .gateEntry p => s.gateChange p
  | .timer n => s.timerFires n
  | .snapshot => s.snapLatch
  | .freeze => s.freezeChange

/-- The actions that are due take place in order of instant, at most n of them. -/
def State.performDue : Nat → State → State
  | 0, s => s
  | n + 1, s => match s.nextDue with | none => s | some d => State.performDue n (s.perform d)

/-- The count becomes count + STEP, STEP signed, and STEPDONE is set (R83). -/
def State.counted (s : State) (step : BitVec 64) : State :=
  ({ s with tim := { s.tim with count := s.tim.count + step, step := none } }).irq pgTIM irqSTEPDONE

/-- A step (R83). What a forward step passes over is performed at once in order of instant (R84), and the buckets are
credited with the intervals it passes; a backward step repeats nothing (R84, R225). -/
def State.stepCount (s : State) (step : BitVec 64) : State :=
  if step.msb then (s.settleAll.counted step).anchorAll
  else State.performDue ((step.toNat + 1) * 1024) (s.counted step)

/-- A write of STEPCTL with GO 1 (R83): NOW is stored; a GO while PENDING is dropped and counted; otherwise STEP and
STEPAT are latched, and a step already past, or one with NOW 1, applies at once and sets STEPLATE. -/
def State.stepGo (s : State) (w : Word) : State :=
  let s := s.setF TIM.STEPCTL 1 1 (fld w 1 1)
  if s.tim.step.isSome then s.badAcc
  else
    let step := BitVec.ofNat 64 (s.rd64 TIM.STEP_LO TIM.STEP_HI)
    let at_ := s.rd64 TIM.STEPAT_LO TIM.STEPAT_HI
    if decide (at_ < s.tai) || fld w 1 1 = 1 then (s.stepCount step).setB TIM.STAT 4
    else { s with tim := { s.tim with step := some (step, BitVec.ofNat 64 at_) } }

/-- STEP_GO (R83). A write without GO only stores NOW. -/
def execStepGo (w : Word) (s : State) : Host.Outcome State Fault Refusal :=
  .next (s.hostWr TIM.STEPCTL fun s =>
    if s.busy pgTIM && fld w 0 0 = 1 then (s.setF TIM.STEPCTL 1 1 (fld w 1 1)).badAcc
    else if fld w 0 0 = 1 then s.stepGo w else s.setF TIM.STEPCTL 1 1 (fld w 1 1))

/-- STEP_APPLY (R83, R84): at the latched instant the count steps. Nothing is scheduled: no effect. -/
def execStepApply (s : State) : Host.Outcome State Fault Refusal :=
  .next (match s.tim.step with
    | none => s
    | some (step, at_) => (s.untilInstant at_.toNat).stepCount step)

end Sys2Proof.Machine
end

