-- ==== Sys2Proof/Machine/RegHooks.lean ====
section
/-! DEFINITION. What a write of each register does besides its access codes: the checks a chapter states for it, the
operation it starts, and the words it latches. Every other register takes the write field by field (R8). A key `a` is the
register's BAR0 offset. -/

namespace Sys2Proof.Machine

/-- The entry of an array of registers that an offset names, where the array starts at `first` and is `stride` apart. -/
def nth (a first stride : Nat) : Nat := (a - first) / stride

/-- The offset is that of an entry of an array of n registers. -/
def inRow (a first stride n : Nat) : Bool := first ≤ a && decide (a < first + stride * n) && (a - first) % stride == 0

/-- The BAR0 offset of an indexed register. -/
def base24 (k : Nat) : Nat := k % 16777216

/-- An RWS field with a limit of its own: `n` is what the field takes for the written value `v`. -/
def State.rwsLim (s : State) (who key hi lo v n : Nat) : State :=
  let old := s.f key hi lo
  if v = old then s
  else if !s.rwsFree who then s.sealReject key
  else if n = old then s
  else (s.setF key hi lo n).cfgGen

/-! ## Counter clears -/

/-- Keys of a range whose register is `step`-spaced from `first`, n of them. -/
def keysOf (first step n : Nat) : List Nat := (List.range n).map fun i => first + step * i

/-- Every entry of an indexed register that is listed. -/
def State.entries24 (s : State) (base : Nat) : List Nat :=
  (s.regs.filter fun e => 16777216 ≤ e.1 && decide (e.1 < 1152921504606846976) && e.1 % 16777216 == base).map fun e => e.1

/-- The registers that a write of a CNTCLR sets to 0, for each bit of it. -/
def State.clrKeys (s : State) (k : Kind) (i : Nat) : List (List Nat) :=
  match k with
  | .ip => [IP.SHADOWED i :: keysOf (IP.EXCCNT i 0) 4 256,
      (List.range 16).flatMap fun n => [IP.HITCNT i n, IP.MISSCNT i n, IP.SNOTRUN i n], [IP.EXCPOLDROP i, IP.RSTDROP i]]
  | .ep => [(List.range 8).flatMap fun n => [EP.HITCNT i n, EP.MISSCNT i n, EP.SNOTRUN i n],
      [EP.LIFTDROP i, EP.ACTDROP i, EP.RSTDROP i]]
  | .tbl => [[TBL.CMDREJ], [TBL.LPMERR, TBL.DMAERR, TBL.SCRUBFIX, TBL.SCRUBUNC]]
  | .tcm => [[TCM.SHADOWFIX, TCM.SHADOWLOST]]
  | .lrn => (List.range 2).map fun h => keysOf (LRN.NEWCNT h) 4 7
  | .ver => [[VER.COMMITS, VER.STALLS]]
  | .tmg => [[], keysOf TMG.SPILLPAGES 4 6, (List.range 8).flatMap fun n => [TMG.RINKCOPIES n, TMG.RINKDROPPED n]]
  | .bpm => [(List.range 3).flatMap fun o => [BPM.OALLOCS o, BPM.OREFUSALS o, BPM.OPEAK o], [BPM.HOSTERR]]
  | .sch => [[SCH.GLATE, SCH.SNOWDEFER, SCH.XLOSTCNT]]
  | .blg => [BLG.NOGRP :: (List.range 4).flatMap fun n => [BLG.CNACC n, BLG.CNREJ n, BLG.CNTRUNC n],
      (List.range 32).flatMap fun g => keysOf (BLG.GCNT g 0) 4 16,
      (List.range 512).flatMap fun c =>
        [BLG.NLATE (c / 16) (c % 16), BLG.OVERB_LO (c / 16) (c % 16), BLG.OVERB_HI (c / 16) (c % 16)]]
  | .msc => [(List.range 8).flatMap fun n => s.entries24 (MSC.SECYCNT n), (List.range 4).flatMap fun n => s.entries24 (MSC.SACNT n),
      [MSC.NOTRUNDROP, MSC.TXSELERR]]
  | .key => [[KEY.SPIERR]]
  | .drc => [[DRC.ECCCORR, DRC.ECCUNC, DRC.ADDRERR],
      (List.range 6).flatMap fun p => [DRC.READS p, DRC.WRITES p, DRC.URGENT p, DRC.PANICS p, DRC.LATEREAD p, DRC.MAXLAT p]]
  | .dc => [keysOf (DC.ECCCORR i) 4 10]
  | .hst => [HST.CPLERR :: (List.range 64).flatMap fun u => [HST.RXNOQP u, HST.INJPKTS u]]
  | .dma => [[DMA.XFERS, DMA.FAILS, DMA.LATEERRS]]
  | .pwr => [[PWR.BROWNCNT, PWR.SLEWOVER, PWR.WITHHELD, PWR.DEFERS, PWR.BALLASTUS]]
  | .evt => [keysOf EVT.TAKEOVERS 4 8]
  | .cnt => [[CNT.SNAPLOST]]
  | .dev => [[DEV.ABSENTWR], [DEV.BADACC]]
  | _ => []

/-- A write of a page's CNTCLR: each bit written 1 clears its group. -/
def State.cntClr (s : State) (k : Kind) (i : Nat) (w : Word) : State :=
  let l := s.clrKeys k i
  let s := s.zero ((List.range l.length).flatMap fun n => if w.getLsbD n then l.getD n [] else [])
  match k with
  | .tmg => if w.getLsbD 0 then s.setTmg { s.tmg with pc := [] } else s
  | .drc => if w.getLsbD 1 then (s.setF DRC.TAGUSE_E 25 16 0).setF DRC.TAGUSE_W 25 16 0 else s
  | _ => s

/-- The BAR0 offset of a page's CNTCLR. -/
def clrAt (k : Kind) (i : Nat) : Option Nat :=
  match k with
  | .ip => some (IP.CNTCLR i) | .ep => some (EP.CNTCLR i) | .tbl => some TBL.CNTCLR | .tcm => some TCM.CNTCLR
  | .lrn => some LRN.CNTCLR | .ver => some VER.CNTCLR | .tmg => some TMG.CNTCLR | .bpm => some BPM.CNTCLR
  | .sch => some SCH.CNTCLR | .blg => some BLG.CNTCLR | .msc => some MSC.CNTCLR | .key => some KEY.CNTCLR
  | .drc => some DRC.CNTCLR | .dc => some (DC.CNTCLR i) | .hst => some HST.CNTCLR | .dma => some DMA.CNTCLR
  | .pwr => some PWR.CNTCLR | .evt => some EVT.CNTCLR | .cnt => some CNT.CNTCLR | .dev => some DEV.CNTCLR
  | _ => none

/-! ## Pages. `t` is the state in which every field has taken the write under its access code. -/

/-- The header (R36). -/
def State.hookHdr (s t : State) (p o : Nat) (w : Word) : State :=
  if o = 0x28 then s.forceWr p w
  else if o = 0x2C then if fld w 31 31 = 1 then s.wr (HDR.FLTCNT p) 0 else s
  else if o = 0x40 || o = 0x44 then t.irqEdge p (s.irqReq p)
  else if 0x80 ≤ o && o < 0xA0 then s.cselWrite p ((o - 0x80) / 4) w
  else t

/-- DEV. -/
def State.hookDev (s t : State) (who a : Nat) (w : Word) : State :=
  if a = DEV.LOADCTL then s.loadctlWr w
  else if a = DEV.VALIDATE then s.validateWr w
  else if a = DEV.SEAL then s.sealWr who w
  else if a = DEV.SEALREJ then if fld w 31 31 = 1 then s.wr DEV.SEALREJ 0 else s
  else if a = DEV.RUNCTL then s.runctl who w
  else if a = DEV.RSTCTL then s.rstctlWr w
  else t

/-- FLT. -/
def State.hookFlt (s t : State) (who a : Nat) (w : Word) : State :=
  if a = base24 (FLT.RXVAL 0) then s.rxvalWr who w
  else if a = FLT.ACK then s.fltAck w
  else if a = FLT.LEGCLR then s.legClr w
  else t

/-- TIM. -/
def State.hookTim (s t : State) (a : Nat) (w : Word) : State :=
  if a = TIM.RATE then s.writeRate w
  else if a = TIM.STEPCTL then if fld w 0 0 = 1 then s.stepGo w else t
  else if inRow a (TIM.TMRCTL 0) 32 16 then s.timerWr (nth a (TIM.TMRCTL 0) 32) w
  else t

/-- Port group g. -/
def State.hookPg (s t : State) (who g a : Nat) (w : Word) : State :=
  if a = PG.PCNTCLR g then s.pgClear g w
  else if inRow a (PG.PFCTIME g 0) 64 8 then s.wr a (pfcTime w)
  else if a = PG.TSF_POP g then if fld w 0 0 = 1 then s.tsfPop g else s
  else if a = PG.MOGCTL g then s.mogArm who g w
  else if inRow a (PG.MOG0 g 0) 64 8 then t.mogParam g (nth a (PG.MOG0 g 0) 64)
  else if inRow a (PG.MOGPARAM g 0) 64 8 then t.mogParam g (nth a (PG.MOGPARAM g 0) 64)
  else t

/-- TBL. -/
def State.hookTbl (s t : State) (a : Nat) (w : Word) : State :=
  if a = TBL.CMDGO then if fld w 0 0 = 1 then s.tblGo s.cmdWords else s
  else if a = TBL.CMPLPOP then if fld w 0 0 = 1 then s.cmplPop else s
  else t

/-- LRN: the ring registers stand still while LRN runs or drains, and CIDX is taken modulo the size. -/
def State.hookLrn (s t : State) (a : Nat) (w : Word) : State :=
  if LRN.RINGLO 0 ≤ a && a < LRN.RINGLO 2 then
    let h := (a - LRN.RINGLO 0) / 128
    let b := (s.blk pgLRN).st
    if a ≤ LRN.RINGSIZE h then if b = .running || b = .draining then s.badAcc else t
    else if a = LRN.CIDX h then s.setF a 15 0 (fld w 15 0 % 2 ^ s.f (LRN.RINGSIZE h) 4 0)
    else t
  else t

/-- TMG. -/
def State.hookTmg (s t : State) (a : Nat) (w : Word) : State :=
  if a = base24 (TMG.MCENT1 0) then s.mcentWr w
  else if inRow a (TMG.RINKCFG 0) 32 8 then s.rinkWr (nth a (TMG.RINKCFG 0) 32) w
  else if a = TMG.PCIDX then s.pcidxWr w
  else t

/-- The entry of GLENT or the LEN field of GLEN belongs to the operational or the pending list. -/
def State.listInUse (s : State) (p list : Nat) : Bool :=
  let g := s.gate p
  (g.op.toList ++ g.pend.toList).any fun r => r.list == list

/-- SCH. -/
def State.hookSch (s t : State) (a : Nat) (w : Word) : State :=
  if a = SCH.NODEIDX then
    let l := t.levels (t.f SCH.NODEIDX 12 0)
    { t with sch := { t.sch with nodeLvl := (lvlWord l.1, lvlWord l.2) } }
  else if a = SCH.POLIDX then
    let l := t.levels (shPol (t.f SCH.POLIDX 17 17) (t.f SCH.POLIDX 16 0))
    { t with sch := { t.sch with polLvl := (lvlWord l.1, lvlWord l.2) } }
  else if a = base24 (SCH.SHCTL 0) then s.shctl (s.f SCH.NODEIDX 12 0) w
  else if a = base24 (SCH.POLCTL 0) then s.polctl (s.f SCH.POLIDX 17 0) w
  else if inRow a (SCH.PSHCTL 0) 32 160 then s.pshctl (nth a (SCH.PSHCTL 0) 32) w
  else if inRow a (SCH.CAPCTL 0) 16 512 then s.capctl (nth a (SCH.CAPCTL 0) 16) w
  else if a = base24 (SCH.GLENT 0) then
    if s.listInUse (s.f SCH.GLIDX 7 0) (s.f SCH.GLIDX 8 8) then s.badAcc else t
  else if inRow a (SCH.GLEN 0) 32 160 then
    let p := nth a (SCH.GLEN 0) 32
    let ua := s.listInUse p 0
    let ub := s.listInUse p 1
    let t := if ua then t.setF a 8 0 (s.f a 8 0) else t
    let t := if ub then t.setF a 24 16 (s.f a 24 16) else t
    if ua || ub then t.badAcc else t
  else if inRow a (SCH.GATECTL 0) 32 160 then s.gateCtl (nth a (SCH.GATECTL 0) 32) w
  else t

/-- BLG: a notice from the host, and what follows from members' and groups' settings. -/
def State.hookBlg (s t : State) (a : Nat) (w : Word) : State :=
  if a = BLG.HNOT2 then s.hnot2 w
  else if BLG.GCFG 0 ≤ a && a < BLG.GCFG 32 then
    let g := (a - BLG.GCFG 0) / 1024
    if a = BLG.GCFG g then
      let t := if t.fb a 0 && !s.fb a 0 then t.journal (.seqMark g (t.rd (BLG.TXSEQ g)).toNat) else t
      (List.range 16).foldl (fun x m => x.memberCfg g m) t
    else if inRow a (BLG.MCFG g 0) 32 16 then (t.memberExcl g (nth a (BLG.MCFG g 0) 32)).memberCfg g (nth a (BLG.MCFG g 0) 32)
    else t
  else t

/-- Some SA of SecY y has INUSE 1. -/
def State.secyInUse (s : State) (y : Nat) : Bool :=
  (s.indexed (MSC.SACFG0 0)).any fun e => fld e.2 16 16 == 1 && s.saSecy e.1 == y

/-- The port of receive SC c. -/
def State.scPort (s : State) (c : Nat) : Nat := fld (s.secyCfg (s.f (MSC.RXSCCFG c) 12 1)) 8 1

/-- The RXSCCFG that SC c holds is one that R294 drops. -/
def State.scClash (s : State) (c : Nat) : Bool :=
  s.fb (MSC.RXSCCFG c) 0 && (s.rxScs.filter fun d => d ≠ c).any fun d =>
    (s.scPort d == s.scPort c && s.rd64 (MSC.RXSCI_LO d) (MSC.RXSCI_HI d) == s.rd64 (MSC.RXSCI_LO c) (MSC.RXSCI_HI c)) ||
    (s.fb (MSC.RXSCCFG c) 14 && s.fb (MSC.RXSCCFG d) 14 && s.f (MSC.RXSCCFG d) 12 1 == s.f (MSC.RXSCCFG c) 12 1)

/-- A write of SACFG0 of an SA. -/
def State.sacfg0 (s t : State) (sa : Nat) (w : Word) : State :=
  if !t.ctxUnique sa then s.badAcc
  else (t.setF (MSC.SACFG0 sa) 16 16 (s.f (MSC.SACFG0 sa) 16 16)).setInUse sa (fld w 16 16 = 1)

/-- MSC. -/
def State.hookMsc (s t : State) (a : Nat) (w : Word) : State :=
  let sa := (s.rd MSC.SAIDX).toNat
  if a = MSC.SECYIDX then
    let y := t.f MSC.SECYIDX 11 0
    { t with msc := { t.msc with secyLatch := (List.range 8).map fun i => t.rd (bankKey (MSC.SECYCNT i) y) } }
  else if a = base24 (MSC.SECYCFG 0) then
    let y := s.f MSC.SECYIDX 11 0
    if fld (s.secyCfg y) 12 9 ≠ fld w 12 9 && s.secyInUse y then s.badAcc
    else { t with msc := { t.msc with unc := t.msc.unc.filter fun x => x ≠ y } }
  else if a = base24 (MSC.RXSCCFG 0) then if t.scClash (t.f MSC.RXSCIDX 12 0) then s.badAcc else t
  else if a = MSC.SAIDX then
    let v := if fld w 15 15 = 0 then min (fld w 14 0) 16383 else fld w 15 0
    let t := s.wr MSC.SAIDX (BitVec.ofNat 32 v)
    { t with msc := { t.msc with saLatch := (List.range 4).map fun i => t.rd (bankKey (MSC.SACNT i) v) } }
  else if a = base24 (MSC.SACFG0 0) then s.sacfg0 t sa w
  else if a = base24 (MSC.SACFG1 0) then if t.ctxUnique sa then t else s.badAcc
  else t

/-- KEY. -/
def State.hookKey (s t : State) (a : Nat) (w : Word) : State :=
  if a = KEY.ERASE then s.eraseWr w
  else if a = KEY.ZEROIZE then s.zeroizeWr w
  else if KEY.UMAP0 0 ≤ a && a < KEY.UMAP0 64 then if t.umapOk then t else s.badAcc
  else t

/-- DRC. -/
def State.hookDrc (s t : State) (a : Nat) (w : Word) : State :=
  if a = DRC.FCTL then s.fctl w
  else if inRow a (DRC.PLAT 0) 64 6 then t.setF a 31 16 (max (t.f a 31 16) (t.f a 15 0))
  else t

/-- A FUNC write is one that R327 drops: a channel with two users, or a channel that is not IDLE changing hands. -/
def State.funcClash (s : State) (u : Nat) (w : Word) : Bool :=
  let old := s.rd (HST.FUNC u)
  let busyCh (v : Word) : Bool := fld v 5 5 == 1 && s.dmaSt (fld v 4 0) != dsIDLE
  (fld w 5 5 == 1 && (List.range 64).any fun x => x != u && s.fb (HST.FUNC x) 5 && s.f (HST.FUNC x) 4 0 == fld w 4 0)
    || (fld old 5 0 != fld w 5 0 && (busyCh old || busyCh w))

/-- HST. A bucket is credited at the rate in force before that changes. -/
def State.hookHst (s t : State) (a : Nat) (w : Word) : State :=
  if HST.FUNC 0 ≤ a && a < HST.FUNC 64 then
    let u := (a - HST.FUNC 0) / 32
    if a = HST.FUNC u then if s.funcClash u w then s.badAcc else t
    else if a = HST.INJRATE u || a = HST.INJBURST u then
      let x := s.injCharge u 0
      { t with hst := x.hst }
    else t
  else t

/-- A write of a register of DMA channel c, at its offset in the channel's section. -/
def State.chanWr (s t : State) (c o : Nat) (w : Word) : State :=
  if o = 0 then s.dctlWr c w
  else if o = 4 || o = 8 || o = 0xC then if s.fb (DMA.DCTL c) 0 then s.badAcc else t
  else if o = 0x10 then s.setF (DMA.PIDX c) 11 0 (fld w 11 0 % s.dmaSize c)
  else if o = 0x1C || o = 0x20 then t.dmaEdge c (s.dmaReq c)
  else if o = 0x2C then if fld w 0 0 = 1 then s.zero [DMA.COMPLETED c, DMA.TRIGLOST c] else s
  else t

/-- DMA (R334). -/
def State.hookDma (s t : State) (a : Nat) (w : Word) : State :=
  if DMA.DCTL 0 ≤ a && a < DMA.DCTL 32 then
    let c := (a - DMA.DCTL 0) / 64
    if s.dmaOwner c ≠ 0 && !(a = DMA.DCTL c && fld w 0 0 = 0) then s.badAcc
    else s.chanWr t c ((a - DMA.DCTL 0) % 64) w
  else t

/-- PWR: limits that depend on another field, which the write leaves first. -/
def State.hookPwr (s t : State) (who a : Nat) (w : Word) : State :=
  let rws (s : State) (hi lo : Nat) : State := s.rwsPut who a ⟨hi, lo, .rws, 0, .any⟩ (fld w hi lo)
  if a = PWR.AVSCFG then
    let v := sext 6 (fld w 5 0)
    let n : Int := max (-20) (min 20 v)
    let s := (s.setF a 5 0 (n % 64).toNat).rwsPut who a ⟨6, 6, .rws, 1, .any⟩ (fld w 6 6)
    s.setF PWR.AVSSTAT 27 27 (b2n (s.fb a 6 && s.avsTarget ≠ s.f PWR.AVSSTAT 10 0))
  else if a = PWR.CORETH then
    let s := rws s 7 0
    let v := fld w 15 8
    let wn := s.f a 7 0
    rws (s.rwsLim who a 15 8 v (if wn < v then v else min 255 (wn + 10))) 23 16
  else if inRow a (PWR.VMONTH0 0) 8 8 then
    let s := rws s 11 0
    let v := fld w 27 16
    let wn := s.f a 11 0
    s.rwsLim who a 27 16 v (if v < wn then v else wn - 10)
  else if a = PWR.THERM then
    let s := rws s 7 0
    let v := fld w 15 8
    let wn := s.f a 7 0
    s.rwsLim who a 15 8 v (min 125 (if wn < v then v else wn + 5))
  else t

/-- CNT. -/
def State.hookCnt (s t : State) (a : Nat) (w : Word) : State :=
  if a = CNT.SNAPCTL then s.snapCtl w
  else if a = CNT.FREEZECTL then s.freezeCtl w
  else if a = base24 (CNT.USERVIS 0) then
    let g := s.f CNT.UVIDX 10 0
    if fld w 25 25 = 1 && (s.indexed (CNT.USERVIS 0)).any fun e =>
        e.1 ≠ g && fld e.2 25 25 == 1 && fld e.2 13 0 == fld w 13 0 then s.badAcc
    else t
  else t

/-- A write reaches a register of a page. -/
def State.put (s : State) (who p o : Nat) (r : Row) (w : Word) : State :=
  let a := p * 65536 + o
  let t := s.regPut who (s.regKey p o r) r w
  if o < 256 then s.hookHdr t p o w
  else match kindOf p with
    | none => s
    | some (k, i) =>
      if clrAt k i = some a then s.cntClr k i w
      else match k with
        | .dev => s.hookDev t who a w
        | .flt => s.hookFlt t who a w
        | .tim => s.hookTim t a w
        | .pg => (s.hookPg t who i a w).xokAll
        | .ip => if a = IP.ACNTCLR i then (if fld w 0 0 = 1 then s.zero [IP.REDDROP i, IP.NOEGRDROP i] else s) else t
        | .tbl => s.hookTbl t a w
        | .lrn => s.hookLrn t a w
        | .ver => if a = VER.CTL then s.verCtl w else t
        | .tmg => (s.hookTmg t a w).xokAll
        | .bpm => if a = BPM.RECLAIM then s.reclaimWr w else t
        | .sch => (s.hookSch t a w).xokAll
        | .blg => (s.hookBlg t a w).rxStates.xokAll
        | .msc => s.hookMsc t a w
        | .key => s.hookKey t a w
        | .drc => s.hookDrc t a w
        | .hst => s.hookHst t a w
        | .dma => s.hookDma t a w
        | .pwr => s.hookPwr t who a w
        | .evt => if a = EVT.CTL then s.evtCtl w else if a = EVT.POLICY then t.resyncPoll else t
        | .cnt => s.hookCnt t a w
        | .clk | .tcm | .ep | .dc => t

end Sys2Proof.Machine
end

