-- ==== Sys2Proof/Machine/RegWrite.lean ====
section
/-! DEFINITION. Host writes: order of the checks (R3, R8, R31, R33, R46, R48, R65), the held word of a pair (R7), and the
user pages (R47, R48). -/

namespace Sys2Proof.Machine

/-! ## BUSY (R46) -/

/-- No field of the register is RW or RWS. -/
def Row.actOnly (r : Row) : Bool := r.fields.all fun f => f.acc != .rw && f.acc != .rws

/-- While the page is BUSY, the W1C, W1S and WO part of a write is dropped and counted, and the rest takes effect. -/
def State.busyGate (s : State) (page : Nat) (r : Row) (w : Word) (g : State → Word → State) : State :=
  if s.busy page && r.acts w then
    (if r.actOnly then s else g s (r.quiet w)).badAcc
  else g s w

/-! ## 64-bit pairs (R7) -/

/-- Bits [hi:lo] of a number. -/
def nbits (v hi lo : Nat) : Nat := v / 2 ^ lo % 2 ^ (hi + 1 - lo)

/-- An RWS field of a pair takes a written 64-bit value; it counts once (R40, R66). -/
def State.rwsWide (s : State) (who lo v : Nat) (f : Nat × Nat) : State :=
  let old := s.rd64 lo (lo + 4)
  let a := nbits old f.1 f.2
  let b := nbits v f.1 f.2
  if a = b then s
  else if !s.rwsFree who then s.sealReject lo
  else (s.wr64 lo (lo + 4) (old - a * 2 ^ f.2 + b * 2 ^ f.2)).cfgGen

/-- The RWS fields of a pair that hold one value across both words. -/
def wideFields (a : Nat) : Option (List (Nat × Nat)) :=
  if a = BLG.HBDA_LO || a = BLG.HBSA_LO then some [(47, 0)]
  else if a = EVT.PNMARGIN_LO then some [(63, 0)]
  else if HST.FUNC 0 ≤ a && a < HST.FUNC 64 then some ((List.range 8).map fun q => (5 * q + 4, 5 * q))
  else match kindOf (a / 65536) with
    | some (.ep, g) => if EP.TPL_LO g 0 ≤ a then some [(63, 0)] else none
    | _ => none

/-- Both words of a pair, or its high word alone, are committed. `o` is the offset of the low word. A high word of
HOSTRET with no low word held returns the page that it and a low word of 0 name (log entry 99). -/
def State.commitPair (s : State) (who p o : Nat) (rl rh : Row) (low : Option Word) (high : Word) : State :=
  let a := p * 65536 + o
  let kl := s.regKey p o rl
  let kh := s.regKey p (o + 4) rh
  let v := (low.getD (s.rd kl)).toNat + high.toNat * 4294967296
  let plain : State :=
    let t := match low with | some w => s.regPut who kl rl w | none => s
    t.regPut who kh rh high
  if s.busy p && (rh.acts high || match low with | some w => rl.acts w | none => false) then s.badAcc
  else if inRow a (TIM.TGT_LO 0) 32 16 || inRow a (TIM.PERIOD_LO 0) 32 16 then
    if s.fb (TIM.TMRCTL ((o - 0x200) / 32)) 0 then s.badAcc else plain
  else if a = BPM.HOSTRET_LO then s.hostRet v
  else if a = base24 (MSC.NEXTPN_LO 0) then s.writeNextPn (s.rd MSC.SAIDX).toNat v
  else match wideFields a with
    | some l => l.foldl (fun t f => t.rwsWide who kl v f) s
    | none => plain

/-- The low word of a pair is held; a held word it replaces is counted. -/
def State.holdLow (s : State) (who key : Nat) (w : Word) : State :=
  let a := s.path who
  let s := if a.held.isSome then s.badAcc else s
  s.setPath who { a with held := some (key, w) }

/-- The word held for a pair, and the path without it. -/
def State.takeHeld (s : State) (who key : Nat) : Option Word × State :=
  let a := s.path who
  match a.held with
  | some (k, w) => if k = key then (some w, s.setPath who { a with held := none }) else (none, s)
  | none => (none, s)

/-! ## BAR0 -/

/-- One aligned 32-bit write of BAR0 on an access path. -/
def State.write0 (s : State) (who p o : Nat) (w : Word) : State :=
  if !s.present p then s.absentWrite 0 0 (p * 65536 + o)
  else match pageRow p o with
    | none => s
    | some r =>
      if o = 0x10 then s.blkctlWr who p w
      else if r.pair then s.holdLow who (p * 65536 + o) w
      else match (if 4 ≤ o then pageRow p (o - 4) else none) with
        | some rl =>
          if rl.pair then
            let x := s.takeHeld who (p * 65536 + (o - 4))
            x.2.commitPair who p (o - 4) rl r x.1 w
          else s.busyGate p r w fun s w => s.put who p o r w
        | none => s.busyGate p r w fun s w => s.put who p o r w

/-! ## User pages -/

/-- A write of queue pair q's section (chapter 14): a change of a running side's ring is dropped and counted. -/
def State.qpWr (s : State) (u q o : Nat) (r : Row) (w : Word) : State :=
  let k := bar2Key u o
  let t := s.regPut u k r w
  let d := o % 1024
  if d = 0 then
    let old := s.rd k
    let new := t.rd k
    if (fld old 0 0 = 1 && fld old 5 2 ≠ fld new 5 2) || (fld old 1 1 = 1 && fld old 16 6 ≠ fld new 16 6) then s.badAcc
    else t.txFlush u q
  else if d = 0x14 || d = 0x1C || d = 0x20 then t.qpPoll u q
  else if d = 0x30 then if fld w 0 0 = 1 then s.zero [USER.TXPKTS u q, USER.TXERRS u q, USER.RXPKTS u q] else s
  else t

/-- A write of the key store's section. -/
def State.ukeyWr (s : State) (u o : Nat) (r : Row) (w : Word) : State :=
  if 0x4010 ≤ o && o < 0x4050 then s.wr (bar2Key u o) w
  else if o = 0x4050 then s.importGo u w
  else if o = 0x4058 then s.userErase u w
  else s.regPut u (bar2Key u o) r w

/-- A write of the section of cipher contexts: CTXIDX, then the registers of the context it names. -/
def State.uctxWr (s : State) (u o : Nat) (r : Row) (w : Word) : State :=
  if o = 0x4100 then s.regPut u (bar2Key u o) r w
  else if o = 0x4108 then s.ctxCfgWr u w
  else match s.curCtx u with
    | none => s.denied u
    | some sa => if o = 0x4114 then s.wr (MSC.SSCI sa) w else s

/-- The high word of a pair of a user page, with the low word if it was held. The pairs of counters are read-only. -/
def State.userPair (s : State) (u o : Nat) (rl rh : Row) (low : Option Word) (high : Word) : State :=
  let kl := bar2Key u o
  if 0x8000 ≤ o then s
  else if o = 0x410C then
    match s.curCtx u with
    | none => s.denied u
    | some sa => s.writeNextPn sa ((low.getD (s.rd (MSC.NEXTPN_LO sa))).toNat + high.toNat * 4294967296)
  else
    let t := match low with | some w => s.regPut u kl rl w | none => s
    let t := t.regPut u (kl + 4) rh high
    let on := s.fb (USER.QPCFG u ((o - 0x2000) / 1024)) (if o % 1024 = 4 then 0 else 1)
    if on && t.rd64 kl (kl + 4) ≠ s.rd64 kl (kl + 4) then s.badAcc else t

/-- The section names a resource that is not assigned to the user (R48). -/
def State.notMine (s : State) (u o : Nat) : Bool :=
  if o < 0x1000 then false
  else if o < 0x2000 then (s.userCh u).isNone
  else if o < 0x4000 then !s.qpMask u ((o - 0x2000) / 1024)
  else if 0x4104 ≤ o && o < 0x4128 then (s.curCtx u).isNone
  else if 0x8000 ≤ o && o < 0x9000 then (s.grant u ((o - 0x8000) / 16)).isNone
  else false

/-- A write reaches a register of user u's page. -/
def State.userPut (s : State) (u o : Nat) (r : Row) (w : Word) : State :=
  if o < 0x1000 then (if o = 0xC && fld w 0 0 = 1 then s.wr (USER.DENIED u) 0 else s)
  else if o < 0x2000 then
    match s.userCh u with
    | some c =>
      let k := DMA.DCTL c + (o - 0x1000)
      s.chanWr (s.regPut u k r w) c (o - 0x1000) w
    | none => s
  else if o < 0x4000 then s.qpWr u ((o - 0x2000) / 1024) o r w
  else if o < 0x4100 then s.ukeyWr u o r w
  else if o < 0x8000 then s.uctxWr u o r w
  else s

/-- One aligned 32-bit write of function u's BAR2. -/
def State.write2 (s : State) (u o : Nat) (w : Word) : State :=
  match findRow rowsUSER o with
  | none => if s.notMine u o then s.denied u else s
  | some r =>
    let p := userUnit o
    if !s.present p then s.absentWrite 1 u o
    else if s.notMine u o then s.denied u
    else if r.pair then s.holdLow u (bar2Key u o) w
    else match (if 4 ≤ o then findRow rowsUSER (o - 4) else none) with
      | some rl =>
        if rl.pair then
          let x := s.takeHeld u (bar2Key u (o - 4))
          x.2.userPair u (o - 4) rl r x.1 w
        else s.busyGate p r w fun s w => s.userPut u o r w
      | none => s.busyGate p r w fun s w => s.userPut u o r w

/-- One aligned 32-bit write of function u's BAR4: the indices are taken modulo the ring's size (R329). -/
def State.write4 (s : State) (u o : Nat) (w : Word) : State :=
  let q := o / 8192
  if !s.qpMask u q then s.denied u
  else if o % 8192 = 0 then s.setF (IDX.TXPIDX u q) 11 0 (fld w 11 0 % s.txSize u q)
  else if o % 8192 = 8 then s.setF (IDX.RXPIDX u q) 11 0 (fld w 11 0 % s.rxSize u q)
  else s

/-! ## The commands -/

/-- A host's 32-bit write. LOAD drops every write to BAR0 and BAR2 but those of LOADCTL and RSTCTL (R65), and one of an
absent page counts in BADACC alone (log entry 108); a function other than the PF has no BAR0, and one that does not exist
has no page (R30, R49). -/
def State.hostWrite (s : State) (u : Nat) (bar : Sys2Proof.Bar) (o : Nat) (w : Word) : Host.Outcome State Fault Refusal :=
  match bar with
  | .bar0 =>
    .next (if u ≠ 0 then s
      else if o % 4 ≠ 0 then s.malformed
      else if s.dev.state = .load && o ≠ DEV.LOADCTL && o ≠ DEV.RSTCTL then s.badAcc
      else s.write0 0 (o / 65536) (o % 65536) w)
  | .bar2 =>
    if 65536 ≤ o then .fault .illFormed
    else .next (if !s.fnHere u then s
      else if o % 4 ≠ 0 then s.malformed
      else if s.dev.state = .load then s.badAcc
      else s.write2 u o w)
  | .bar4 =>
    if 65536 ≤ o || o % 4 ≠ 0 then .fault .illFormed
    else .next (if !s.fnHere u then s else s.write4 u o w)

/-- REG_WRITE (R8). -/
def execRegWrite (fn : Fn) (bar : Sys2Proof.Bar) (off : Offset) (w : Word) (s : State) : Host.Outcome State Fault Refusal :=
  s.hostWrite fn.val bar off.toNat w

/-- PAIR_LOW_WRITE (R7). -/
def execPairLowWrite (fn : Fn) (bar : Sys2Proof.Bar) (off : Offset) (w : Word) (s : State) :
    Host.Outcome State Fault Refusal :=
  s.hostWrite fn.val bar off.toNat w

/-- PAIR_HIGH_WRITE (R7). -/
def execPairHighWrite (fn : Fn) (bar : Sys2Proof.Bar) (off : Offset) (w : Word) (s : State) :
    Host.Outcome State Fault Refusal :=
  s.hostWrite fn.val bar off.toNat w

/-- COUNTER_CLEAR: a write of a counter-clear register. -/
def execCounterClear (fn : Fn) (bar : Sys2Proof.Bar) (off : Offset) (w : Word) (s : State) :
    Host.Outcome State Fault Refusal :=
  s.hostWrite fn.val bar off.toNat w

/-- MEMBER_EXCLUDE (R254): a write of a member's settings. -/
def execMemberExclude (g : Fin 32) (m : Fin 16) (w : Word) (s : State) : Host.Outcome State Fault Refusal :=
  s.hostWrite 0 .bar0 (BLG.MCFG g.val m.val) w

/-- HOST_PAGE_RETURN (R212): a write of HOSTRET's high word. -/
def execHostPageReturn (w : Word) (s : State) : Host.Outcome State Fault Refusal := s.hostWrite 0 .bar0 BPM.HOSTRET_HI w

end Sys2Proof.Machine
end

