-- ==== Sys2Proof/Machine/Loader.lean ====
section
/-! DEFINITION. The Strelyn loader: images (R60 to R62), their verification, and the records of a CONFIG section (R62,
R63). -/

namespace Sys2Proof.Machine

/-! ## Images (R62) -/

/-- n bytes at an offset as a little-endian number. -/
def leAt (l : List Byte) (o n : Nat) : Nat := leNat (slice l o n)

/-- Every byte is 0. -/
def zeros (l : List Byte) : Bool := l.all fun b => b == 0

/-- The header's own checks. -/
def headerOk (l : List Byte) : Bool :=
  64 ≤ l.length && leAt l 0 4 == 0x4C525453 && leAt l 4 2 == 1 && leAt l 6 2 == 0x40 && decide (leAt l 8 4 ≤ 0x800000) &&
    leAt l 0xC 2 == 0x3200 && decide (leAt l 0xE 1 < 8) && decide (1 ≤ leAt l 0xF 1) && zeros (slice l 0x1C 32) &&
    leAt l 0x3C 4 == (crc32c (l.take 0x3C)).toNat

/-- A section: where it starts, its payload, and whether its CRC matches. -/
structure Section where
  at_ : Nat
  payload : List Byte
  good : Bool

/-- A section of the given type at an offset; none where its header is malformed or the image ends in it. -/
def sectionAt (l : List Byte) (ty o : Nat) : Option Section :=
  let h := slice l o 16
  let n := leAt h 4 4
  let pl := slice l (o + 16) n
  if h.length = 16 && leAt h 0 1 == ty && zeros (slice h 1 3) && n % 16 == 0 && zeros (slice h 12 4) && pl.length == n
      && (ty = 1 || n == (if ty = 2 then 48 else 224)) then
    some ⟨o, pl, leAt h 8 4 == (crc32c pl).toNat⟩
  else none

/-- Sections of the given types, one after another, and the offset after them. -/
def sectionsAt (l : List Byte) : List Nat → Nat → Option (List Section × Nat)
  | [], o => some ([], o)
  | ty :: rest, o =>
    match sectionAt l ty o with
    | none => none
    | some c =>
      match sectionsAt l rest (o + 16 + c.payload.length) with
      | none => none
      | some (cs, e) => some (c :: cs, e)

/-- FLAGS of an image. -/
def imgFlags (l : List Byte) : Nat := leAt l 0xE 1

/-- The SIGNATURE payload verifies the DIGEST payload under a fused key (R62; log entry 38). -/
def sigOk (keys : List KeyHash) (digest sig : List Byte) : Bool :=
  let k := keys.getD (leAt sig 0 1) {}
  let pub := slice sig 16 97
  decide (leAt sig 0 1 ≤ 3) && zeros (slice sig 1 15) && zeros (slice sig 113 15) && leAt pub 0 1 == 4 &&
    k.programmed && !k.revoked && sha384 pub == k.hash &&
    ecdsaOk (beNat (slice pub 1 48)) (beNat (slice pub 49 48)) digest (beNat (slice sig 128 48)) (beNat (slice sig 176 48))

/-- The verdict on an image: LOADSTAT.RESULT and the failing section, or the payloads of its CONFIG sections (R61, R63;
the order of the checks is log entry 41). The index of the absent signature section stands for an unsigned image under
SECURE_BOOT, and 0 for the header and CAPREQ (log entry 110). -/
def State.verify (s : State) (img : List Byte) : Except (Nat × Nat) (List (List Byte)) :=
  if !headerOk img then .error (3, 0)
  else
    let l := img.take (leAt img 8 4)
    let n := leAt l 0xF 1
    let signed := bit (imgFlags l) 0
    match sectionsAt l (List.replicate n 1 ++ [2] ++ if signed then [3] else []) 64 with
    | none => .error (3, 0)
    | some (cs, e) =>
      if e ≠ leAt l 8 4 then .error (3, 0)
      else match cs.findIdx? fun c => !c.good with
        | some i => .error (4, i)
        | none =>
          let d := (cs.getD n ⟨0, [], true⟩)
          if d.payload ≠ sha384 (l.take d.at_) then .error (5, n)
          else if (signed && !sigOk s.fuses.keys d.payload (cs.getD (n + 1) ⟨0, [], true⟩).payload) || (!signed && s.secureBoot) then
            .error (6, n + 1)
          else if (s.viewDev 0x10C).getD 0 &&& leAt l 0x14 4 ≠ leAt l 0x10 4 then .error (7, 0)
          else .ok ((cs.take n).map fun c => c.payload)

/-- IMAGE_READ_DONE (R60, R61): the image is verified and its records begin, or it is rejected and the secondary is read,
or LOAD ends. -/
def execImageReadDone (image : List Byte) (s : State) : Host.Outcome State Fault Refusal :=
  .next (
    let ld := s.dev.loader
    if s.dev.state ≠ .load || ld.phase ≠ .reading then s
    else match s.verify image with
      | .ok secs =>
        let f := imgFlags image
        { s with dev := { s.dev with loader := { ld with
          phase := .applying, signed := bit f 0, arm := bit f 1, go := bit f 2, serial := leAt image 0x18 4, sections := secs,
          sect := 0, recIx := 0 } } }
      | .error (r, i) =>
        if ld.secondary then (s.setF DEV.LOADSTAT 15 8 (min i 255)).loadFails r
        else { s with dev := { s.dev with loader := { ld with secondary := true } } }.setF DEV.LOADSTAT 4 4 1)

/-! ## Records (R62) -/

/-- A record of a CONFIG payload. -/
structure Rec where
  op : Nat
  flags : Nat
  count : Nat
  addr : Nat
  a : Nat
  b : Nat
  deriving DecidableEq, Repr

def recOf (l : List Byte) : Rec := ⟨leAt l 0 1, leAt l 1 1, leAt l 2 2, leAt l 4 4, leAt l 8 4, leAt l 12 4⟩

/-- The record's fields are inside the record table; `left` bytes of the payload follow it. A FILL32 or DATA range that
runs past BAR0's end is outside it, and no word of it is written (log entry 107). -/
def Rec.valid (r : Rec) (left : Nat) : Bool :=
  decide (r.flags ≤ 1) && r.addr % 4 == 0 && decide (r.addr < 16777216) &&
    match r.op with
    | 1 => r.count == 0 && r.b == 0
    | 2 => r.addr % 8 == 0
    | 3 => true
    | 4 => decide (1 ≤ r.count) && decide (r.addr + 4 * r.count ≤ 16777216)
    | 5 => decide (16 * r.count ≤ left) && decide (r.addr + 16 * r.count ≤ 16777216)
    | 6 => true
    | 7 => decide (r.a ≤ 1000000)
    | 15 => left == 0
    | _ => false

/-- The bytes of the section that remain. -/
def State.recBytes (s : State) : List Byte := s.dev.loader.sections.head?.getD []

/-- The record at the head; none where it is not one of the table, or the section has ended without END. -/
def State.recHead (s : State) : Option Rec :=
  let l := s.recBytes
  let r := recOf (l.take 16)
  if 16 ≤ l.length && r.valid (l.length - 16) then some r else none

/-- The application ends with an error at the record at the head. -/
def State.recError (s : State) (code : Nat) : State :=
  let ld := s.dev.loader
  ((s.setF DEV.LOADSTAT 15 8 ld.sect).setF DEV.LOADSTAT 31 16 (min ld.recIx 65535)).loadFails code

/-- The record and n data lines are done, if the loader still runs. -/
def State.recDone (s : State) (n : Nat) : State :=
  if s.dev.state ≠ .load then s
  else
    let ld := s.dev.loader
    { s with dev := { s.dev with loader := { ld with
      phase := .applying, sections := (s.recBytes.drop (16 * (n + 1))) :: ld.sections.drop 1, recIx := ld.recIx + 1 } } }

/-- One word written on the loader's path; false where it ends the application: a word of an absent page without
OPTIONAL (R63). -/
def State.recWrite (s : State) (opt : Bool) (a : Nat) (w : Nat) : State × Bool :=
  if s.dev.state ≠ .load then (s, true)
  else (s.write0 whoLoader (a / 65536) (a % 65536) (BitVec.ofNat 32 w), opt || s.present (a / 65536))

/-- Words written one after another, up to one that ends the application. -/
def State.recWrites (s : State) (opt : Bool) : Nat → List Nat → State × Bool
  | _, [] => (s, true)
  | a, w :: rest =>
    let x := s.recWrite opt a w
    if x.2 then x.1.recWrites opt (a + 4) rest else x

/-- Words written, then the next record or the error. -/
def State.recStore (s : State) (r : Rec) (a lines : Nat) (ws : List Nat) : State :=
  let x := s.recWrites (bit r.flags 0) a ws
  if x.2 then x.1.recDone lines else if x.1.dev.state = .load then x.1.recError 8 else x.1

/-- A record's command acts on the record at the head while LOAD lasts: nothing where that is another operation's, and an
invalid one ends the application (log entry 42). -/
def State.onRecord (s : State) (op : Nat) (polling : Bool) (g : State → Rec → State) : State :=
  if s.dev.state ≠ .load then s
  else
    let go : State := match s.recHead with
      | none => s.recError 8
      | some r => if r.op = op then g s r else s
    match s.dev.loader.phase with
    | .applying => go
    | .polling _ => if polling then go else s
    | _ => s

/-- WRITE32. -/
def execWrite32 (s : State) : Host.Outcome State Fault Refusal :=
  .next (s.onRecord 1 false fun s r => s.recStore r r.addr 0 [r.a])

/-- WRITE64: A and B as one pair. -/
def execWrite64 (s : State) : Host.Outcome State Fault Refusal :=
  .next (s.onRecord 2 false fun s r => s.recStore r r.addr 0 [r.a, r.b])

/-- RMW32. -/
def execRmw32 (s : State) : Host.Outcome State Fault Refusal :=
  .next (s.onRecord 3 false fun s r =>
    let x := s.read0 whoLoader (r.addr / 65536) (r.addr % 65536)
    x.2.recStore r r.addr 0 [((x.1 &&& ~~~ (BitVec.ofNat 32 r.a)) ||| (BitVec.ofNat 32 r.b &&& BitVec.ofNat 32 r.a)).toNat])

/-- FILL32. -/
def execFill32 (s : State) : Host.Outcome State Fault Refusal :=
  .next (s.onRecord 4 false fun s r => s.recStore r r.addr 0 (List.replicate r.count r.a))

/-- DATA. -/
def execDataRecord (s : State) : Host.Outcome State Fault Refusal :=
  .next (s.onRecord 5 false fun s r =>
    s.recStore r r.addr r.count ((List.range (4 * r.count)).map fun i => leAt s.recBytes (16 + 4 * i) 4))

/-- POLL32: one look at the register. -/
def execPoll32 (s : State) : Host.Outcome State Fault Refusal :=
  .next (s.onRecord 6 true fun s r =>
    let x := s.read0 whoLoader (r.addr / 65536) (r.addr % 65536)
    let s := x.2
    if x.1.toNat &&& r.a = r.b then s.recDone 0
    else if r.count = 0 then s.recError 9
    else match s.dev.loader.phase with
      | .polling _ => s
      | _ => { s with dev := { s.dev with loader := { s.dev.loader with phase := .polling (s.now + 10000 * r.count) } } })

/-- POLL32_LIMIT (R63): the time limit of the poll comes. -/
def execPoll32Limit (s : State) : Host.Outcome State Fault Refusal :=
  .next (match s.dev.loader.phase with
    | .polling t => if s.dev.state = .load then (s.until t).recError 9 else s
    | _ => s)

/-- DELAY: the wait begins. -/
def execDelayRecord (s : State) : Host.Outcome State Fault Refusal :=
  .next (s.onRecord 7 false fun s r =>
    { s with dev := { s.dev with loader := { s.dev.loader with phase := .delaying (s.now + 1000 * r.a) } } })

/-- DELAY_EXPIRE. -/
def execDelayExpire (s : State) : Host.Outcome State Fault Refusal :=
  .next (match s.dev.loader.phase with
    | .delaying t => if s.dev.state = .load then (s.until t).recDone 0 else s
    | _ => s)

/-- The image is applied (R57): the loader's validation starts, or LOAD ends in HELD. -/
def State.applied (s : State) : State :=
  let ld := s.dev.loader
  let s := (s.wr DEV.IMGID (BitVec.ofNat 32 ld.serial)).setF DEV.LOADSTAT 5 5 (b2n ld.signed)
  if s.boot = 1 && ld.arm then
    ({ s with dev := { s.dev with loader := { ld with phase := .validating } } }).valBegin
  else (s.loadEnds 2).irq pgDEV 2

/-- RECORD_END: the next section, or the end of the image. -/
def execRecordEnd (s : State) : Host.Outcome State Fault Refusal :=
  .next (s.onRecord 15 false fun s _ =>
    let ld := s.dev.loader
    let rest := ld.sections.drop 1
    let s := { s with dev := { s.dev with loader := { ld with sections := rest, sect := ld.sect + 1, recIx := 0 } } }
    if rest.isEmpty then s.applied else s)

end Sys2Proof.Machine
end

