-- ==== Sys2Proof/Machine/Dispatch.lean ====
section
/-! DEFINITION. One arm per command: each calls its meaning. -/

namespace Sys2Proof.Machine

def exec (i : Instr) (s : State) : Host.Outcome State Fault Refusal :=
  match i with
  | .regWrite fn bar off w => Sys2Proof.Machine.execRegWrite fn bar off w s
  | .malformedAccess fn access => Sys2Proof.Machine.execMalformedAccess fn access s
  | .pairLowRead fn bar off => Sys2Proof.Machine.execPairLowRead fn bar off s
  | .pairLowWrite fn bar off w => Sys2Proof.Machine.execPairLowWrite fn bar off w s
  | .pairHighWrite fn bar off w => Sys2Proof.Machine.execPairHighWrite fn bar off w s
  | .blockEnableWrite page w => Sys2Proof.Machine.execBlockEnableWrite page w s
  | .quiesceRequest page w => Sys2Proof.Machine.execQuiesceRequest page w s
  | .softReset page w => Sys2Proof.Machine.execSoftReset page w s
  | .drainComplete page => Sys2Proof.Machine.execDrainComplete page s
  | .quiesceTimeout page => Sys2Proof.Machine.execQuiesceTimeout page s
  | .resetComplete page => Sys2Proof.Machine.execResetComplete page s
  | .counterClear fn bar off w => Sys2Proof.Machine.execCounterClear fn bar off w s
  | .counterSelectWrite page n w => Sys2Proof.Machine.execCounterSelectWrite page n w s
  | .resetNAssert => Sys2Proof.Machine.execResetNAssert s
  | .resetNRise pins => Sys2Proof.Machine.execResetNRise pins s
  | .fuseRead avsOk => Sys2Proof.Machine.execFuseRead avsOk s
  | .pcieDetect => Sys2Proof.Machine.execPcieDetect s
  | .initComplete => Sys2Proof.Machine.execInitComplete s
  | .pcieConfigReady => Sys2Proof.Machine.execPcieConfigReady s
  | .fullReset w => Sys2Proof.Machine.execFullReset w s
  | .hotReset => Sys2Proof.Machine.execHotReset s
  | .pcieLinkDown => Sys2Proof.Machine.execPcieLinkDown s
  | .functionLevelReset fn => Sys2Proof.Machine.execFunctionLevelReset fn s
  | .imageReadDone image => Sys2Proof.Machine.execImageReadDone image s
  | .write32 => Sys2Proof.Machine.execWrite32 s
  | .write64 => Sys2Proof.Machine.execWrite64 s
  | .rmw32 => Sys2Proof.Machine.execRmw32 s
  | .fill32 => Sys2Proof.Machine.execFill32 s
  | .dataRecord => Sys2Proof.Machine.execDataRecord s
  | .poll32 => Sys2Proof.Machine.execPoll32 s
  | .poll32Limit => Sys2Proof.Machine.execPoll32Limit s
  | .delayRecord => Sys2Proof.Machine.execDelayRecord s
  | .delayExpire => Sys2Proof.Machine.execDelayExpire s
  | .recordEnd => Sys2Proof.Machine.execRecordEnd s
  | .loadAbort w => Sys2Proof.Machine.execLoadAbort w s
  | .validateGo w => Sys2Proof.Machine.execValidateGo w s
  | .validationEnd => Sys2Proof.Machine.execValidationEnd s
  | .sealConfig w => Sys2Proof.Machine.execSealConfig w s
  | .runGo w => Sys2Proof.Machine.execRunGo w s
  | .cfgcrcRecheck => Sys2Proof.Machine.execCfgcrcRecheck s
  | .portEnable p => Sys2Proof.Machine.execPortEnable p s
  | .portDisable p => Sys2Proof.Machine.execPortDisable p s
  | .trainingComplete p => Sys2Proof.Machine.execTrainingComplete p s
  | .trainTimeout p => Sys2Proof.Machine.execTrainTimeout p s
  | .upholdExpire p => Sys2Proof.Machine.execUpholdExpire p s
  | .lockLost p cause => Sys2Proof.Machine.execLockLost p cause s
  | .downholdExpire p => Sys2Proof.Machine.execDownholdExpire p s
  | .frameReceived p frame fec => Sys2Proof.Machine.execFrameReceived p frame fec s
  | .icvComplete p => Sys2Proof.Machine.execIcvComplete p s
  | .pfcReceived p frame fec => Sys2Proof.Machine.execPfcReceived p frame fec s
  | .pauseReceived p frame fec => Sys2Proof.Machine.execPauseReceived p frame fec s
  | .pauseExpire p c => Sys2Proof.Machine.execPauseExpire p c s
  | .pfcSend p => Sys2Proof.Machine.execPfcSend p s
  | .pfcRefresh p => Sys2Proof.Machine.execPfcRefresh p s
  | .verifySend p => Sys2Proof.Machine.execVerifySend p s
  | .verifyResponse p => Sys2Proof.Machine.execVerifyResponse p s
  | .verifyFail p => Sys2Proof.Machine.execVerifyFail p s
  | .frameTransmit p => Sys2Proof.Machine.execFrameTransmit p s
  | .tsfTagRead g => Sys2Proof.Machine.execTsfTagRead g s
  | .tsfPop g w => Sys2Proof.Machine.execTsfPop g w s
  | .mogulArm g w => Sys2Proof.Machine.execMogulArm g w s
  | .mogulDelayExpire g => Sys2Proof.Machine.execMogulDelayExpire g s
  | .mogulReorderRelease g => Sys2Proof.Machine.execMogulReorderRelease g s
  | .mogulFlapEnd p dir => Sys2Proof.Machine.execMogulFlapEnd p dir s
  | .stepGo w => Sys2Proof.Machine.execStepGo w s
  | .stepApply => Sys2Proof.Machine.execStepApply s
  | .holdoverEntry => Sys2Proof.Machine.execHoldoverEntry s
  | .holdoverExit => Sys2Proof.Machine.execHoldoverExit s
  | .ppsCapture => Sys2Proof.Machine.execPpsCapture s
  | .ppsOutRise => Sys2Proof.Machine.execPpsOutRise s
  | .ppsOutFall => Sys2Proof.Machine.execPpsOutFall s
  | .timerArm n w => Sys2Proof.Machine.execTimerArm n w s
  | .timerFire n => Sys2Proof.Machine.execTimerFire n s
  | .ingressPacket ix => Sys2Proof.Machine.execIngressPacket ix s
  | .learnInsert h => Sys2Proof.Machine.execLearnInsert h s
  | .learnNoticeWrite h => Sys2Proof.Machine.execLearnNoticeWrite h s
  | .holdoffExpire h => Sys2Proof.Machine.execHoldoffExpire h s
  | .packetAdmit c => Sys2Proof.Machine.execPacketAdmit c s
  | .lastCellArrival ix => Sys2Proof.Machine.execLastCellArrival ix s
  | .replicateCopies => Sys2Proof.Machine.execReplicateCopies s
  | .spillWriteDone => Sys2Proof.Machine.execSpillWriteDone s
  | .refillReturn => Sys2Proof.Machine.execRefillReturn s
  | .agingDue q => Sys2Proof.Machine.execAgingDue q s
  | .mcEntryCommit w => Sys2Proof.Machine.execMcEntryCommit w s
  | .rinkEnable k w => Sys2Proof.Machine.execRinkEnable k w s
  | .pcLatch w => Sys2Proof.Machine.execPcLatch w s
  | .schGrant p => Sys2Proof.Machine.execSchGrant p s
  | .shaperCommit off w => Sys2Proof.Machine.execShaperCommit off w s
  | .policerCommit w => Sys2Proof.Machine.execPolicerCommit w s
  | .gateGo p w => Sys2Proof.Machine.execGateGo p w s
  | .gateListStart p => Sys2Proof.Machine.execGateListStart p s
  | .gateEntryChange p => Sys2Proof.Machine.execGateEntryChange p s
  | .egressPacket ix => Sys2Proof.Machine.execEgressPacket ix s
  | .eobHeartbeat g => Sys2Proof.Machine.execEobHeartbeat g s
  | .heartbeatSend g m => Sys2Proof.Machine.execHeartbeatSend g m s
  | .noticeReceived k bytes => Sys2Proof.Machine.execNoticeReceived k bytes s
  | .noticeTruncated k => Sys2Proof.Machine.execNoticeTruncated k s
  | .hostNotice w => Sys2Proof.Machine.execHostNotice w s
  | .capacityApply g m => Sys2Proof.Machine.execCapacityApply g m s
  | .memberJoin g m => Sys2Proof.Machine.execMemberJoin g m s
  | .memberExclude g m w => Sys2Proof.Machine.execMemberExclude g m w s
  | .shimmedFrameReceived p => Sys2Proof.Machine.execShimmedFrameReceived p s
  | .eddyDeliver g => Sys2Proof.Machine.execEddyDeliver g s
  | .gapLossTimeout g => Sys2Proof.Machine.execGapLossTimeout g s
  | .syncTimeout g => Sys2Proof.Machine.execSyncTimeout g s
  | .rxActiveTimeout g m => Sys2Proof.Machine.execRxActiveTimeout g m s
  | .eddySpillDone => Sys2Proof.Machine.execEddySpillDone s
  | .eddyRefillReturn => Sys2Proof.Machine.execEddyRefillReturn s
  | .pageGrant => Sys2Proof.Machine.execPageGrant s
  | .pageReturn => Sys2Proof.Machine.execPageReturn s
  | .hostalloc => Sys2Proof.Machine.execHostalloc s
  | .hostPageReturn w => Sys2Proof.Machine.execHostPageReturn w s
  | .cacheRefill => Sys2Proof.Machine.execCacheRefill s
  | .ringReadReturn => Sys2Proof.Machine.execRingReadReturn s
  | .cacheWriteback => Sys2Proof.Machine.execCacheWriteback s
  | .ringBuildStart => Sys2Proof.Machine.execRingBuildStart s
  | .ringBuildEnd => Sys2Proof.Machine.execRingBuildEnd s
  | .reclaimHost w => Sys2Proof.Machine.execReclaimHost w s
  | .reclaimEnd o => Sys2Proof.Machine.execReclaimEnd o s
  | .addEntry => Sys2Proof.Machine.execAddEntry s
  | .delEntry => Sys2Proof.Machine.execDelEntry s
  | .findEntry => Sys2Proof.Machine.execFindEntry s
  | .rowread => Sys2Proof.Machine.execRowread s
  | .rowwrite => Sys2Proof.Machine.execRowwrite s
  | .rootset => Sys2Proof.Machine.execRootset s
  | .pondwr => Sys2Proof.Machine.execPondwr s
  | .ponddel => Sys2Proof.Machine.execPonddel s
  | .lockRow => Sys2Proof.Machine.execLockRow s
  | .unlockRow => Sys2Proof.Machine.execUnlockRow s
  | .flushPort => Sys2Proof.Machine.execFlushPort s
  | .commandResume => Sys2Proof.Machine.execCommandResume s
  | .tblComplete => Sys2Proof.Machine.execTblComplete s
  | .completionRead => Sys2Proof.Machine.execCompletionRead s
  | .completionPop w => Sys2Proof.Machine.execCompletionPop w s
  | .foldStart => Sys2Proof.Machine.execFoldStart s
  | .foldEnd => Sys2Proof.Machine.execFoldEnd s
  | .agingPass h => Sys2Proof.Machine.execAgingPass h s
  | .tableScrub h row flip => Sys2Proof.Machine.execTableScrub h row flip s
  | .shadowCompare h bank row err => Sys2Proof.Machine.execShadowCompare h bank row err s
  | .backgroundSlot ix => Sys2Proof.Machine.execBackgroundSlot ix s
  | .commitOpen w => Sys2Proof.Machine.execCommitOpen w s
  | .commitRefused => Sys2Proof.Machine.execCommitRefused s
  | .commitSwitch => Sys2Proof.Machine.execCommitSwitch s
  | .abortCommit w => Sys2Proof.Machine.execAbortCommit w s
  | .abortUndoEnd => Sys2Proof.Machine.execAbortUndoEnd s
  | .cpuTxInject fn q desc buf => Sys2Proof.Machine.execCpuTxInject fn q desc buf s
  | .cpuRxDeliver fn q ring => Sys2Proof.Machine.execCpuRxDeliver fn q ring s
  | .qpHoldoffExpire fn q => Sys2Proof.Machine.execQpHoldoffExpire fn q s
  | .dmaDescFetch ch cpl => Sys2Proof.Machine.execDmaDescFetch ch cpl s
  | .dmaEnable fn w => Sys2Proof.Machine.execDmaEnable fn w s
  | .dmaStart => Sys2Proof.Machine.execDmaStart s
  | .dmaReadReturn cpl => Sys2Proof.Machine.execDmaReadReturn cpl s
  | .dmaComplete => Sys2Proof.Machine.execDmaComplete s
  | .dmaStop fn w => Sys2Proof.Machine.execDmaStop fn w s
  | .keyImport fn w => Sys2Proof.Machine.execKeyImport fn w s
  | .importResult fn => Sys2Proof.Machine.execImportResult fn s
  | .keyErase fn bar w => Sys2Proof.Machine.execKeyErase fn bar w s
  | .oldKeyRelease slot => Sys2Proof.Machine.execOldKeyRelease slot s
  | .zeroize w => Sys2Proof.Machine.execZeroize w s
  | .spiLoad frame => Sys2Proof.Machine.execSpiLoad frame s
  | .spiErase frame => Sys2Proof.Machine.execSpiErase frame s
  | .spiResult frame => Sys2Proof.Machine.execSpiResult frame s
  | .progds frame => Sys2Proof.Machine.execProgds frame s
  | .encodingSaSet fn w => Sys2Proof.Machine.execEncodingSaSet fn w s
  | .channelBringup n => Sys2Proof.Machine.execChannelBringup n s
  | .trainingDone n step => Sys2Proof.Machine.execTrainingDone n step s
  | .retrainDone n step => Sys2Proof.Machine.execRetrainDone n step s
  | .dramRequest port => Sys2Proof.Machine.execDramRequest port s
  | .dramReadComplete tag corr unc => Sys2Proof.Machine.execDramReadComplete tag corr unc s
  | .dramWriteComplete tag errs => Sys2Proof.Machine.execDramWriteComplete tag errs s
  | .readUrgent tag => Sys2Proof.Machine.execReadUrgent tag s
  | .readPanic tag => Sys2Proof.Machine.execReadPanic tag s
  | .refreshGroup k => Sys2Proof.Machine.execRefreshGroup k s
  | .rowIdleClose n bank => Sys2Proof.Machine.execRowIdleClose n bank s
  | .mr4Read n tref => Sys2Proof.Machine.execMr4Read n tref s
  | .zqLatch n => Sys2Proof.Machine.execZqLatch n s
  | .phyTracking n ds => Sys2Proof.Machine.execPhyTracking n ds s
  | .dramScrub n corr unc => Sys2Proof.Machine.execDramScrub n corr unc s
  | .forcedMaintSlot n => Sys2Proof.Machine.execForcedMaintSlot n s
  | .selfRefreshEntry n => Sys2Proof.Machine.execSelfRefreshEntry n s
  | .selfRefreshExit n => Sys2Proof.Machine.execSelfRefreshExit n s
  | .freqChangeGo w => Sys2Proof.Machine.execFreqChangeGo w s
  | .freqGroupStart => Sys2Proof.Machine.execFreqGroupStart s
  | .freqGroupDone => Sys2Proof.Machine.execFreqGroupDone s
  | .faultEvent det => Sys2Proof.Machine.execFaultEvent det s
  | .faultInject page w => Sys2Proof.Machine.execFaultInject page w s
  | .faultAck w => Sys2Proof.Machine.execFaultAck w s
  | .reactionWrite w => Sys2Proof.Machine.execReactionWrite w s
  | .recordRead frozen => Sys2Proof.Machine.execRecordRead frozen s
  | .conseqWindowEnd page => Sys2Proof.Machine.execConseqWindowEnd page s
  | .fenceCountDecay page => Sys2Proof.Machine.execFenceCountDecay page s
  | .faultPinSample p n => Sys2Proof.Machine.execFaultPinSample p n s
  | .legacyClear w => Sys2Proof.Machine.execLegacyClear w s
  | .supplySample core vmon => Sys2Proof.Machine.execSupplySample core vmon s
  | .holdResume => Sys2Proof.Machine.execHoldResume s
  | .thermalRead temps => Sys2Proof.Machine.execThermalRead temps s
  | .avsStep => Sys2Proof.Machine.execAvsStep s
  | .avsCurrentRead amps ok => Sys2Proof.Machine.execAvsCurrentRead amps ok s
  | .snowploughWindow => Sys2Proof.Machine.execSnowploughWindow s
  | .gaugeSweep => Sys2Proof.Machine.execGaugeSweep s
  | .snapshotGo w => Sys2Proof.Machine.execSnapshotGo w s
  | .snapshotLatch => Sys2Proof.Machine.execSnapshotLatch s
  | .snapshotDone => Sys2Proof.Machine.execSnapshotDone s
  | .freezeGo w => Sys2Proof.Machine.execFreezeGo w s
  | .freezeApply => Sys2Proof.Machine.execFreezeApply s
  | .i2cOffsetWrite t => Sys2Proof.Machine.execI2cOffsetWrite t s
  | .i2cRead t => Sys2Proof.Machine.execI2cRead t s
  | .evtLaneUp l => Sys2Proof.Machine.execEvtLaneUp l s
  | .evtLaneDown l => Sys2Proof.Machine.execEvtLaneDown l s
  | .helloSend => Sys2Proof.Machine.execHelloSend s
  | .helloReceived frame => Sys2Proof.Machine.execHelloReceived frame s
  | .journalSend => Sys2Proof.Machine.execJournalSend s
  | .journalReceived frame => Sys2Proof.Machine.execJournalReceived frame s
  | .ackSend => Sys2Proof.Machine.execAckSend s
  | .ackReceived frame => Sys2Proof.Machine.execAckReceived frame s
  | .roleRequest frame => Sys2Proof.Machine.execRoleRequest frame s
  | .roleAccept frame => Sys2Proof.Machine.execRoleAccept frame s
  | .roleRefuse frame => Sys2Proof.Machine.execRoleRefuse frame s
  | .syncreq frame => Sys2Proof.Machine.execSyncreq frame s
  | .roleDecision => Sys2Proof.Machine.execRoleDecision s
  | .claimStart => Sys2Proof.Machine.execClaimStart s
  | .claimRaise => Sys2Proof.Machine.execClaimRaise s
  | .claimSuccess => Sys2Proof.Machine.execClaimSuccess s
  | .peerPinChange samples => Sys2Proof.Machine.execPeerPinChange samples s
  | .takeOver => Sys2Proof.Machine.execTakeOver s
  | .handoffRequest w => Sys2Proof.Machine.execHandoffRequest w s
  | .handoffTimeout => Sys2Proof.Machine.execHandoffTimeout s
  | .forceRole w => Sys2Proof.Machine.execForceRole w s
  | .resyncRequest w => Sys2Proof.Machine.execResyncRequest w s
  | .bulkRow => Sys2Proof.Machine.execBulkRow s
  | .retransmit => Sys2Proof.Machine.execRetransmit s
  | .ackTimeout => Sys2Proof.Machine.execAckTimeout s
  | .deadTimeout => Sys2Proof.Machine.execDeadTimeout s
  | .resetInternalElapsed => Sys2Proof.Machine.execResetInternalElapsed s
  | .pllsLocked => Sys2Proof.Machine.execPllsLocked s
  | .pcsFecLock p => Sys2Proof.Machine.execPcsFecLock p s
  | .pcieLinkUp speed width flit => Sys2Proof.Machine.execPcieLinkUp speed width flit s
  | .configRequest fn c => Sys2Proof.Machine.execConfigRequest fn c s
  | .completionTimeout => Sys2Proof.Machine.execCompletionTimeout s
  | .bucketCredit => Sys2Proof.Machine.execBucketCredit s
  | .drcpllRelock k => Sys2Proof.Machine.execDrcpllRelock k s
  | .journalGapTimeout => Sys2Proof.Machine.execJournalGapTimeout s
  | .keyspiFormat frame => Sys2Proof.Machine.execKeyspiFormat frame s
  | .evtBadframe frame => Sys2Proof.Machine.execEvtBadframe frame s
  | .badargOp => Sys2Proof.Machine.execBadargOp s
  | .jtagInstruction ix => Sys2Proof.Machine.execJtagInstruction ix s

end Sys2Proof.Machine
end

