-- ==== Sys2Proof/Safety.lean ====
section
/-! DEFINITION. What counts as a safe run, and the words the statements use: registers kept, causes raised, sources
fired. -/

namespace Sys2Proof.Machine

/-- A step of a state is neither a fault nor a refusal. -/
def steps (s : State) : Prop := ∃ t, step s = .next t

/-- The seal rules out the states before it: once SEALED is 1, DEV.STATE is none of RESET, STRAP, LOAD and HELD,
nor HOLD entered from one of them (R57, R70, R71). -/
abbrev SealInv (s : State) : Prop :=
  s.dev.sealed = true →
    s.effState ≠ .reset ∧ s.effState ≠ .strap ∧ s.effState ≠ .load ∧ s.effState ≠ .held

/-- Every register but those listed holds what it held. -/
def regsKept (s t : State) (ks : List Nat) : Prop := ∀ k, k ∉ ks → t.rd k = s.rd k

/-- Every entry of a map but those listed is kept. -/
def mapKept {α : Type} (m n : KMap α) (ks : List Nat) : Prop := ∀ k, k ∉ ks → kget? n k = kget? m k

/-- The registers of a page's eight performance counters (R389). -/
def perfKeys (p : Nat) : List Nat := (List.range 8).flatMap fun n => [HDR.CNTLO p n, HDR.CNTHI p n]

/-- What goes out, between two states, exactly if page p's request rises: the message of the page's vector, if MSI-X sends
it now (R36, R328). -/
def edgeOut (s t : State) (p : Nat) : List Out := if !s.irqReq p && t.irqReq p then s.message 0 (s.irqVec p) else []

/-- The pending bits of the MSI-X vectors then: a masked vector's is set exactly if the page's request rises (R328). -/
def edgePend (s t : State) (p : Nat) : List Nat :=
  if !s.irqReq p && t.irqReq p then s.pendAfter 0 (s.irqVec p) else s.pci.vecPend

/-- What a port shows that it sends from now on instead of frames, if it sends something else already and no transmit flap of the Mogul silences it: nothing (R79, R94). -/
def lineOut (s : State) (p : Nat) (l : TxLine) : List Out :=
  if (s.port p).sends = l || (s.port p).flapTx.isSome then [] else [.line p l]

/-- Cause n of page p is raised: its IRQSTAT bit is 1, the others are kept, and exactly if its request rises with it the
page's vector message goes out, or the vector's pending bit is set where the vector is masked (R36, R328). -/
def raised (s t : State) (p n : Nat) : Prop :=
  t.rd (HDR.IRQSTAT p) = s.rd (HDR.IRQSTAT p) ||| BitVec.ofNat 32 (2 ^ n) ∧
  t.out = s.out ++ edgeOut s t p ∧ t.pci.vecPend = edgePend s t p

/-- The PCIe side of a state but for the pending bits of the MSI-X vectors, which it takes from another. -/
def State.pciBut (s t : State) : Pci := { s.pci with vecPend := t.pci.vecPend }

/-- Only registers, and of them only those listed, may differ between the two states. -/
def onlyRegs (s t : State) (ks : List Nat) : Prop := t = { s with regs := t.regs } ∧ regsKept s t ks

/-- Only the listed registers, what has been sent and the pending bits of MSI-X vectors may differ between the two
states. -/
def onlyRegsOut (s t : State) (ks : List Nat) : Prop :=
  t = { s with regs := t.regs, out := t.out, pci := s.pciBut t } ∧ regsKept s t ks

/-- The command that a GO with OP op makes of the staged words under a tag (R133, R135). -/
def goCmd (s : State) (op tag : Nat) : TblCmd :=
  { tag := tag, words := (s.cmdWords).set 0 (ins (s.rd (TBL.CMDW 0)) 4 0 op),
    verOk := s.ver.openV == some (fld (s.rd (TBL.CMDW 0)) 10 7), seq := s.tbl.seq }

/-- A GO with OP op is accepted under a tag and carried out at once, on a unit without a role (R133, R137). -/
def goNow (s : State) (op tag : Nat) : Bool :=
  decide (s.dev.state ≠ .load) && s.running pgTBL && s.freeTag == some tag && s.tbl.cmds.isEmpty &&
    !s.cmdWaits (goCmd s op tag) && !s.behind (goCmd s op tag) && s.role == roleNone

/-- Such a GO names one half alone, and nothing of R135 turns it away there (R134). -/
def goHalf (s : State) (h op tag : Nat) : Bool :=
  goNow s op tag && (goCmd s op tag).names h && !(goCmd s op tag).names (1 - h) && (s.cmdPre h (goCmd s op tag)).isNone

/-- Such a GO names both halves, and nothing of R135 turns it away in either (R134). -/
def goBoth (s : State) (op tag : Nat) : Bool :=
  goNow s op tag && (List.range 2).all fun h => (goCmd s op tag).names h && (s.cmdPre h (goCmd s op tag)).isNone

/-- The status a completion reports for a half (R136). -/
def Cmpl.statusOf (k : Cmpl) (h : Nat) : Nat := if h = 0 then k.statusE else k.statusW

/-- Such a GO was carried out: its completion k waits, its tag is held, CMDSTAT shows it, and nothing else has changed but
the halves' tables and what a version field or a displacement records (R133, R136). -/
def went (s t : State) (op tag : Nat) (k : Cmpl) : Prop :=
  t.tbl = { s.tbl with
    east := t.tbl.east, west := t.tbl.west, done := s.tbl.done ++ [(goCmd s op tag, k)], tags := tag :: s.tbl.tags,
    seq := s.tbl.seq + 1 } ∧
  k.tag = tag ∧ k.op = op ∧ t.f TBL.CMDSTAT 9 0 = tag ∧ t.f TBL.CMDSTAT 11 10 = 0 ∧
  t = { s with tbl := t.tbl, regs := t.regs } ∧
  regsKept s t ([TBL.CMDSTAT, TBL.FOLDSTAT] ++ perfKeys pgTBL)

/-- It was carried out in one half: the other is as it was and reports BADARG (R136). -/
def wentHalf (s t : State) (h op tag : Nat) (k : Cmpl) : Prop :=
  went s t op tag k ∧ t.half (1 - h) = s.half (1 - h) ∧ k.statusOf (1 - h) = stBADARG

/-- A row of a half's table holds an image, and every other row what it held. -/
def rowIs (a b : HalfTbl) (key img : Nat) : Prop :=
  kgetD b.rows key 0 = BitVec.ofNat 512 img ∧ mapKept a.rows b.rows [key]

/-- Every channel of the part is READY, in self-refresh or in a frequency change: what DRC.STAT.TRAINED reads (R304). -/
def trained (s : State) : Bool :=
  s.nCh ≠ 0 && (List.range s.nCh).all fun n => s.chSt n = 2 || s.chSt n = 3 || s.chSt n = 4

/-- The record that a primary event opens (R351): its class and reaction, and whether the reaction is complete at once. -/
def newRec (s : State) (e : FltEv) (cls react : Nat) (done : Bool) : FltRec :=
  { seq := s.flt.next, page := e.page, src := e.src, cls := cls, react := react, inj := e.inj, time := s.tim.count,
    devstate := s.dev.state.code, info := e.info, done := done }

/-- A frame of a TYPE is received on a link that is up, and is not a bad one (R373). -/
def evtTakes (s : State) (f : List Byte) (type : Nat) : Bool :=
  s.evtOn && s.evtLink && !s.evtBad f && decide (beNat (slice f 14 1) % 16 = type)

/-- What every received frame leaves before its own effect: the peer's serial and the highest EPOCH (R373, R376). -/
def evtHead (s : State) (f : List Byte) : State :=
  let t := s.wr64 EVT.PEERSERIAL_LO EVT.PEERSERIAL_HI (beNat (slice f 6 6))
  { t with evt := { t.evt with rxEpoch := max s.evt.rxEpoch (beNat (slice f 20 4)) } }

/-- The fields of a journal entry fit the places R374 gives them. -/
def jFits : JEntry → Bool
  | .row h m r _ => decide (h < 2) && decide (m < 16) && decide (r < 524288)
  | .verstate p v => decide (p < 65536) && decide (v < 2 ^ 32)
  | .foldDone v => decide (v < 16)
  | .pnMark _ sa pn => decide (sa < 32768) && decide (pn < 2 ^ 64)
  | .seqMark g q => decide (g < 32) && decide (q < 2 ^ 32)
  | .bulkBegin => true
  | .bulkEnd => true

end Sys2Proof.Machine
end

