-- ==== Sys2Proof/Certificates/Slice0/Obligations.lean ====
section
/-! DEFINITION. The statements for the provers. -/

section
open Sys2Proof Sys2Proof.Machine

/-- Accesses complete (R6 to R8, R31, R329): a 32-bit write of a plain register, a doorbell of BAR4, a malformed access,
a read of a pair's low word, and writes of a pair's low and high words. The frames say what each leaves. -/
def Obligations.RegisterAccessesComplete : Prop :=
  (∀ (p : PageId) (w : Word) (s : State), s.dev.state ≠ .load → s.present p = true →
    ∃ t, exec (.regWrite 0 .bar0 (BitVec.ofNat 24 (HDR.IRQMASK p)) w) s = .next t ∧
      t.rd (HDR.IRQMASK p) = w ∧ onlyRegsOut s t [HDR.IRQMASK p] ∧
      t.out = s.out ++ edgeOut s t p ∧ t.pci.vecPend = edgePend s t p) ∧
  (∀ (u : Fn) (q : Fin 8) (w : Word) (s : State), s.fnHere u = true → s.qpMask u q = true →
    ∃ t, exec (.regWrite u .bar4 (BitVec.ofNat 24 (8192 * q.val)) w) s = .next t ∧
      t.f (IDX.TXPIDX u q) 11 0 = fld w 11 0 % s.txSize u q ∧ onlyRegs s t [IDX.TXPIDX u q]) ∧
  (∀ (u : Fn) (a : BadAccess) (s : State), s.fnHere u = true →
    ∃ t, exec (.malformedAccess u a) s = .next t ∧
      t.f DEV.BADACC 31 0 = min (s.f DEV.BADACC 31 0 + 1) 4294967295 ∧ t.fb (HDR.IRQSTAT pgDEV) 1 = true ∧
      onlyRegsOut s t [DEV.BADACC, HDR.IRQSTAT pgDEV] ∧
      t.out = s.out ++ edgeOut s t pgDEV ++ (match a with | .write => [] | .read n => [.readBytes u (List.replicate n 0)]) ∧
      t.pci.vecPend = edgePend s t pgDEV) ∧
  (∀ (s : State), ∃ t, exec (.pairLowRead 0 .bar0 (BitVec.ofNat 24 TIM.NOW_LO)) s = .next t ∧
      t.out = s.out ++ [.readData 0 (s.tim.count.setWidth 32)] ∧
      (t.path 0).latch = some (TIM.NOW_LO, (s.tim.count >>> 32).setWidth 32) ∧ (t.path 0).held = (s.path 0).held ∧
      mapKept s.acc t.acc [0] ∧
      t = { s with acc := t.acc, out := t.out, tim := { s.tim with nowLatch := t.tim.nowLatch } }) ∧
  (∀ (off : Offset) (w : Word) (r : Row) (s : State), s.dev.state ≠ .load → s.present (off.toNat / 65536) = true → off.toNat % 4 = 0 → pageRow (off.toNat / 65536) (off.toNat % 65536) = some r → r.pair = true →
    ∃ t, exec (.pairLowWrite 0 .bar0 off w) s = .next t ∧
      (t.path 0).held = some (off.toNat, w) ∧ (t.path 0).latch = (s.path 0).latch ∧ mapKept s.acc t.acc [0] ∧
      t.f DEV.BADACC 31 0 =
        (if (s.path 0).held.isSome then min (s.f DEV.BADACC 31 0 + 1) 4294967295 else s.f DEV.BADACC 31 0) ∧
      t = { s with regs := t.regs, acc := t.acc } ∧ regsKept s t [DEV.BADACC]) ∧
  (∀ (n : Fin 16) (lo : Word) (hi : Word) (s : State), s.dev.state ≠ .load → s.fb (TIM.TMRCTL n) 0 = false → (s.path 0).held = some (TIM.TGT_LO n, lo) →
    ∃ t, exec (.pairHighWrite 0 .bar0 (BitVec.ofNat 24 (TIM.TGT_HI n)) hi) s = .next t ∧
      t.rd (TIM.TGT_LO n) = lo ∧ t.rd (TIM.TGT_HI n) = hi ∧ (t.path 0).held = none ∧
      (t.path 0).latch = (s.path 0).latch ∧ mapKept s.acc t.acc [0] ∧
      t = { s with regs := t.regs, acc := t.acc } ∧ regsKept s t [TIM.TGT_LO n, TIM.TGT_HI n])

/-- What a write does to a field under each access code (R8; an RWS field after the seal, R9), and that the fields beside
it keep their bits. The registers that count changes and rejections are left out of the fields written. -/
def Obligations.FieldAccessCodes : Prop :=
  ∀ (s : State) (who key : Nat) (w : Word) (f : Field), f.lo ≤ f.hi → f.hi < 32 →
    key ∉ [DEV.CFGGEN, DEV.VALSTAT, DEV.SEALREJ, DEV.SEALREJADDR, HDR.IRQSTAT pgDEV] →
    (f.acc = .rw → (s.fieldPut who key w f).f key f.hi f.lo =
      f.limit (s.f key f.hi f.lo) (fld w f.hi f.lo) % 2 ^ (f.hi + 1 - f.lo)) ∧
    ((f.acc = .ro ∨ f.acc = .wo) → s.fieldPut who key w f = s) ∧
    (f.acc = .w1c → ∀ n, ((s.fieldPut who key w f).f key f.hi f.lo).testBit n =
      ((s.f key f.hi f.lo).testBit n && !(fld w f.hi f.lo).testBit n)) ∧
    (f.acc = .w1s → ∀ n, ((s.fieldPut who key w f).f key f.hi f.lo).testBit n =
      ((s.f key f.hi f.lo).testBit n || (fld w f.hi f.lo).testBit n)) ∧
    (f.acc = .rws → s.dev.sealed = true → (s.fieldPut who key w f).rd key = s.rd key) ∧
    ∀ hi lo, (hi < f.lo ∨ f.hi < lo) → (s.fieldPut who key w f).f key hi lo = s.f key hi lo

/-- A function other than the PF has no path to BAR0 (R49): nothing of the machine changes and nothing is answered. -/
def Obligations.VfHasNoBar0 : Prop :=
  ∀ (u : Fn) (off : Offset) (w : Word) (s : State), u ≠ 0 →
    exec (.regWrite u .bar0 off w) s = .next s ∧ exec (.pairLowWrite u .bar0 off w) s = .next s ∧
    exec (.pairHighWrite u .bar0 off w) s = .next s ∧ exec (.counterClear u .bar0 off w) s = .next s ∧
    exec (.pairLowRead u .bar0 off) s = .next s

/-- A page that is not present, absent from the part or unassigned, and a user page's registers of an absent unit (R3, R4, R33):
a read answers zero bytes, a write is dropped, counted in ABSENTWR and raises ABSENT_WR, and nothing else changes: no
fault is reported; the low word of a pair latches 0 (R34). An access at an offset of a user page without a register reads zero or is dropped, and counts nowhere.
That a write in LOAD counts in BADACC alone, and not in ABSENTWR, is the model's choice (log entry 108). -/
def Obligations.AbsentPages : Prop :=
  (∀ (off : Offset) (s : State), s.present (off.toNat / 65536) = false → off.toNat % 4 = 0 →
    ∃ t, exec (.pairLowRead 0 .bar0 off) s = .next t ∧ t.out = s.out ++ [.readData 0 0] ∧
      t = { s with acc := t.acc, out := t.out } ∧ mapKept s.acc t.acc [0] ∧ (t.path 0).held = (s.path 0).held ∧
      (t.path 0).latch = (if isLow (pageRow (off.toNat / 65536) (off.toNat % 65536)) then some (off.toNat, 0) else (s.path 0).latch)) ∧
  (∀ (off : Offset) (w : Word) (s : State), s.present (off.toNat / 65536) = false → off.toNat % 4 = 0 → s.dev.state ≠ .load →
    ∃ t, exec (.regWrite 0 .bar0 off w) s = .next t ∧ exec (.pairLowWrite 0 .bar0 off w) s = .next t ∧
        exec (.pairHighWrite 0 .bar0 off w) s = .next t ∧ exec (.counterClear 0 .bar0 off w) s = .next t ∧
        t.f DEV.ABSENTWR 31 0 = min (s.f DEV.ABSENTWR 31 0 + 1) 4294967295 ∧
        t.rd DEV.ABSENTADDR = off.setWidth 32 ∧ t.fb (HDR.IRQSTAT pgDEV) 0 = true ∧
        onlyRegsOut s t [DEV.ABSENTWR, DEV.ABSENTADDR, HDR.IRQSTAT pgDEV]) ∧
  (∀ (off : Offset) (w : Word) (s : State), s.present (off.toNat / 65536) = false → off.toNat % 4 = 0 → s.dev.state = .load →
    ∃ t, exec (.regWrite 0 .bar0 off w) s = .next t ∧ exec (.pairLowWrite 0 .bar0 off w) s = .next t ∧
        exec (.pairHighWrite 0 .bar0 off w) s = .next t ∧ exec (.counterClear 0 .bar0 off w) s = .next t ∧
        t.f DEV.BADACC 31 0 = min (s.f DEV.BADACC 31 0 + 1) 4294967295 ∧ t.rd DEV.ABSENTWR = s.rd DEV.ABSENTWR ∧
        onlyRegs s t [DEV.BADACC]) ∧
  (∀ (u : Fn) (off : Offset) (s : State), s.fnHere u = true → (0x4000 ≤ off.toNat ∧ off.toNat < 0x8000) → s.present (userUnit off.toNat) = false → off.toNat % 4 = 0 →
    ∃ t, exec (.pairLowRead u .bar2 off) s = .next t ∧ t.out = s.out ++ [.readData u 0] ∧
      t = { s with acc := t.acc, out := t.out } ∧ mapKept s.acc t.acc [u] ∧ (t.path u).held = (s.path u).held ∧
      (t.path u).latch = (if isLow (findRow rowsUSER off.toNat) then some (bar2Key u off.toNat, 0) else (s.path u).latch)) ∧
  (∀ (u : Fn) (off : Offset) (w : Word) (s : State), s.fnHere u = true → s.present (userUnit off.toNat) = false → (findRow rowsUSER off.toNat).isSome = true → (off.toNat % 4 = 0 ∧ off.toNat < 65536) → s.dev.state ≠ .load →
    ∃ t, exec (.regWrite u .bar2 off w) s = .next t ∧ exec (.pairLowWrite u .bar2 off w) s = .next t ∧
        exec (.pairHighWrite u .bar2 off w) s = .next t ∧ exec (.counterClear u .bar2 off w) s = .next t ∧
        t.f DEV.ABSENTWR 31 0 = min (s.f DEV.ABSENTWR 31 0 + 1) 4294967295 ∧
        t.f DEV.ABSENTADDR 23 0 = off ∧ t.f DEV.ABSENTADDR 24 24 = 1 ∧ t.f DEV.ABSENTADDR 30 25 = u ∧
        t.fb (HDR.IRQSTAT pgDEV) 0 = true ∧
        onlyRegsOut s t [DEV.ABSENTWR, DEV.ABSENTADDR, HDR.IRQSTAT pgDEV]) ∧
  (∀ (u : Fn) (off : Offset) (w : Word) (s : State), s.fnHere u = true → s.notMine u off.toNat = false → findRow rowsUSER off.toNat = none → (off.toNat % 4 = 0 ∧ off.toNat < 65536) → s.dev.state ≠ .load →
    exec (.regWrite u .bar2 off w) s = .next s ∧ exec (.pairLowWrite u .bar2 off w) s = .next s ∧
      exec (.pairHighWrite u .bar2 off w) s = .next s ∧ exec (.counterClear u .bar2 off w) s = .next s ∧
      (0x9000 ≤ off.toNat → ∃ t, exec (.pairLowRead u .bar2 off) s = .next t ∧ t.out = s.out ++ [.readData u 0] ∧
        t = { s with out := t.out }))

/-- In LOAD a host write to BAR0 or BAR2 is dropped and counted, but for one of LOADCTL or RSTCTL (R65); a full reset
ends the load (R53).
That such a write of an absent page counts in BADACC alone is the model's choice (log entry 108). -/
def Obligations.LoadDropsHostWrites : Prop :=
  (∀ (off : Offset) (w : Word) (s : State), s.dev.state = .load → off.toNat % 4 = 0 → off.toNat ≠ DEV.LOADCTL → off.toNat ≠ DEV.RSTCTL →
    ∃ t, exec (.regWrite 0 .bar0 off w) s = .next t ∧ exec (.pairLowWrite 0 .bar0 off w) s = .next t ∧
      exec (.pairHighWrite 0 .bar0 off w) s = .next t ∧ exec (.counterClear 0 .bar0 off w) s = .next t ∧
      t.f DEV.BADACC 31 0 = min (s.f DEV.BADACC 31 0 + 1) 4294967295 ∧ onlyRegs s t [DEV.BADACC]) ∧
  (∀ (u : Fn) (off : Offset) (w : Word) (s : State), s.dev.state = .load → s.fnHere u = true → off.toNat % 4 = 0 → off.toNat < 65536 →
    ∃ t, exec (.regWrite u .bar2 off w) s = .next t ∧ exec (.counterClear u .bar2 off w) s = .next t ∧
      t.f DEV.BADACC 31 0 = min (s.f DEV.BADACC 31 0 + 1) 4294967295 ∧ onlyRegs s t [DEV.BADACC]) ∧
  (∀ (w : Word) (s : State), s.dev.state = .load → fld w 15 0 = 0xC1EA →
    ∃ t, exec (.fullReset w) s = .next t ∧ t.dev.state = .reset ∧ t.dev.internal = some (s.now + 10000) ∧
      t.dev.loader = {} ∧ t.dev.straps = s.dev.straps ∧ t.pending = s.pending)

/-- An RWS field of one register and of a 64-bit pair (R9, R40, R64, R66): a change is limited as its field says, taken, counted
in CFGGEN, and clears VALID; a value equal to the current one does nothing; after the seal, and for the host under secure
boot, a change is rejected: the field and CFGGEN stay, SEALREJ counts.
The exact counts, once per field and per pair, and that the value is compared before it is limited, are the model's
choice (log entry 11). -/
def Obligations.RwsFields : Prop :=
  (∀ (s : State) (who : Nat) (key : Nat) (f : Field) (v : Nat), (v = s.f key f.hi f.lo ∨ s.rwsFree who = true ∧ f.limit (s.f key f.hi f.lo) v = s.f key f.hi f.lo) →
    s.rwsPut who key f v = s) ∧
  (∀ (s : State) (who : Nat) (key : Nat) (f : Field) (v : Nat), key ∉ [DEV.CFGGEN, DEV.VALSTAT, DEV.SEALREJ, DEV.SEALREJADDR, HDR.IRQSTAT pgDEV] → v ≠ s.f key f.hi f.lo → (s.dev.sealed = true ∨ s.secureBoot = true ∧ who ≠ whoLoader) →
    onlyRegsOut s (s.rwsPut who key f v) [DEV.SEALREJ, DEV.SEALREJADDR, HDR.IRQSTAT pgDEV] ∧
      (s.rwsPut who key f v).f DEV.SEALREJ 30 0 = min (s.f DEV.SEALREJ 30 0 + 1) 2147483647 ∧
      (s.rwsPut who key f v).rd DEV.SEALREJADDR = BitVec.ofNat 32 (key % 16777216) ∧
      (s.rwsPut who key f v).fb (HDR.IRQSTAT pgDEV) 5 = true) ∧
  (∀ (s : State) (who : Nat) (key : Nat) (f : Field) (v : Nat) (n : Nat), (f.lo ≤ f.hi ∧ f.hi < 32) → key ∉ [DEV.CFGGEN, DEV.VALSTAT, DEV.SEALREJ, DEV.SEALREJADDR, HDR.IRQSTAT pgDEV] → v ≠ s.f key f.hi f.lo → s.dev.sealed = false → (who = whoLoader ∨ s.secureBoot = false) → f.limit (s.f key f.hi f.lo) v = n → n ≠ s.f key f.hi f.lo → n < 2 ^ (f.hi + 1 - f.lo) →
    (s.rwsPut who key f v).f key f.hi f.lo = n ∧
      (∀ b : Fin 32, b.val < f.lo ∨ f.hi < b.val → (s.rwsPut who key f v).fb key b = s.fb key b) ∧
      (s.rwsPut who key f v).rd DEV.CFGGEN = s.rd DEV.CFGGEN + 1 ∧
      ((s.rwsPut who key f v).rd DEV.CFGGEN ≠ (s.rwsPut who key f v).rd DEV.VALGEN → (s.rwsPut who key f v).fb DEV.VALSTAT 1 = false) ∧
      onlyRegs s (s.rwsPut who key f v) [key, DEV.CFGGEN, DEV.VALSTAT]) ∧
  (∀ (f : Field) (lo : Nat) (hi : Nat) (d : Nat) (old : Nat) (v : Nat), lo ≤ hi →
    (f.lim = .any → f.limit old v = v) ∧ (f.lim = .near lo hi → f.limit old v = max lo (min hi v)) ∧
      (f.lim = .sub lo hi d → f.limit old v = if lo ≤ v ∧ v ≤ hi then v else d) ∧
      (f.lim = .keep lo hi → f.limit old v = if lo ≤ v ∧ v ≤ hi then v else old) ∧
      (f.lim = .mod d → f.limit old v = v % d) ∧ (f.lim = .align d → f.limit old v = v / d * d)) ∧
  (∀ (s : State) (who : Nat) (lo : Nat) (v : Nat) (h : Fin 64) (l : Fin 64), nbits v h l = nbits (s.rd64 lo (lo + 4)) h l →
    s.rwsWide who lo v (h.val, l.val) = s) ∧
  (∀ (s : State) (who : Nat) (lo : Nat) (v : Nat) (h : Fin 64) (l : Fin 64), lo ∉ [DEV.CFGGEN, DEV.VALSTAT, DEV.SEALREJ, DEV.SEALREJADDR, HDR.IRQSTAT pgDEV] → nbits v h l ≠ nbits (s.rd64 lo (lo + 4)) h l → (s.dev.sealed = true ∨ s.secureBoot = true ∧ who ≠ whoLoader) →
    onlyRegsOut s (s.rwsWide who lo v (h.val, l.val)) [DEV.SEALREJ, DEV.SEALREJADDR, HDR.IRQSTAT pgDEV] ∧
      (s.rwsWide who lo v (h.val, l.val)).f DEV.SEALREJ 30 0 = min (s.f DEV.SEALREJ 30 0 + 1) 2147483647 ∧
      (s.rwsWide who lo v (h.val, l.val)).rd DEV.SEALREJADDR = BitVec.ofNat 32 (lo % 16777216)) ∧
  (∀ (s : State) (who : Nat) (lo : Nat) (v : Nat) (h : Fin 64) (l : Fin 64), l.val ≤ h.val → (lo ∉ [DEV.CFGGEN, DEV.VALSTAT, DEV.SEALREJ, DEV.SEALREJADDR, HDR.IRQSTAT pgDEV] ∧ lo + 4 ∉ [DEV.CFGGEN, DEV.VALSTAT, DEV.SEALREJ, DEV.SEALREJADDR, HDR.IRQSTAT pgDEV]) → nbits v h l ≠ nbits (s.rd64 lo (lo + 4)) h l → s.dev.sealed = false → (who = whoLoader ∨ s.secureBoot = false) →
    nbits ((s.rwsWide who lo v (h.val, l.val)).rd64 lo (lo + 4)) h l = nbits v h l ∧
      (∀ b : Fin 64, b.val < l.val ∨ h.val < b.val →
        nbits ((s.rwsWide who lo v (h.val, l.val)).rd64 lo (lo + 4)) b b = nbits (s.rd64 lo (lo + 4)) b b) ∧
      (s.rwsWide who lo v (h.val, l.val)).rd DEV.CFGGEN = s.rd DEV.CFGGEN + 1 ∧
      onlyRegs s (s.rwsWide who lo v (h.val, l.val)) [lo, lo + 4, DEV.CFGGEN, DEV.VALSTAT])

/-- The states of a block (R43, R44, R46), where no injected or real reaction waits for the page (R358). A page without a half's hooks stands for each clause's page where a drain or reset
does more: enabling a disabled block whose quiesce request is otherwise 0 makes it RUNNING; a request of a block without
accepted work quiesces it; a drain ends once the work is done and times out after QTIMEOUT; a soft reset discards, and its
end sets RSTDONE.
That the deadlines and instants set the time is the model's choice (log entry 6). -/
def Obligations.BlockStatesComplete : Prop :=
  (∀ (page : PageId) (w : Word) (s : State), s.dev.state ≠ .load → s.hasStates page = true → s.rwsFree 0 = true → (s.blk page).st = .disabled → (s.blk page).fltq = false → s.fb (HDR.BLKCTL page) 0 = false → fld w 2 0 = 1 →
    ∃ t, exec (.blockEnableWrite page w) s = .next t ∧
      (t.blk page).st = .running ∧ t.f (HDR.BLKCTL page) 1 0 = 1 ∧ t.rd DEV.CFGGEN = s.rd DEV.CFGGEN + 1 ∧
      mapKept s.blks t.blks [page] ∧
      t = { s with blks := t.blks, regs := t.regs, tbl := t.tbl, drc := t.drc, blg := t.blg, out := t.out, pci := s.pciBut t }) ∧
  (∀ (page : PageId) (w : Word) (s : State), s.dev.state ≠ .load → s.hasStates page = true → s.rwsFree 0 = true → (s.blk page).st = .disabled → s.fb (HDR.BLKCTL page) 0 = false → fld w 2 0 = 3 →
    ∃ t, exec (.quiesceRequest page w) s = .next t ∧
      (t.blk page).st = .quiesced ∧ t.f (HDR.BLKCTL page) 1 0 = 3 ∧ t.fb (HDR.IRQSTAT page) 31 = true ∧
      mapKept s.blks t.blks [page] ∧ t = { s with blks := t.blks, regs := t.regs, out := t.out, pci := s.pciBut t } ∧
      regsKept s t [HDR.BLKCTL page, HDR.IRQSTAT page, DEV.CFGGEN, DEV.VALSTAT]) ∧
  (∀ (page : PageId) (w : Word) (s : State), s.dev.state ≠ .load → (kindOf page = some (.ver, 0) ∨ kindOf page = some (.tcm, 0)) → (s.blk page).st = .running → s.blkWork page = false → s.fb (HDR.BLKCTL page) 0 = true → fld w 2 0 = 3 → ((s.flt.waits.all fun w => w.page ≠ page) = true) →
    ∃ t, exec (.quiesceRequest page w) s = .next t ∧
      (t.blk page).st = .quiesced ∧ (t.blk page).since = s.now ∧ t.fb (HDR.BLKCTL page) 1 = true ∧
      t.fb (HDR.IRQSTAT page) 31 = true ∧ mapKept s.blks t.blks [page] ∧
      t = { s with blks := t.blks, regs := t.regs, blg := t.blg, flt := t.flt, out := t.out, pci := s.pciBut t }) ∧
  (∀ (page : PageId) (w : Word) (s : State), s.dev.state ≠ .load → (kindOf page = some (.ver, 0) ∨ kindOf page = some (.tcm, 0)) → ((s.blk page).st = .quiesced ∨ (s.blk page).st = .running) → s.busy page = false → s.fb (HDR.BLKCTL page) 0 = true → fld w 0 0 = 1 → fld w 2 2 = 1 →
    ∃ t, exec (.softReset page w) s = .next t ∧
      (t.blk page).st = .resetting ∧ t.f (HDR.BLKCTL page) 1 1 = fld w 1 1 ∧
      t.rd (HDR.FLTSTAT page) = 0 ∧ t.rd (HDR.FLTCNT page) = 0 ∧ t.rd (HDR.IRQSTAT page) = 0 ∧
      (∀ n : Fin 8, t.rd (HDR.CNTLO page n) = 0 ∧ t.rd (HDR.CNTHI page n) = 0 ∧
        t.rd (HDR.CSEL page n) = s.rd (HDR.CSEL page n)) ∧
      t.rd (HDR.FLTMASK page) = s.rd (HDR.FLTMASK page) ∧ t.rd (HDR.IRQMASK page) = s.rd (HDR.IRQMASK page) ∧
      mapKept s.blks t.blks [page] ∧
      t = { s with blks := t.blks, regs := t.regs, blg := t.blg, cnt := t.cnt, ver := t.ver, out := t.out, pci := s.pciBut t }) ∧
  (∀ (page : PageId) (w : Word) (s : State), s.dev.state ≠ .load → s.hasStates page = true → s.busy page = false → fld w 2 2 = 1 →
    ∃ t, exec (.softReset page w) s = .next t ∧
      (t.blk page).st = .resetting ∧ (t.blk page).qto = false ∧ t.dev = s.dev ∧ t.tim = s.tim ∧ t.pending = s.pending) ∧
  (∀ (page : PageId) (s : State), s.hasStates page = true → (s.blk page).st = .draining → s.blkWork page = false → s.fb (HDR.BLKCTL page) 0 = true → s.request page = true → ((s.flt.waits.all fun w => w.page ≠ page) = true) →
    ∃ t, exec (.drainComplete page) s = .next t ∧
      (t.blk page).st = .quiesced ∧ (t.blk page).qto = false ∧ t.fb (HDR.IRQSTAT page) 31 = true ∧
      mapKept s.blks t.blks [page] ∧ t = { s with blks := t.blks, regs := t.regs, flt := t.flt, out := t.out, pci := s.pciBut t } ∧
      regsKept s t [HDR.IRQSTAT page]) ∧
  (∀ (page : PageId) (s : State), s.hasStates page = true → (s.blk page).st = .draining → s.blkWork page = false → s.fb (HDR.BLKCTL page) 0 = false → ((s.flt.waits.all fun w => w.page ≠ page) = true) →
    ∃ t, exec (.drainComplete page) s = .next t ∧
      (t.blk page).st = .disabled ∧ (t.blk page).qto = false ∧ t.fb (HDR.IRQSTAT page) 31 = true ∧
      t = { s with blks := t.blks, regs := t.regs, flt := t.flt, ports := t.ports, blg := t.blg, out := t.out, pci := s.pciBut t }) ∧
  (∀ (page : PageId) (i : Nat) (k : Kind) (n : Nat) (s : State), s.hasStates page = true → (s.blk page).st = .draining → (s.blk page).qto = false → s.blkWork page = true → kindOf page = some (k, n) → qtoBit k = some i →
    ∃ t, exec (.quiesceTimeout page) s = .next t ∧
      t.blk page = { s.blk page with qto := true } ∧ t.fb (HDR.FLTSTAT page) i = true ∧
      t.now = max s.now ((s.blk page).since + s.f DEV.QTIMEOUT 19 0 * 1000) ∧ mapKept s.blks t.blks [page] ∧
      t = { s with blks := t.blks, regs := t.regs, now := t.now, tim := t.tim, flt := t.flt }) ∧
  (∀ (page : PageId) (s : State), s.hasStates page = true → (s.blk page).st = .resetting → s.dev.state ≠ .fenced → s.resetBusy page = false → s.request page = true → ((s.flt.waits.all fun w => w.page ≠ page) = true) →
    ∃ t, exec (.resetComplete page) s = .next t ∧
      (t.blk page).st = (if s.fb (HDR.BLKCTL page) 0 then .quiesced else .disabled) ∧
      t.fb (HDR.IRQSTAT page) 30 = true ∧ mapKept s.blks t.blks [page] ∧
      t = { s with blks := t.blks, regs := t.regs, flt := t.flt, out := t.out, pci := s.pciBut t } ∧ regsKept s t [HDR.IRQSTAT page]) ∧
  (∀ (page : PageId) (s : State), s.hasStates page = true → (s.blk page).st = .resetting → s.dev.state ≠ .fenced → s.resetBusy page = false → s.request page = false → ((s.flt.waits.all fun w => w.page ≠ page) = true) →
    ∃ t, exec (.resetComplete page) s = .next t ∧
      (t.blk page).st = .running ∧ t.fb (HDR.IRQSTAT page) 30 = true ∧ mapKept s.blks t.blks [page] ∧
      t = { s with blks := t.blks, regs := t.regs, tbl := t.tbl, drc := t.drc, blg := t.blg, flt := t.flt, out := t.out, pci := s.pciBut t })

/-- The counters (R389 to R396): a counter-clear register clears the groups written 1; a selection takes effect and a
change of event or qualifier clears the counter; a sweep reads every counter of every present page by R391; a snapshot is
requested, latched at its instant and delivered; a freeze is scheduled and comes into force.
That the deadlines and instants set the time is the model's choice (log entry 6). -/
def Obligations.CountersComplete : Prop :=
  (∀ (w : Word) (s : State), s.dev.state ≠ .load → s.busy pgDEV = false →
    ∃ t, exec (.counterClear 0 .bar0 (BitVec.ofNat 24 DEV.CNTCLR) w) s = .next t ∧
      t.rd DEV.ABSENTWR = (if w.getLsbD 0 then 0 else s.rd DEV.ABSENTWR) ∧
      t.rd DEV.BADACC = (if w.getLsbD 1 then 0 else s.rd DEV.BADACC) ∧
      onlyRegs s t [DEV.ABSENTWR, DEV.BADACC]) ∧
  (∀ (w : Word) (s : State), s.dev.state ≠ .load → s.busy pgVER = false →
    ∃ t, exec (.counterClear 0 .bar0 (BitVec.ofNat 24 VER.CNTCLR) w) s = .next t ∧
      t.rd VER.COMMITS = (if w.getLsbD 0 then 0 else s.rd VER.COMMITS) ∧
      t.rd VER.STALLS = (if w.getLsbD 0 then 0 else s.rd VER.STALLS) ∧ onlyRegs s t [VER.COMMITS, VER.STALLS]) ∧
  (∀ (page : PageId) (n : Fin 8) (w : Word) (k : Kind) (g : Nat) (s : State), s.dev.state ≠ .load → s.present page = true → kindOf page = some (k, g) → s.busy page = false →
    ∃ t, exec (.counterSelectWrite page n w) s = .next t ∧
      t.f (HDR.CSEL page n) 24 0 = fld w 24 0 ∧
      t.counter page n = (if s.f (HDR.CSEL page n) 23 0 ≠ fld w 23 0 ∨ fld w 25 25 = 1 then 0 else s.counter page n) ∧
      t.fb (HDR.CSEL page n) 31 = (fld w 15 0 ≠ 0 && !inCatalogue k (fld w 15 0)) ∧
      t = { s with regs := t.regs, cnt := t.cnt } ∧
      regsKept s t [HDR.CSEL page n, HDR.CNTLO page n, HDR.CNTHI page n]) ∧
  (∀ (s : State), s.running pgCNT = true →
    ∃ t, exec .gaugeSweep s = .next t ∧
      (∀ (p : PageId) (n : Fin 8), s.present p = true → t.gacc (p * 8 + n) =
        { s.gacc (p * 8 + n) with
          acc := (s.gacc (p * 8 + n)).take ((s.until s.cnt.sweepDue).counter p n),
          last := (s.until s.cnt.sweepDue).counter p n,
          cleared := false }) ∧
      t.cnt.sweepDue = t.now + s.f CNT.CFG 23 0 * 1000 ∧ t = { s.until s.cnt.sweepDue with cnt := t.cnt }) ∧
  (∀ (w : Word) (s : State), s.dev.state ≠ .load → s.running pgCNT = true → s.cnt.snap = none → fld w 0 0 = 1 →
    ∃ t, exec (.snapshotGo w) s = .next t ∧
      t.cnt = { s.cnt with snap := t.cnt.snap } ∧
      t.cnt.snap = some
        { at_ := if fld w 1 1 = 0 ∧ s.tai + 1000 ≤ s.rd64 CNT.SNAPAT_LO CNT.SNAPAT_HI
            then s.rd64 CNT.SNAPAT_LO CNT.SNAPAT_HI else s.tai + 1000,
          late := fld w 1 1 = 0 ∧ s.rd64 CNT.SNAPAT_LO CNT.SNAPAT_HI < s.tai + 1000 } ∧
      t = { s with regs := t.regs, cnt := t.cnt } ∧ regsKept s t [CNT.SNAPCTL, CNT.STAT]) ∧
  (∀ (p : Snap) (s : State), s.cnt.snap = some p → p.latched = none → s.tai ≤ p.at_ →
    ∃ t, exec .snapshotLatch s = .next t ∧
      (t.cnt.snap.bind Snap.latched).map Prod.fst = some p.at_ ∧
      (∀ (q : PageId) (n : Fin 8), s.present q = true →
        kgetD (((t.cnt.snap.bind Snap.latched).map Prod.snd).getD []) (q * 8 + n) 0 =
          (s.gacc (q * 8 + n)).take ((s.untilInstant p.at_).counter q n)) ∧
      t = { s.untilInstant p.at_ with cnt := { s.cnt with snap := t.cnt.snap } }) ∧
  (∀ (p : Snap) (i : Nat) (vals : KMap Nat) (s : State), s.cnt.snap = some p → p.latched = some (i, vals) → kwf vals = true →
    ∃ t, exec .snapshotDone s = .next t ∧
      t.cnt.snap = none ∧ (∀ (q : PageId) (n : Fin 8), (t.gacc (q * 8 + n)).snap = kgetD vals (q * 8 + n) 0) ∧
      t.rd CNT.SNAPSEQ = s.rd CNT.SNAPSEQ + 1 ∧ t.rd64 CNT.SNAPINST_LO CNT.SNAPINST_HI = i % 2 ^ 64 ∧
      t.fb CNT.STAT 0 = false ∧ t.fb (HDR.IRQSTAT pgCNT) 0 = true ∧
      t = { s with regs := t.regs, cnt := t.cnt, out := t.out, pci := s.pciBut t } ∧
      regsKept s t [CNT.SNAPSEQ, CNT.SNAPINST_LO, CNT.SNAPINST_HI, CNT.STAT, HDR.IRQSTAT pgCNT]) ∧
  (∀ (w : Word) (s : State), s.dev.state ≠ .load → s.running pgCNT = true → s.cnt.freeze = none → fld w 0 0 = 1 →
    ∃ t, exec (.freezeGo w) s = .next t ∧
      t.cnt = { s.cnt with freeze := t.cnt.freeze } ∧
      t.cnt.freeze = some
        (if fld w 2 2 = 0 ∧ s.tai + 1000 ≤ s.rd64 CNT.FREEZEAT_LO CNT.FREEZEAT_HI
          then s.rd64 CNT.FREEZEAT_LO CNT.FREEZEAT_HI else s.tai + 1000, decide (fld w 1 1 = 1)) ∧
      t = { s with regs := t.regs, cnt := t.cnt } ∧ regsKept s t [CNT.FREEZECTL, CNT.STAT]) ∧
  (∀ (i : Nat) (stop : Bool) (s : State), s.cnt.freeze = some (i, stop) →
    ∃ t, exec .freezeApply s = .next t ∧
      t.fb CNT.STAT 2 = stop ∧ t.cnt = { s.cnt with freeze := none } ∧
      t = { s.untilInstant i with regs := t.regs, cnt := t.cnt } ∧ regsKept (s.untilInstant i) t [CNT.STAT])

/-- Start-up (R51 to R57): RESET_N low resets every block and keeps what the board and the die hold; its rise latches the
straps; the PLLs lock; the fuses are read and the straps checked; initialisation ends in FENCED on a strap error, in HELD with
BOOT 0 and else in LOAD.
These are the model's choice: the JTAG instruction and PEER_ACTIVE_IN are kept over RESET_N (log entry 64), GEN 0
until the first zeroisation (log entry 17), 720 mV and the other values of the part (log entry 46), and the deadlines
that set the time (log entry 6). -/
def Obligations.StartUpComplete : Prop :=
  (∀ (s : State), ∃ t, exec .resetNAssert s = .next t ∧
      t.dev = { straps := s.dev.straps, i2cAddr := s.dev.i2cAddr } ∧ regsKept .reset t [EVT.STAT] ∧
      t = { State.reset with fuses := s.fuses, dev := t.dev, regs := t.regs, now := s.now, out := s.out, free := s.free, jtag := s.jtag, pending := s.pending }) ∧
  (∀ (pins : ResetPins) (s : State), s.resetLow = true →
    ∃ t, exec (.resetNRise pins) s = .next t ∧
      t.dev = { s.dev with straps := pins.straps, i2cAddr := pins.i2c, state := .strap } ∧ t.tim = { s.tim with count := 0, frac := 0 } ∧
      t.fb (HDR.IRQSTAT pgDEV) 6 = true ∧ t.jtag = (if isScan s.jtag then .bypass else s.jtag) ∧
      t = { s with dev := t.dev, tim := t.tim, jtag := t.jtag, regs := t.regs, blg := t.blg, out := t.out, pci := s.pciBut t }) ∧
  (∀ (t0 : Nat) (s : State), s.dev.internal = some t0 → s.dev.state = .reset →
    ∃ t, exec .resetInternalElapsed s = .next t ∧
      t.dev = { s.dev with internal := none, state := .strap } ∧ t.now = max s.now t0 ∧ t.tim.count = 0 ∧ t.tim.frac = 0 ∧
      t.fb (HDR.IRQSTAT pgDEV) 6 = true ∧
      t = { s with dev := t.dev, now := t.now, tim := t.tim, regs := t.regs, blg := t.blg, out := t.out, pci := s.pciBut t }) ∧
  (∀ (s : State), s.dev.state = .strap → s.dev.plls = false →
    ∃ t, exec .pllsLocked s = .next t ∧
      t.dev = { s.dev with plls := true } ∧ t.fb TIM.STAT 0 = true ∧ t = { s with dev := t.dev, regs := t.regs } ∧
      regsKept s t [TIM.STAT]) ∧
  (∀ (s : State), s.dev.state = .strap → s.dev.plls = true → s.dev.fused = false →
    ∃ t, exec (.fuseRead true) s = .next t ∧
      t.dev = { s.dev with fused := true, strapErr := s.strapCheck } ∧ t.pwr = { s.pwr with avsAt := some s.now } ∧
      t.f PWR.AVSSTAT 26 16 = s.fuses.mv % 2048 ∧
      t.f PWR.AVSSTAT 10 0 = (if 720 < s.avsTarget then min s.avsTarget 725 else max s.avsTarget 715) ∧
      (t.fb PWR.AVSSTAT 27 = true ↔ t.f PWR.AVSSTAT 10 0 ≠ s.avsTarget) ∧
      t = { s with dev := t.dev, regs := t.regs, pwr := t.pwr } ∧ regsKept s t [PWR.AVSSTAT]) ∧
  (∀ (s : State), s.dev.state = .strap → s.dev.plls = true → s.dev.fused = false →
    ∃ t, exec (.fuseRead false) s = .next t ∧
      t.dev = { s.dev with fused := true, strapErr := s.strapCheck } ∧ t.f PWR.AVSSTAT 10 0 = 720 ∧
      t.fb (HDR.FLTSTAT pgPWR) 3 = true ∧
      t = { s with dev := t.dev, regs := t.regs, flt := t.flt, pwr := { s.pwr with avsAt := some s.now } }) ∧
  (∀ (s : State), s.dev.fused = true →
    exec .pcieDetect s = .next { s with dev := { s.dev with detect := true } }) ∧
  (∀ (s : State), s.dev.detect = true → s.initialising = false →
    exec .pcieConfigReady s = .next { s with dev := { s.dev with cfgReady := true } }) ∧
  (∀ (s : State), s.dev.state = .strap → s.dev.fused = true → s.dev.strapErr ≠ 0 →
    ∃ t, exec .initComplete s = .next t ∧
      t.dev = { s.dev with state := .fenced, prev := some .strap } ∧ t.f DEV.FENCE 7 0 = s.dev.strapErr % 256 ∧
      (∀ p : PageId, s.hasStates p = true → (t.blk p).st = .resetting) ∧
      t.key.zeros = s.key.zeros + (if s.present pgKEY then 2 else 1) ∧
      t.now = s.now ∧ t.tim = s.tim ∧ t.fuses = s.fuses ∧ t.acc = s.acc ∧ t.pending = s.pending) ∧
  (∀ (s : State), s.dev.state = .strap → s.dev.fused = true → s.dev.strapErr = 0 → s.boot = 0 →
    ∃ t, exec .initComplete s = .next t ∧
      t.dev = { s.dev with state := .held } ∧ t.fb (HDR.IRQSTAT pgDEV) 6 = true ∧ t.key.zeros = s.key.zeros + 1 ∧ (t.key.slots.all fun e => e.2.key.isNone) = true ∧
      t = { s with dev := t.dev, key := t.key, regs := t.regs, blg := t.blg, out := t.out, pci := s.pciBut t }) ∧
  (∀ (s : State), s.dev.state = .strap → s.dev.fused = true → s.dev.strapErr = 0 → s.boot ≠ 0 →
    ∃ t, exec .initComplete s = .next t ∧
      t.dev = { s.dev with state := .load, loader := { phase := .reading } } ∧ t.rd DEV.LOADSTAT = 1 ∧
      t.fb (HDR.IRQSTAT pgDEV) 6 = true ∧
      t.key.zeros = s.key.zeros + 1 ∧ (t.key.slots.all fun e => e.2.key.isNone) = true ∧
      t = { s with dev := t.dev, key := t.key, regs := t.regs, blg := t.blg, out := t.out, pci := s.pciBut t })

/-- Resets and the PCIe link (R53, R54, R324, R327, R344): the full reset by its key word; a hot reset and a link-down, which
reset the host side and nothing else; a function-level reset of the PF and of a VF; the link coming up; a configuration write.
These are the model's choice: what the resets leave of the PCIe configuration (log entries 28 and 62), the MSI-X state
(log entry 60), the registers that a function-level reset reaches (log entry 63), the JTAG instruction and
PEER_ACTIVE_IN kept over a full reset (log entry 64), D3hot and absent functions (log entry 124), and the deadlines
that set the time (log entry 6). -/
def Obligations.ResetsComplete : Prop :=
  (∀ (w : Word) (s : State), s.dev.state ≠ .reset → fld w 15 0 = 0xC1EA →
    ∃ t, exec (.fullReset w) s = .next t ∧
      t.dev = { straps := s.dev.straps, i2cAddr := s.dev.i2cAddr, internal := some (s.now + 10000) } ∧ regsKept .reset t [EVT.STAT] ∧
      t = { State.reset with fuses := s.fuses, dev := t.dev, regs := t.regs, now := s.now, out := s.out, free := s.free, jtag := s.jtag, pending := s.pending }) ∧
  (∀ (w : Word) (s : State), s.dev.state ≠ .reset → fld w 15 0 ≠ 0xC1EA →
    exec (.fullReset w) s = .next s.badAcc) ∧
  (∀ (c : Instr) (s : State), (c = .hotReset ∨ c = .pcieLinkDown) →
    ∃ t, exec c s = .next t ∧
      t.pci = { aerCorr := s.pci.aerCorr, aerUnc := s.pci.aerUnc } ∧ t.hst = {} ∧
      (∀ u : Fn, t.path u = {}) ∧ t.fb HST.LINKSTAT 8 = false ∧
      (∀ (u : Fn) (q : Fin 8), t.rd (USER.QPCFG u q) = resetVal (USER.QPCFG u q) ∧ t.rd (IDX.TXPIDX u q) = 0) ∧
      t.dev = s.dev ∧
      t = { s with acc := t.acc, blks := t.blks, regs := t.regs, blg := t.blg, key := t.key, pci := t.pci, hst := {}, dma := t.dma, cnt := t.cnt, flt := t.flt, out := t.out }) ∧
  (∀ (s : State), ∃ t, exec (.functionLevelReset 0) s = .next t ∧
      t.pci = { mps := s.pci.mps, aerCorr := s.pci.aerCorr, aerUnc := s.pci.aerUnc } ∧ t.hst = {} ∧ (∀ u : Fn, t.path u = {}) ∧
      (∀ (u : Fn) (q : Fin 8), t.rd (USER.QPCFG u q) = resetVal (USER.QPCFG u q) ∧ t.rd (IDX.TXPIDX u q) = 0) ∧ t.rd HST.LINKSTAT = s.rd HST.LINKSTAT ∧
      t = { s with acc := t.acc, blks := t.blks, regs := t.regs, blg := t.blg, key := t.key, pci := t.pci, hst := {}, dma := t.dma, cnt := t.cnt, flt := t.flt, out := t.out }) ∧
  (∀ (u : Fn) (s : State), u ≠ 0 → s.fnHere u = true →
    ∃ t, exec (.functionLevelReset u) s = .next t ∧
      (t.fb HST.FLRSTAT_LO u = true ∧ u.val < 32 ∨ t.fb HST.FLRSTAT_HI (u - 32) = true ∧ 32 ≤ u.val) ∧
      t.fb (HDR.IRQSTAT pgHST) irqFLR = true ∧ t.path u = {} ∧ mapKept s.acc t.acc [u] ∧
      (∀ q : Fin 8, t.rd (USER.QPCFG u q) = resetVal (USER.QPCFG u q) ∧ t.rd (IDX.TXPIDX u q) = 0) ∧
      (∀ (v : Fn) (q : Fin 8), v ≠ u → t.rd (USER.QPCFG v q) = s.rd (USER.QPCFG v q)) ∧ t.rd (HST.FUNC u) = s.rd (HST.FUNC u) ∧
      t.pci.bme = s.pci.bme.filter (fun x => x ≠ u.val) ∧ t.pci.mrrs = kerase s.pci.mrrs u ∧
      t.pci.cplTmo = kerase s.pci.cplTmo u ∧ t.pci.d3.contains u.val = false ∧ t.pci.msixEn.contains u.val = false ∧
      t.pci.msixHush.contains u.val = false ∧ t.pci.vecOpen = s.pci.vecOpen.filter (fun k => k / 64 ≠ u.val) ∧
      t.pci = { s.pci with
        bme := t.pci.bme, mrrs := t.pci.mrrs, cplTmo := t.pci.cplTmo, d3 := t.pci.d3, msixEn := t.pci.msixEn,
        msixHush := t.pci.msixHush, vecOpen := t.pci.vecOpen, vecPend := t.pci.vecPend } ∧
      t = { s with acc := t.acc, regs := t.regs, key := t.key, pci := t.pci, hst := t.hst, dma := t.dma, out := t.out }) ∧
  (∀ (speed : Fin 6) (width : Fin 4) (flit : Bool) (s : State), s.dev.detect = true → 2 ^ width.val ≤ s.maxLanes →
    ∃ t, exec (.pcieLinkUp speed width flit) s = .next t ∧
      t.f HST.LINKSTAT 2 0 = speed + 1 ∧ t.f HST.LINKSTAT 6 3 = 2 ^ width.val ∧
      t.fb HST.LINKSTAT 7 = (flit || speed = 5) ∧ t.fb HST.LINKSTAT 8 = true ∧
      onlyRegsOut s t [HST.LINKSTAT, HDR.IRQSTAT pgHST] ∧
      (s.fb HST.LINKSTAT 8 = false → t.fb (HDR.IRQSTAT pgHST) irqLINKCHG = true)) ∧
  (∀ (fn : Fn) (c : CfgReq) (s : State), s.dev.cfgReady = true → s.fnHere fn = true →
    ∃ t, exec (.configRequest fn c) s = .next t ∧ t = { s with pci := t.pci, out := t.out } ∧
      (∃ l, t.out = s.out ++ l ++ [.cfgDone fn (s.cfgWord fn c)] ∧ ∀ o ∈ l, o ∈ (List.range 64).map (Out.msix fn)) ∧
      (∀ v, c = .vfEnable v → fn = 0 → t.pci.vfEn = v) ∧
      (∀ n, c = .numVfs n → fn = 0 → s.pci.vfEn = false → t.pci.numVfs = n.toNat) ∧
      (∀ v, c = .busMaster v → t.pci.bme.contains fn.val = v) ∧
      (∀ x, c = .maxPayload x → kget? t.pci.mps fn = some x.val) ∧
      (∀ x, c = .maxReadReq x → kget? t.pci.mrrs fn = some x.val) ∧
      (∀ x, c = .cplTimeout x → kget? t.pci.cplTmo fn = some x.val) ∧
      (∀ v, c = .powerState v → t.pci.d3.contains fn.val = v) ∧
      (∀ v, c = .msixEnable v → t.pci.msixEn.contains fn.val = v) ∧
      (∀ v, c = .msixFnMask v → t.pci.msixHush.contains fn.val = v) ∧
      (∀ n v, c = .msixMask n v → t.pci.vecOpen.contains (fn.val * 64 + n.val) = !v) ∧
      (∀ r, c = .read r → s.cfgWord fn c = s.cfgRead fn r ∧ t.pci = s.pciBut t)) ∧
  (∀ (fn : Fn) (c : CfgReq) (s : State), s.dev.cfgReady = false →
    exec (.configRequest fn c) s = .next (s.emit (.cfgRetry fn)))

/-- The loader (R60 to R64): a verified image's sections are applied record by record; a rejected primary is followed by the
secondary, and a rejected secondary ends the load in HELD, or in FENCED under secure boot, where an unsigned image is
rejected; each record acts on its register as an access of the loader's path and the next record follows; a poll of any
register waits, ends at once with COUNT 0, or ends the load at its limit; END goes to the next section or ends the load in
HELD; LOADCTL aborts it. That a deadline sets the time is the model's choice (log entry 6). -/
def Obligations.LoaderComplete : Prop :=
  (∀ (image : List Byte) (secs : List (List Byte)) (s : State), s.dev.state = .load → s.dev.loader.phase = .reading → (s.verify image).toOption = some secs →
    ∃ t, exec (.imageReadDone image) s = .next t ∧
      t = { s with dev := { s.dev with loader := t.dev.loader } } ∧ t.dev.loader.phase = .applying ∧
      t.dev.loader.sections = secs ∧ t.dev.loader.sect = 0 ∧ t.dev.loader.recIx = 0 ∧
      t.dev.loader.serial = leAt image 0x18 4) ∧
  (∀ (image : List Byte) (s : State), s.dev.state = .load → s.dev.loader.phase = .reading → s.dev.loader.secondary = false → (s.verify image).toOption = none →
    ∃ t, exec (.imageReadDone image) s = .next t ∧
      t.dev = { s.dev with loader := { s.dev.loader with secondary := true } } ∧ t.fb DEV.LOADSTAT 4 = true ∧
      t = { s with dev := t.dev, regs := t.regs } ∧ regsKept s t [DEV.LOADSTAT]) ∧
  (∀ (image : List Byte) (r : Nat) (i : Nat) (s : State), s.dev.state = .load → s.dev.loader.phase = .reading → s.dev.loader.secondary = true → s.secureBoot = false → (match s.verify image with | .error e => some e | .ok _ => none) = some (r, i) →
    ∃ t, exec (.imageReadDone image) s = .next t ∧
      t.dev = { s.dev with state := .held, loader := {} } ∧ t.f DEV.LOADSTAT 3 0 = r % 16 ∧
      t.f DEV.LOADSTAT 15 8 = min i 255 ∧ t.fb (HDR.IRQSTAT pgDEV) 3 = true ∧
      t = { s with dev := t.dev, regs := t.regs, blg := t.blg, out := t.out, pci := s.pciBut t }) ∧
  (∀ (image : List Byte) (s : State), s.dev.state = .load → s.dev.loader.phase = .reading → s.dev.loader.secondary = true → s.secureBoot = true → (s.verify image).toOption = none →
    ∃ t, exec (.imageReadDone image) s = .next t ∧
      t.dev.state = .fenced ∧ t.dev.prev = some .load ∧ t.f DEV.FENCE 7 0 = 4 ∧ t.dev.loader = {}) ∧
  (∀ (image : List Byte) (s : State), s.secureBoot = true → bit (imgFlags image) 0 = false →
    (s.verify image).toOption = none) ∧
  (∀ (r : Rec) (p : PageId) (s : State), s.dev.state = .load → s.dev.loader.phase = .applying → s.recHead = some r → r.op = 1 → r.addr = HDR.IRQMASK p → s.present p = true →
    ∃ t, exec .write32 s = .next t ∧
      t.rd (HDR.IRQMASK p) = BitVec.ofNat 32 r.a ∧
      t.dev = { s.dev with loader := { s.dev.loader with
        sections := s.recBytes.drop 16 :: s.dev.loader.sections.drop 1, recIx := s.dev.loader.recIx + 1 } } ∧
      t = { s with dev := t.dev, regs := t.regs, out := t.out, pci := s.pciBut t } ∧ regsKept s t [HDR.IRQMASK p]) ∧
  (∀ (r : Rec) (n : Fin 16) (s : State), s.dev.state = .load → s.dev.loader.phase = .applying → s.recHead = some r → r.op = 2 → r.addr = TIM.TGT_LO n → s.fb (TIM.TMRCTL n) 0 = false → (s.path whoLoader).held = none →
    ∃ t, exec .write64 s = .next t ∧
      t.rd (TIM.TGT_LO n) = BitVec.ofNat 32 r.a ∧ t.rd (TIM.TGT_HI n) = BitVec.ofNat 32 r.b ∧
      t.dev = { s.dev with loader := { s.dev.loader with
        sections := s.recBytes.drop 16 :: s.dev.loader.sections.drop 1, recIx := s.dev.loader.recIx + 1 } } ∧
      (t.path whoLoader).held = none ∧ mapKept s.acc t.acc [whoLoader] ∧
      t = { s with dev := t.dev, regs := t.regs, acc := t.acc } ∧ regsKept s t [TIM.TGT_LO n, TIM.TGT_HI n]) ∧
  (∀ (r : Rec) (p : PageId) (s : State), s.dev.state = .load → s.dev.loader.phase = .applying → s.recHead = some r → r.op = 3 → r.addr = HDR.IRQMASK p → s.present p = true →
    ∃ t, exec .rmw32 s = .next t ∧
      t.rd (HDR.IRQMASK p) =
        (s.rd (HDR.IRQMASK p) &&& ~~~ (BitVec.ofNat 32 r.a)) ||| (BitVec.ofNat 32 r.b &&& BitVec.ofNat 32 r.a) ∧
      t.dev = { s.dev with loader := { s.dev.loader with
        sections := s.recBytes.drop 16 :: s.dev.loader.sections.drop 1, recIx := s.dev.loader.recIx + 1 } } ∧
      t = { s with dev := t.dev, regs := t.regs, out := t.out, pci := s.pciBut t } ∧ regsKept s t [HDR.IRQMASK p]) ∧
  (∀ (r : Rec) (u : State) (s : State), s.dev.state = .load → s.dev.loader.phase = .applying → s.recHead = some r → r.op = 4 → s.recWrites (bit r.flags 0) r.addr (List.replicate r.count r.a) = (u, true) → u.dev = s.dev →
    ∃ t, exec .fill32 s = .next t ∧
      t = { u with dev := { s.dev with loader := { s.dev.loader with
        sections := s.recBytes.drop 16 :: s.dev.loader.sections.drop 1, recIx := s.dev.loader.recIx + 1 } } }) ∧
  (∀ (r : Rec) (u : State) (s : State), s.dev.state = .load → s.dev.loader.phase = .applying → s.recHead = some r → r.op = 5 → (s.recWrites (bit r.flags 0) r.addr ((List.range (4 * r.count)).map fun i => leAt s.recBytes (16 + 4 * i) 4) = (u, true)) → u.dev = s.dev →
    ∃ t, exec .dataRecord s = .next t ∧
      t = { u with dev := { s.dev with loader := { s.dev.loader with
        sections := s.recBytes.drop (16 * (r.count + 1)) :: s.dev.loader.sections.drop 1, recIx := s.dev.loader.recIx + 1 } } }) ∧
  (∀ (a : Nat) (w : Nat) (rest : List Nat) (opt : Bool) (s : State), s.dev.state = .load → (opt || s.present (a / 65536)) = true →
    s.recWrites opt a (w :: rest) =
      (s.write0 whoLoader (a / 65536) (a % 65536) (BitVec.ofNat 32 w)).recWrites opt (a + 4) rest) ∧
  (∀ (r : Rec) (d : Nat) (s : State), s.dev.state = .load → (s.dev.loader.phase = .applying ∨ s.dev.loader.phase = .polling d) → s.recHead = some r → r.op = 6 → (s.read0 whoLoader (r.addr / 65536) (r.addr % 65536)).1.toNat &&& r.a = r.b →
    ∃ t, exec .poll32 s = .next t ∧
      t.dev = { s.dev with loader := { s.dev.loader with
        phase := .applying, sections := s.recBytes.drop 16 :: s.dev.loader.sections.drop 1, recIx := s.dev.loader.recIx + 1 } } ∧
      t = { (s.read0 whoLoader (r.addr / 65536) (r.addr % 65536)).2 with dev := t.dev } ∧
      ((kindOf (r.addr / 65536)).map (·.1) ∉ [some .tim, some .pg, some .tbl, some .flt] →
        t = { s with dev := t.dev, acc := t.acc } ∧ mapKept s.acc t.acc [whoLoader])) ∧
  (∀ (r : Rec) (s : State), s.dev.state = .load → s.dev.loader.phase = .applying → s.recHead = some r → r.op = 6 → (s.read0 whoLoader (r.addr / 65536) (r.addr % 65536)).1.toNat &&& r.a ≠ r.b → r.count ≠ 0 →
    ∃ t, exec .poll32 s = .next t ∧
      t.dev = { s.dev with loader := { s.dev.loader with phase := .polling (s.now + 10000 * r.count) } } ∧
      t = { (s.read0 whoLoader (r.addr / 65536) (r.addr % 65536)).2 with dev := t.dev }) ∧
  (∀ (r : Rec) (d : Nat) (s : State), s.dev.state = .load → s.dev.loader.phase = .polling d → s.recHead = some r → r.op = 6 → (s.read0 whoLoader (r.addr / 65536) (r.addr % 65536)).1.toNat &&& r.a ≠ r.b → r.count ≠ 0 →
    exec .poll32 s = .next (s.read0 whoLoader (r.addr / 65536) (r.addr % 65536)).2) ∧
  (∀ (r : Rec) (s : State), s.dev.state = .load → s.dev.loader.phase = .applying → s.recHead = some r → r.op = 6 → (s.read0 whoLoader (r.addr / 65536) (r.addr % 65536)).1.toNat &&& r.a ≠ r.b → r.count = 0 → s.secureBoot = false →
    ∃ t, exec .poll32 s = .next t ∧
      t.dev = { s.dev with state := .held, loader := {} } ∧ t.f DEV.LOADSTAT 3 0 = 9 ∧
      t.f DEV.LOADSTAT 15 8 = s.dev.loader.sect % 256 ∧ t.f DEV.LOADSTAT 31 16 = min s.dev.loader.recIx 65535 ∧
      t.fb (HDR.IRQSTAT pgDEV) 3 = true) ∧
  (∀ (d : Nat) (s : State), s.dev.state = .load → s.dev.loader.phase = .polling d → s.secureBoot = false →
    ∃ t, exec .poll32Limit s = .next t ∧
      t.dev = { s.dev with state := .held, loader := {} } ∧ t.now = max s.now d ∧ t.f DEV.LOADSTAT 3 0 = 9 ∧
      t.f DEV.LOADSTAT 15 8 = s.dev.loader.sect % 256 ∧ t.f DEV.LOADSTAT 31 16 = min s.dev.loader.recIx 65535 ∧
      t.fb (HDR.IRQSTAT pgDEV) 3 = true ∧
      t = { s with dev := t.dev, now := t.now, tim := t.tim, regs := t.regs, blg := t.blg, out := t.out, pci := s.pciBut t }) ∧
  (∀ (d : Nat) (s : State), s.dev.state = .load → s.dev.loader.phase = .polling d → s.secureBoot = true →
    ∃ t, exec .poll32Limit s = .next t ∧
      t.dev.state = .fenced ∧ t.dev.prev = some .load ∧ t.f DEV.FENCE 7 0 = 4 ∧ t.f DEV.LOADSTAT 3 0 = 9 ∧ t.now = max s.now d) ∧
  (∀ (r : Rec) (s : State), s.dev.state = .load → s.dev.loader.phase = .applying → s.recHead = some r → r.op = 7 →
    exec .delayRecord s =
      .next { s with dev := { s.dev with loader := { s.dev.loader with phase := .delaying (s.now + 1000 * r.a) } } }) ∧
  (∀ (d : Nat) (s : State), s.dev.state = .load → s.dev.loader.phase = .delaying d →
    ∃ t, exec .delayExpire s = .next t ∧
      t = { s.until d with dev := { s.dev with loader := { s.dev.loader with
        phase := .applying, sections := s.recBytes.drop 16 :: s.dev.loader.sections.drop 1, recIx := s.dev.loader.recIx + 1 } } }) ∧
  (∀ (r : Rec) (s : State), s.dev.state = .load → s.dev.loader.phase = .applying → s.recHead = some r → r.op = 15 → 2 ≤ s.dev.loader.sections.length →
    exec .recordEnd s = .next { s with dev := { s.dev with loader := { s.dev.loader with
        sections := s.dev.loader.sections.drop 1, sect := s.dev.loader.sect + 1, recIx := 0 } } }) ∧
  (∀ (r : Rec) (s : State), s.dev.state = .load → s.dev.loader.phase = .applying → s.recHead = some r → r.op = 15 → s.dev.loader.sections.length = 1 → s.dev.loader.arm = false →
    ∃ t, exec .recordEnd s = .next t ∧
      t.dev = { s.dev with state := .held, loader := {} } ∧ t.f DEV.LOADSTAT 3 0 = 2 ∧
      t.rd DEV.IMGID = BitVec.ofNat 32 s.dev.loader.serial ∧ t.fb (HDR.IRQSTAT pgDEV) 2 = true ∧
      t = { s with dev := t.dev, regs := t.regs, blg := t.blg, out := t.out, pci := s.pciBut t }) ∧
  (∀ (w : Word) (s : State), s.dev.state = .load → s.secureBoot = false → fld w 0 0 = 1 →
    ∃ t, exec (.loadAbort w) s = .next t ∧
      t.dev = { s.dev with state := .held, loader := {} } ∧ t.f DEV.LOADSTAT 3 0 = 0xA ∧
      t.fb (HDR.IRQSTAT pgDEV) 6 = true ∧ t = { s with dev := t.dev, regs := t.regs, blg := t.blg, out := t.out, pci := s.pciBut t })

/-- From HELD to RUN (R57, R67 to R71): validation starts with the configuration's generation and reports what fails; the
seal is accepted only for what is still valid; GO in ARMED enters RUN; a sealed configuration is checked again.
These are the model's choice: that CFGCRC is the CRC-32C of an opaque layout of the changed registers (log entry 4),
that every validation writes VALID (log entry 66), and the deadlines that set the time (log entry 6). -/
def Obligations.SealFlowComplete : Prop :=
  (∀ (w : Word) (s : State), s.dev.state = .held → s.fb DEV.VALSTAT 0 = false → fld w 0 0 = 1 →
    ∃ t, exec (.validateGo w) s = .next t ∧
      t.dev = { s.dev with valStart := some (s.rd DEV.CFGGEN) } ∧ t.fb DEV.VALSTAT 0 = true ∧
      t = { s with dev := t.dev, regs := t.regs } ∧ regsKept s t [DEV.VALSTAT]) ∧
  (∀ (g : Word) (s : State), s.dev.state = .held → s.fb DEV.VALSTAT 0 = true → s.dev.loader.phase ≠ .validating → s.dev.valStart = some g →
    ∃ t, exec .validationEnd s = .next t ∧
      t.fb DEV.VALSTAT 0 = false ∧ t.fb DEV.VALSTAT 1 = s.valFails.isEmpty ∧
      t.rd DEV.VALGEN = (if s.valFails.isEmpty then g else s.rd DEV.VALGEN) ∧
      t.f DEV.VALSTAT 15 8 = ((s.valFails.map Prod.fst).head?.getD 0) % 256 ∧
      t.rd DEV.CFGCRC = s.cfgCrc ∧ t.fb (HDR.IRQSTAT pgDEV) 4 = true ∧
      t.dev = { s.dev with valStart := none } ∧ t = { s with dev := t.dev, regs := t.regs, out := t.out, pci := s.pciBut t } ∧
      regsKept s t [DEV.VALSTAT, DEV.VALFAILS, DEV.VALDETAIL, DEV.VALGEN, DEV.CFGCRC, SCH.VALQ, HDR.IRQSTAT pgDEV]) ∧
  (∀ (w : Word) (s : State), s.dev.state = .held → fld w 15 0 = 0x5EA1 → s.sealOk = true → s.fb DEV.RUNCTL 1 = false →
    ∃ t, exec (.sealConfig w) s = .next t ∧
      t.dev = { s.dev with sealed := true, sealCfg := s.rwsList, state := .armed } ∧ t.fb (HDR.IRQSTAT pgDEV) 6 = true ∧
      t = { s with dev := t.dev, regs := t.regs, blg := t.blg, out := t.out, pci := s.pciBut t }) ∧
  (∀ (w : Word) (s : State), s.dev.state = .held → fld w 15 0 = 0x5EA1 → s.sealOk = false →
    ∃ t, exec (.sealConfig w) s = .next t ∧
      t.fb DEV.VALSTAT 1 = false ∧ t.fb DEV.VALSTAT 3 = true ∧ onlyRegs s t [DEV.VALSTAT]) ∧
  (∀ (w : Word) (s : State), s.dev.state = .armed → s.evtEn = false → fld w 0 0 = 1 → fld w 1 1 = s.f DEV.RUNCTL 1 1 →
    ∃ t, exec (.runGo w) s = .next t ∧
      t.dev = { s.dev with state := .run } ∧ t.fb (HDR.IRQSTAT pgDEV) 6 = true ∧
      t = { s with dev := t.dev, regs := t.regs, blg := t.blg, out := t.out, pci := s.pciBut t }) ∧
  (∀ (s : State), s.dev.sealed = true →
    ∃ t, exec .cfgcrcRecheck s = .next t ∧
      (s.cfgCrc = s.rd DEV.CFGCRC → t = s.nextTick 10000000) ∧
      (s.cfgCrc ≠ s.rd DEV.CFGCRC → t.fb (HDR.FLTSTAT pgDEV) 0 = true ∧
        t = (s.nextTick 10000000).fire pgDEV 0 false (BitVec.ofNat 32 ((firstDiff s.dev.sealCfg s.rwsList).getD 0)) ∧
        t = { s.nextTick 10000000 with regs := t.regs, flt := t.flt }))

/-- The link of a port (R79, R80): enabled it trains or aligns; training completes or times out; lock held for UPHOLD brings it
UP; a fault held for DOWNHOLD takes it DOWN and it starts again; no longer enabled it is OFF. Entering or leaving UP raises
LINKCHG and starts a new verify exchange.
These are the model's choice: what a port sends in each state, idle in ALIGN after TRAIN among them (log entry 129),
UPHOLD from the moment of lock (log entry 22), and the deadlines that set the time (log entry 6). -/
def Obligations.LinkStatesComplete : Prop :=
  (∀ (p : Port) (s : State), (s.port p).link = .off → s.portEnabled p = true →
    ∃ t, exec (.portEnable p) s = .next t ∧
      t.port p = { s.port p with
        link := if s.trains p then .train else .align, since := s.now, downAt := none,
        sends := if s.trains p then .training else .localFault } ∧
      t.out = s.out ++ lineOut s p (if s.trains p then .training else .localFault) ∧
      t = { s with ports := t.ports, out := t.out } ∧ mapKept s.ports t.ports [p]) ∧
  (∀ (p : Port) (s : State) (u : State), (s.port p).link = .up → s.portEnabled p = false → s.txClear p = u →
    ∃ t, exec (.portDisable p) s = .next t ∧
      t.port p = { u.port p with
        link := .off, since := u.now, downAt := none, sends := .off, vstat := .idle, vsent := 0 } ∧
      t.fb (HDR.IRQSTAT (pgPG (pgOf p))) (slotOf p) = true ∧ mapKept u.ports t.ports [p] ∧
      (∃ l, t.out = u.out ++ l) ∧
      t = { u with ports := t.ports, regs := t.regs, blg := t.blg, out := t.out, pci := u.pciBut t } ∧
      ((s.port p).txNow = none → u = s)) ∧
  (∀ (p : Port) (s : State) (u : State), ((s.port p).link = .train ∨ (s.port p).link = .align ∨ (s.port p).link = .down) → s.portEnabled p = false → s.txClear p = u →
    ∃ t, exec (.portDisable p) s = .next t ∧
      t.port p = { u.port p with link := .off, since := u.now, downAt := none, sends := .off } ∧
      t.out = u.out ++ lineOut u p .off ∧
      t = { u with ports := t.ports, out := t.out } ∧ mapKept u.ports t.ports [p] ∧ ((s.port p).txNow = none → u = s)) ∧
  (∀ (p : Port) (s : State) (u : State), s.leaveDown p = u → (u.port p).link = .train →
    ∃ t, exec (.trainingComplete p) s = .next t ∧
      t.port p = { u.port p with link := .align, since := s.now, sends := .idle } ∧
      t.f (PG.TRAINCNT (pgOf p) (slotOf p)) 15 0 = min (s.f (PG.TRAINCNT (pgOf p) (slotOf p)) 15 0 + 1) 65535 ∧
      t.f (PG.TRAINCNT (pgOf p) (slotOf p)) 31 16 = s.f (PG.TRAINCNT (pgOf p) (slotOf p)) 31 16 ∧
      t.out = u.out ++ lineOut u p .idle ∧
      t = { s with ports := t.ports, regs := t.regs, out := t.out } ∧ mapKept s.ports t.ports [p] ∧
      regsKept s t [PG.TRAINCNT (pgOf p) (slotOf p)] ∧ ((s.port p).link = .train → u = s)) ∧
  (∀ (p : Port) (s : State) (u : State), s.leaveDown p = u → (u.port p).link = .train →
    ∃ t, exec (.trainTimeout p) s = .next t ∧
      t.port p = { u.port p with since := t.now } ∧ t.now = max s.now ((u.port p).since + 500000000) ∧
      t.f (PG.TRAINCNT (pgOf p) (slotOf p)) 31 16 = min (s.f (PG.TRAINCNT (pgOf p) (slotOf p)) 31 16 + 1) 65535 ∧
      t = { u.until ((u.port p).since + 500000000) with ports := t.ports, regs := t.regs } ∧ mapKept s.ports t.ports [p] ∧
      regsKept (u.until ((u.port p).since + 500000000)) t [PG.TRAINCNT (pgOf p) (slotOf p)] ∧
      ((s.port p).link = .train → u = s)) ∧
  (∀ (p : Port) (s : State), (s.port p).flapRx = none → s.carries p = true →
    ∃ t, exec (.pcsFecLock p) s = .next t ∧
      t.port p = { s.port p with
        lock := true, lf := false, rf := false, lockAt := some ((s.port p).lockAt.getD s.now), downAt := none } ∧
      t = { s with ports := t.ports } ∧ mapKept s.ports t.ports [p]) ∧
  (∀ (p : Port) (t0 : Nat) (s : State) (u : State), s.leaveDown p = u → (u.port p).lockAt = some t0 → (u.port p).link = .align → (u.port p).clean = true → s.portEnabled p = true →
    ∃ t, exec (.upholdExpire p) s = .next t ∧
      t.port p = { u.port p with link := .up, since := t.now, downAt := none, sends := .idle, vstat := .idle, vsent := 0 } ∧
      t.now = max s.now (t0 + s.f (PG.LINKCFG (pgOf p) (slotOf p)) 31 16 * 100000) ∧
      t.fb (HDR.IRQSTAT (pgPG (pgOf p))) (slotOf p) = true ∧ mapKept s.ports t.ports [p] ∧
      (∃ l, t.out = u.out ++ lineOut u p .idle ++ l) ∧
      t = { u with
        ports := t.ports, regs := t.regs, now := t.now, tim := t.tim, blg := t.blg, out := t.out, pci := u.pciBut t } ∧
      ((s.port p).link = .align → u = s)) ∧
  (∀ (p : Port) (c : LinkFault) (s : State), (s.port p).link = .up → (s.port p).downAt = none →
    ∃ t, exec (.lockLost p c) s = .next t ∧
      t.port p = { s.port p with
        lockAt := none, downAt := some s.now, lock := (s.port p).lock && c ≠ .lockLost,
        lf := (s.port p).lf || c = .localFault, rf := (s.port p).rf || c = .remoteFault } ∧
      t = { s with ports := t.ports } ∧ mapKept s.ports t.ports [p]) ∧
  (∀ (p : Port) (t0 : Nat) (s : State), (s.port p).downAt = some t0 → (s.port p).link = .up →
    ∃ t, exec (.downholdExpire p) s = .next t ∧
      t.port p = { s.port p with
        link := .down, since := t.now, downAt := none, vstat := .idle, vsent := 0,
        sends := if (s.port p).lf then .remoteFault else (s.port p).sends } ∧
      (∃ l, t.out = s.out ++ (if (s.port p).lf then lineOut s p .remoteFault else []) ++ l) ∧
      t.now = max s.now (t0 + s.f (PG.LINKCFG (pgOf p) (slotOf p)) 15 0 * 1000) ∧
      t.fb (HDR.IRQSTAT (pgPG (pgOf p))) (slotOf p) = true ∧ mapKept s.ports t.ports [p] ∧
      t = { s with ports := t.ports, regs := t.regs, now := t.now, tim := t.tim, blg := t.blg, out := t.out, pci := s.pciBut t })

/-- The MAC (R76, R77, R87): a good frame of a receiving port without Mogul or MACsec goes to its group's receive buffer
without its FCS; a PFC or PAUSE frame pauses its classes for its quanta, and each pause ends; PFC is sent when a class is
crossed and again while it stays so; a frame of the transmit queue leaves with its FCS, or begins as a preemptable frame.
These are the model's choice: when a preemptable frame starts and where it may be cut (log entry 103), that one PFC
frame names all classes crossed and one all fallen back (log entry 130), and the deadlines that set the time (log
entry 6). -/
def Obligations.MacFramesComplete : Prop :=
  (∀ (p : Port) (wire : List Byte) (corr : Nat) (s : State), s.receives p = true → s.carries p = true → (s.port p).flapRx = none → s.mogActive (pgOf p) = false → 64 ≤ wire.length → wire.length ≤ s.f (PG.MAXLEN (pgOf p) (slotOf p)) 13 0 → fcsGood wire = true → isPfc wire = false → isPause wire = false → s.isProtected p = false → s.memberPort p = false → wire.length ≤ s.rxRoom (pgOf p) →
    ∃ t, exec (.frameReceived p wire { corr := corr }) s = .next t ∧
      (t.pg (pgOf p)).rxbuf = (s.pg (pgOf p)).rxbuf ++ [{ bytes := wire.take (wire.length - 4), port := p, m := { srcPort := p, ingTs := s.tai % 2 ^ 48 } }] ∧
      t.rd (PG.FECCORR (pgOf p) (slotOf p)) = BitVec.ofNat 32 (min (s.f (PG.FECCORR (pgOf p) (slotOf p)) 31 0 + corr) 4294967295) ∧
      t = { s with pgs := t.pgs, regs := t.regs } ∧ mapKept s.pgs t.pgs [pgOf p] ∧
      regsKept s t (PG.FECCORR (pgOf p) (slotOf p) :: perfKeys (pgPG (pgOf p)))) ∧
  (∀ (p : Port) (wire : List Byte) (corr : Nat) (q : Fin 65536) (c : Fin 8) (s : State), s.receives p = true → s.carries p = true → (s.port p).flapRx = none → s.mogActive (pgOf p) = false → 64 ≤ wire.length → wire.length ≤ s.f (PG.MAXLEN (pgOf p) (slotOf p)) 13 0 → fcsGood wire = true → isPfc wire = true → s.fb (cfgKey p) 3 = true → bit (beNat (slice wire 16 2)) c = true → beNat (slice wire (18 + 2 * c) 2) = q →
    ∃ t, exec (.pfcReceived p wire { corr := corr }) s = .next t ∧
      kget? (t.port p).pauses c = (if q = 0 then none else some (s.now + s.quantaNs p q)) ∧
      t.port p = { s.port p with pauses := (t.port p).pauses } ∧
      t.rd (PG.FECCORR (pgOf p) (slotOf p)) = BitVec.ofNat 32 (min (s.f (PG.FECCORR (pgOf p) (slotOf p)) 31 0 + corr) 4294967295) ∧
      t = { s with ports := t.ports, regs := t.regs } ∧ mapKept s.ports t.ports [p] ∧
      regsKept s t (PG.FECCORR (pgOf p) (slotOf p) :: perfKeys (pgPG (pgOf p)))) ∧
  (∀ (p : Port) (wire : List Byte) (corr : Nat) (q : Fin 65536) (c : Fin 8) (s : State), s.receives p = true → s.carries p = true → (s.port p).flapRx = none → s.mogActive (pgOf p) = false → 64 ≤ wire.length → wire.length ≤ s.f (PG.MAXLEN (pgOf p) (slotOf p)) 13 0 → fcsGood wire = true → isPause wire = true → s.fb (cfgKey p) 4 = true → beNat (slice wire 16 2) = q →
    ∃ t, exec (.pauseReceived p wire { corr := corr }) s = .next t ∧
      kget? (t.port p).pauses c = (if c = 7 then kget? (s.port p).pauses c
        else if q = 0 then none else some (s.now + s.quantaNs p q)) ∧
      t.port p = { s.port p with pauses := (t.port p).pauses } ∧
      t.rd (PG.FECCORR (pgOf p) (slotOf p)) = BitVec.ofNat 32 (min (s.f (PG.FECCORR (pgOf p) (slotOf p)) 31 0 + corr) 4294967295) ∧
      t = { s with ports := t.ports, regs := t.regs } ∧ mapKept s.ports t.ports [p] ∧
      regsKept s t (PG.FECCORR (pgOf p) (slotOf p) :: perfKeys (pgPG (pgOf p)))) ∧
  (∀ (p : Port) (c : Fin 8) (t0 : Nat) (s : State), kget? (s.port p).pauses c = some t0 →
    ∃ t, exec (.pauseExpire p c) s = .next t ∧
      t.port p = { s.port p with pauses := kerase (s.port p).pauses c } ∧ t.now = max s.now t0 ∧
      t = { s.until t0 with ports := t.ports } ∧ mapKept s.ports t.ports [p]) ∧
  (∀ (p : Port) (c : Fin 8) (s : State) (u : State), s.maySend p = true → (s.port p).flapTx = none → s.pfcAllowed p c = true → s.crossed p c = true → kget? (s.port p).pfcSent c = none → s.txCut p = u →
    ∃ t, exec (.pfcSend p) s = .next t ∧ ∃ b,
      t.out = u.out ++ [.frame p b 0 u.tim.count] ∧ isPfc b = true ∧ b.length = 60 ∧
      bit (beNat (slice b 16 2)) c = true ∧
      beNat (slice b (18 + 2 * c) 2) = s.f (PG.PFCTIME (pgOf p) (slotOf p)) 15 0 ∧
      kget? (t.port p).pfcSent c = some s.now ∧ t.port p = { u.port p with pfcSent := (t.port p).pfcSent } ∧
      t = { u with ports := t.ports, out := t.out } ∧ mapKept u.ports t.ports [p] ∧ ((s.port p).txNow = none → u = s)) ∧
  (∀ (p : Port) (c : Fin 8) (t0 : Nat) (s : State) (u : State), s.maySend p = true → (s.port p).flapTx = none → s.pfcAllowed p c = true → s.crossed p c = true → (s.port p).pfcSent = [(c.val, t0)] → (s.until (t0 + s.quantaNs p (s.f (PG.PFCTIME (pgOf p) (slotOf p)) 31 16))).txCut p = u →
    ∃ t, exec (.pfcRefresh p) s = .next t ∧ t.now = u.now ∧
      t0 + s.quantaNs p (s.f (PG.PFCTIME (pgOf p) (slotOf p)) 31 16) ≤ t.now ∧ ∃ b,
      t.out = u.out ++ [.frame p b 0 u.tim.count] ∧ isPfc b = true ∧ bit (beNat (slice b 16 2)) c = true ∧
      beNat (slice b (18 + 2 * c) 2) = s.f (PG.PFCTIME (pgOf p) (slotOf p)) 15 0 ∧
      t.port p = { u.port p with pfcSent := [(c.val, u.now)] } ∧
      t = { u with ports := t.ports, out := t.out } ∧ mapKept u.ports t.ports [p] ∧
      ((s.port p).txNow = none → t.now = max s.now (t0 + s.quantaNs p (s.f (PG.PFCTIME (pgOf p) (slotOf p)) 31 16)))) ∧
  (∀ (p : Port) (f : TxFrame) (s : State), s.isUp p = true → s.nextTx p = some f → s.pact p = false → (s.port p).txNow = none → s.mogActive (pgOf p) = false → (s.port p).flapTx = none → f.ptp = 0 → f.poison = false → f.holder = false →
    ∃ t, exec (.frameTransmit p) s = .next t ∧
      t.out = s.out ++ [.frame p f.bytes 0 s.tim.count] ∧
      t.port p = { s.port p with txq := (s.port p).txq.erase f } ∧
      t = { s with ports := t.ports, regs := t.regs, out := t.out } ∧ mapKept s.ports t.ports [p] ∧
      regsKept s t (perfKeys (pgPG (pgOf p)))) ∧
  (∀ (p : Port) (f : TxFrame) (s : State), s.isUp p = true → s.nextTx p = some f → s.pact p = true → (s.port p).txNow = none → s.mogActive (pgOf p) = false → f.m.express = false → f.ptp = 0 → f.poison = false →
    ∃ t, exec (.frameTransmit p) s = .next t ∧
      t.port p = { s.port p with
        txq := (s.port p).txq.erase f, txNow := some { f := f, body := f.bytes, ts := s.tim.count, start := some s.now } } ∧
      t = { s with ports := t.ports, regs := t.regs } ∧ mapKept s.ports t.ports [p] ∧
      regsKept s t (perfKeys (pgPG (pgOf p))))

/-- Preemption's verify exchange sends up to three times, succeeds on a response and fails after the third (R78); a read of
TSF_TAG latches the FIFO's oldest entry and a pop takes it away (R89); the Mogul is armed with its seed (R92, R418), releases a
held frame when its time ends, and its flaps end (R94).
That the deadlines and instants set the time is the model's choice (log entry 6). -/
def Obligations.VerifyTsfMogulComplete : Prop :=
  (∀ (p : Port) (s : State), s.verifies p = true → s.maySend p = true → (s.port p).vstat = .idle → (s.port p).flapTx = none →
    ∃ t, exec (.verifySend p) s = .next t ∧
      t.port p = { s.port p with vstat := .running, vsent := 1, vat := s.now } ∧
      t.out = s.out ++ [.verify p] ∧ t = { s with ports := t.ports, out := t.out } ∧ mapKept s.ports t.ports [p]) ∧
  (∀ (p : Port) (s : State), s.verifies p = true → s.maySend p = true → (s.port p).vstat = .running → (s.port p).vsent < 3 → (s.port p).flapTx = none →
    ∃ t, exec (.verifySend p) s = .next t ∧
      t.port p = { s.port p with vsent := (s.port p).vsent + 1, vat := t.now } ∧
      t.now = max s.now ((s.port p).vat + s.f (cfgKey p) 31 24 * 1000000) ∧
      t.out = s.out ++ [.verify p] ∧
      t = { s.until ((s.port p).vat + s.vtime p) with ports := t.ports, out := t.out } ∧ mapKept s.ports t.ports [p]) ∧
  (∀ (p : Port) (s : State), s.verifies p = true → (s.port p).vstat = .running → 1 ≤ (s.port p).vsent →
    ∃ t, exec (.verifyResponse p) s = .next t ∧
      t.port p = { s.port p with vstat := .succeeded } ∧ t.pact p = s.fb (cfgKey p) 5 ∧
      t = { s with ports := t.ports, regs := t.regs, out := t.out, pci := s.pciBut t } ∧ mapKept s.ports t.ports [p]) ∧
  (∀ (p : Port) (s : State), s.verifies p = true → (s.port p).vstat = .running → (s.port p).vsent = 3 →
    ∃ t, exec (.verifyFail p) s = .next t ∧
      t.port p = { s.port p with vstat := .failed } ∧
      t.now = max s.now ((s.port p).vat + s.f (cfgKey p) 31 24 * 1000000) ∧
      t.fb (HDR.IRQSTAT (pgPG (pgOf p))) 10 = true ∧ mapKept s.ports t.ports [p] ∧
      t = { s.until ((s.port p).vat + s.vtime p) with ports := t.ports, regs := t.regs, out := t.out, pci := (s.until ((s.port p).vat + s.vtime p)).pciBut t } ∧
      regsKept (s.until ((s.port p).vat + s.vtime p)) t [HDR.IRQSTAT (pgPG (pgOf p))]) ∧
  (∀ (g : PgIx) (s : State), s.present (pgPG g) = true →
    ∃ t, exec (.tsfTagRead g) s = .next t ∧
      t.pg g = { s.pg g with tsfLatch := (s.pg g).tsf.head? } ∧ t = { s with pgs := t.pgs } ∧ mapKept s.pgs t.pgs [g]) ∧
  (∀ (g : PgIx) (w : Word) (s : State), s.dev.state ≠ .load → s.present (pgPG g) = true → s.busy (pgPG g) = false → fld w 0 0 = 1 →
    ∃ t, exec (.tsfPop g w) s = .next t ∧
      t.pg g = { s.pg g with tsf := (s.pg g).tsf.tail } ∧ t = { s with pgs := t.pgs } ∧ mapKept s.pgs t.pgs [g]) ∧
  (∀ (g : PgIx) (w : Word) (s : State), s.dev.state ≠ .load → s.present (pgPG g) = true → s.dev.sealed = true → s.fb (PG.MOGULPERMIT g) 0 = true → s.fb (PG.MOGCTL g) 0 = false → fld w 0 0 = 1 →
    ∃ t, exec (.mogulArm g w) s = .next t ∧
      t.fb (PG.MOGCTL g) 0 = true ∧ t.f (PG.MOGCTL g) 31 16 = max 1 (fld w 31 16) ∧
      (∀ r : Fin 8, t.rd (PG.MOGHITS g r) = 0 ∧
        kget? (t.pg g).lfsr r = some (r * 65536 + max 1 (fld w 31 16))) ∧ (t.pg g).matches_ = [] ∧
      t = { s with pgs := t.pgs, regs := t.regs } ∧ mapKept s.pgs t.pgs [g] ∧
      regsKept s t (PG.MOGCTL g :: (List.range 8).map (PG.MOGHITS g))) ∧
  (∀ (g : PgIx) (h : MogHeld) (s : State), (firstHeld ((s.pg g).held.filter fun h => h.left.isNone) = some h) → h.dir = .tx → s.isUp (g * 8 + h.slot) = true → s.pact (g * 8 + h.slot) = false → (s.port (g * 8 + h.slot)).txNow = none → (s.port (g * 8 + h.slot)).flapTx = none → h.tx.ptp = 0 → h.tx.poison = false → h.tx.holder = false →
    ∃ t, exec (.mogulDelayExpire g) s = .next t ∧
      t.out = s.out ++ [.frame (g * 8 + h.slot) (h.wire.take (h.wire.length - 4))
        (BitVec.ofNat 32 (leNat (h.wire.drop (h.wire.length - 4))) ^^^ crc32 (h.wire.take (h.wire.length - 4))) t.tim.count] ∧
      t.pg g = { s.pg g with held := (s.pg g).held.erase h } ∧ t.now = max s.now h.until_ ∧
      t = { s.until h.until_ with pgs := t.pgs, regs := t.regs, out := t.out } ∧ mapKept s.pgs t.pgs [g] ∧
      regsKept (s.until h.until_) t (perfKeys (pgPG (pgOf (g * 8 + h.slot))))) ∧
  (∀ (g : PgIx) (h : MogHeld) (s : State), (((s.pg g).held.filter fun h => h.left.isSome).find? (fun h => h.left == some 0) = some h) → h.dir = .tx → s.isUp (g * 8 + h.slot) = true → s.pact (g * 8 + h.slot) = false → (s.port (g * 8 + h.slot)).txNow = none → (s.port (g * 8 + h.slot)).flapTx = none → h.tx.ptp = 0 → h.tx.poison = false → h.tx.holder = false →
    ∃ t, exec (.mogulReorderRelease g) s = .next t ∧
      t.out = s.out ++ [.frame (g * 8 + h.slot) (h.wire.take (h.wire.length - 4))
        (BitVec.ofNat 32 (leNat (h.wire.drop (h.wire.length - 4))) ^^^ crc32 (h.wire.take (h.wire.length - 4))) s.tim.count] ∧
      t.pg g = { s.pg g with held := (s.pg g).held.erase h } ∧
      t = { s with pgs := t.pgs, regs := t.regs, out := t.out } ∧ mapKept s.pgs t.pgs [g] ∧
      regsKept s t (perfKeys (pgPG (pgOf (g * 8 + h.slot))))) ∧
  (∀ (p : Port) (t0 : Nat) (s : State), (s.port p).flapRx = some t0 → (s.port p).flapTx = none →
    ∃ t, exec (.mogulFlapEnd p .rx) s = .next t ∧
      t.port p = { s.port p with flapRx := none } ∧ t.now = max s.now t0 ∧
      t.fb (HDR.IRQSTAT (pgPG (pgOf p))) 11 = true ∧ mapKept s.ports t.ports [p] ∧ (∃ l, t.out = s.out ++ l ∧ l.length ≤ 1) ∧
      t = { s.until t0 with ports := t.ports, regs := t.regs, out := t.out, pci := (s.until t0).pciBut t } ∧
      regsKept (s.until t0) t [HDR.IRQSTAT (pgPG (pgOf p))]) ∧
  (∀ (p : Port) (t0 : Nat) (s : State), (s.port p).flapTx = some t0 →
    ∃ t, exec (.mogulFlapEnd p .tx) s = .next t ∧
      t.port p = { s.port p with flapTx := none, flapRx := none } ∧ t.now = max s.now t0 ∧
      t.fb (HDR.IRQSTAT (pgPG (pgOf p))) 11 = true ∧ mapKept s.ports t.ports [p] ∧
      (∃ l, t.out = s.out ++ (if (s.port p).sends = .off then [] else [.line p (s.port p).sends]) ++ l ∧ l.length ≤ 1) ∧
      t = { s.until t0 with ports := t.ports, regs := t.regs, out := t.out, pci := (s.until t0).pciBut t } ∧
      regsKept (s.until t0) t [HDR.IRQSTAT (pgPG (pgOf p))])

/-- TIM (R82 to R85, R90): a step is latched for its instant, or applies at once with NOW or an instant already past; at
its instant the count steps, what a forward step passes over takes place, and a backward step repeats nothing; holdover is
entered and left; an edge of PPS_IN captures the count; PPS_OUT rises at its instant and falls WIDTH later; a timer is armed
and fires at its target, or at once with LATE where that is past: it interrupts, asks for a snapshot, triggers DMA channels.
That an instant or a deadline sets the time is the model's choice (log entry 6). -/
def Obligations.TimebaseComplete : Prop :=
  (∀ (w : Word) (s : State), s.dev.state ≠ .load → s.initialising = false → fld w 1 0 = 1 → s.tim.step = none → s.tai ≤ s.rd64 TIM.STEPAT_LO TIM.STEPAT_HI →
    ∃ t, exec (.stepGo w) s = .next t ∧
      t.tim = { s.tim with step := some (BitVec.ofNat 64 (s.rd64 TIM.STEP_LO TIM.STEP_HI), BitVec.ofNat 64 (s.rd64 TIM.STEPAT_LO TIM.STEPAT_HI)) } ∧
      t = { s with tim := t.tim, regs := t.regs } ∧ regsKept s t [TIM.STEPCTL]) ∧
  (∀ (w : Word) (s : State), s.dev.state ≠ .load → s.initialising = false → fld w 0 0 = 1 → (fld w 1 1 = 1 ∨ s.rd64 TIM.STEPAT_LO TIM.STEPAT_HI < s.tai) → s.tim.step = none → ((BitVec.ofNat 64 (s.rd64 TIM.STEP_LO TIM.STEP_HI)).msb = true ∨ (s.counted (BitVec.ofNat 64 (s.rd64 TIM.STEP_LO TIM.STEP_HI))).nextDue = none) →
    ∃ t, exec (.stepGo w) s = .next t ∧
      t.tim = { s.tim with count := s.tim.count + BitVec.ofNat 64 (s.rd64 TIM.STEP_LO TIM.STEP_HI) } ∧
      t.fb TIM.STAT 4 = true ∧ t.fb (HDR.IRQSTAT pgTIM) 18 = true ∧
      t = { s with tim := t.tim, regs := t.regs, sch := t.sch, blg := t.blg, out := t.out, pci := s.pciBut t } ∧
      regsKept s t [TIM.STEPCTL, TIM.STAT, HDR.IRQSTAT pgTIM]) ∧
  (∀ (step : BitVec 64) (i : BitVec 64) (s : State), s.tim.step = some (step, i) → step.msb = true →
    ∃ t, exec .stepApply s = .next t ∧
      t.tim = { (s.untilInstant i.toNat).tim with count := (s.untilInstant i.toNat).tim.count + step, step := none } ∧
      t.fb (HDR.IRQSTAT pgTIM) 18 = true ∧
      t = { s.untilInstant i.toNat with tim := t.tim, regs := t.regs, sch := t.sch, out := t.out, pci := s.pciBut t } ∧
      regsKept (s.untilInstant i.toNat) t [HDR.IRQSTAT pgTIM] ∧
      t.sch = { s.sch with buckets := t.sch.buckets }) ∧
  (∀ (step : BitVec 64) (i : BitVec 64) (s : State), s.tim.step = some (step, i) → step.msb = false → ((s.untilInstant i.toNat).counted step).nextDue = none →
    exec .stepApply s = .next ((s.untilInstant i.toNat).counted step) ∧
      ((s.untilInstant i.toNat).counted step).tim = { (s.untilInstant i.toNat).tim with count := (s.untilInstant i.toNat).tim.count + step, step := none } ∧
      ((s.untilInstant i.toNat).counted step).fb (HDR.IRQSTAT pgTIM) 18 = true ∧
      regsKept (s.untilInstant i.toNat) ((s.untilInstant i.toNat).counted step) [HDR.IRQSTAT pgTIM]) ∧
  (∀ (step : BitVec 64) (i : BitVec 64) (d : Due) (s : State), s.tim.step = some (step, i) → step.msb = false → ((s.untilInstant i.toNat).counted step).nextDue = some d → (((s.untilInstant i.toNat).counted step).perform d).nextDue = none →
    exec .stepApply s = .next (((s.untilInstant i.toNat).counted step).perform d)) ∧
  (∀ (s : State), s.fb TIM.CFG 0 = true → s.fb TIM.STAT 1 = false →
    ∃ t, exec .holdoverEntry s = .next t ∧
      t.fb TIM.STAT 1 = true ∧ t.fb TIM.STAT 0 = false ∧ t.fb (HDR.IRQSTAT pgTIM) 17 = true ∧
      t.fb (HDR.FLTSTAT pgTIM) 0 = true ∧ t = { s with regs := t.regs, flt := t.flt, out := t.out, pci := s.pciBut t } ∧
      regsKept s t ([TIM.STAT, HDR.IRQSTAT pgTIM, HDR.FLTSTAT pgTIM, HDR.FLTCNT pgTIM] ++ perfKeys pgTIM)) ∧
  (∀ (s : State), s.fb TIM.STAT 1 = true →
    ∃ t, exec .holdoverExit s = .next t ∧ t.fb TIM.STAT 1 = false ∧ t.fb TIM.STAT 0 = true ∧ onlyRegs s t [TIM.STAT]) ∧
  (∀ (s : State), s.initialising = false →
    ∃ t, exec .ppsCapture s = .next t ∧
      t.tim = { s.tim with ppsCap := (s.tim.count, s.tim.frac) } ∧ t.fb TIM.STAT 2 = true ∧
      t.fb (HDR.IRQSTAT pgTIM) 16 = true ∧ t = { s with tim := t.tim, regs := t.regs, out := t.out, pci := s.pciBut t } ∧
      regsKept s t [TIM.STAT, HDR.IRQSTAT pgTIM]) ∧
  (∀ (s : State), s.initialising = false → s.fb TIM.PPSOUT 0 = true → s.tim.ppsHigh = none →
    ∃ t, exec .ppsOutRise s = .next t ∧
      t.tim.ppsHigh = some (t.now + s.f TIM.PPSOUT 15 6 * 1000000) ∧
      t = { s.untilInstant (nextPps s.tai (s.f TIM.PPSOUT_OFS 29 0)) with tim := t.tim } ∧
      t.tim = { (s.untilInstant (nextPps s.tai (s.f TIM.PPSOUT_OFS 29 0))).tim with ppsHigh := t.tim.ppsHigh }) ∧
  (∀ (c : Nat) (ofs : Nat), c ≤ nextPps c ofs ∧ nextPps c ofs < c + 1000000000 ∧ nextPps c ofs % 1000000000 = ofs % 1000000000) ∧
  (∀ (t0 : Nat) (s : State), s.tim.ppsHigh = some t0 →
    ∃ t, exec .ppsOutFall s = .next t ∧ t.tim.ppsHigh = none ∧ t.now = max s.now t0 ∧
      t = { s.until t0 with tim := { (s.until t0).tim with ppsHigh := none } }) ∧
  (∀ (n : Fin 16) (w : Word) (s : State), s.dev.state ≠ .load → s.fb (TIM.TMRCTL n) 0 = false → fld w 0 0 = 1 → s.tai ≤ s.rd64 (TIM.TGT_LO n) (TIM.TGT_HI n) →
    ∃ t, exec (.timerArm n w) s = .next t ∧
      t.fb (TIM.TMRCTL n) 0 = true ∧ t.f (TIM.TMRCTL n) 3 1 = fld w 3 1 ∧
      t.tim = { s.tim with learned := kset s.tim.learned n s.tai } ∧
      t = { s with tim := t.tim, regs := t.regs } ∧ regsKept s t [TIM.TMRCTL n]) ∧
  (∀ (n : Fin 16) (s : State), s.fb (TIM.TMRCTL n) 0 = true → s.f (TIM.TMRCTL n) 3 1 = 1 →
    ∃ t, exec (.timerFire n) s = .next t ∧
      t.fb (HDR.IRQSTAT pgTIM) n = true ∧ t.rd (TIM.FIRED n) = s.rd (TIM.FIRED n) + 1 ∧
      (s.rd64 (TIM.PERIOD_LO n) (TIM.PERIOD_HI n) = 0 → t.fb (TIM.TMRCTL n) 0 = false) ∧
      (s.rd64 (TIM.PERIOD_LO n) (TIM.PERIOD_HI n) ≠ 0 →
        t.rd64 (TIM.TGT_LO n) (TIM.TGT_HI n) =
          (s.rd64 (TIM.TGT_LO n) (TIM.TGT_HI n) + s.rd64 (TIM.PERIOD_LO n) (TIM.PERIOD_HI n)) % 2 ^ 64) ∧
      t = { s.untilInstant (s.rd64 (TIM.TGT_LO n) (TIM.TGT_HI n)) with tim := t.tim, regs := t.regs, out := t.out, pci := (s.untilInstant (s.rd64 (TIM.TGT_LO n) (TIM.TGT_HI n))).pciBut t } ∧
      regsKept (s.untilInstant (s.rd64 (TIM.TGT_LO n) (TIM.TGT_HI n))) t
        [TIM.TMRCTL n, TIM.FIRED n, TIM.TGT_LO n, TIM.TGT_HI n, HDR.IRQSTAT pgTIM]) ∧
  (∀ (n : Fin 16) (w : Word) (s : State), s.dev.state ≠ .load → s.fb (TIM.TMRCTL n) 0 = false → fld w 3 0 = 3 → s.rd64 (TIM.TGT_LO n) (TIM.TGT_HI n) < s.tai → s.rd64 (TIM.PERIOD_LO n) (TIM.PERIOD_HI n) = 0 →
    ∃ t, exec (.timerArm n w) s = .next t ∧
      t.fb (TIM.TMRCTL n) 4 = true ∧ t.fb (TIM.TMRCTL n) 0 = false ∧ t.fb (HDR.IRQSTAT pgTIM) n = true ∧
      t.rd (TIM.FIRED n) = s.rd (TIM.FIRED n) + 1 ∧ t.tim = { s.tim with learned := t.tim.learned } ∧
      t = { s with tim := t.tim, regs := t.regs, out := t.out, pci := s.pciBut t } ∧
      regsKept s t [TIM.TMRCTL n, TIM.FIRED n, HDR.IRQSTAT pgTIM]) ∧
  (∀ (n : Fin 16) (tgt : Nat) (k : Nat) (u : State) (s : State), s.fb (TIM.TMRCTL n) 0 = true → s.f (TIM.TMRCTL n) 3 1 = 2 → s.rd64 (TIM.TGT_LO n) (TIM.TGT_HI n) = tgt → s.rd64 (TIM.PERIOD_LO n) (TIM.PERIOD_HI n) = 0 → k = kgetD s.tim.learned n.val 0 → u = s.untilInstant tgt →
    ∃ t, exec (.timerFire n) s = .next t ∧ t.rd (TIM.FIRED n) = s.rd (TIM.FIRED n) + 1 ∧ t.fb (TIM.TMRCTL n) 0 = false ∧
      (s.running pgCNT = true ∧ s.cnt.snap = none →
        t.cnt = { s.cnt with snap := some (if k + 1000 ≤ tgt then { at_ := tgt } else { at_ := k + 1000, late := true }) } ∧
        t.fb CNT.STAT 0 = true ∧ (tgt < k + 1000 → t.fb CNT.STAT 1 = true) ∧ t.rd CNT.SNAPLOST = s.rd CNT.SNAPLOST) ∧
      (s.running pgCNT = false ∨ s.cnt.snap.isSome = true →
        t.cnt = s.cnt ∧ t.f CNT.SNAPLOST 31 0 = min (s.f CNT.SNAPLOST 31 0 + 1) 4294967295 ∧ t.rd CNT.STAT = s.rd CNT.STAT) ∧
      t = { u with cnt := t.cnt, regs := t.regs, out := t.out, pci := u.pciBut t } ∧
      regsKept u t [TIM.TMRCTL n, TIM.FIRED n, CNT.STAT, CNT.SNAPLOST, HDR.IRQSTAT pgCNT]) ∧
  (∀ (n : Fin 16) (c : Nat) (ch : DmaCh) (d : List Byte) (s : State), s.fb (TIM.TMRCTL n) 0 = true → s.f (TIM.TMRCTL n) 3 1 = 4 → ((s.dma.chans.map (·.1)).Nodup ∧ (s.dma.chans.all fun e => e.1 < 32) = true) → s.dma.chans.contains (c, ch) = true → ch.desc = some d → (dTrig d = 1 ∧ dTsel d = n.val) →
    ∃ t, exec (.timerFire n) s = .next t ∧ t.rd (TIM.FIRED n) = s.rd (TIM.FIRED n) + 1 ∧
      (s.dmaSt c = dsWAITTRIG → t.dmaSt c = dsREADY ∧ t.dch c = { ch with latch := true } ∧
        t.rd (DMA.TRIGLOST c) = s.rd (DMA.TRIGLOST c)) ∧
      (s.dmaSt c ≠ dsWAITTRIG → t.dmaSt c = s.dmaSt c ∧ t.dch c = ch ∧
        t.f (DMA.TRIGLOST c) 31 0 = min (s.f (DMA.TRIGLOST c) 31 0 + 1) 4294967295))

/-- Learning (R143, R144): a queued insert that ADD carries out queues a NEW notice of its port and instant; one whose
partition does not take it an INSFAIL notice, and one that meets locked rows a LOCKED notice; where the queue of notices is
full the notice is dropped and counted; the oldest notice is written at PIDX of the half's ring and PIDX moves on, and waits
while the ring is full; a key whose HOLDOFF has run out leaves the cache, and no other.
The instant of the expiry sets the time by the model's choice (log entry 6), and so does what an insert waits for (log entry
45). -/
def Obligations.LearningComplete : Prop :=
  (∀ (h : Half) (i : LearnIns) (rest : List LearnIns) (s : State), (s.half h).inserts = i :: rest → s.effState ≠ .standby → (s.half h).fold.length + 2 * s.f TBL.CFG 5 0 ≤ foldCap → (((s.tbl.cmds ++ s.tbl.done.map fun e => e.1).any fun c => decide (c.seq < i.seq) && s.sameLearn h i c) = false) → (s.half h).notices.length < 8192 →
    ∃ t, exec (.learnInsert h) s = .next t ∧
      (t.half h).inserts = rest ∧
      (let r := (s.setHalf h { s.half h with inserts := rest }).addEntry h i.part s.visNewest
          [i.key.toNat / 4294967296, i.key.toNat % 4294967296]
          (((s.partn h i.part).lrnbase + i.port) % 131072 + 131072);
        (r.2.st = stOK → (t.half h).notices = (s.half h).notices ++
            [{ key := i.key, port := i.port % 256, port2 := 0, type := ntNEW, ns := i.ns % 4294967296 }] ∧
          (t.rd (LRN.NEWCNT h)).toNat = min ((s.rd (LRN.NEWCNT h)).toNat + 1) 4294967295) ∧
        (r.2.st = stFULL → (t.half h).notices = (s.half h).notices ++
            [{ key := i.key, port := i.port % 256, port2 := 0, type := ntINSFAIL, ns := i.ns % 4294967296 }] ∧
          (t.rd (LRN.INSFAIL h)).toNat = min ((s.rd (LRN.INSFAIL h)).toNat + 1) 4294967295) ∧
        (r.2.st = stLOCKED → (t.half h).notices = (s.half h).notices ++
            [{ key := i.key, port := i.port % 256, port2 := 0, type := ntLOCKED, ns := i.ns % 4294967296 }] ∧
          (t.rd (LRN.INSFAIL h)).toNat = min ((s.rd (LRN.INSFAIL h)).toNat + 1) 4294967295) ∧
        (r.2.st = stEXISTS → (t.half h).notices = (s.half h).notices ∧
          (t.rd (LRN.DUPS h)).toNat = min ((s.rd (LRN.DUPS h)).toNat + 1) 4294967295)) ∧
      t = { s with regs := t.regs, tbl := t.tbl, flt := t.flt, evt := t.evt, out := t.out, pci := s.pciBut t }) ∧
  (∀ (h : Half) (i : LearnIns) (rest : List LearnIns) (s : State), (s.half h).inserts = i :: rest → s.effState ≠ .standby → (s.half h).fold.length + 2 * s.f TBL.CFG 5 0 ≤ foldCap → (((s.tbl.cmds ++ s.tbl.done.map fun e => e.1).any fun c => decide (c.seq < i.seq) && s.sameLearn h i c) = false) → 8192 ≤ (s.half h).notices.length →
    ∃ t, exec (.learnInsert h) s = .next t ∧
      (t.half h).inserts = rest ∧ (t.half h).notices = (s.half h).notices ∧
      (let r := (s.setHalf h { s.half h with inserts := rest }).addEntry h i.part s.visNewest
          [i.key.toNat / 4294967296, i.key.toNat % 4294967296]
          (((s.partn h i.part).lrnbase + i.port) % 131072 + 131072);
        r.2.st = stOK ∨ r.2.st = stFULL ∨ r.2.st = stLOCKED →
          t.f (LRN.QDROP h) 31 0 = min (s.f (LRN.QDROP h) 31 0 + 1) 4294967295 ∧ t.fb (HDR.IRQSTAT pgLRN) irqQDROP = true)) ∧
  (∀ (h : Half) (n : Notice) (rest : List Notice) (s : State), (s.half h).notices = n :: rest → s.initialising = false → s.busy pgLRN = false → (s.f (LRN.PIDX h) 15 0 % 2 ^ s.f (LRN.RINGSIZE h) 4 0 + 1) % 2 ^ s.f (LRN.RINGSIZE h) 4 0 ≠
      s.f (LRN.CIDX h) 15 0 % 2 ^ s.f (LRN.RINGSIZE h) 4 0 →
    ∃ t, exec (.learnNoticeWrite h) s = .next t ∧
      (t.half h).notices = rest ∧
      (∃ l, t.out = s.out ++ [.hostWrite 0 (s.rd64 (LRN.RINGLO h) (LRN.RINGHI h) + 16 * (s.f (LRN.PIDX h) 15 0 % 2 ^ s.f (LRN.RINGSIZE h) 4 0)) (n.bytes h)] ++ l) ∧
      t.f (LRN.PIDX h) 15 0 = (s.f (LRN.PIDX h) 15 0 + 1) % 2 ^ s.f (LRN.RINGSIZE h) 4 0 % 65536 ∧
      t.fb (HDR.IRQSTAT pgLRN) h = true ∧
      t.tbl = (s.setHalf h { s.half h with notices := rest }).tbl ∧
      t = { s with regs := t.regs, tbl := t.tbl, out := t.out, pci := s.pciBut t } ∧
      regsKept s t [LRN.PIDX h, HDR.IRQSTAT pgLRN]) ∧
  (∀ (h : Half) (s : State), ((s.f (LRN.PIDX h) 15 0 % 2 ^ s.f (LRN.RINGSIZE h) 4 0 + 1) % 2 ^ s.f (LRN.RINGSIZE h) 4 0 =
      s.f (LRN.CIDX h) 15 0 % 2 ^ s.f (LRN.RINGSIZE h) 4 0 ∨ (s.half h).notices = []) →
    exec (.learnNoticeWrite h) s = .next s) ∧
  (∀ (h : Half) (e : Holdoff) (rest : List Holdoff) (s : State), (s.half h).cache = e :: rest →
    ∃ t, exec (.holdoffExpire h) s = .next t ∧
      (t.half h).cache = ((s.half h).cache.filter fun x => t.tai < x.at_ + s.f LRN.HOLDOFF 15 0 * 1000) ∧
      (let u := s.untilInstant (rest.foldl (fun a x => min a x.at_) e.at_ + s.f LRN.HOLDOFF 15 0 * 1000);
        t = u.setHalf h { u.half h with cache := (t.half h).cache }))

/-- The ingress piste (R104, R160, R168): a packet at the head of its group's receive buffer, else of the Lift's, else of
the CPU packet port's, leaves it and becomes at most two results, each with its bytes and its source port; a first pass takes
the CURRENT version's stamp and a Lift pass keeps its own. A pending ICV that completes with success behind an early release
accepts its PN (R279). That the end of a burst sets the time is the model's choice (log entry 6). -/
def Obligations.IngressComplete : Prop :=
  (∀ (g : PgIx) (p : Pkt) (rest : List Pkt) (v : Fin 16) (s : State) (u : State), s.running (pgIP g) = true → s.forwarding = true → (s.pg g).rxbuf = p :: rest → p.m.pass = 0 → s.ver.current = some v.val → s.until (s.slotsFrom g) = u →
    ∃ t, exec (.ingressPacket g) s = .next t ∧
      (t.pg g).rxbuf = rest ∧ t.pgs = (s.setPg g { s.pg g with rxbuf := rest }).pgs ∧
      (∃ l, (t.ip g).out = (s.ip g).out ++ l ∧ l.length ≤ 2 ∧
        ∀ o ∈ l, o.pkt.bytes = p.bytes ∧ o.pkt.m.srcPort = p.m.srcPort ∧ o.pkt.m.vertag = v ∧ o.pkt.tok = p.tok ∧
          o.pkt.stored = p.stored) ∧
      (t.ip g).cpuIn = (s.ip g).cpuIn ∧ (t.ip g).arriving = (s.ip g).arriving ∧ mapKept s.ips t.ips [g] ∧
      t.now = (match kget? s.pwr.bursts g with | some b => max s.now b.until_ | none => s.now) ∧
      t.tim = { u.tim with starts := t.tim.starts } ∧ kget? t.tim.starts g = some (kgetD u.tim.starts g 0 + 1) ∧
      mapKept u.tim.starts t.tim.starts [g.val] ∧
      t = { u with
        tim := t.tim, regs := t.regs, pgs := t.pgs, tbl := t.tbl, ver := t.ver, ips := t.ips, sch := t.sch, flt := t.flt,
        evt := t.evt, out := t.out, pci := u.pciBut t }) ∧
  (∀ (g : PgIx) (p : Pkt) (rest : List Pkt) (s : State) (u : State), s.running (pgIP g) = true → s.forwarding = true → (s.pg g).rxbuf = [] → (s.ep g).lift = p :: rest → p.m.pass ≠ 0 → s.until (s.slotsFrom g) = u →
    ∃ t, exec (.ingressPacket g) s = .next t ∧
      t.eps = (s.setEp g { s.ep g with lift := rest }).eps ∧ (t.ip g).cpuIn = (s.ip g).cpuIn ∧
      (∃ l, (t.ip g).out = (s.ip g).out ++ l ∧ l.length ≤ 2 ∧
        ∀ o ∈ l, o.pkt.bytes = p.bytes ∧ o.pkt.m.srcPort = p.m.srcPort ∧ o.pkt.m.vertag = p.m.vertag ∧ o.pkt.tok = p.tok ∧
          o.pkt.stored = p.stored ∧ o.pkt.m.pass = p.m.pass) ∧
      (t.ip g).arriving = (s.ip g).arriving ∧ mapKept s.ips t.ips [g] ∧
      kget? t.tim.starts g = some (kgetD u.tim.starts g 0 + 1) ∧ mapKept u.tim.starts t.tim.starts [g.val] ∧
      t.tim = { u.tim with starts := t.tim.starts } ∧
      t = { u with
        tim := t.tim, regs := t.regs, tbl := t.tbl, ver := t.ver, ips := t.ips, eps := t.eps, sch := t.sch, flt := t.flt,
        evt := t.evt, out := t.out, pci := u.pciBut t }) ∧
  (∀ (g : PgIx) (p : Pkt) (rest : List Pkt) (v : Fin 16) (s : State) (u : State), s.running (pgIP g) = true → s.forwarding = true → (s.pg g).rxbuf = [] → (s.ep g).lift = [] → (s.ip g).cpuIn = p :: rest → p.m.pass = 0 → s.ver.current = some v.val → s.until (s.slotsFrom g) = u →
    ∃ t, exec (.ingressPacket g) s = .next t ∧
      t.eps = s.eps ∧ (t.ip g).cpuIn = rest ∧
      (∃ l, (t.ip g).out = (s.ip g).out ++ l ∧ l.length ≤ 2 ∧
        ∀ o ∈ l, o.pkt.bytes = p.bytes ∧ o.pkt.m.srcPort = p.m.srcPort ∧ o.pkt.m.vertag = v ∧ o.pkt.tok = p.tok ∧
          o.pkt.stored = p.stored ∧ o.pkt.m.pass = p.m.pass) ∧
      (t.ip g).arriving = (s.ip g).arriving ∧ mapKept s.ips t.ips [g] ∧
      kget? t.tim.starts g = some (kgetD u.tim.starts g 0 + 1) ∧ mapKept u.tim.starts t.tim.starts [g.val] ∧
      t.tim = { u.tim with starts := t.tim.starts } ∧
      t = { u with
        tim := t.tim, regs := t.regs, tbl := t.tbl, ver := t.ver, ips := t.ips, eps := t.eps, sch := t.sch, flt := t.flt,
        evt := t.evt, out := t.out, pci := u.pciBut t }) ∧
  (∀ (p : Port) (i : Icv) (rest : List Icv) (s : State), (s.port p).icv = i :: rest → i.ok = true → s.replayed i.sa i.pn = false →
    ∃ t, exec (.icvComplete p) s = .next t ∧
      t.port p = { s.port p with icv := rest } ∧ mapKept s.ports t.ports [p] ∧
      t = { s.setPort p { s.port p with icv := rest } with
        regs := t.regs, flt := t.flt, evt := t.evt, out := t.out, pci := s.pciBut t } ∧
      t = (s.setPort p { s.port p with icv := rest }).secAccept i.sa i.pn)

/-- Admission (R184, R187, R195): a packet within its limits is stored once with one reference and joins the tail of its
queue, or the replication queue; a host-bound one joins its host queue; each keeps its holder. A fan-out makes its copies.
The arrival of a last cell marks the data (R200).
These are the model's choice: the cells charged whole and tested as far as their number is known (log entry 79), port
255 for a queue that no port owns (log entry 80), and multicast data charged to no queue before the first copy (log
entry 81). -/
def Obligations.AdmissionComplete : Prop :=
  (∀ (g : PgIx) (known : Bool) (p : Pkt) (ch : Charge) (rest : List IngOut) (s : State), p.m.vertag < 16 → (s.ip g).out = .forward p :: rest → p.m.mcgrp = none → ((List.range 8).all (fun k => s.fb (TMG.RINKCFG k) 0 = false) = true) → s.limits (s.aged p) p.m.qid (s.ownerPort p.m.qid) (p.tested known) 0 false = none → s.cover p.m.qid p.ent p.m.cls (p.tested known) = some ch → s.glides p.m.qid (s.aged p) = false → s.maySpill p.m.qid = false → (s.tq p.m.qid).spill = false →
    ∃ t, exec (.packetAdmit ⟨g, known⟩) s = .next t ∧
      (∃ x, (t.tq p.m.qid).head = (s.tq p.m.qid).head ++ [x] ∧ x.pkt.bytes = p.bytes ∧ x.data = s.tmg.nextId ∧
        x.port = s.ownerPort p.m.qid ∧ x.enq = s.tai ∧
        (p.m.pass = 0 → x.pkt.m.ageTs = s.tai % 2 ^ 48) ∧ (p.m.pass ≠ 0 → x.pkt.m.ageTs = p.m.ageTs) ∧
        t.tq p.m.qid = { s.tq p.m.qid with head := (s.tq p.m.qid).head ++ [x] }) ∧
      t.tdata s.tmg.nextId = some { n := p.cells, ent := p.ent, cls := p.m.cls, charge := ch } ∧
      (t.ip g).out = rest ∧ (t.ip g).arriving = (s.ip g).arriving ++ [(s.tmg.nextId, p.bad, p.tok)] ∧
      mapKept s.ips t.ips [g] ∧ mapKept s.tmg.queues t.tmg.queues [p.m.qid] ∧ mapKept s.tmg.data t.tmg.data [s.tmg.nextId] ∧
      t = { s with regs := t.regs, ips := t.ips, tmg := t.tmg } ∧
      regsKept s t ((List.range 40).map TMG.XOFFSTATE ++ [TMG.HOLD p.m.vertag] ++ perfKeys pgTMG)) ∧
  (∀ (g : PgIx) (known : Bool) (p : Pkt) (m : Nat) (rest : List IngOut) (s : State), p.m.vertag < 16 → (s.ip g).out = .forward p :: rest → p.m.mcgrp = some m → ((List.range 8).all (fun k => s.fb (TMG.RINKCFG k) 0 = false) = true) → s.running pgTMG = true → s.tmg.mcq.length < 16384 →
    ∃ t, exec (.packetAdmit ⟨g, known⟩) s = .next t ∧
      (∃ x, t.tmg.mcq = s.tmg.mcq ++ [x] ∧ x.data = s.tmg.nextId ∧ x.pkt.bytes = p.bytes ∧ x.pkt.m.mcgrp = some m ∧
        (p.m.pass = 0 → x.pkt.m.ageTs = s.tai % 2 ^ 48) ∧ (p.m.pass ≠ 0 → x.pkt.m.ageTs = p.m.ageTs)) ∧
      t.tdata s.tmg.nextId = some { n := p.cells, ent := p.ent, cls := p.m.cls, ic := false, charge := .pend } ∧
      (t.ip g).out = rest ∧ (t.ip g).arriving = (s.ip g).arriving ++ [(s.tmg.nextId, p.bad, p.tok)] ∧
      mapKept s.ips t.ips [g] ∧ t.tmg.queues = s.tmg.queues ∧ mapKept s.tmg.data t.tmg.data [s.tmg.nextId] ∧
      t = { s with regs := t.regs, ips := t.ips, tmg := t.tmg } ∧ regsKept s t [TMG.HOLD p.m.vertag]) ∧
  (∀ (g : PgIx) (known : Bool) (p : Pkt) (u : Fin 64) (q : Fin 8) (rest : List IngOut) (s : State), p.m.vertag < 16 → (s.ip g).out = .host u q false p :: rest → ((List.range 8).all (fun k => s.fb (TMG.RINKCFG k) 0 = false) = true) → s.running pgTMG = true → s.qCells (hostQ u q) + p.tested known ≤ s.f TMG.HOSTLIM 15 0 → p.tested known ≤ s.sharedFree → (s.tq (hostQ u q)).spill = false →
    ∃ t, exec (.packetAdmit ⟨g, known⟩) s = .next t ∧
      (∃ x, t.tq (hostQ u q) = { s.tq (hostQ u q) with head := (s.tq (hostQ u q)).head ++ [x] } ∧ x.pkt.bytes = p.bytes ∧
        x.data = s.tmg.nextId ∧ x.port = 255) ∧
      t.tdata s.tmg.nextId = some { n := p.cells, ent := p.ent, cls := p.m.cls, charge := .shared } ∧
      (t.ip g).out = rest ∧ mapKept s.ips t.ips [g] ∧ mapKept s.tmg.queues t.tmg.queues [hostQ u q] ∧
      t = { s with regs := t.regs, ips := t.ips, tmg := t.tmg } ∧
      regsKept s t ((List.range 40).map TMG.XOFFSTATE ++ [TMG.HOLD p.m.vertag] ++ perfKeys pgTMG)) ∧
  (∀ (g : PgIx) (known : Bool) (p : Pkt) (rest : List IngOut) (s : State), s.role = roleNone → p.m.vertag < 16 → (s.ip g).out = .forward p :: rest → p.m.mcgrp = none → ((List.range 8).all (fun k => s.fb (TMG.RINKCFG k) 0 = false) = true) → s.running pgTMG = false → p.ent ≤ 160 →
    ∃ t, exec (.packetAdmit ⟨g, known⟩) s = .next t ∧
      kgetD t.tmg.pc (p.ent * 16 + 9) 0 = min 4294967295 (kgetD s.tmg.pc (p.ent * 16 + 9) 0 + 1) ∧
      t.tmg = { s.tmg with pc := t.tmg.pc } ∧ mapKept s.tmg.pc t.tmg.pc [p.ent * 16 + 9] ∧
      t.f (VER.HOLDERS p.m.vertag) 31 0 = s.f (VER.HOLDERS p.m.vertag) 31 0 - 1 ∧
      (t.ip g).out = rest ∧ mapKept s.ips t.ips [g] ∧
      t = { s with regs := t.regs, ips := t.ips, tmg := t.tmg, ver := t.ver, evt := t.evt, out := t.out, pci := s.pciBut t }) ∧
  (∀ (g : PgIx) (d : Nat) (r : Data) (rest : List (Nat × Bool × Nat)) (s : State), (s.ip g).arriving = (d, false, 0) :: rest → s.tdata d = some r →
    ∃ t, exec (.lastCellArrival g) s = .next t ∧
      t.tdata d = some { r with arrived := true } ∧ (t.ip g).arriving = rest ∧ mapKept s.ips t.ips [g] ∧
      t = { s with ips := t.ips, tmg := { s.tmg with data := t.tmg.data } } ∧ mapKept s.tmg.data t.tmg.data [d]) ∧
  (∀ (j : McJob) (rest : List McJob) (s : State), s.ageJobs = s → s.role = roleNone → j.pkt.m.vertag < 16 → s.tmg.mcq = j :: rest → s.f (TMG.MCGRP ((j.pkt.m.mcgrp.getD 0) % 65536)) 28 18 = 0 → s.tdata j.data = some { refs := 1, ic := false, charge := .pend } →
    ∃ t, exec .replicateCopies s = .next t ∧
      t.tmg = { s.tmg with mcq := rest, data := t.tmg.data } ∧ t.tdata j.data = none ∧
      mapKept s.tmg.data t.tmg.data [j.data] ∧
      t.f (VER.HOLDERS j.pkt.m.vertag) 31 0 = s.f (VER.HOLDERS j.pkt.m.vertag) 31 0 - 1 ∧
      t.f (TMG.HOLD j.pkt.m.vertag) 31 0 = s.f (TMG.HOLD j.pkt.m.vertag) 31 0 - 1 ∧
      t = { s with regs := t.regs, tmg := t.tmg, ver := t.ver, evt := t.evt }) ∧
  (∀ (j : McJob) (e : Fin 262144) (d : Data) (rest : List McJob) (s : State), s.ageJobs = s → s.role = roleNone → j.pkt.m.vertag < 16 → s.tmg.mcq = j :: rest → s.rd (TMG.MCGRP ((j.pkt.m.mcgrp.getD 0) % 65536)) = BitVec.ofNat 32 (262144 + e) → s.tdata j.data = some d → d.refs = 1 → d.charge = .pend → d.n ≤ s.sharedFree → s.limits (s.mcPkt e j.pkt) (s.mcPkt e j.pkt).m.qid (s.ownerPort (s.mcPkt e j.pkt).m.qid) d.n (if d.ic then d.n else 0) true = none → s.maySpill (s.mcPkt e j.pkt).m.qid = false → (s.tq (s.mcPkt e j.pkt).m.qid).spill = false →
    ∃ t, exec .replicateCopies s = .next t ∧
      t.tmg.mcq = rest ∧ t.tdata j.data = some { d with charge := .shared, ic := true } ∧
      mapKept s.tmg.data t.tmg.data [j.data] ∧ mapKept s.tmg.queues t.tmg.queues [(s.mcPkt e j.pkt).m.qid] ∧
      (∃ x, t.tq (s.mcPkt e j.pkt).m.qid = { s.tq (s.mcPkt e j.pkt).m.qid with head := (s.tq (s.mcPkt e j.pkt).m.qid).head ++ [x] } ∧
        x.data = j.data ∧ x.pkt.bytes = j.pkt.bytes ∧ x.pkt.m.egrPort = s.f (bankKey TMG.MCENT0 e) 7 0 ∧ x.pkt.m.ageTs = j.pkt.m.ageTs) ∧
      (t.rd TMG.MCCOPIES).toNat = min ((s.rd TMG.MCCOPIES).toNat + 1) 4294967295 ∧
      t = { s with regs := t.regs, tmg := t.tmg, ver := t.ver, evt := t.evt } ∧
      regsKept s t ((List.range 40).map TMG.XOFFSTATE ++
        [TMG.MCCOPIES, TMG.HOLD j.pkt.m.vertag, VER.HOLDERS j.pkt.m.vertag] ++ perfKeys pgTMG))

/-- Commits (R227): writing SHCTL, PSHCTL, CAPCTL or POLCTL puts the staged parameters in force together, cuts a level above the
new burst, and with LOAD sets both levels by RESETMODE. A credit interval adds rate times time, bounded by the burst (R225).
A GO with a good list schedules its start, one with a bad list sets its error, and one not allowed counts BADACC; the list
starts at its instant and its entries follow (R235, R236).
That the instant of an entry sets the time is the model's choice (log entry 6). -/
def Obligations.ShapersGatesComplete : Prop :=
  (∀ (w : Word) (n : Fin 8192) (off : Offset) (s : State), s.dev.state ≠ .load → s.initialising = false → s.busy pgSCH = false → s.f SCH.NODEIDX 12 0 = n → off.toNat % 65536 = 0x21C →
    ∃ t, exec (.shaperCommit off w) s = .next t ∧
      t.par n = { cir := (s.rd (SCH.CIR n)).toNat, pir := (s.rd (SCH.PIR n)).toNat, cbs := (s.rd (SCH.CBS n)).toNat,
                  pbs := (s.rd (SCH.PBS n)).toNat, ctl := fld w 8 0 } ∧
      t.rd (SCH.SHCTL n) = w &&& 0x1FF ∧
      t.levels n = (if fld w 9 9 = 1 then
          (if fld w 7 7 = 1 then (0, 0) else (((s.rd (SCH.CBS n)).toNat : Int) * 500000, ((s.rd (SCH.PBS n)).toNat : Int) * 500000))
        else (min (s.levels n).1 (((s.rd (SCH.CBS n)).toNat : Int) * 500000), min (s.levels n).2 (((s.rd (SCH.PBS n)).toNat : Int) * 500000))) ∧
      mapKept s.sch.par t.sch.par [n] ∧ mapKept s.sch.buckets t.sch.buckets [2 * n, 2 * n + 1] ∧
      t = { s with sch := { s.sch with par := t.sch.par, buckets := t.sch.buckets }, regs := t.regs, out := t.out, pci := s.pciBut t } ∧
      regsKept s t ([SCH.SHCTL n, SCH.XLOSTCNT, HDR.IRQSTAT pgSCH] ++ (List.range 160).map SCH.PSTAT)) ∧
  (∀ (w : Word) (p : Port) (off : Offset) (s : State), s.dev.state ≠ .load → s.initialising = false → s.busy pgSCH = false → off.toNat % 65536 = 0x1008 + 32 * p →
    ∃ t, exec (.shaperCommit off w) s = .next t ∧
      t.par (shPort p) = { cir := (s.rd (SCH.PSHRATE p)).toNat, cbs := (s.rd (SCH.PSHBURST p)).toNat, ctl := fld w 8 0 } ∧
      t.rd (SCH.PSHCTL p) = w &&& 0x1FF ∧
      (t.levels (shPort p)).1 = (if fld w 9 9 = 1 then (if fld w 7 7 = 1 then 0 else ((s.rd (SCH.PSHBURST p)).toNat : Int) * 500000)
        else min (s.levels (shPort p)).1 (((s.rd (SCH.PSHBURST p)).toNat : Int) * 500000)) ∧
      mapKept s.sch.par t.sch.par [shPort p] ∧ mapKept s.sch.buckets t.sch.buckets [2 * shPort p, 2 * shPort p + 1] ∧
      t = { s with sch := { s.sch with par := t.sch.par, buckets := t.sch.buckets }, regs := t.regs, out := t.out, pci := s.pciBut t } ∧
      regsKept s t ([SCH.PSHCTL p, SCH.XLOSTCNT, HDR.IRQSTAT pgSCH] ++ (List.range 160).map SCH.PSTAT)) ∧
  (∀ (w : Word) (c : Fin 512) (off : Offset) (s : State), s.dev.state ≠ .load → s.initialising = false → s.busy pgSCH = false → off.toNat % 65536 = 0x3008 + 16 * c →
    ∃ t, exec (.shaperCommit off w) s = .next t ∧
      t.par (shCap c) = { cbs := (s.rd (SCH.CAPBURST c)).toNat, ctl := fld w 7 0 } ∧ t.rd (SCH.CAPCTL c) = w &&& 0xFF ∧
      (t.levels (shCap c)).1 = (if fld w 8 8 = 1 then (if fld w 7 7 = 1 then 0 else ((s.rd (SCH.CAPBURST c)).toNat : Int) * 500000)
        else min (s.levels (shCap c)).1 (((s.rd (SCH.CAPBURST c)).toNat : Int) * 500000)) ∧
      mapKept s.sch.par t.sch.par [shCap c] ∧ mapKept s.sch.buckets t.sch.buckets [2 * shCap c, 2 * shCap c + 1] ∧
      t = { s with sch := { s.sch with par := t.sch.par, buckets := t.sch.buckets }, regs := t.regs, out := t.out, pci := s.pciBut t } ∧
      regsKept s t ([SCH.CAPCTL c, SCH.XLOSTCNT, HDR.IRQSTAT pgSCH] ++ (List.range 160).map SCH.PSTAT)) ∧
  (∀ (w : Word) (i : Fin 262144) (s : State), s.dev.state ≠ .load → s.initialising = false → s.busy pgSCH = false → s.f SCH.POLIDX 17 0 = i →
    ∃ t, exec (.policerCommit w) s = .next t ∧
      t.par (shPol (i / 131072) (i % 131072)) = {
        cir := (s.rd (SCH.POLCIR i)).toNat, pir := (s.rd (SCH.POLPIR i)).toNat, cbs := (s.rd (SCH.POLCBS i)).toNat,
        pbs := (s.rd (SCH.POLPBS i)).toNat, ctl := fld w 10 0 } ∧
      t.rd (SCH.POLCTL i) = w &&& 0x7FF ∧
      (fld w 11 11 = 1 → t.levels (shPol (i / 131072) (i % 131072)) =
        (if fld w 10 10 = 1 then (0, 0) else (((s.rd (SCH.POLCBS i)).toNat : Int) * 500000, ((s.rd (SCH.POLPBS i)).toNat : Int) * 500000))) ∧
      mapKept s.sch.par t.sch.par [shPol (i / 131072) (i % 131072)] ∧
      mapKept s.sch.buckets t.sch.buckets
        [2 * shPol (i / 131072) (i % 131072), 2 * shPol (i / 131072) (i % 131072) + 1] ∧
      t = { s with sch := { s.sch with par := t.sch.par, buckets := t.sch.buckets }, regs := t.regs } ∧
      regsKept s t [SCH.POLCTL i]) ∧
  (∀ (e : Nat) (b : Bucket) (s : State), kget? s.sch.buckets (2 * e) = some b →
    ∃ t, exec .bucketCredit s = .next t ∧
      (let u := s.untilInstant ((s.tick + 1) * 16);
       t = { u with sch := { u.sch with buckets := t.sch.buckets } } ∧ t.levels e = u.levels e ∧
       kget? t.sch.buckets (2 * e) = some {
         lvl := min (b.lvl + (s.rateC e * (t.tick - b.tick) : Nat)) (max b.lvl ((s.par e).cbs * 500000)), tick := t.tick })) ∧
  (∀ (p : Port) (w : Word) (s : State), s.dev.state ≠ .load → s.initialising = false → s.busy pgSCH = false → fld w 0 0 = 1 → fld w 4 4 = 1 → (s.gate p).pend = none → ((s.gate p).op.map (fun r => r.list) ≠ some (fld w 1 1)) → s.slalomOk p (fld w 1 1) (s.glen p (fld w 1 1)) (s.f (SCH.GCYCLE p) 29 0) = true →
    ∃ t, exec (.gateGo p w) s = .next t ∧
      (t.gate p).op = (s.gate p).op ∧
      (t.gate p).pend = some {
        list := fld w 1 1, len := s.glen p (fld w 1 1), cyc := s.f (SCH.GCYCLE p) 29 0,
        start := (startInstant (s.rd64 (SCH.GBASE_LO p) (SCH.GBASE_HI p)) (s.f (SCH.GCYCLE p) 29 0) (s.tai + s.f SCH.GATELEAD 29 0)).1 } ∧
      mapKept s.sch.gates t.sch.gates [p] ∧
      (t.rd (SCH.GATESTAT p)).toNat = min (startInstant (s.rd64 (SCH.GBASE_LO p) (SCH.GBASE_HI p)) (s.f (SCH.GCYCLE p) 29 0) (s.tai + s.f SCH.GATELEAD 29 0)).2 2147483647 ∧
      t = { s with sch := { s.sch with gates := t.sch.gates }, regs := t.regs, out := t.out, pci := s.pciBut t } ∧
      regsKept s t [SCH.GATECTL p, SCH.GATESTAT p, SCH.GLATE, HDR.IRQSTAT pgSCH]) ∧
  (∀ (p : Port) (w : Word) (s : State), s.dev.state ≠ .load → s.initialising = false → s.busy pgSCH = false → fld w 0 0 = 1 → fld w 4 4 = 1 → (s.gate p).pend = none → ((s.gate p).op.map (fun r => r.list) ≠ some (fld w 1 1)) → s.slalomOk p (fld w 1 1) (s.glen p (fld w 1 1)) (s.f (SCH.GCYCLE p) 29 0) = false →
    ∃ t, exec (.gateGo p w) s = .next t ∧
      t.fb (SCH.GATESTAT p) 31 = true ∧ t.fb (HDR.IRQSTAT pgSCH) 3 = true ∧
      onlyRegsOut s t [SCH.GATECTL p, SCH.GATESTAT p, HDR.IRQSTAT pgSCH]) ∧
  (∀ (p : Port) (w : Word) (s : State), s.dev.state ≠ .load → s.initialising = false → s.busy pgSCH = false → fld w 0 0 = 1 → fld w 4 4 = 1 → ((s.gate p).pend.isSome = true ∨ (s.gate p).op.map (fun r => r.list) = some (fld w 1 1)) →
    ∃ t, exec (.gateGo p w) s = .next t ∧
      t.f DEV.BADACC 31 0 = min (s.f DEV.BADACC 31 0 + 1) 4294967295 ∧ t.sch = s.sch ∧
      t.f (SCH.GATECTL p) 1 1 = fld w 1 1 ∧ onlyRegs s t [SCH.GATECTL p, DEV.BADACC]) ∧
  (∀ (p : Port) (w : Word) (s : State), s.dev.state ≠ .load → s.initialising = false → s.busy pgSCH = false → fld w 0 0 = 1 → fld w 4 4 = 0 →
    ∃ t, exec (.gateGo p w) s = .next t ∧
      t.f DEV.BADACC 31 0 = min (s.f DEV.BADACC 31 0 + 1) 4294967295 ∧ t.gate p = {} ∧
      mapKept s.sch.gates t.sch.gates [p] ∧ t.fb (SCH.GATECTL p) 4 = false ∧
      t = { s with sch := { s.sch with gates := t.sch.gates }, regs := t.regs } ∧ regsKept s t [SCH.GATECTL p, DEV.BADACC]) ∧
  (∀ (p : Port) (w : Word) (s : State), s.dev.state ≠ .load → s.initialising = false → s.busy pgSCH = false → fld w 4 4 = 0 → fld w 0 0 = 0 →
    ∃ t, exec (.gateGo p w) s = .next t ∧
      t.gate p = {} ∧ mapKept s.sch.gates t.sch.gates [p] ∧ t.fb (SCH.GATECTL p) 4 = false ∧
      t.f (SCH.GATECTL p) 1 1 = fld w 1 1 ∧
      t = { s with sch := { s.sch with gates := t.sch.gates }, regs := t.regs } ∧ regsKept s t [SCH.GATECTL p]) ∧
  (∀ (p : Port) (r : GateRun) (s : State), (s.gate p).pend = some r →
    ∃ t, exec (.gateListStart p) s = .next t ∧
      t.gate p = { op := some ((s.untilInstant r.start).gateAt p r t.tai), pend := none } ∧
      t.rd (SCH.ACYCLE p) = BitVec.ofNat 32 r.cyc ∧ t.fb (HDR.IRQSTAT pgSCH) 0 = true ∧
      mapKept s.sch.gates t.sch.gates [p] ∧
      t = { s.untilInstant r.start with sch := { s.sch with gates := t.sch.gates }, regs := t.regs, out := t.out, pci := (s.untilInstant r.start).pciBut t } ∧
      regsKept (s.untilInstant r.start) t [SCH.ACYCLE p, HDR.IRQSTAT pgSCH]) ∧
  (∀ (p : Port) (r : GateRun) (s : State), (s.gate p).op = some r → (s.gate p).pend = none →
    ∃ t, exec (.gateEntryChange p) s = .next t ∧
      t.gate p = { op := some ((s.untilInstant (s.gateNext p r)).gateAt p r (s.gateNext p r)), pend := none } ∧
      mapKept s.sch.gates t.sch.gates [p] ∧
      (let u := s.untilInstant (s.gateNext p r);
       let v := { u with sch := { u.sch with gates := t.sch.gates } };
       t = if s.gateHold p = false ∧ v.gateHold p = true ∧ v.pact p = true then v.txCut p else v))

/-- SCH_GRANT (R221, R255): the packet the port root selects leaves its queue for the egress piste of its group, through a group
root with the group's next sequence number; where nothing is eligible nothing leaves. EGRESS_PACKET (R170, R172): a packet
is rewritten by the template its stages leave and joins the MAC's transmit queue, with the shim of its grant through a group
root (R256), encrypted with its SecTAG and the SA's next PN on a protected port (R275), or goes to the Lift (R175); in
RESETTING it is discarded (R177). -/
def Obligations.GrantEgressComplete : Prop :=
  (∀ (p : Port) (q : Fin 131584) (x : QPkt) (s : State) (u : State), x.pkt.m.vertag < 16 → s.portStops p = false → ((s.portPick p).map (fun r => (r.1.queue, r.2)) = some (q.val, u)) → u.headDiscard q = none → u.headPkt q = some x → s.memberOf p = none → ((s.tmg.queues.any fun e => e.2.spill) = false) →
    ∃ t, exec (.schGrant p) s = .next t ∧
      (t.ep (pgOf p)).inq = (s.ep (pgOf p)).inq ++ [(p.val, { x.pkt with shim := none, store := some x.data })] ∧
      (t.tq q).head = (s.tq q).head.filter (fun y => y.id ≠ x.id) ∧
      t.f (TMG.HOLD x.pkt.m.vertag) 31 0 = s.f (TMG.HOLD x.pkt.m.vertag) 31 0 - 1 ∧
      mapKept s.eps t.eps [pgOf p] ∧ mapKept s.tmg.queues t.tmg.queues [q.val] ∧ mapKept s.tmg.data t.tmg.data [x.data] ∧
      t = { s with regs := t.regs, eps := t.eps, tmg := { s.tmg with queues := t.tmg.queues, data := t.tmg.data }, sch := t.sch } ∧
      regsKept s t ((List.range 40).map TMG.XOFFSTATE ++ [TMG.HOLD x.pkt.m.vertag] ++ perfKeys pgSCH)) ∧
  (∀ (p : Port) (q : Fin 131584) (x : QPkt) (r : Nat) (g : Fin 32) (m : Fin 16) (gs : Nat) (s : State) (u : State), s.role = roleNone → x.pkt.m.vertag < 16 → s.portStops p = false → ((s.portPick p).map (fun y => (y.1.queue, y.1.nodes.contains r, y.2)) = some (q.val, true, u)) → u.headDiscard q = none → u.headPkt q = some x → s.groupRoot p = some (r, g.val, m.val, gs) → ((s.tmg.queues.any fun e => e.2.spill) = false) →
    ∃ t, exec (.schGrant p) s = .next t ∧
      (((t.ep (pgOf p)).inq.getLast?.bind fun y => y.2.shim).map fun y => (y.group, y.member, y.seq)) =
        some (g.val, m.val, (s.rd (BLG.TXSEQ g)).toNat) ∧
      (t.ep (pgOf p)).inq.map (fun y => (y.1, y.2.bytes)) = (s.ep (pgOf p)).inq.map (fun y => (y.1, y.2.bytes)) ++ [(p.val, x.pkt.bytes)] ∧
      (t.tq q).head = (s.tq q).head.filter (fun y => y.id ≠ x.id) ∧
      t.rd (BLG.TXSEQ g) = s.rd (BLG.TXSEQ g) + 1 ∧
      mapKept s.eps t.eps [pgOf p] ∧ mapKept s.tmg.queues t.tmg.queues [q.val] ∧
      t = { s with regs := t.regs, eps := t.eps, tmg := { s.tmg with queues := t.tmg.queues, data := t.tmg.data }, sch := t.sch, evt := t.evt } ∧
      regsKept s t ((List.range 40).map TMG.XOFFSTATE ++ [TMG.HOLD x.pkt.m.vertag, BLG.TXSEQ g] ++ perfKeys pgSCH)) ∧
  (∀ (p : Port) (s : State), (s.portStops p = true ∨ ((s.portPick p).isNone = true ∧ s.gateHolds p = false)) →
    exec (.schGrant p) s = .next s) ∧
  (∀ (g : PgIx) (p : Port) (k : Pkt) (f : List Byte) (rest : List (Nat × Pkt)) (s : State), k.m.vertag < 16 → (s.ep g).inq = (p.val, k) :: rest → s.icvPending k.tok = false → s.busy (pgEP g) = false → ((List.range 8).all (fun e => s.f (EP.STAGECFG g e) 1 0 ≠ 1) = true) → s.rewrite g (s.rd64 (EP.TPL_LO g k.m.template) (EP.TPL_HI g k.m.template)) k.m.userData.toNat k.bytes = some f → k.m.bond = none → k.shim = none → f.length + 4 ≤ s.f (PG.MAXLEN (pgOf p) (slotOf p)) 13 0 → s.isProtected p = false → s.isUp p = true → s.running (pgPG (pgOf p)) = true →
    ∃ t, exec (.egressPacket g) s = .next t ∧
      (∃ x, (t.port p).txq = (s.port p).txq ++ [x] ∧ x.bytes = f ∧ x.encrypted = false ∧ x.poison = (k.m.cut && k.bad) ∧
        x.m.vertag = k.m.vertag) ∧
      t.port p = { s.port p with txq := (t.port p).txq } ∧ mapKept s.ports t.ports [p.val] ∧
      (t.ep g).inq = rest ∧ (t.ep g).lift = (s.ep g).lift ∧ mapKept s.eps t.eps [g.val] ∧
      t = { s with regs := t.regs, ports := t.ports, eps := t.eps } ∧ regsKept s t (perfKeys (pgEP g))) ∧
  (∀ (g : PgIx) (p : Port) (k : Pkt) (f : List Byte) (rest : List (Nat × Pkt)) (st : EgrSt) (v : State) (u : State) (s : State), k.m.vertag < 16 → (s.ep g).inq = (p.val, k) :: rest → s.icvPending k.tok = false → s.busy (pgEP g) = false → (v = ((s.setEp g { s.ep g with inq := rest }).event (pgEP g) 0x100 1 fun _ => true).event (pgEP g) 0x101 k.len fun _ => true) → (List.range 8).foldl (State.egrStage g k) (v, { tpl := k.m.template, ud := k.m.userData.toNat }) = (u, st) → (st.ecc = false ∧ st.drop = false) → st.lift = true → k.m.pass < 3 → u.rewrite g (u.rd64 (EP.TPL_LO g st.tpl) (EP.TPL_HI g st.tpl)) st.ud k.bytes = some f → s.running (pgIP g) = true → ((s.ep g).lift.foldl (fun a x => a + x.len) 0 + (f.length + 4) ≤ 16384) →
    ∃ t, exec (.egressPacket g) s = .next t ∧
      (∃ x, (t.ep g).lift = (s.ep g).lift ++ [x] ∧ x.bytes = f ∧ x.shim = none ∧ x.m = { k.m with
        template := st.tpl, userData := BitVec.ofNat 64 st.ud, pass := k.m.pass + 1, exc := 0, cut := false }) ∧
      (t.ep g).inq = rest ∧ mapKept s.eps t.eps [g.val] ∧
      t = { u with regs := t.regs, eps := t.eps } ∧
      regsKept u t (perfKeys (pgEP g) ++ (k.shim.map fun y => BLG.GCNT y.group gcSEQVOID).toList)) ∧
  (∀ (g : PgIx) (p : Port) (k : Pkt) (f : List Byte) (rest : List (Nat × Pkt)) (st : EgrSt) (tg : BondTag) (i : Nat) (v : State) (u : State) (s : State), k.m.vertag < 16 → (s.ep g).inq = (p.val, k) :: rest → s.icvPending k.tok = false → s.busy (pgEP g) = false → (v = ((s.setEp g { s.ep g with inq := rest }).event (pgEP g) 0x100 1 fun _ => true).event (pgEP g) 0x101 k.len fun _ => true) → (List.range 8).foldl (State.egrStage g k) (v, { tpl := k.m.template, ud := k.m.userData.toNat }) = (u, st) → (st.ecc = false ∧ st.drop = false) → st.lift = false → u.rewrite g (u.rd64 (EP.TPL_LO g st.tpl) (EP.TPL_HI g st.tpl)) st.ud k.bytes = some f → k.shim = some tg → u.etIndex (beNat (slice f 12 2)) = some i → f.length + 4 + (if k.m.bond.isSome then 8 else 0) ≤ s.f (PG.MAXLEN (pgOf p) (slotOf p)) 13 0 → s.isProtected p = false → s.isUp p = true → s.running (pgPG (pgOf p)) = true → tg.eob = false →
    ∃ t, exec (.egressPacket g) s = .next t ∧
      (∃ x, (t.port p).txq = (s.port p).txq ++ [x] ∧ x.encrypted = false ∧ x.grp = some tg.group ∧
        x.bytes = f.take 12 ++ beBytes 2 (s.f BLG.CFG 15 0) ++
          shimBytes (beBytes 2 (s.f BLG.CFG 15 0)) tg.group tg.member k.m.cls i tg.seq false false false ++ f.drop 14) ∧
      t.port p = { s.port p with txq := (t.port p).txq } ∧ mapKept s.ports t.ports [p.val] ∧
      (t.mem tg.group tg.member).lastTx = some s.now ∧ (t.ep g).inq = rest ∧
      t.blg = (u.setMem tg.group tg.member { u.mem tg.group tg.member with lastTx := some s.now }).blg ∧
      t = { u with regs := t.regs, ports := t.ports, blg := t.blg } ∧
      regsKept u t (BLG.GCNT tg.group gcTXFRAMES :: perfKeys pgBLG)) ∧
  (∀ (g : PgIx) (p : Port) (k : Pkt) (f : List Byte) (rest : List (Nat × Pkt)) (st : EgrSt) (y : Nat) (sa : Nat) (key : List Byte) (salt : List Byte) (v : State) (u : State) (s : State), k.m.vertag < 16 → (s.ep g).inq = (p.val, k) :: rest → s.icvPending k.tok = false → s.busy (pgEP g) = false → (v = ((s.setEp g { s.ep g with inq := rest }).event (pgEP g) 0x100 1 fun _ => true).event (pgEP g) 0x101 k.len fun _ => true) → (List.range 8).foldl (State.egrStage g k) (v, { tpl := k.m.template, ud := k.m.userData.toNat }) = (u, st) → (st.ecc = false ∧ st.drop = false) → st.lift = false → u.rewrite g (u.rd64 (EP.TPL_LO g st.tpl) (EP.TPL_HI g st.tpl)) st.ud k.bytes = some f → k.m.bond = none → k.shim = none → f.length + 4 ≤ s.f (PG.MAXLEN (pgOf p) (slotOf p)) 13 0 → s.isProtected p = true → u.bypass f = false → s.running pgMSC = true → s.isUp p = true → s.running (pgPG (pgOf p)) = true → u.txSecy p st.ud = some y → y < 4096 → u.secyOn y p = true → u.msc.unc.contains y = false → sa = 4 * y + fld (u.secyCfg y) 14 13 → u.saInUse sa = true → u.exhausted y sa = false → u.saKey sa (u.suite y) = some (key, salt) →
    ∃ t, exec (.egressPacket g) s = .next t ∧
      (∃ x, (t.port p).txq = (s.port p).txq ++ [x] ∧ x.encrypted = true ∧ x.poison = (k.m.cut && k.bad) ∧ x.m.vertag = k.m.vertag ∧
        x.bytes = secEncrypt key
          (secIv (u.suite y) (u.rd64 (MSC.SCI_LO y) (MSC.SCI_HI y)) (u.rd (MSC.SSCI sa)).toNat (u.nextPn sa) salt)
          (beBytes 8 (u.rd64 (MSC.SCI_LO y) (MSC.SCI_HI y))) (sa % 4) (u.nextPn sa) (confOfs (fld (u.secyCfg y) 12 11)) f) ∧
      t.port p = { s.port p with txq := (t.port p).txq } ∧ mapKept s.ports t.ports [p.val] ∧ (t.ep g).inq = rest ∧
      t.nextPn sa = (u.nextPn sa + 1) % 2 ^ 64 ∧
      t = { u with regs := t.regs, ports := t.ports, msc := t.msc, evt := t.evt, out := t.out, pci := u.pciBut t }) ∧
  (∀ (key : List Byte) (iv : List Byte) (sci : List Byte) (an : Fin 4) (pn : Nat) (c : Option Nat) (f : List Byte), sci.length = 8 → 12 ≤ f.length →
    (secEncrypt key iv sci an.val pn c f).take 12 = f.take 12 ∧
      slice (secEncrypt key iv sci an.val pn c f) 12 16 =
        [0x88, 0xE5] ++ beBytes 1 (32 + (if c.isSome then 12 else 0) + an.val) ++
        beBytes 1 (if f.length - 12 < 48 then f.length - 12 else 0) ++ beBytes 4 pn ++ sci) ∧
  (∀ (g : PgIx) (p : Nat) (k : Pkt) (rest : List (Nat × Pkt)) (s : State), s.role = roleNone → k.m.vertag < 16 → (s.ep g).inq = (p, k) :: rest → s.icvPending k.tok = false → s.busy (pgEP g) = true → k.shim = none →
    ∃ t, exec (.egressPacket g) s = .next t ∧
      (t.ep g).inq = rest ∧ mapKept s.eps t.eps [g.val] ∧
      (t.rd (EP.RSTDROP g)).toNat = min ((s.rd (EP.RSTDROP g)).toNat + 1) 4294967295 ∧
      t.f (VER.HOLDERS k.m.vertag) 31 0 = s.f (VER.HOLDERS k.m.vertag) 31 0 - 1 ∧
      t = { s with regs := t.regs, eps := t.eps, ver := t.ver, evt := t.evt } ∧
      regsKept s t [EP.RSTDROP g, VER.HOLDERS k.m.vertag])

/-- Aging (R193): at the earliest due instant the due packets of a queue in the Tarn are discarded and no other. A completed
spill write lists its page and frees its cells (R189, R191); a returned page's packets join the head and the page goes back
to BPM (R190). MCENT1 commits a replication entry, RINKCFG with EN loads the session's LFSR, PCIDX latches the counts.
That the deadlines and instants set the time is the model's choice (log entry 6). -/
def Obligations.TmgQueuesComplete : Prop :=
  (∀ (q : Fin 131584) (x : QPkt) (rest : List QPkt) (s : State), s.role = roleNone → s.tq q = { head := x :: rest } → ((x :: rest).all (fun y => y.pkt.m.vertag < 16) = true) →
    ∃ t, exec (.agingDue q) s = .next t ∧
      (let u := s.untilInstant (rest.foldl (fun a y => min a (s.dueAt y)) (s.dueAt x));
       let due := ((x :: rest).filter u.isDue).map fun y => y.id;
       t.tq q = { head := (x :: rest).filter fun y => !due.contains y.id } ∧
       t = { u with regs := t.regs, tmg := t.tmg, ver := t.ver, evt := t.evt, out := t.out, pci := u.pciBut t } ∧
       t.tmg.mcq = s.tmg.mcq ∧ mapKept u.tmg.queues t.tmg.queues [q.val])) ∧
  (∀ (r : DReq) (q : Nat) (v : Queue) (p : PageRec) (s : State) (u : State), s.drcTake dpSPILL true = some (r, u) → r.fin = some true → (s.pageQueue (fun v => v.outbound) r.client = some (q, v, p)) → p.drop = false → s.tq q = v →
    ∃ t, exec .spillWriteDone s = .next t ∧
      t = ((u.setTq q { v with
        outbound := v.outbound.filter (fun o => o.id ≠ p.id), middle := v.middle ++ [{ p with ends := [] }] }).freeRefs p.ends).pump q ∧
      u = ({ s with drc := { s.drc with reqs := s.drc.reqs.filter fun y => y.id ≠ r.id } } : State).drcSweep) ∧
  (∀ (r : DReq) (q : Nat) (v : Queue) (p : PageRec) (s : State) (u : State), s.drcTake dpREFILL false = some (r, u) → r.fin = some true → (s.pageQueue (fun v => v.inbound) r.client = some (q, v, p)) → s.tq q = v → v.partialIn = none → p.cont = 0 → p.contEnds = false → p.split = false → (p.starts.filter s.isDue) = [] →
    ∃ t, exec .refillReturn s = .next t ∧
      t = (p.starts.foldl (fun t x => t.refillPkt q x)
        (((u.bump TMG.REFILLPAGES).givePage ownTMG p.page).setTq q { v with inbound := v.inbound.filter fun o => o.id ≠ p.id })).pump q ∧
      (t.rd TMG.REFILLPAGES).toNat = min ((s.rd TMG.REFILLPAGES).toNat + 1) 4294967295 ∧
      t.bpm.rets = s.bpm.rets ++ [(ownTMG, p.page)]) ∧
  (∀ (w : Word) (s : State), s.dev.state ≠ .load →
    ∃ t, exec (.mcEntryCommit w) s = .next t ∧
      t.rd (TMG.MCENT1 (s.f TMG.MCEIDX 17 0)) = w &&& 0x1FFFF ∧
      t.rd (bankKey TMG.MCENT0 (s.f TMG.MCEIDX 17 0)) = s.rd TMG.MCENT0 ∧
      onlyRegs s t [TMG.MCENT1 (s.f TMG.MCEIDX 17 0), bankKey TMG.MCENT0 (s.f TMG.MCEIDX 17 0)]) ∧
  (∀ (k : Fin 8) (w : Word) (s : State), s.dev.state ≠ .load → fld w 0 0 = 1 →
    ∃ t, exec (.rinkEnable k w) s = .next t ∧
      kget? t.tmg.rink k = some (s.rd (TMG.RINKSEED k)).toNat ∧ t.f (TMG.RINKCFG k) 6 2 = min (fld w 6 2) 16 ∧
      t.f (TMG.RINKCFG k) 1 0 = fld w 1 0 ∧ t.f (TMG.RINKCFG k) 15 8 = fld w 15 8 ∧
      t = { s with regs := t.regs, tmg := { s.tmg with rink := t.tmg.rink } } ∧
      regsKept s t [TMG.RINKCFG k] ∧ mapKept s.tmg.rink t.tmg.rink [k.val]) ∧
  (∀ (w : Word) (s : State), s.dev.state ≠ .load →
    ∃ t, exec (.pcLatch w) s = .next t ∧
      (t.rd TMG.PCIDX).toNat = min 160 (fld w 7 0) ∧
      t.tmg = { s.tmg with pcLatch := (List.range 15).map fun n => kgetD s.tmg.pc (min 160 (fld w 7 0) * 16 + n) 0 } ∧
      t = { s with regs := t.regs, tmg := t.tmg } ∧ regsKept s t [TMG.PCIDX])

/-- BPM (R205 to R215): a qualifying request takes the page on top of the cache and its owner's code; one that does not qualify
is refused; a return gives the page back or faults; HOSTALLOC requests, HOSTRET returns; the cache is filled from and
written back to the ring; the ring is built with every managed page; a reclaim brings an owner's pages back.
How a build writes the ring, and how it goes on past a write that ends in ERR, is the model's choice (log entry 122). -/
def Obligations.BpmComplete : Prop :=
  (∀ (p : Nat) (rest : List Nat) (s : State), s.bpm.reqs = [(ownHOST, 0)] → s.qualifies ownHOST = true → s.bpm.cache = p :: rest → p < s.managed → s.owner p = 0 → s.held ownHOST < 67108863 →
    ∃ t, exec .pageGrant s = .next t ∧
      t.owner p = ownHOST ∧ t.held ownHOST = s.held ownHOST + 1 ∧
      t.f (BPM.OPEAK 2) 25 0 = max (s.f (BPM.OPEAK 2) 25 0) (s.held ownHOST + 1) ∧
      t.bpm = { s.bpm with cache := rest, reqs := [], last := ownHOST, map := t.bpm.map } ∧ mapKept s.bpm.map t.bpm.map [p] ∧
      (∃ l, t.out = s.out ++ l ++ [Out.readData 0 (BitVec.ofNat 32 (p + 2147483648))]) ∧
      t = { s with regs := t.regs, bpm := t.bpm, out := t.out, pci := s.pciBut t } ∧
      regsKept s t [BPM.OHELD 2, BPM.OPEAK 2, BPM.OALLOCS 2, HDR.IRQSTAT pgBPM]) ∧
  (∀ (q : Fin 131584) (p : Nat) (rest : List Nat) (s : State), s.bpm.reqs = [(ownTMG, q.val)] → s.qualifies ownTMG = true → s.bpm.cache = p :: rest → p < s.managed → s.owner p = 0 → s.held ownTMG < 67108863 → (s.tq q).spill = true → (s.tq q).pageReady = true →
    ∃ t, exec .pageGrant s = .next t ∧
      t.owner p = ownTMG ∧ t.held ownTMG = s.held ownTMG + 1 ∧ t.bpm.cache = rest ∧
      (∃ d l, t.drc.reqs = s.drc.reqs ++ d :: l ∧ d.port = dpSPILL ∧ d.write = true ∧ d.addr = p * 4096)) ∧
  (∀ (s : State), s.bpm.reqs = [(ownHOST, 0)] → s.qualifies ownHOST = false →
    ∃ t, exec .pageGrant s = .next t ∧
      t.bpm = { s.bpm with reqs := [] } ∧ t.fb (HDR.IRQSTAT pgBPM) 1 = true ∧
      (t.rd (BPM.OREFUSALS 2)).toNat = min ((s.rd (BPM.OREFUSALS 2)).toNat + 1) 4294967295 ∧
      (∃ l, t.out = s.out ++ l ++ [Out.readData 0 0]) ∧
      t = { s with regs := t.regs, bpm := t.bpm, out := t.out, pci := s.pciBut t } ∧ regsKept s t [BPM.OREFUSALS 2, HDR.IRQSTAT pgBPM]) ∧
  (∀ (o : Fin 4) (p : Nat) (rest : List (Nat × Nat)) (s : State), s.bpm.rets = (o.val, p) :: rest → o ≠ 0 → s.bpm.level < 16384 → p < s.managed → s.owner p = o →
    ∃ t, exec .pageReturn s = .next t ∧
      t.owner p = 0 ∧ t.bpm = { s.bpm with rets := rest, cache := p :: s.bpm.cache, map := t.bpm.map } ∧
      mapKept s.bpm.map t.bpm.map [p] ∧ t.held o = s.held o - 1 ∧
      t = { s with regs := t.regs, bpm := t.bpm } ∧ regsKept s t [BPM.OHELD (o.val - 1), BPM.OPEAK (o.val - 1)]) ∧
  (∀ (o : Nat) (p : Nat) (rest : List (Nat × Nat)) (s : State), s.bpm.rets = (o, p) :: rest → s.bpm.level < 16384 → (s.managed ≤ p ∨ s.owner p ≠ o) →
    ∃ t, exec .pageReturn s = .next t ∧
      t.fb (HDR.FLTSTAT pgBPM) (if s.managed ≤ p then 0 else 1) = true ∧ t.bpm = { s.bpm with rets := rest } ∧
      t = { s with regs := t.regs, bpm := t.bpm, flt := t.flt } ∧
      regsKept s t ([HDR.FLTSTAT pgBPM, HDR.FLTCNT pgBPM] ++ perfKeys pgBPM)) ∧
  (∀ (s : State), ∃ t, exec .hostalloc s = .next t ∧
      (s.present pgBPM = true → s.qualifies ownHOST = true →
        t = { s with bpm := { s.bpm with reqs := s.bpm.reqs ++ [(ownHOST, 0)] } }) ∧
      (s.present pgBPM = true → s.qualifies ownHOST = false →
        (∃ l, t.out = s.out ++ l ++ [Out.readData 0 0]) ∧ t.fb (HDR.IRQSTAT pgBPM) 1 = true ∧
        (t.rd (BPM.OREFUSALS 2)).toNat = min ((s.rd (BPM.OREFUSALS 2)).toNat + 1) 4294967295 ∧
        onlyRegsOut s t [BPM.OREFUSALS 2, HDR.IRQSTAT pgBPM]) ∧
      (s.present pgBPM = false → t = { s with out := s.out ++ [Out.readData 0 0] })) ∧
  (∀ (hi : Word) (lo : Word) (s : State), s.dev.state ≠ .load → s.present pgBPM = true → s.busy pgBPM = false → (s.path 0).held = some (BPM.HOSTRET_LO, lo) → s.hostRetErr (lo.toNat + hi.toNat * 4294967296) = none →
    ∃ t, exec (.hostPageReturn hi) s = .next t ∧
      t.bpm = { s.bpm with rets := s.bpm.rets ++ [(ownHOST, (lo.toNat + hi.toNat * 4294967296) / 4096)] } ∧
      (t.path 0).held = none ∧ t = { s with acc := t.acc, bpm := t.bpm } ∧ mapKept s.acc t.acc [0]) ∧
  (∀ (hi : Word) (lo : Word) (c : Fin 16) (s : State), s.dev.state ≠ .load → s.present pgBPM = true → s.busy pgBPM = false → (s.path 0).held = some (BPM.HOSTRET_LO, lo) → s.hostRetErr (lo.toNat + hi.toNat * 4294967296) = some c.val →
    ∃ t, exec (.hostPageReturn hi) s = .next t ∧
      t.f BPM.HOSTERRINFO 3 0 = c ∧ t.fb (HDR.IRQSTAT pgBPM) 2 = true ∧
      (t.rd BPM.HOSTERR).toNat = min ((s.rd BPM.HOSTERR).toNat + 1) 4294967295 ∧
      t = { s with acc := t.acc, regs := t.regs, out := t.out, pci := s.pciBut t } ∧
      regsKept s t [BPM.HOSTERR, BPM.HOSTERRINFO, HDR.IRQSTAT pgBPM]) ∧
  (∀ (s : State) (c : Fin 2), s.running pgBPM = true → s.fb BPM.STAT 0 = true → s.bpm.level < s.f BPM.CFG 14 0 → s.bpm.ring ≠ [] → s.bpm.fly.length < 64 → s.bpm.lost.contains (s.bpm.head * 2) = decide (c = 1) → s.bpm.lost.contains (s.bpm.head * 2 + c) = false →
    ∃ t, exec .cacheRefill s = .next t ∧
      t.bpm = { s.bpm with
        ring := (ringTake 16 s.bpm.ring).2, fly := kset s.bpm.fly s.drc.next (ringTake 16 s.bpm.ring).1,
        head := (s.bpm.head + 1) % max 1 (s.basinPages / 16) } ∧
      t.drc = { s.drc with
        reqs := s.drc.reqs ++ [{ id := s.drc.next, port := dpBPM, addr := s.ringAddr s.bpm.head c, len := 64,
                                 client := s.bpm.head * 2 + c }],
        next := s.drc.next + 1 } ∧
      t = { s with bpm := t.bpm, drc := t.drc }) ∧
  (∀ (s : State), s.running pgBPM = true → s.fb BPM.STAT 0 = true → s.bpm.level < s.f BPM.CFG 14 0 → s.bpm.ring ≠ [] → s.bpm.fly.length < 64 → s.bpm.lost.contains (s.bpm.head * 2) = true → s.bpm.lost.contains (s.bpm.head * 2 + 1) = true → s.f BPM.LOST 25 0 + 16 < 67108864 →
    ∃ t, exec .cacheRefill s = .next t ∧
      t.bpm = { s.bpm with
        ring := (ringTake 16 s.bpm.ring).2, head := (s.bpm.head + 1) % max 1 (s.basinPages / 16) } ∧
      t.f BPM.LOST 25 0 = s.f BPM.LOST 25 0 + (ringTake 16 s.bpm.ring).1.length ∧ t.fb (HDR.FLTSTAT pgBPM) 3 = true ∧
      t = { s with bpm := t.bpm, regs := t.regs, flt := t.flt, out := t.out, pci := s.pciBut t }) ∧
  (∀ (r : DReq) (s : State) (u : State), s.drcTake dpBPM false = some (r, u) → r.fin = some true → kgetD u.bpm.fly r.id [] ≠ [] → u.bpm.level + (kgetD u.bpm.fly r.id []).length ≤ 16384 →
    ∃ t, exec .ringReadReturn s = .next t ∧
      t.bpm = { u.bpm with cache := (kgetD u.bpm.fly r.id []).reverse ++ u.bpm.cache, fly := kerase u.bpm.fly r.id } ∧
      t = { u with bpm := t.bpm } ∧
      u = ({ s with drc := { s.drc with reqs := s.drc.reqs.filter fun y => y.id ≠ r.id } } : State).drcSweep) ∧
  (∀ (r : DReq) (s : State) (u : State), s.drcTake dpBPM false = some (r, u) → r.fin = some false → (r.client :: u.bpm.lost).contains (r.client / 2 * 2) = true → (r.client :: u.bpm.lost).contains (r.client / 2 * 2 + 1) = true → kgetD u.bpm.fly r.id [] ≠ [] → u.f BPM.LOST 25 0 + (kgetD u.bpm.fly r.id []).length < 67108864 →
    ∃ t, exec .ringReadReturn s = .next t ∧
      t.bpm = { u.bpm with fly := kerase u.bpm.fly r.id, lost := r.client :: u.bpm.lost } ∧
      t.f BPM.LOST 25 0 = u.f BPM.LOST 25 0 + (kgetD u.bpm.fly r.id []).length ∧
      t.fb (HDR.FLTSTAT pgBPM) 3 = true ∧
      t = { u with bpm := t.bpm, regs := t.regs, flt := t.flt, out := t.out, pci := u.pciBut t }) ∧
  (∀ (r : DReq) (c : Fin 2) (s : State) (u : State), s.drcTake dpBPM false = some (r, u) → r.fin = some false → (r.client :: u.bpm.lost).contains (r.client / 2 * 2) = decide (c = 1) → (r.client :: u.bpm.lost).contains (r.client / 2 * 2 + c) = false → kgetD u.bpm.fly r.id [] ≠ [] →
    ∃ t, exec .ringReadReturn s = .next t ∧
      t.bpm = { u.bpm with
        fly := kset (kerase u.bpm.fly r.id) u.drc.next (kgetD u.bpm.fly r.id []), lost := r.client :: u.bpm.lost } ∧
      t.drc = { u.drc with
        reqs := u.drc.reqs ++ [{ id := u.drc.next, port := dpBPM, addr := s.ringAddr (r.client / 2) c, len := 64,
                                 client := r.client / 2 * 2 + c }],
        next := u.drc.next + 1 } ∧
      t = { u with bpm := t.bpm, drc := t.drc }) ∧
  (∀ (s : State), s.running pgBPM = true → s.fb BPM.STAT 0 = true → s.f BPM.CFG 30 16 < s.bpm.cache.length →
    ∃ t, exec .cacheWriteback s = .next t ∧
      t.bpm = { s.bpm with
        cache := s.bpm.cache.take (s.bpm.cache.length - 16),
        wb := s.bpm.wb ++ [((s.bpm.head + cdiv (s.bpm.ring.foldl (fun a r => a + r.2) 0) 16 + s.bpm.wb.length) % s.ringBlocks,
          (s.bpm.cache.drop (s.bpm.cache.length - 16)).reverse, 2)] } ∧
      t.drc.reqs.length = s.drc.reqs.length + 2 ∧
      (t.drc.reqs.drop s.drc.reqs.length).all (fun r => r.port == dpBPM && r.write && r.len == 64) = true ∧
      t = { s with bpm := t.bpm, drc := t.drc }) ∧
  (∀ (s : State), s.running pgBPM = true → s.basinCap ≠ 0 → s.running pgDRC = true → s.fb BPM.STAT 0 = false → s.fb BPM.STAT 1 = false → 32 ≤ s.buildBlocks → ((s.drc.reqs.any fun r => r.port == dpBPM && r.write) = false) →
    ∃ t, exec .ringBuildStart s = .next t ∧
      t.bpm = { s.bpm with map := [], cache := [], ring := [], head := 0, fly := [], wb := [], lost := [], build := 32 } ∧
      t.f BPM.STAT 1 0 = 2 ∧
      t.drc = { s.drc with
        next := s.drc.next + 64,
        reqs := s.drc.reqs ++ (List.range 64).map fun i =>
          { id := s.drc.next + i, port := dpBPM, write := true, addr := s.ringAddr (i / 2) (i % 2), len := 64, client := i } } ∧
      t = { s with bpm := t.bpm, drc := t.drc, regs := t.regs } ∧ regsKept s t [BPM.STAT]) ∧
  (∀ (s : State), s.fb BPM.STAT 1 = true → s.buildBlocks ≤ s.bpm.build → ((s.drc.reqs.any fun r => r.port == dpBPM && r.write) = false) →
    ∃ t, exec .ringBuildEnd s = .next t ∧
      t.bpm = { s.bpm with ring := [(0, s.managed)] } ∧ t.f BPM.STAT 1 0 = 1 ∧ t.f BPM.LOST 25 0 = 0 ∧
      t.fb (BPM.OSTAT 0) 0 = true ∧ t.fb (BPM.OSTAT 1) 0 = true ∧ t.fb (BPM.OSTAT 2) 0 = true ∧
      t.fb (HDR.IRQSTAT pgBPM) 3 = true ∧ t.fb TMG.STAT 0 = true ∧
      t = { s with bpm := t.bpm, regs := t.regs, out := t.out, pci := s.pciBut t } ∧
      regsKept s t [BPM.STAT, BPM.LOST, BPM.OSTAT 0, BPM.OSTAT 1, BPM.OSTAT 2, HDR.IRQSTAT pgBPM, TMG.STAT, HDR.IRQSTAT pgTMG]) ∧
  (∀ (r : DReq) (s : State), s.drc.reqs = [r] → r.port = dpBPM → r.write = true → r.at_ = none → r.fin = none → r.client < 4294967296 → s.bpm.wb = [] → s.drcBadAddr r = false → s.running pgDRC = false →
    ∃ t, exec (.dramRequest 4) s = .next t ∧
      t.bpm.lost = s.bpm.lost.filter (fun x => decide (x ≠ r.client)) ++ [r.client] ∧
      t.f (DRC.WRITES dpBPM) 31 0 = min (s.f (DRC.WRITES dpBPM) 31 0 + 1) 4294967295 ∧
      (t.drc.reqs.all fun q => q.port == dpBPM && q.write && q.fin.isNone) = true ∧
      (if s.fb BPM.STAT 1 = true ∧ s.bpm.build < s.buildBlocks then
         s.bpm.build < t.bpm.build ∧ t.bpm.build ≤ s.buildBlocks ∧ t.drc.reqs.length = 2 * (t.bpm.build - s.bpm.build)
       else t.bpm.build = s.bpm.build ∧ t.drc.reqs = []) ∧
      t = { s with bpm := { s.bpm with lost := t.bpm.lost, build := t.bpm.build }, regs := t.regs,
                   drc := { s.drc with reqs := t.drc.reqs, next := t.drc.next, chans := t.drc.chans } } ∧
      mapKept s.drc.chans t.drc.chans (s.reqChans r) ∧
      regsKept s t (DRC.WRITES dpBPM :: perfKeys pgDRC)) ∧
  (∀ (w : Word) (s : State), s.dev.state ≠ .load → s.present pgBPM = true → s.busy pgBPM = false → fld w 0 0 = 1 → s.bpm.reclaims = [] → s.fb BPM.STAT 0 = true →
    ∃ t, exec (.reclaimHost w) s = .next t ∧
      t.bpm = { s.bpm with
        reqs := s.bpm.reqs.filter (fun r => r.1 ≠ ownHOST), rets := s.bpm.rets.filter (fun r => r.1 ≠ ownHOST),
        reclaims := [ownHOST] } ∧
      (∃ l, t.out = s.out ++ l ∧ (l.filter fun o => o = Out.readData 0 0).length =
        (s.bpm.reqs.filter fun r => r.1 = ownHOST).length) ∧
      (t.rd (BPM.OREFUSALS 2)).toNat =
        min ((s.rd (BPM.OREFUSALS 2)).toNat + (s.bpm.reqs.filter fun r => r.1 = ownHOST).length) 4294967295 ∧
      t.f (BPM.OSTAT 2) 1 0 = 2 ∧ t = { s with bpm := t.bpm, regs := t.regs, out := t.out, pci := s.pciBut t } ∧
      regsKept s t [BPM.OSTAT 2, BPM.OREFUSALS 2, HDR.IRQSTAT pgBPM, TMG.STAT, HDR.IRQSTAT pgTMG]) ∧
  (∀ (o : Fin 4) (s : State), o ≠ 0 → s.bpm.reclaims = [o.val] → ((s.drc.reqs.any fun r => r.write && r.port == ownPort o && r.fin.isNone) = false) → ((s.bpm.map.filter fun e => e.2 = o.val).length + s.bpm.level ≤ 16384) →
    ∃ t, exec (.reclaimEnd o) s = .next t ∧
      t.bpm.reclaims = [] ∧
      t.bpm.cache = ((s.bpm.map.filter fun e => e.2 = o.val).map fun e => e.1).reverse ++ s.bpm.cache ∧
      t.bpm.map.all (fun e => e.2 ≠ o.val) = true ∧ t.held o = 0 ∧ t.f (BPM.OSTAT (o.val - 1)) 1 0 = 1 ∧
      t.fb (HDR.IRQSTAT pgBPM) 4 = true ∧
      t = { s with bpm := t.bpm, regs := t.regs, out := t.out, pci := s.pciBut t } ∧
      regsKept s t [BPM.OHELD (o.val - 1), BPM.OPEAK (o.val - 1), BPM.OSTAT (o.val - 1), HDR.IRQSTAT pgBPM, TMG.STAT, HDR.IRQSTAT pgTMG])

/-- Hash commands (R134, R138): ADD writes the entry, with its control word, into the lowest free slot of its first row; FIND
reports the location and control word of the visible entry and changes nothing; DEL clears or tags it; FLUSH leaves no
entry of the port visible and not static. A half not named is unchanged and reports BADARG; of a command naming both, the
results are the East half's (R136). Each holds its tag until its completion.
That the contents change at the GO and not at the completion is the model's choice (log entry 45), and so are CMPL2's
value (log entry 138) and the free slot that ADD takes (log entry 139). -/
def Obligations.HashCommandsComplete : Prop :=
  (∀ (h : Fin 2) (g : Fin 1024) (i : Nat) (s : State), goHalf s h 1 g = true → (s.partn h (goCmd s 1 g).part).en = true → (s.half h).bad = [] → (s.half h).find (s.partn h (goCmd s 1 g).part) (s.cmdVis (goCmd s 1 g)) ((goCmd s 1 g).key (fmtWords (s.partn h (goCmd s 1 g).part).fmt)) = none → (s.half h).locked 0 ((s.partn h (goCmd s 1 g).part).rowsOf ((goCmd s 1 g).key (fmtWords (s.partn h (goCmd s 1 g).part).fmt))).1 = false → freeIn ((s.half h).row 0 ((s.partn h (goCmd s 1 g).part).rowsOf ((goCmd s 1 g).key (fmtWords (s.partn h (goCmd s 1 g).part).fmt))).1) (s.partn h (goCmd s 1 g).part).fmt = some i → (s.partn h (goCmd s 1 g).part).base + 2 ^ (s.partn h (goCmd s 1 g).part).log2 ≤ 393216 →
    ∃ t, exec .addEntry s = .next t ∧
      (let c := goCmd s 1 g;
       let p := s.partn h c.part;
       let ws := c.key (fmtWords p.fmt);
       let row := (p.rowsOf ws).1;
       rowIs (s.half h) (t.half h) row (entPut ((s.half h).row 0 row) p.fmt i
         (c.act + 131072 + b2n c.static * 268435456 + (if c.imm then 0 else 262144 + c.vslot * 524288)) (keyNat ws)) ∧
       (c.imm = false → t.fb TBL.FOLDSTAT c.vslot = true ∧ (t.half h).fold.contains (c.vslot, row) = true) ∧
       ∃ k, wentHalf s t h 1 g k ∧ k.statusOf h = stOK ∧ k.moves = 0)) ∧
  (∀ (h : Fin 2) (g : Fin 1024) (l : Loc) (ctl : Nat) (s : State), goHalf s h 3 g = true → (s.partn h (goCmd s 3 g).part).en = true → (s.half h).bad = [] → (s.half h).find (s.partn h (goCmd s 3 g).part) (s.cmdVis (goCmd s 3 g)) ((goCmd s 3 g).key (fmtWords (s.partn h (goCmd s 3 g).part).fmt)) = some (l, ctl) →
    ∃ t, exec .findEntry s = .next t ∧ t.half h = s.half h ∧
      ∃ k, wentHalf s t h 3 g k ∧ k.statusOf h = stOK ∧ k.entctl = BitVec.ofNat 32 ctl ∧
        k.result = BitVec.ofNat 32 (l.row + l.slot * 524288 + l.way * 4194304)) ∧
  (∀ (h : Fin 2) (g : Fin 1024) (s : State), goHalf s h 3 g = true → (s.partn h (goCmd s 3 g).part).en = true → (s.half h).bad = [] → (s.half h).find (s.partn h (goCmd s 3 g).part) (s.cmdVis (goCmd s 3 g)) ((goCmd s 3 g).key (fmtWords (s.partn h (goCmd s 3 g).part).fmt)) = none →
    ∃ t, exec .findEntry s = .next t ∧ t.half h = s.half h ∧ ∃ k, wentHalf s t h 3 g k ∧ k.statusOf h = stNOTFOUND) ∧
  (∀ (h : Fin 2) (g : Fin 1024) (l : Loc) (ctl : Nat) (s : State), goHalf s h 2 g = true → (s.partn h (goCmd s 2 g).part).en = true → (s.half h).bad = [] → (s.half h).find (s.partn h (goCmd s 2 g).part) (s.cmdVis (goCmd s 2 g)) ((goCmd s 2 g).key (fmtWords (s.partn h (goCmd s 2 g).part).fmt)) = some (l, ctl) →
    ∃ t, exec .delEntry s = .next t ∧
      (let c := goCmd s 2 g;
       let f := (s.partn h c.part).fmt;
       rowIs (s.half h) (t.half h) (memKey l.way l.row) (entPut ((s.half h).row l.way l.row) f l.slot
         (if c.imm then setBit ctl 17 false
          else if bit ctl 18 && rbits ctl 22 19 = c.vslot then setBit ctl 17 false
          else rins (setBit ctl 23 true) 27 24 c.vslot) (entKey ((s.half h).row l.way l.row) f l.slot)) ∧
       ∃ k, wentHalf s t h 2 g k ∧ k.statusOf h = stOK ∧ k.entctl = BitVec.ofNat 32 ctl)) ∧
  (∀ (h : Fin 2) (g : Fin 1024) (m : Fin 2) (r : Fin 393216) (s : State), goHalf s h 11 g = true → (s.partn h (goCmd s 11 g).part).en = true → (s.half h).bad = [] → (goCmd s 11 g).imm = true → ((s.half h).partRows (s.partn h (goCmd s 11 g).part)) = [(m.val, r.val)] → s.flushSlots h (goCmd s 11 g) (s.partn h (goCmd s 11 g).part) (m.val, r.val) = [0] →
    ∃ t, exec .flushPort s = .next t ∧
      (let c := goCmd s 11 g;
       let f := (s.partn h c.part).fmt;
       let img := (s.half h).row m r;
       rowIs (s.half h) (t.half h) (memKey m r) (entPut img f 0 (setBit (entCtl img f 0) 17 false) (entKey img f 0)) ∧
       ∃ k, wentHalf s t h 11 g k ∧ k.statusOf h = stOK)) ∧
  (∀ (g : Fin 1024) (l : Loc) (ctl : Nat) (s : State), goBoth s 3 g = true → (s.partn 0 (goCmd s 3 g).part).en = true → (s.partn 1 (goCmd s 3 g).part).en = true → s.tbl.east.bad = [] → s.tbl.west.bad = [] → s.tbl.east.find (s.partn 0 (goCmd s 3 g).part) (s.cmdVis (goCmd s 3 g)) ((goCmd s 3 g).key (fmtWords (s.partn 0 (goCmd s 3 g).part).fmt)) = some (l, ctl) →
    ∃ t, exec .findEntry s = .next t ∧ t.tbl.east = s.tbl.east ∧ t.tbl.west = s.tbl.west ∧
      ∃ k, went s t 3 g k ∧ k.statusE = stOK ∧ k.entctl = BitVec.ofNat 32 ctl ∧
        k.result = BitVec.ofNat 32 (l.row + l.slot * 524288 + l.way * 4194304) ∧
        k.statusW = (let p := s.partn 1 (goCmd s 3 g).part;
          if (s.tbl.west.find p (s.cmdVis (goCmd s 3 g)) ((goCmd s 3 g).key (fmtWords p.fmt))).isSome then stOK else stNOTFOUND)) ∧
  (∀ (g : Fin 1024) (s : State), s.dev.state ≠ .load → s.running pgTBL = true → s.freeTag = some g.val → s.tbl.cmds = [] → (s.f (TBL.CMDW 0) 4 0 = 0 ∨ 11 < s.f (TBL.CMDW 0) 4 0) → s.f (TBL.CMDW 0) 6 5 = 3 →
    ∃ t, exec .badargOp s = .next t ∧
      (∃ x, t.tbl.done = s.tbl.done ++ [x] ∧ x.1.tag = g.val ∧ x.2.statusE = stBADARG ∧ x.2.statusW = stBADARG ∧
        x.2.op = s.f (TBL.CMDW 0) 4 0) ∧
      t.tbl = { s.tbl with done := t.tbl.done, tags := g.val :: s.tbl.tags, seq := s.tbl.seq + 1 } ∧
      t = { s with tbl := t.tbl, regs := t.regs } ∧ regsKept s t [TBL.CMDSTAT]) ∧
  (∀ (op : Nat) (i : Instr) (s : State), (i, op) ∈ [(.addEntry, 1), (.delEntry, 2), (.findEntry, 3), (.rowread, 4), (.rowwrite, 5), (.rootset, 6), (.pondwr, 7), (.ponddel, 8), (.lockRow, 9), (.unlockRow, 10), (.flushPort, 11)] → s.dev.state ≠ .load → s.initialising = false → s.busy pgTBL = false → (s.running pgTBL = false ∨ s.freeTag = none) →
    ∃ t, exec i s = .next t ∧
      (t.rd TBL.CMDREJ).toNat = min ((s.rd TBL.CMDREJ).toNat + 1) 4294967295 ∧
      t.f TBL.CMDSTAT 11 11 = (if s.running pgTBL then 0 else 1) ∧ t.f TBL.CMDSTAT 10 10 = (if s.running pgTBL then 1 else 0) ∧
      onlyRegs s t [TBL.CMDREJ, TBL.CMDSTAT])

/-- Row commands (R134, R139, R151): ROWREAD returns the row's image with its hit flags; ROWWRITE replaces a row; ROOTSET
writes a root pointer; PONDWR writes value, mask and companion of a single-bank row, PONDDEL clears or tags the companion;
LOCK and UNLOCK write LOCK of a hash row. A half not named is unchanged and reports BADARG.
That rows, roots and the Pond change at the GO and not at the completion is the model's choice (log entry 45), and so
are the pointers that ROOTSET takes (log entry 136) and what CMPL2 reads after a PONDWR (log entry 138). -/
def Obligations.RowCommandsComplete : Prop :=
  (∀ (h : Fin 2) (g : Fin 1024) (s : State), goHalf s h 4 g = true → (goCmd s 4 g).row < rowMax (goCmd s 4 g).mem → (s.half h).bad = [] →
    ∃ t, exec .rowread s = .next t ∧ t.half h = s.half h ∧
      ∃ k, wentHalf s t h 4 g k ∧ k.statusOf h = stOK ∧
        k.data = (List.range 16).map fun i => BitVec.ofNat 32 (s.rowHits h (goCmd s 4 g).mem (goCmd s 4 g).row / 2 ^ (32 * i))) ∧
  (∀ (h : Fin 2) (g : Fin 1024) (s : State), goHalf s h 5 g = true → (goCmd s 5 g).row < rowMax (goCmd s 5 g).mem → s.inUse = false →
    ∃ t, exec .rowwrite s = .next t ∧
      rowIs (s.half h) (t.half h) (memKey (goCmd s 5 g).mem (goCmd s 5 g).row)
        ((List.range 16).foldl (fun a i => a + (s.rd (TBL.CMDW (4 + i))).toNat * 2 ^ (32 * i)) 0) ∧
      (t.half h).isBad (goCmd s 5 g).mem (goCmd s 5 g).row = false ∧
      ∃ k, wentHalf s t h 5 g k ∧ k.statusOf h = stOK) ∧
  (∀ (h : Fin 2) (g : Fin 1024) (s : State), goBoth s 5 g = true → (goCmd s 5 g).row < rowMax (goCmd s 5 g).mem → s.inUse = false →
    ∃ t, exec .rowwrite s = .next t ∧
      rowIs (s.half h) (t.half h) (memKey (goCmd s 5 g).mem (goCmd s 5 g).row)
        ((List.range 16).foldl (fun a i => a + (s.rd (TBL.CMDW (4 + i))).toNat * 2 ^ (32 * i)) 0) ∧
      (t.half h).isBad (goCmd s 5 g).mem (goCmd s 5 g).row = false ∧
      ∃ k, went s t 5 g k ∧ k.statusE = stOK ∧ k.statusW = stOK) ∧
  (∀ (h : Fin 2) (g : Fin 1024) (n : Fin 4) (s : State), goHalf s h 6 g = true → (goCmd s 6 g).row < 32768 → (s.half h).bad = [] → rootPtr (s.rootEntry h (goCmd s 6 g).rootIx) (goCmd s 6 g) = some n.val →
    ∃ t, exec .rootset s = .next t ∧
      (let c := goCmd s 6 g;
       let e := c.fam * 4096 + c.inst;
       rowIs (s.half h) (t.half h) (memKey 3 (e / 4)) (rins ((s.half h).row 3 (e / 4)) (128 * (e % 4) + 32 * n + 31) (128 * (e % 4) + 32 * n)
         (c.row + 536870912 + (if c.imm then 0 else 268435456 + c.vslot * 16777216))) ∧
       ∃ k, wentHalf s t h 6 g k ∧ k.statusOf h = stOK)) ∧
  (∀ (h : Fin 2) (g : Fin 1024) (s : State), goHalf s h 7 g = true → (goCmd s 7 g).mem = 13 → (goCmd s 7 g).row < 196608 → s.pondW h (goCmd s 7 g).row = 1 → (s.half h).bad = [] → bit (rbits ((s.half h).row 13 (goCmd s 7 g).row) 287 256) 17 = false →
    ∃ t, exec .pondwr s = .next t ∧
      (let c := goCmd s 7 g;
       rbits ((t.half h).row 13 c.row) 287 256 = c.act + 131072 + (if c.imm then 0 else 262144 + c.vslot * 524288) ∧
       rbits ((t.half h).row 13 c.row) 127 0 = c.quad 4 ∧ rbits ((t.half h).row 13 c.row) 255 128 = c.quad 12 ∧
       mapKept (s.half h).rows (t.half h).rows [memKey 13 c.row] ∧ ∃ k, wentHalf s t h 7 g k ∧ k.statusOf h = stOK)) ∧
  (∀ (h : Fin 2) (g : Fin 1024) (s : State), goHalf s h 8 g = true → (goCmd s 8 g).mem = 13 → (goCmd s 8 g).row < 196608 → s.pondW h (goCmd s 8 g).row ≠ 0 → (s.half h).bad = [] → visible (s.cmdVis (goCmd s 8 g)) (rbits ((s.half h).row 13 (goCmd s 8 g).row) 287 256) = true →
    ∃ t, exec .ponddel s = .next t ∧
      (let c := goCmd s 8 g;
       let img := (s.half h).row 13 c.row;
       rowIs (s.half h) (t.half h) (memKey 13 c.row) (rins img 287 256 (c.delete (rbits img 287 256))) ∧
       ∃ k, wentHalf s t h 8 g k ∧ k.statusOf h = stOK)) ∧
  (∀ (h : Fin 2) (g : Fin 1024) (s : State), goHalf s h 9 g = true → (goCmd s 9 g).mem ≤ 1 → (goCmd s 9 g).row < 393216 → (s.half h).bad = [] → (s.half h).lockCount < 256 →
    ∃ t, exec .lockRow s = .next t ∧
      rowIs (s.half h) (t.half h) (memKey (goCmd s 9 g).mem (goCmd s 9 g).row)
        (setBit ((s.half h).row (goCmd s 9 g).mem (goCmd s 9 g).row) 0 true) ∧
      ∃ k, wentHalf s t h 9 g k ∧ k.statusOf h = stOK) ∧
  (∀ (h : Fin 2) (g : Fin 1024) (s : State), goHalf s h 10 g = true → (goCmd s 10 g).mem ≤ 1 → (goCmd s 10 g).row < 393216 → (s.half h).bad = [] →
    ∃ t, exec .unlockRow s = .next t ∧
      rowIs (s.half h) (t.half h) (memKey (goCmd s 10 g).mem (goCmd s 10 g).row)
        (setBit ((s.half h).row (goCmd s 10 g).mem (goCmd s 10 g).row) 0 false) ∧
      ∃ k, wentHalf s t h 10 g k ∧ k.statusOf h = stOK)

/-- A waiting command runs once it need not wait (R123, R128); a command carried out completes, in any order but that of
commands on one row (R24, R136, R137); CMPL0 latches the head and POP frees its tag (R137). A fold visits its slot's rows and
clears PEND; a pass ages entries (R145), and a late one slips; scrub corrects or marks a row (R155); the shadow compare
repairs or clears a Pond row, and its last row ends a sweep (R152); neither corrects a row on a standby.
These are the model's choice: a free value picks the next completion (log entry 45), the pass's deadline sets the time (log
entry 6), when a sweep ends (log entry 8), the first pass at once (log entry 141), the standby (log entry 142), and that a
background slot, whose turns the model leaves out, changes nothing (log entry 146, R154). -/
def Obligations.CommandEngineComplete : Prop :=
  (∀ (c : TblCmd) (s : State), s.tbl.cmds = [c] → ({ s with tbl := { s.tbl with cmds := [] } }).cmdWaits c = false →
    ∃ t, exec .commandResume s = .next t ∧ t.tbl.cmds = [] ∧
      (∃ x, t.tbl.done = s.tbl.done ++ [x] ∧ x.1 = c ∧ x.2.tag = c.tag ∧ x.2.op = c.op) ∧
      t.fb TBL.CMDSTAT 12 = false ∧
      t = { s with regs := t.regs, tbl := t.tbl, flt := t.flt, evt := t.evt, out := t.out, pci := s.pciBut t } ∧ t.tbl.tags = s.tbl.tags) ∧
  (∀ (c : TblCmd) (s : State), s.tbl.cmds = [c] → ({ s with tbl := { s.tbl with cmds := [] } }).cmdWaits c = true →
    ∃ t, exec .commandResume s = .next t ∧ t.tbl = s.tbl ∧ onlyRegs s t [TBL.CMDSTAT]) ∧
  (∀ (c : TblCmd) (k : Cmpl) (i : Nat) (s : State), s.tblReady = [i] → s.tbl.done[i]? = some (c, k) →
    ∃ t, exec .tblComplete s = .next t ∧ t.tbl = { s.tbl with done := s.tbl.done.eraseIdx i, fifo := s.tbl.fifo ++ [k] } ∧
      t.fb (HDR.IRQSTAT pgTBL) 0 = true ∧
      (c.versioned = true → c.names 0 = true → k.statusE ≠ stOK → k.statusE ≠ stNOTFOUND → t.fb TBL.VERERR c.vslot = true) ∧
      (s.ver.busy = .none_ → t.ver = s.ver) ∧ t.ver = { s.ver with busy := t.ver.busy } ∧
      t = { s with tbl := t.tbl, ver := t.ver, regs := t.regs, out := t.out, pci := s.pciBut t } ∧
      regsKept s t ([TBL.VERERR, HDR.IRQSTAT pgTBL, VER.STALLS, HDR.IRQSTAT pgVER] ++ perfKeys pgTBL)) ∧
  (∀ (i : Nat) (j : Nat) (l : List Nat) (s : State), s.tblReady = i :: j :: l →
    ∃ n ∈ s.tblReady, exec .tblComplete s = .next (s.drawFree.2.tblComplete n) ∧
      (s.drawFree.2.tblComplete n).tbl =
        { s.tbl with done := s.tbl.done.eraseIdx n, fifo := s.tbl.fifo ++ ((s.tbl.done[n]?).map fun e => e.2).toList }) ∧
  (∀ (s : State), exec .completionRead s = .next { s with tbl := { s.tbl with latched := s.tbl.fifo.head? } }) ∧
  (∀ (w : Word) (k : Cmpl) (rest : List Cmpl) (s : State), s.dev.state ≠ .load → s.busy pgTBL = false → fld w 0 0 = 1 → s.tbl.fifo = k :: rest →
    exec (.completionPop w) s = .next { s with tbl := { s.tbl with fifo := rest, tags := s.tbl.tags.filter fun t => t ≠ k.tag } }) ∧
  (∀ (s : State), s.running pgTBL = true → s.effState ≠ .standby → s.tbl.folding = none →
    exec .foldStart s = .next { s with tbl := { s.tbl with folding := s.foldable } }) ∧
  (∀ (u : Fin 16) (key : Fin 7340032) (s : State), s.running pgTBL = true → s.effState ≠ .standby → s.pend u = true → s.tbl.folding = some u.val → ((s.tbl.east.fold.filter fun e => e.1 = u.val) = [(u.val, key.val)]) → ((s.tbl.west.fold.filter fun e => e.1 = u.val) = []) → s.tbl.east.bad = [] → s.role = roleNone →
    ∃ t, exec .foldEnd s = .next t ∧ t.tbl.folding = none ∧
      t.tbl.east.fold = s.tbl.east.fold.filter (fun e => e.1 ≠ u.val) ∧ t.fb TBL.FOLDSTAT u = false ∧
      t.fb (HDR.IRQSTAT pgTBL) 1 = true ∧
      rowIs s.tbl.east t.tbl.east key (s.versionFix 0 (key / 524288) (key % 524288) u false) ∧
      t.tbl.west.rows = s.tbl.west.rows ∧
      t = { s with tbl := t.tbl, regs := t.regs, ver := t.ver, out := t.out, pci := s.pciBut t } ∧
      regsKept s t [TBL.FOLDSTAT, HDR.IRQSTAT pgTBL, VER.STALLS, HDR.IRQSTAT pgVER]) ∧
  (∀ (h : Half) (m : Nat) (r : Nat) (p : Fin 16) (s : State), s.running pgTBL = true → s.effState ≠ .standby → (s.half h).ageDue = 0 → (((List.range 16).filter fun q => (s.partn h q).en && (s.partn h q).ageen) = [p.val]) → (s.half h).partRows (s.partn h p) = [(m, r)] → (s.half h).isBad m r = false → (s.half h).locked m r = false → (s.partn h p).fmt = 3 → bit (entCtl ((s.half h).row m r) 3 0) 17 = true → bit (entCtl ((s.half h).row m r) 3 0) 28 = false → s.role = roleNone →
    ∃ t, exec (.agingPass h) s = .next t ∧
      (let img := (s.half h).row m r;
       let live := (s.half h).hits.contains (hitKey ⟨m, r, 0⟩);
       let v := ageVisit (s.f (TBL.AGECFG h) 17 16) live (entCtl img 3 0);
       rowIs (s.half h) (t.half h) (memKey m r) (entPut img 3 0 v.1 (entKey img 3 0)) ∧
       (v.2 = true → s.running pgLRN = true → (s.half h).notices.length < 8192 →
         ((t.half h).notices.map fun n => (n.type, n.key)) =
           ((s.half h).notices.map fun n => (n.type, n.key)) ++ [(ntAGED, BitVec.ofNat 64 (entKey img 3 0))])) ∧
      t.rd (TBL.AGEPASS h) = s.rd (TBL.AGEPASS h) + 1 ∧
      (t.half h).ageDue = s.now + s.f (TBL.AGECFG h) 15 0 * 1000000 ∧
      t = { s.until 0 with regs := t.regs, tbl := t.tbl, out := t.out, pci := (s.until 0).pciBut t } ∧
      regsKept (s.until 0) t [TBL.AGEPASS h, LRN.OFFDROP h, LRN.QDROP h, HDR.IRQSTAT pgLRN]) ∧
  (∀ (h : Half) (row : Nat) (b : Nat) (s : State), s.running pgTBL = true → row % 524288 < rowMax (row / 524288) → (s.half h).isBad (row / 524288) (row % 524288) = false → s.effState ≠ .standby →
    ∃ t, exec (.tableScrub h row [b]) s = .next t ∧
      (t.rd TBL.SCRUBFIX).toNat = min ((s.rd TBL.SCRUBFIX).toNat + 1) 4294967295 ∧ t.fb (HDR.FLTSTAT pgTBL) 0 = true ∧
      t = { s with regs := t.regs, flt := t.flt } ∧
      regsKept s t ([TBL.SCRUBFIX, HDR.FLTSTAT pgTBL, HDR.FLTCNT pgTBL] ++ perfKeys pgTBL)) ∧
  (∀ (h : Half) (row : Nat) (flip : List Nat) (s : State), (s.running pgTBL = false ∨ rowMax (row / 524288) ≤ row % 524288 ∨
      ((s.half h).isBad (row / 524288) (row % 524288) = false ∧ (flip = [] ∨ (flip.length = 1 ∧ s.effState = .standby)))) →
    exec (.tableScrub h row flip) s = .next s) ∧
  (∀ (h : Half) (row : Nat) (b : Nat) (c : Nat) (s : State), s.running pgTBL = true → row % 524288 < rowMax (row / 524288) → b ≠ c →
    ∃ t, exec (.tableScrub h row [b, c]) s = .next t ∧
      (t.half h).isBad (row / 524288) (row % 524288) = true ∧
      (t.rd TBL.SCRUBUNC).toNat = min ((s.rd TBL.SCRUBUNC).toNat + 1) 4294967295 ∧
      t.fb (HDR.IRQSTAT pgTBL) 3 = true ∧ t.fb (HDR.FLTSTAT pgTBL) 1 = true ∧ (t.half h).rows = (s.half h).rows ∧
      t.half (1 - h.val) = s.half (1 - h.val) ∧
      t = { s with regs := t.regs, tbl := t.tbl, flt := t.flt, out := t.out, pci := s.pciBut t } ∧
      regsKept s t ([TBL.SCRUBUNC, HDR.IRQSTAT pgTBL, HDR.FLTSTAT pgTBL, HDR.FLTCNT pgTBL] ++ perfKeys pgTBL)) ∧
  (∀ (h : Half) (bank : Fin 96) (row : Fin 2048) (s : State), (bank ≠ 95 ∨ row ≠ 2047) →
    exec (.shadowCompare h bank row 0) s = .next s ∧
      (s.effState = .standby → ∀ e, exec (.shadowCompare h bank row e) s = .next s)) ∧
  (∀ (h : Half) (bank : Fin 96) (row : Fin 2048) (s : State), s.running pgTCM = true → s.effState ≠ .standby → (bank ≠ 95 ∨ row ≠ 2047) →
    ∃ t, exec (.shadowCompare h bank row 1) s = .next t ∧
      (t.rd TCM.SHADOWFIX).toNat = min ((s.rd TCM.SHADOWFIX).toNat + 1) 4294967295 ∧
      t.fb (HDR.IRQSTAT pgTCM) 0 = true ∧ t.fb (HDR.FLTSTAT pgTCM) 0 = true ∧
      t = { s with regs := t.regs, flt := t.flt, out := t.out, pci := s.pciBut t } ∧
      regsKept s t ([TCM.SHADOWFIX, HDR.IRQSTAT pgTCM, HDR.FLTSTAT pgTCM, HDR.FLTCNT pgTCM] ++ perfKeys pgTCM)) ∧
  (∀ (h : Half) (bank : Fin 96) (row : Fin 2048) (s : State), s.running pgTCM = true → (bank ≠ 95 ∨ row ≠ 2047) → s.effState ≠ .standby → s.pondW h (bank.val * 2048 + row.val) = 1 → s.role = roleNone →
    ∃ t, exec (.shadowCompare h bank row 2) s = .next t ∧
      rowIs (s.half h) (t.half h) (memKey 13 (bank.val * 2048 + row.val))
        (setBit ((s.half h).row 13 (bank.val * 2048 + row.val)) 273 false) ∧
      (t.rd TCM.SHADOWLOST).toNat = min ((s.rd TCM.SHADOWLOST).toNat + 1) 4294967295 ∧
      t.fb (HDR.IRQSTAT pgTCM) 1 = true ∧ t.fb (HDR.FLTSTAT pgTCM) 1 = true ∧
      t = { s with regs := t.regs, tbl := t.tbl, flt := t.flt, out := t.out, pci := s.pciBut t }) ∧
  (∀ (h : Half) (x : Nat × Nat) (s : State), s.running pgTCM = true → kgetD s.tbl.sweeps h (0, 0) = x →
    ∃ t, exec (.shadowCompare h 95 2047 0) s = .next t ∧
      kgetD t.tbl.sweeps h (0, 0) = (s.now, s.now - x.1) ∧ mapKept s.tbl.sweeps t.tbl.sweeps [h.val] ∧
      (t.rd TCM.SWEEPUS).toNat =
        min (max (s.now - x.1) (kgetD s.tbl.sweeps (1 - h.val) (0, 0)).2 / 1000) 4294967295 ∧
      t = { s with tbl := { s.tbl with sweeps := t.tbl.sweeps }, regs := t.regs } ∧ regsKept s t [TCM.SWEEPUS]) ∧
  (∀ (h : Half) (d : Nat) (s : State), s.running pgTBL = true → s.effState ≠ .standby → (s.half h).ageDue = d → 0 < d → (((List.range 16).filter fun q => (s.partn h q).en && (s.partn h q).ageen) = []) →
    ∃ t, exec (.agingPass h) s = .next t ∧ t.now = max s.now d ∧
      (let per := s.f (TBL.AGECFG h) 15 0 * 1000000;
       let slip : Bool := decide (d + per ≤ t.now);
       t.half h = { s.half h with ageDue := if slip then t.now else d + per } ∧
       t.rd (TBL.AGEPASS h) = s.rd (TBL.AGEPASS h) + 1 ∧
       (t.rd (TBL.AGESLIP h)).toNat = min ((s.rd (TBL.AGESLIP h)).toNat + b2n slip) 4294967295 ∧
       (slip = true → t.fb (HDR.IRQSTAT pgTBL) irqAGESLIP = true) ∧
       t = { s.until d with regs := t.regs, tbl := t.tbl, out := t.out, pci := (s.until d).pciBut t } ∧
       t.half (1 - h.val) = s.half (1 - h.val) ∧
       regsKept (s.until d) t (TBL.AGEPASS h :: if slip then [TBL.AGESLIP h, HDR.IRQSTAT pgTBL] else []))) ∧
  (∀ (g : PgIx) (s : State), exec (.backgroundSlot g) s = .next s)

/-- A commit (R161) closes the OPEN slot: with no command outstanding it is refused for its VERERR bit, waits for a FREE slot and
for HOLD's end, and switches: its slot becomes CURRENT and the FREE one OPEN. An abort (R162) undoes the slot's rows and
reopens it. A write that may not be accepted counts BADACC. -/
def Obligations.VersionsComplete : Prop :=
  (∀ (w : Word) (v : Nat) (n : Nat) (s : State), s.dev.state ≠ .load → fld w 1 0 = 1 → s.running pgVER = true → s.effState ≠ .standby → s.ver.openV = some v → ({ s with ver := { s.ver with upTo := s.tbl.seq } } : State).outstanding v = false → s.fb TBL.VERERR v = false → s.freeSlot = some n →
    exec (.commitOpen w) s = .next { s with ver := { s.ver with
        busy := .commit v (if s.dev.state = .hold then 3 else 4), upTo := s.tbl.seq, refused := false } }) ∧
  (∀ (w : Word) (s : State), s.dev.state ≠ .load → s.initialising = false → s.busy pgVER = false → fld w 1 0 ≠ 0 → (fld w 1 0 = 3 ∨ s.ver.openV = none ∨ s.running pgVER = false ∨ s.effState = .standby) →
    ∃ t, exec (.commitOpen w) s = .next t ∧ exec (.abortCommit w) s = .next t ∧
      t.f DEV.BADACC 31 0 = min (s.f DEV.BADACC 31 0 + 1) 4294967295 ∧ onlyRegs s t [DEV.BADACC]) ∧
  (∀ (v : Nat) (w : Nat) (s : State), s.ver.busy = .commit v w → w < 2 → s.outstanding v = false → s.fb TBL.VERERR v = true → s.dev.state ≠ .hold →
    ∃ t, exec .commitRefused s = .next t ∧ t.ver = { s.ver with busy := .none_, refused := true } ∧
      t.fb (HDR.IRQSTAT pgVER) 1 = true ∧ t = { s with ver := t.ver, regs := t.regs, out := t.out, pci := s.pciBut t } ∧
      regsKept s t [HDR.IRQSTAT pgVER]) ∧
  (∀ (v : Fin 16) (w : Nat) (n : Nat) (s : State), s.ver.busy = .commit v.val w → s.commitWait v w = 4 → s.freeSlot = some n → s.ver.slots.length = 16 → s.ver.slot v = .open_ → s.role = roleNone →
    ∃ t, exec .commitSwitch s = .next t ∧
      t.ver.slot v = .current ∧ t.ver.slot n = .open_ ∧ t.ver.busy = .none_ ∧
      (∀ i : Fin 16, i ≠ v → i.val ≠ n → s.ver.slot i = .current → t.ver.slot i = .live ∨ t.ver.slot i = .free) ∧
      (t.rd VER.COMMITS).toNat = min ((s.rd VER.COMMITS).toNat + 1) 4294967295 ∧
      t.rd64 VER.LASTCOMMIT_LO VER.LASTCOMMIT_HI = s.tai ∧ t.fb (HDR.IRQSTAT pgVER) 0 = true ∧
      t = { s with ver := t.ver, regs := t.regs, out := t.out, pci := s.pciBut t } ∧
      regsKept s t [TBL.VERERR, VER.COMMITS, VER.LASTCOMMIT_LO, VER.LASTCOMMIT_HI, HDR.IRQSTAT pgVER]) ∧
  (∀ (w : Word) (v : Nat) (s : State), s.dev.state ≠ .load → fld w 1 0 = 2 → s.running pgVER = true → s.effState ≠ .standby → s.ver.openV = some v →
    exec (.abortCommit w) s = .next { s with ver := { s.ver with busy := .abort v, upTo := s.tbl.seq } }) ∧
  (∀ (v : Fin 16) (key : Fin 7340032) (s : State), s.ver.busy = .abort v.val → s.outstanding v = false → ((s.tbl.east.fold.filter fun e => e.1 = v.val) = [(v.val, key.val)]) → ((s.tbl.west.fold.filter fun e => e.1 = v.val) = []) → s.tbl.east.bad = [] → s.role = roleNone →
    ∃ t, exec .abortUndoEnd s = .next t ∧
      t.ver = { s.ver with busy := .none_, refused := false } ∧
      t.tbl.east.fold = s.tbl.east.fold.filter (fun e => e.1 ≠ v.val) ∧ t.fb TBL.FOLDSTAT v = false ∧
      t.fb TBL.VERERR v = false ∧ t.fb (HDR.IRQSTAT pgVER) 3 = true ∧
      rowIs s.tbl.east t.tbl.east key (s.versionFix 0 (key / 524288) (key % 524288) v true) ∧
      t.tbl.west.rows = s.tbl.west.rows ∧
      t = { s with tbl := t.tbl, regs := t.regs, ver := t.ver, out := t.out, pci := s.pciBut t } ∧
      regsKept s t [TBL.FOLDSTAT, TBL.VERERR, HDR.IRQSTAT pgVER])

/-- The journal (R379, R380): a row write of a command or a source lookup that changes the row enters it with the next JSEQ; where
it is full the entry is discarded, STALE fires and the peer is STALE. -/
def Obligations.TableWritesJournaled : Prop :=
  (∀ (h : Half) (mem : Nat) (row : Nat) (v : Nat) (s : State), s.role = roleActive → s.peer ≠ stStale → s.evtEn = true → (s.half h).row mem row ≠ v → s.evt.journal.length < 16384 →
    (s.rowPut h mem row v).evt = { s.evt with
        journal := s.evt.journal ++ [(s.evt.jseq, .row h mem row (BitVec.ofNat 512 v), s.now)],
        jseq := (s.evt.jseq + 1) % 4294967296,
        sendAt := if s.evt.journal = [] then s.evt.jseq else s.evt.sendAt,
        ackAt := if s.evt.journal = [] then s.now else s.evt.ackAt } ∧
      s.rowPut h mem row v = { s with tbl := (s.rowPut h mem row v).tbl, evt := (s.rowPut h mem row v).evt } ∧
      rowIs (s.half h) ((s.rowPut h mem row v).half h) (memKey mem row) v) ∧
  (∀ (h : Half) (mem : Nat) (row : Nat) (v : Nat) (s : State), s.role = roleActive → s.peer ≠ stStale → s.evtEn = true → (s.half h).row mem row ≠ v → 16384 ≤ s.evt.journal.length → s.fb EVT.POLICY 0 = false →
    (let t := s.rowPut h mem row v;
       t.peer = stStale ∧ t.evt.journal = [] ∧ t.fb (HDR.FLTSTAT pgEVT) 2 = true ∧ t.fb (HDR.IRQSTAT pgEVT) 2 = true ∧
       (t.rd EVT.STALES).toNat = min ((s.rd EVT.STALES).toNat + 1) 4294967295 ∧
       t = { s with tbl := t.tbl, evt := t.evt, regs := t.regs, flt := t.flt, out := t.out, pci := s.pciBut t } ∧
       rowIs (s.half h) (t.half h) (memKey mem row) v))

/-- Notices (R249 to R252): an accepted notice joins its member's pending list, on time or late; one with a bad CRC is rejected;
a truncated one counts; a due capacity takes effect and a late decrease counts OVERBYTES. A member joins after JOINHOLD and is
excluded by its bit (R254). Heartbeats join the transmit queue after HBINT and after an EOB frame (R257, R258).
That a heartbeat goes behind the frames that wait for the port is the model's choice (log entry 23), and so are the
deadlines that set the time (log entry 6). -/
def Obligations.BondedTransmitComplete : Prop :=
  (∀ (k : Fin 4) (l : List Byte) (g : Fin 32) (m : Fin 16) (s : State), s.fb BLG.CNEN k = true → s.initialising = false → (noticeF l).crcOk = true → (noticeF l).fmtOk = true → s.memberOf (noticeF l).port = some (g.val, m.val) → s.f (BLG.MCFG g m) 11 9 = k → (s.mem g m).seen = false → s.tai + 10000 ≤ s.fullInstant (noticeF l).at_ → s.fullInstant (noticeF l).at_ ≤ s.tai + 1000000000 → (s.mem g m).pend.length < 4 →
    ∃ t, exec (.noticeReceived k l) s = .next t ∧
      t.mem g m = { s.mem g m with seen := true, pend := joinPend (s.mem g m).pend ⟨s.fullInstant (noticeF l).at_, s.fullInstant (noticeF l).at_, (noticeF l).cap⟩ } ∧
      t.f (BLG.MSTAT g m) 31 16 = (noticeF l).seq ∧
      (t.rd (BLG.CNACC k)).toNat = min ((s.rd (BLG.CNACC k)).toNat + 1) 4294967295 ∧
      t.f (BLG.CNLAST k) 3 0 = 0 ∧ mapKept s.blg.members t.blg.members [16 * g.val + m.val] ∧
      t = { s with regs := t.regs, blg := { s.blg with members := t.blg.members } } ∧
      regsKept s t [BLG.MSTAT g m, BLG.CNACC k, BLG.CNLAST k]) ∧
  (∀ (k : Fin 4) (l : List Byte) (s : State), s.fb BLG.CNEN k = true → s.initialising = false → (noticeF l).crcOk = false →
    ∃ t, exec (.noticeReceived k l) s = .next t ∧ t.f (BLG.CNLAST k) 3 0 = 2 ∧
      (t.rd (BLG.CNREJ k)).toNat = min ((s.rd (BLG.CNREJ k)).toNat + 1) 4294967295 ∧ t.fb (HDR.IRQSTAT pgBLG) 1 = true ∧
      onlyRegsOut s t [BLG.CNREJ k, BLG.CNLAST k, HDR.IRQSTAT pgBLG]) ∧
  (∀ (k : Fin 4) (s : State), s.fb BLG.CNEN k = true → s.initialising = false →
    ∃ t, exec (.noticeTruncated k) s = .next t ∧
      (t.rd (BLG.CNTRUNC k)).toNat = min ((s.rd (BLG.CNTRUNC k)).toNat + 1) 4294967295 ∧ onlyRegs s t [BLG.CNTRUNC k]) ∧
  (∀ (w : Word) (l : List Byte) (g : Fin 32) (m : Fin 16) (s : State), s.dev.state ≠ .load → l = beBytes 4 (s.rd BLG.HNOT0).toNat ++ beBytes 4 (s.rd BLG.HNOT1).toNat ++ beBytes 4 w.toNat → (noticeF l).crcOk = true → (noticeF l).fmtOk = true → s.memberOf (noticeF l).port = some (g.val, m.val) → (s.mem g m).seen = false → s.fullInstant (noticeF l).at_ < s.tai + 10000 → (noticeF l).cap < s.curCap g m → (s.mem g m).pend.length < 4 →
    ∃ t, exec (.hostNotice w) s = .next t ∧
      t.mem g m = { s.mem g m with seen := true, pend := joinPend (s.mem g m).pend ⟨s.fullInstant (noticeF l).at_, s.tai, (noticeF l).cap⟩ } ∧
      t.f (BLG.MSTAT g m) 31 16 = (noticeF l).seq ∧ t.f BLG.HNSTAT 3 0 = 1 ∧ t.rd BLG.HNOT2 = w ∧
      (t.rd (BLG.NLATE g m)).toNat = min ((s.rd (BLG.NLATE g m)).toNat + 1) 4294967295 ∧
      t.fb (HDR.IRQSTAT pgBLG) 0 = true ∧ mapKept s.blg.members t.blg.members [16 * g.val + m.val] ∧
      t = { s with regs := t.regs, blg := { s.blg with members := t.blg.members }, out := t.out, pci := s.pciBut t } ∧
      regsKept s t [BLG.MSTAT g m, BLG.HNSTAT, BLG.HNOT2, BLG.NLATE g m, HDR.IRQSTAT pgBLG]) ∧
  (∀ (g : Fin 32) (m : Fin 16) (n : PendCap) (s : State), s.fb (BLG.MCFG g m) 0 = true → firstDue (s.mem g m).pend = some n → n.cap < 2048 →
    ∃ t, exec (.capacityApply g m) s = .next t ∧
      t.curCap g m = n.cap ∧ (t.mem g m).pend = (s.mem g m).pend.erase n ∧
      (let u := s.untilInstant n.due;
       t.rd64 (BLG.OVERB_LO g m) (BLG.OVERB_HI g m) = (if n.cap < s.curCap g m ∧ n.at_ < u.tai then
          min 18446744073709551615 (s.rd64 (BLG.OVERB_LO g m) (BLG.OVERB_HI g m) + cdiv ((s.curCap g m - n.cap) * (u.tai - n.at_)) 8)
        else s.rd64 (BLG.OVERB_LO g m) (BLG.OVERB_HI g m)) ∧
       t = { u with regs := t.regs, sch := t.sch, blg := t.blg, out := t.out, pci := u.pciBut t } ∧
       mapKept u.blg.members t.blg.members [16 * g.val + m.val] ∧
       mapKept u.sch.buckets t.sch.buckets [2 * shCap (16 * g.val + m.val), 2 * shCap (16 * g.val + m.val) + 1] ∧
       regsKept u t ([SCH.CAP (16 * g.val + m.val), BLG.OVERB_LO g m, BLG.OVERB_HI g m, BLG.MSTAT g m, HDR.IRQSTAT pgBLG,
         SCH.XLOSTCNT, HDR.IRQSTAT pgSCH] ++ (List.range 160).map SCH.PSTAT))) ∧
  (∀ (g : Fin 32) (m : Fin 16) (t0 : Nat) (s : State), (s.mem g m).joinAt = some t0 → s.txState g m = 2 →
    ∃ t, exec (.memberJoin g m) s = .next t ∧
      t.txState g m = 3 ∧ t.mem g m = { s.mem g m with joinAt := none } ∧ t.fb (HDR.IRQSTAT pgBLG) 2 = true ∧
      t.now = max s.now (t0 + s.f BLG.TIMING 15 0 * 1000) ∧
      (let u := s.until (t0 + s.f BLG.TIMING 15 0 * 1000);
       t = { u with regs := t.regs, blg := { u.blg with members := t.blg.members }, out := t.out, pci := u.pciBut t } ∧
       mapKept u.blg.members t.blg.members [16 * g.val + m.val] ∧ regsKept u t [BLG.MSTAT g m, HDR.IRQSTAT pgBLG])) ∧
  (∀ (g : Fin 32) (m : Fin 16) (w : Word) (s : State), s.dev.state ≠ .load → s.busy pgBLG = false → s.memEn g m = true → s.fb (SCH.CAP (16 * g.val + m.val)) 16 = true → (s.txState g m = 2 ∨ s.txState g m = 3) → w = s.rd (BLG.MCFG g m) ||| 0x1000 → s.fb (BLG.MCFG g m) 12 = false → (s.rd (BLG.MCFG g m)).toNat < 8192 → ((List.range 32).all (fun i => (s.fb (BLG.GCFG i) 0 && s.running pgBLG) == decide (s.f (BLG.GSTAT i) 1 0 ≠ 0)) = true) →
    ∃ t, exec (.memberExclude g m w) s = .next t ∧
      t.txState g m = 4 ∧ t.rd (BLG.MCFG g m) = w ∧ t.fb (HDR.IRQSTAT pgBLG) 2 = true ∧
      t.mem g m = { s.mem g m with joinAt := none } ∧ mapKept s.blg.members t.blg.members [16 * g.val + m.val] ∧
      t = { s with regs := t.regs, blg := { s.blg with members := t.blg.members }, out := t.out, pci := s.pciBut t } ∧
      regsKept s t ([BLG.MCFG g m, BLG.MSTAT g m, SCH.CAP (16 * g.val + m.val), HDR.IRQSTAT pgBLG, SCH.XLOSTCNT, HDR.IRQSTAT pgSCH] ++
        (List.range 160).map SCH.PSTAT)) ∧
  (∀ (g : Fin 32) (m : Fin 16) (t0 : Nat) (s : State), s.hbMay g m = true → (s.mem g m).lastTx = some t0 → s.isProtected (s.memPort g m) = false →
    ∃ t, exec (.heartbeatSend g m) s = .next t ∧
      t.now = max s.now (t0 + s.f BLG.CFG 23 16 * 1000) ∧
      (let u := s.until (t0 + s.f BLG.CFG 23 16 * 1000);
       t.port (s.memPort g m) = { s.port (s.memPort g m) with
         txq := (s.port (s.memPort g m)).txq ++ [{ bytes := u.hbBytes g m, encrypted := false, holder := false }] } ∧
       t.mem g m = { s.mem g m with lastTx := some t.now } ∧
       t = { u with ports := t.ports, blg := t.blg } ∧ mapKept u.ports t.ports [s.memPort g m] ∧
       mapKept u.blg.members t.blg.members [16 * g.val + m.val])) ∧
  (∀ (g : Fin 32) (m : Fin 16) (s : State), (s.grp g).eob = [m.val] → s.hbMay g m = true → s.isProtected (s.memPort g m) = false →
    ∃ t, exec (.eobHeartbeat g) s = .next t ∧
      t.port (s.memPort g m) = { s.port (s.memPort g m) with
        txq := (s.port (s.memPort g m)).txq ++ [{ bytes := s.hbBytes g m, encrypted := false, holder := false }] } ∧
      t.mem g m = { s.mem g m with lastTx := some s.now } ∧ (t.grp g).eob = [] ∧
      t = { s with ports := t.ports, blg := t.blg } ∧ mapKept s.ports t.ports [s.memPort g m] ∧
      mapKept s.blg.members t.blg.members [16 * g.val + m.val] ∧ mapKept s.blg.groups t.blg.groups [g.val]) ∧
  (∀ (g : Fin 32) (m : Fin 16) (s : State), (s.hbBytes g m).length = 60)

/-- Shimmed frames (R261): a heartbeat refreshes its member and the far end's mask; a data frame joins its member's Eddy queue; one
with a bad shim CRC counts. The Eddy delivers the frame at NEXT without its shim into the home port's buffer (R263); LOSSTO
ends a gap and SYNC; silence ends RX-activity (R262); pages go out and come back (R266).
That the deadlines and instants set the time is the model's choice (log entry 6). -/
def Obligations.BondedReceiveComplete : Prop :=
  (∀ (p : Port) (k : Pkt) (rest : List Pkt) (g : Fin 32) (m : Fin 16) (s : State), (s.port p).shimq = k :: rest → s.isUp p = true → s.running pgBLG = true → (shimF k.bytes).crcOk = true → s.memberOf p = some (g.val, m.val) → (shimF k.bytes).group = g → (shimF k.bytes).member = m → (shimF k.bytes).hb = true →
    ∃ t, exec (.shimmedFrameReceived p) s = .next t ∧
      t.port p = { s.port p with shimq := rest } ∧ mapKept s.ports t.ports [p.val] ∧
      (t.mem g m).lastRx = some s.now ∧ (t.mem g m).q = (s.mem g m).q ∧
      t.f (BLG.MASKS g) 31 16 = beNat (slice k.bytes 22 2) ∧
      (t.rd (BLG.GCNT g 14)).toNat = min ((s.rd (BLG.GCNT g 14)).toNat + 1) 4294967295 ∧
      ((shimF k.bytes).cape = true → t.rd (BLG.CAPECHO g m) = BitVec.ofNat 32 (beNat (slice k.bytes 24 2) % 2048 + 65536)) ∧
      t = { s with regs := t.regs, ports := t.ports, blg := t.blg, out := t.out, pci := s.pciBut t }) ∧
  (∀ (p : Port) (k : Pkt) (rest : List Pkt) (g : Fin 32) (m : Fin 16) (s : State), (s.port p).shimq = k :: rest → s.isUp p = true → s.running pgBLG = true → (shimF k.bytes).crcOk = true → s.memberOf p = some (g.val, m.val) → (shimF k.bytes).group = g → (shimF k.bytes).member = m → (shimF k.bytes).hb = false → s.f (BLG.ETYPE (shimF k.bytes).etidx) 15 0 ≠ 0 → (s.mem g m).prev = none → s.f (BLG.GSTAT g) 1 0 = 2 → ((shimF k.bytes).seq + 4294967296 - (s.rd (BLG.RXNEXT g)).toNat) % 4294967296 < 2147483648 → s.eddyUse + k.cells ≤ 16384 → (s.mem g m).q.spill = false → s.basinUse = false →
    ∃ t, exec (.shimmedFrameReceived p) s = .next t ∧
      t.port p = { s.port p with shimq := rest } ∧ mapKept s.ports t.ports [p.val] ∧
      (∃ x, (t.mem g m).q = { (s.mem g m).q with head := (s.mem g m).q.head ++ [x] } ∧
        x.pkt = k ∧ x.enq = (shimF k.bytes).seq) ∧
      (t.mem g m).lastRx = some s.now ∧ (t.mem g m).prev = some (shimF k.bytes).seq ∧
      t = { s with regs := t.regs, ports := t.ports, blg := t.blg, out := t.out, pci := s.pciBut t } ∧
      mapKept s.blg.members t.blg.members [16 * g.val + m.val] ∧
      regsKept s t [BLG.RXHIGH g m, BLG.GCNT g 15, BLG.GCNT g 4, BLG.GCNT g 5, BLG.RXNEXT g, HDR.IRQSTAT pgBLG]) ∧
  (∀ (p : Port) (k : Pkt) (rest : List Pkt) (g : Fin 32) (m : Fin 16) (s : State), (s.port p).shimq = k :: rest → s.running pgBLG = true → (shimF k.bytes).crcOk = false → s.memberOf p = some (g.val, m.val) →
    ∃ t, exec (.shimmedFrameReceived p) s = .next t ∧
      (t.rd (BLG.GCNT g 10)).toNat = min ((s.rd (BLG.GCNT g 10)).toNat + 1) 4294967295 ∧
      t = { s.setPort p { s.port p with shimq := rest } with regs := t.regs } ∧ regsKept s t [BLG.GCNT g 10]) ∧
  (∀ (g : Fin 32) (m : Fin 16) (x : QPkt) (s : State), s.f (BLG.GSTAT g) 1 0 = 2 → (s.mem g m).q = { head := [x] } → ((List.range 16).all (fun i => i = m.val || (s.mem g i).q = {}) = true) → x.enq = (s.rd (BLG.RXNEXT g)).toNat → (s.unshim (s.memPort g (s.f (BLG.GCFG g) 4 1)) x.pkt).len ≤ s.rxRoom (pgOf (s.memPort g (s.f (BLG.GCFG g) 4 1))) →
    ∃ t, exec (.eddyDeliver g) s = .next t ∧
      (let home := s.memPort g (s.f (BLG.GCFG g) 4 1);
       (t.pg (pgOf home)).rxbuf = (s.pg (pgOf home)).rxbuf ++ [s.unshim home x.pkt] ∧ mapKept s.pgs t.pgs [pgOf home]) ∧
      (t.mem g m).q = {} ∧ t.rd (BLG.RXNEXT g) = s.rd (BLG.RXNEXT g) + 1 ∧
      (t.rd (BLG.GCNT g 3)).toNat = min ((s.rd (BLG.GCNT g 3)).toNat + 1) 4294967295 ∧ (t.grp g).gapAt = none ∧
      t = { s with regs := t.regs, pgs := t.pgs, blg := t.blg } ∧
      mapKept s.blg.members t.blg.members [16 * g.val + m.val] ∧
      regsKept s t ([BLG.RXNEXT g, BLG.GCNT g 3] ++ perfKeys pgBLG)) ∧
  (∀ (g : Fin 32) (t0 : Nat) (n : Nat) (s : State), (s.grp g).gapAt = some t0 → (lowestSeq ((s.eddyHeads g).map fun e => e.2.enq) = some n) →
    ∃ t, exec (.gapLossTimeout g) s = .next t ∧
      t.rd (BLG.RXNEXT g) = BitVec.ofNat 32 n ∧ (t.grp g).gapAt = none ∧ t.fb (HDR.IRQSTAT pgBLG) 3 = true ∧
      t.now = max s.now (t0 + s.f (BLG.LOSSTO g) 11 0 * 1000) ∧
      (let u := s.until (t0 + s.f (BLG.LOSSTO g) 11 0 * 1000);
       let skip := (n + 4294967296 - (s.rd (BLG.RXNEXT g)).toNat) % 4294967296;
       (skip ≤ (s.rd BLG.JUMPTH).toNat → (t.rd (BLG.GCNT g 4)).toNat = min ((s.rd (BLG.GCNT g 4)).toNat + skip) 4294967295) ∧
       ((s.rd BLG.JUMPTH).toNat < skip → (t.rd (BLG.GCNT g 5)).toNat = min ((s.rd (BLG.GCNT g 5)).toNat + 1) 4294967295) ∧
       t = { u with regs := t.regs, blg := { u.blg with groups := t.blg.groups }, out := t.out, pci := u.pciBut t } ∧
       regsKept u t [BLG.RXNEXT g, BLG.GCNT g 4, BLG.GCNT g 5, HDR.IRQSTAT pgBLG])) ∧
  (∀ (g : Fin 32) (t0 : Nat) (n : Fin 4294967296) (s : State), (s.grp g).syncAt = some t0 → (lowestSeq ((s.eddyHeads g).map fun e => e.2.enq) = some n.val) →
    ∃ t, exec (.syncTimeout g) s = .next t ∧
      (t.rd (BLG.RXNEXT g)).toNat = n ∧ t.f (BLG.GSTAT g) 1 0 = 2 ∧ (t.grp g).syncAt = none ∧ (t.grp g).gapAt = none ∧
      t.now = max s.now (t0 + s.f (BLG.LOSSTO g) 11 0 * 1000) ∧
      (let u := s.until (t0 + s.f (BLG.LOSSTO g) 11 0 * 1000);
       t = { u with regs := t.regs, blg := { u.blg with groups := t.blg.groups } } ∧ regsKept u t [BLG.RXNEXT g, BLG.GSTAT g])) ∧
  (∀ (g : Fin 32) (m : Fin 16) (t0 : Nat) (s : State), (s.mem g m).lastRx = some t0 → (s.eddyHeads g) = [] →
    ∃ t, exec (.rxActiveTimeout g m) s = .next t ∧
      t.mem g m = { s.mem g m with lastRx := none } ∧ t.now = max s.now (t0 + s.f BLG.TIMING 31 16 * 1000) ∧
      (let u := s.until (t0 + s.f BLG.TIMING 31 16 * 1000);
       t = { u with blg := t.blg } ∧ mapKept u.blg.members t.blg.members [16 * g.val + m.val] ∧
       mapKept u.blg.groups t.blg.groups [g.val])) ∧
  (∀ (r : DReq) (g : Nat) (m : Nat) (p : PageRec) (s : State) (u : State), s.drcTake dpEDDYW true = some (r, u) → r.fin = some true → (s.eddyPage (fun v => v.outbound) r.client = some (g, m, p)) → (s.mem g m).q.outbound = [p] → p.drop = false →
    ∃ t, exec .eddySpillDone s = .next t ∧
      t = (u.setEq g m { (s.mem g m).q with outbound := [], middle := (s.mem g m).q.middle ++ [{ p with ends := [] }] }).eddyPump g m ∧
      u = ({ s with drc := { s.drc with reqs := s.drc.reqs.filter fun y => y.id ≠ r.id } } : State).drcSweep) ∧
  (∀ (r : DReq) (g : Nat) (m : Nat) (p : PageRec) (s : State) (u : State), s.drcTake dpEDDYR false = some (r, u) → r.fin = some true → (s.eddyPage (fun v => v.inbound) r.client = some (g, m, p)) → (s.mem g m).q.inbound = [p] → p.split = false → p.cont = 0 → p.contEnds = false →
    ∃ t, exec .eddyRefillReturn s = .next t ∧
      t = ((u.givePage ownEDDY p.page).setEq g m { (s.mem g m).q with
        inbound := [], partialIn := none, head := (s.mem g m).q.head ++ p.starts }).eddyPump g m ∧
      t.bpm.rets = s.bpm.rets ++ [(ownEDDY, p.page)])

/-- The CPU packet port (R330 to R333): a good descriptor's frame enters its piste with the user's source port and its descriptor
is written back; a bad one is written back with its status; a packet of a host queue is delivered and leaves the queue; with no
queue pair running it is discarded. A held completion sends its message when HOLDOFF has passed (R328).
That the deadlines and instants set the time is the model's choice (log entry 6). -/
def Obligations.CpuPortComplete : Prop :=
  (∀ (u : Fn) (q : Fin 8) (d : List Byte) (b : List Byte) (s : State), s.txHeld u q = none → s.txTurn u q = true → s.txTakes u q = true → txFits (.data d) (.data b) = true → txStatus (.data d) (.data b) = 0 → s.injOk u = true → (s.rd64 (USER.TXRING_LO u q) (USER.TXRING_HI u q) + 16 * s.f (IDX.TXCIDX u q) 11 0 + 12) % 4096 ≤ 4092 →
    ∃ t, exec (.cpuTxInject u q (.data d) (.data b)) s = .next t ∧
      (∃ p, (t.ip (s.qpPiste u q)).cpuIn = (s.ip (s.qpPiste u q)).cpuIn ++ [p] ∧ p.bytes = b.drop 16 ∧
        p.m.srcPort = 160 + u.val ∧ p.m.cls = (b.headD 0).toNat % 8) ∧ mapKept s.ips t.ips [s.qpPiste u q] ∧
      Out.hostWrite u (s.rd64 (USER.TXRING_LO u q) (USER.TXRING_HI u q) + 16 * s.f (IDX.TXCIDX u q) 11 0 + 12) (leBytes 4 1) ∈
        t.out.drop s.out.length ∧
      t.f (IDX.TXCIDX u q) 11 0 = (s.f (IDX.TXCIDX u q) 11 0 + 1) % s.txSize u q % 4096 ∧
      (t.rd (USER.TXPKTS u q)).toNat = min ((s.rd (USER.TXPKTS u q)).toNat + 1) 4294967295 ∧
      (t.rd (HST.INJPKTS u)).toNat = min ((s.rd (HST.INJPKTS u)).toNat + 1) 4294967295 ∧
      t.fb (USER.QIRQSTAT u q) 1 = true ∧
      kget? t.hst.buckets u = some (s.injLvl u - ((b.length - 16 + 4) * 8000 : Nat), s.now) ∧
      kget? t.hst.uLast (s.qpPiste u q) = some u.val ∧ kget? t.hst.qLast u = some q.val ∧ t.hst.fetched = s.hst.fetched ∧
      mapKept s.hst.uLast t.hst.uLast [s.qpPiste u q] ∧ mapKept s.hst.qLast t.hst.qLast [u.val] ∧
      t = { s with regs := t.regs, ips := t.ips, hst := t.hst, out := t.out, pci := s.pciBut t, free := s.free + 1 } ∧
      regsKept s t ([IDX.TXCIDX u q, USER.TXPKTS u q, HST.INJPKTS u, USER.QIRQSTAT u q] ++ perfKeys pgHST)) ∧
  (∀ (u : Fn) (q : Fin 8) (d : List Byte) (b : Cpl) (s : State), s.txHeld u q = none → s.txTurn u q = true → s.txTakes u q = true → txFits (.data d) b = true → txStatus (.data d) b = 1 →
    ∃ t, exec (.cpuTxInject u q (.data d) b) s = .next t ∧
      t.f (IDX.TXCIDX u q) 11 0 = (s.f (IDX.TXCIDX u q) 11 0 + 1) % s.txSize u q % 4096 ∧
      (t.rd (USER.TXERRS u q)).toNat = min ((s.rd (USER.TXERRS u q)).toNat + 1) 4294967295 ∧
      t.fb (USER.QIRQSTAT u q) 1 = true ∧ t.fb (USER.QIRQSTAT u q) 2 = true ∧
      kget? t.hst.uLast (s.qpPiste u q) = some u.val ∧ kget? t.hst.qLast u = some q.val ∧ t.hst.fetched = s.hst.fetched ∧
      t = { s with regs := t.regs, hst := t.hst, out := t.out, pci := s.pciBut t } ∧
      regsKept s t [IDX.TXCIDX u q, USER.TXERRS u q, USER.QIRQSTAT u q]) ∧
  (∀ (u : Fn) (q : Fin 8) (d : List Byte) (b : List Byte) (s : State), s.txHeld u q = none → s.txTurn u q = true → txFits (.data d) (.data b) = true → txStatus (.data d) (.data b) = 0 → s.injOk u = false →
    ∃ t, exec (.cpuTxInject u q (.data d) (.data b)) s = .next t ∧
      kget? t.hst.fetched (u.val * 8 + q.val) = some b ∧ mapKept s.hst.fetched t.hst.fetched [u.val * 8 + q.val] ∧
      kget? t.hst.uLast (s.qpPiste u q) = some u.val ∧ kget? t.hst.qLast u = some q.val ∧ t.hst.buckets = s.hst.buckets ∧
      t = { s with hst := t.hst, out := t.out }) ∧
  (∀ (u : Fn) (q : Fin 8) (d : Cpl) (b : Cpl) (l : List Byte) (s : State), s.txHeld u q = some l → s.txTurn u q = true →
    ∃ t, exec (.cpuTxInject u q d b) s = .next t ∧
      (∃ p, (t.ip (s.qpPiste u q)).cpuIn = (s.ip (s.qpPiste u q)).cpuIn ++ [p] ∧ p.bytes = l.drop 16) ∧
      t.hst.fetched = kerase s.hst.fetched (u.val * 8 + q.val) ∧
      t.f (IDX.TXCIDX u q) 11 0 = (s.f (IDX.TXCIDX u q) 11 0 + 1) % s.txSize u q % 4096 ∧
      (t.rd (USER.TXPKTS u q)).toNat = min ((s.rd (USER.TXPKTS u q)).toNat + 1) 4294967295 ∧
      kget? t.hst.buckets u = some (s.injLvl u - ((l.length - 16 + 4) * 8000 : Nat), s.now) ∧
      t = { s with regs := t.regs, ips := t.ips, hst := t.hst, out := t.out, pci := s.pciBut t, free := s.free + 1 } ∧
      regsKept s t ([IDX.TXCIDX u q, USER.TXPKTS u q, HST.INJPKTS u, USER.QIRQSTAT u q] ++ perfKeys pgHST)) ∧
  (∀ (u : Fn) (q : Fin 8) (d : Cpl) (b : Cpl) (l : List Byte) (s : State), s.txHeld u q = some l → s.txRuns u q = false → s.userOk u = true →
    ∃ t, exec (.cpuTxInject u q d b) s = .next t ∧
      t.hst.fetched = kerase s.hst.fetched (u.val * 8 + q.val) ∧
      t.f (IDX.TXCIDX u q) 11 0 = (s.f (IDX.TXCIDX u q) 11 0 + 1) % s.txSize u q % 4096 ∧
      (t.rd (USER.TXERRS u q)).toNat = min ((s.rd (USER.TXERRS u q)).toNat + 1) 4294967295 ∧
      t.ips = s.ips ∧ t = { s with regs := t.regs, hst := t.hst, out := t.out, pci := s.pciBut t } ∧
      regsKept s t [IDX.TXCIDX u q, USER.TXERRS u q, USER.QIRQSTAT u q]) ∧
  (∀ (u : Fn) (q : Fin 8) (x : QPkt) (ring : List Byte) (s : State), ((s.tmg.queues.any fun e => e.2.spill) = false) → s.headDiscard (hostQ u q) = none → s.headPkt (hostQ u q) = some x → x.pkt.m.vertag < 16 → s.role = roleNone → s.rxRuns u q = true → s.rxNeeds u q x ≤ s.rxPosted u q → 16 * s.rxNeeds u q x ≤ ring.length →
    ∃ t, exec (.cpuRxDeliver u q ring) s = .next t ∧
      (t.tq (hostQ u q)).head = (s.tq (hostQ u q)).head.filter (fun y => y.id ≠ x.id) ∧
      t.f (IDX.RXCIDX u q) 11 0 = (s.f (IDX.RXCIDX u q) 11 0 + s.rxNeeds u q x) % s.rxSize u q % 4096 ∧
      (t.rd (USER.RXPKTS u q)).toNat = min ((s.rd (USER.RXPKTS u q)).toNat + 1) 4294967295 ∧
      t.fb (USER.QIRQSTAT u q) 0 = true ∧
      t.f (TMG.HOLD x.pkt.m.vertag) 31 0 = s.f (TMG.HOLD x.pkt.m.vertag) 31 0 - 1 ∧
      t.f (VER.HOLDERS x.pkt.m.vertag) 31 0 = s.f (VER.HOLDERS x.pkt.m.vertag) 31 0 - 1 ∧
      mapKept s.tmg.queues t.tmg.queues [hostQ u q] ∧ mapKept s.tmg.data t.tmg.data [x.data] ∧
      t = { s with regs := t.regs, ver := t.ver, tmg := { s.tmg with queues := t.tmg.queues, data := t.tmg.data }, hst := t.hst,
                   evt := t.evt, out := t.out, pci := s.pciBut t } ∧
      regsKept s t ((List.range 40).map TMG.XOFFSTATE ++ [TMG.HOLD x.pkt.m.vertag, VER.HOLDERS x.pkt.m.vertag,
        IDX.RXCIDX u q, USER.RXPKTS u q, USER.QIRQSTAT u q])) ∧
  (∀ (u : Fn) (q : Fin 8) (x : QPkt) (ring : List Byte) (s : State), ((s.tmg.queues.any fun e => e.2.spill) = false) → s.headDiscard (hostQ u q) = none → s.headPkt (hostQ u q) = some x → x.pkt.m.vertag < 16 → s.role = roleNone → s.rxRuns u q = false →
    ∃ t, exec (.cpuRxDeliver u q ring) s = .next t ∧
      (t.tq (hostQ u q)).head = (s.tq (hostQ u q)).head.filter (fun y => y.id ≠ x.id) ∧
      (t.rd (HST.RXNOQP u)).toNat = min ((s.rd (HST.RXNOQP u)).toNat + 1) 4294967295 ∧ t.fb (HDR.IRQSTAT pgHST) 2 = true ∧
      t = { s with regs := t.regs, ver := t.ver, tmg := { s.tmg with queues := t.tmg.queues, data := t.tmg.data },
                   evt := t.evt, out := t.out, pci := s.pciBut t } ∧
      regsKept s t ((List.range 40).map TMG.XOFFSTATE ++ [TMG.HOLD x.pkt.m.vertag, VER.HOLDERS x.pkt.m.vertag,
        HST.RXNOQP u, HDR.IRQSTAT pgHST])) ∧
  (∀ (u : Fn) (q : Fin 8) (t0 : Nat) (s : State), kget? s.hst.sent (u.val * 8 + q.val) = some t0 → s.hst.waits.contains (u.val * 8 + q.val) = true → (s.rd (USER.QIRQSTAT u q) &&& ~~~ (s.rd (USER.QIRQMASK u q))) ≠ 0 →
    ∃ t, exec (.qpHoldoffExpire u q) s = .next t ∧
      t.now = max s.now (t0 + s.f (USER.HOLDOFF u q) 15 0 * 1000) ∧
      (let w := s.until (t0 + s.f (USER.HOLDOFF u q) 15 0 * 1000);
       t = { w with hst := t.hst, out := w.out ++ w.message u (1 + q),
                    pci := { w.pci with vecPend := w.pendAfter u (1 + q) } } ∧
       t.hst = { w.hst with
         sent := kset w.hst.sent (u.val * 8 + q.val) t.now, waits := w.hst.waits.filter fun x => x ≠ u.val * 8 + q.val }))

/-- DMA (R334 to R342): a channel fetches its next descriptor, and stops on a failed read; the ready channel next in turn starts its
transfer or completes with the check's status; returned data goes on to the destination; a timeout is a beat error; a
transfer whose bytes and acknowledgements are through completes; EN 0 stops it.
These are the model's choice: the pieces at Max Payload Size and 4 KiB (log entry 54), the length of a completion
timeout (log entry 125), the AER bits (log entry 126), and the deadlines that set the time (log entry 6). -/
def Obligations.DmaComplete : Prop :=
  (∀ (u : Fn) (c : Fin 32) (w : Word) (s : State), s.fnHere u = true → s.dev.state ≠ .load → s.userCh u = some c.val → fld w 0 0 = 1 →
    ∃ t, exec (.dmaEnable u w) s = .next t ∧ t.fb (DMA.DCTL c) 0 = true ∧
      t.dmaSt c = (if s.dmaSt c = dsFETCHERR then dsIDLE else s.dmaSt c) ∧ onlyRegs s t [DMA.DCTL c, DMA.DSTAT c]) ∧
  (∀ (u : Fn) (c : Fin 32) (w : Word) (s : State), s.fnHere u = true → s.dev.state ≠ .load → s.userCh u = some c.val → fld w 0 0 = 0 → s.dmaSt c = dsACTIVE → s.drc.reqs = [] →
    ∃ t, exec (.dmaStop u w) s = .next t ∧ t.fb (DMA.DCTL c) 0 = false ∧ t.dmaSt c = dsSTOPPING ∧
      t.dma = { s.dma with act := s.dma.act.map fun x => { x with
        stop := true, buf := [],
        reads := (match (s.dch x.ch).desc with | some d => if dSrcSp d = spHOST then x.reads else [] | none => []) } } ∧
      t = { s with regs := t.regs, dma := t.dma } ∧ regsKept s t [DMA.DCTL c, DMA.DSTAT c]) ∧
  (∀ (c : Fin 32) (d : List Byte) (s : State), s.dmaFetches c = true → d.length = 32 → s.dmaAtOnce c d = none →
    ∃ t, exec (.dmaDescFetch c (.data d)) s = .next t ∧
      t.dch c = { s.dch c with desc := some d, latch := false } ∧ mapKept s.dma.chans t.dma.chans [c.val] ∧
      t.dmaSt c = (if dTrig d = 0 then dsREADY else dsWAITTRIG) ∧
      t = { s with regs := t.regs, dma := { s.dma with chans := t.dma.chans }, out := t.out, pci := s.pciBut t } ∧ regsKept s t [DMA.DSTAT c]) ∧
  (∀ (c : Fin 32) (k : Cpl) (n : Nat) (s : State), s.dmaFetches c = true → cplKind k = some n →
    ∃ t, exec (.dmaDescFetch c k) s = .next t ∧
      t.dmaSt c = dsFETCHERR ∧ t.fb (DMA.DCTL c) 0 = false ∧ t.fb (DMA.DIRQSTAT c) 1 = true ∧
      t.f HST.LASTCPLERR 9 8 = n ∧ t.f HST.LASTCPLERR 5 0 = s.dmaOwner c ∧
      (t.rd HST.CPLERR).toNat = min ((s.rd HST.CPLERR).toNat + 1) 4294967295 ∧
      t.fb (HDR.IRQSTAT pgHST) 1 = true ∧ t.fb (HDR.IRQSTAT pgDMA) 1 = true ∧
      t.fb (HDR.FLTSTAT pgHST) 1 = true ∧ t.fb (HDR.FLTSTAT pgDMA) 0 = true ∧ t.dma = s.dma ∧
      (let w := if n = 3 then s.until (s.now + cplTmoNs (kgetD s.pci.cplTmo (s.dmaOwner c) 0)) else s;
       t = { w with regs := t.regs, flt := t.flt, out := t.out,
                    pci := { (w.pciBut t) with
                      aerUnc := kset w.pci.aerUnc (s.dmaOwner c) (kgetD w.pci.aerUnc (s.dmaOwner c) 0 ||| aerOf n) } })) ∧
  (∀ (c : Fin 32) (d : List Byte) (s : State), s.running pgDMA = true → s.dev.state ≠ .hold → s.dma.act = none → s.dmaNext = some c.val → (s.dch c).desc = some d → s.dmaCheck (s.dmaOwner c) d = 0 →
    ∃ t, exec .dmaStart s = .next t ∧
      (t.dma.act.map fun x => (x.n, x.ch, x.own, x.len, x.handed)) = some (s.dma.next, c.val, s.dmaOwner c, dLen d, 0) ∧
      t.dmaSt c = dsACTIVE ∧ t.dma.last = c ∧ t.dma.next = s.dma.next + 1 ∧
      t = { s with regs := t.regs, dma := t.dma, drc := t.drc, out := t.out, pci := s.pciBut t } ∧ regsKept s t [DMA.DSTAT c]) ∧
  (∀ (c : Fin 32) (d : List Byte) (s : State), s.running pgDMA = true → s.dev.state ≠ .hold → s.dma.act = none → s.dmaNext = some c.val → (s.dch c).desc = some d → s.dmaCheck (s.dmaOwner c) d ≠ 0 →
    ∃ t, exec .dmaStart s = .next t ∧
      t.dmaSt c = dsIDLE ∧ t.f (DMA.DSTAT c) 6 3 = s.dmaCheck (s.dmaOwner c) d ∧ t.f (DMA.DSTAT c) 31 8 = dLen d ∧
      t.dch c = {} ∧ t.dma.act = none ∧ t.fb (DMA.DIRQSTAT c) 1 = true ∧ t.fb (HDR.IRQSTAT pgDMA) 0 = true ∧
      t.f (DMA.CIDX c) 11 0 = (s.dmaHead c + 1) % s.dmaSize c % 4096 ∧
      (t.rd DMA.FAILS).toNat = min ((s.rd DMA.FAILS).toNat + 1) 4294967295 ∧
      t = { s with regs := t.regs, dma := { s.dma with chans := t.dma.chans }, out := t.out, pci := s.pciBut t } ∧
      regsKept s t [DMA.CIDX c, DMA.COMPLETED c, DMA.XFERS, DMA.FAILS, DMA.DIRQSTAT c, DMA.DSTAT c, HDR.IRQSTAT pgDMA]) ∧
  (∀ (x : DmaXfer) (d : List Byte) (k : Nat) (a : Nat) (rest : List (Nat × Nat)) (l : List Byte) (s : State), s.dma.act = some x → (s.dch x.ch).desc = some d → x.mute = false → s.dma.orphans = [] → x.reads = (k, a) :: rest → dSrcSp d = 0 → dDstSp d = 0 → l.length = k → x.buf = [] → x.err = false → x.stop = false → x.asked = dLen d → s.dev.state ≠ .hold →
    ∃ t, exec (.dmaReadReturn (.data l)) s = .next t ∧
      t.dma = { s.dma with act := some { x with reads := rest, handed := x.handed + k } } ∧
      t.out = s.out ++ ((pieces (s.mps x.own) k (dDst d + x.handed) k).map fun p =>
        .hostWrite x.own p.1 (slice (swapBytes (dSwap d) l) (p.1 - (dDst d + x.handed)) p.2)) ∧
      t = { s with regs := t.regs, dma := t.dma, out := t.out, pci := s.pciBut t } ∧ regsKept s t (perfKeys pgDMA)) ∧
  (∀ (x : DmaXfer) (d : List Byte) (k : Nat) (a : Nat) (rest : List (Nat × Nat)) (s : State), s.dma.act = some x → (s.dch x.ch).desc = some d → x.mute = false → s.dma.orphans = [] → x.reads = (k, a) :: rest → dSrcSp d = 0 →
    ∃ t, exec .completionTimeout s = .next t ∧
      t.dma = { s.dma with act := some { x with reads := rest, err := true, buf := [] } } ∧
      t.f HST.LASTCPLERR 9 8 = 3 ∧ (t.rd HST.CPLERR).toNat = min ((s.rd HST.CPLERR).toNat + 1) 4294967295 ∧
      t.fb (HDR.IRQSTAT pgHST) 1 = true ∧ t.fb (HDR.FLTSTAT pgHST) 1 = true ∧
      t.now = max s.now (a + cplTmoNs (kgetD s.pci.cplTmo x.own 0)) ∧
      (let w := s.until (a + cplTmoNs (kgetD s.pci.cplTmo x.own 0));
       t = { w with regs := t.regs, dma := t.dma, flt := t.flt, out := t.out,
                    pci := { (w.pciBut t) with aerUnc := kset w.pci.aerUnc x.own (kgetD w.pci.aerUnc x.own 0 ||| 16384) } }) ∧
      regsKept s t ([HST.LASTCPLERR, HST.CPLERR, HDR.IRQSTAT pgHST, HDR.FLTSTAT pgHST, HDR.FLTCNT pgHST] ++ perfKeys pgHST)) ∧
  (∀ (x : DmaXfer) (c : Fin 32) (d : List Byte) (s : State), s.dma.act = some x → x.ch = c → (s.dch x.ch).desc = some d → s.drc.reqs = [] → x.mute = false → x.stop = false → x.err = false → x.late = false → x.acks = 0 → x.reads = [] → x.handed = dLen d → kwf s.dma.chans = true → (s.dma.chans.all (fun e => e.1 = c.val || e.2.desc = none) = true) →
    ∃ t, exec .dmaComplete s = .next t ∧
      t.dma.act = none ∧ t.dch c = {} ∧ t.dmaSt c = dsIDLE ∧ t.f (DMA.DSTAT c) 7 3 = 0 ∧ t.f (DMA.DSTAT c) 31 8 = 0 ∧
      t.f (DMA.CIDX c) 11 0 = (s.dmaHead c + 1) % s.dmaSize c % 4096 ∧ (dIrq d = true → t.fb (DMA.DIRQSTAT c) 0 = true) ∧
      (t.rd (DMA.COMPLETED c)).toNat = min ((s.rd (DMA.COMPLETED c)).toNat + 1) 4294967295 ∧
      (t.rd DMA.XFERS).toNat = min ((s.rd DMA.XFERS).toNat + 1) 4294967295 ∧
      t = { s with regs := t.regs, dma := { s.dma with chans := t.dma.chans, act := none }, out := t.out, pci := s.pciBut t } ∧
      mapKept s.dma.chans t.dma.chans [c.val] ∧
      regsKept s t [DMA.CIDX c, DMA.COMPLETED c, DMA.XFERS, DMA.DIRQSTAT c, DMA.DSTAT c]) ∧
  (∀ (o : Nat × Nat) (rest : List (Nat × Nat)) (l : List Byte) (s : State), s.dma.orphans = o :: rest →
    exec (.dmaReadReturn (.data l)) s = .next { s with dma := { s.dma with orphans := rest } }) ∧
  (∀ (x : DmaXfer) (c : Fin 32) (d : List Byte) (s : State), s.dma.act = some x → x.ch = c → (s.dch x.ch).desc = some d → x.mute = false → x.stop = true → x.acks = 0 →
    ∃ t, exec .dmaComplete s = .next t ∧
      t.dma.act = none ∧ t.dch c = {} ∧ t.dmaSt c = dsIDLE ∧ t.f (DMA.DSTAT c) 6 3 = dmSTOPPED ∧
      t.f (DMA.DSTAT c) 31 8 = (dLen d - x.handed) % 16777216 ∧
      t.dma.orphans = s.dma.orphans ++ (if dSrcSp d = spHOST then x.reads.map fun (r : Nat × Nat) => (x.own, r.2) else []) ∧
      t.fb (DMA.DIRQSTAT c) 1 = true ∧ (t.rd DMA.FAILS).toNat = min ((s.rd DMA.FAILS).toNat + 1) 4294967295 ∧
      t = { s with regs := t.regs, dma := t.dma, out := t.out, pci := s.pciBut t } ∧
      regsKept s t [DMA.CIDX c, DMA.COMPLETED c, DMA.XFERS, DMA.FAILS, DMA.DIRQSTAT c, DMA.DSTAT c, HDR.IRQSTAT pgDMA]) ∧
  (∀ (x : DmaXfer) (s : State), s.dma.act = some x → x.mute = true → x.acks = 0 →
    exec .dmaComplete s = .next { s with dma := { s.dma with act := none } })

/-- The key store (R282 to R287, R291, R292): an import waits exactly 2 microseconds and loads its slot or reports UNWRAP; an erase
empties the slot and its GEN rises; ZEROIZE empties every slot and every GEN rises; old material goes once no operation
holds it; a user makes its own transmit context the SecY's encoding SA.
That SLOTRANGE, DSERR and NOTRUN are judged at the GO and held in the import is the model's choice (log entry 18), and
so are the deadlines that set the time (log entry 6). -/
def Obligations.KeyStoreComplete : Prop :=
  (∀ (u : Fn) (w : Word) (s : State), s.fnHere u = true → s.dev.state ≠ .load → s.running pgKEY = true → fld w 31 31 = 1 → s.fb (USER.KWSTAT u) 4 = false →
    ∃ t, exec (.keyImport u w) s = .next t ∧
      t.key = { s.key with imports := s.key.imports ++ [⟨u, fld w 15 0, s.kblob u,
        (if ¬ fld w 15 0 < s.kcount u then some krSLOTRANGE else if s.fuses.ds = none ∨ s.fb KEY.STAT 18 = true then some krDSERR
          else none), s.now + 2000, false⟩] } ∧
      t.fb (USER.KWSTAT u) 4 = true ∧ t.f (USER.KWCTL u) 15 0 = fld w 15 0 ∧
      (t.rd (USER.DENIED u)).toNat = (if fld w 15 0 < s.kcount u then (s.rd (USER.DENIED u)).toNat
        else min ((s.rd (USER.DENIED u)).toNat + 1) 4294967295) ∧
      t = { s with key := t.key, regs := t.regs } ∧ regsKept s t [USER.KWCTL u, USER.KWSTAT u, USER.DENIED u]) ∧
  (∀ (u : Fn) (i : KeyImp) (ds : List Byte) (s : State), (s.key.imports.find? (fun i => i.fn == u.val) = some i) → i.code = none → i.lost = false → s.fuses.ds = some ds → (s.kslot (s.kbase i.fn + i.slot)).old = false →
    ∃ t, exec (.importResult u) s = .next t ∧
      (let r := (keyUnwrap (kek ds i.fn) i.blob).bind fun l => blobFields l i.slot;
       let v := s.until i.due;
       let n := s.kbase i.fn + i.slot;
       t.now = max s.now i.due ∧ t.f (USER.KWSTAT u) 3 0 = (if r.isSome then krOK else krUNWRAP) ∧
       t.fb (USER.KWSTAT u) 4 = false ∧ t.key.imports = s.key.imports.erase i ∧
       t.kslot n = (match r with
         | some (k, salt) => ⟨some k, salt, 2, (s.kslot n).loads + 1, s.kheld n⟩
         | none => s.kslot n) ∧
       t.kgen n = (if r.isSome then (s.kgen n + 1) % 256 else s.kgen n) ∧
       mapKept s.key.slots t.key.slots [n] ∧
       t = { v with key := { v.key with imports := t.key.imports, slots := t.key.slots }, regs := t.regs } ∧
       regsKept v t [USER.KWSTAT u])) ∧
  (∀ (w : Word) (s : State), s.dev.state ≠ .load → s.running pgKEY = true → s.busy pgKEY = false → fld w 31 31 = 1 → (s.kslot (fld w 15 0)).old = false →
    ∃ t, exec (.keyErase 0 .bar0 w) s = .next t ∧
      t.kslot (fld w 15 0) = ⟨none, none, 0, (s.kslot (fld w 15 0)).loads + 1, s.kheld (fld w 15 0)⟩ ∧
      t.f KEY.RESULT 3 0 = krOK ∧ t.f KEY.ERASE 15 0 = fld w 15 0 ∧ mapKept s.key.slots t.key.slots [fld w 15 0] ∧
      t = { s with key := { s.key with slots := t.key.slots }, regs := t.regs } ∧ regsKept s t [KEY.ERASE, KEY.RESULT]) ∧
  (∀ (u : Fn) (w : Word) (n : Nat) (s : State), s.fnHere u = true → s.dev.state ≠ .load → s.running pgKEY = true → fld w 31 31 = 1 → fld w 15 0 < s.kcount u → n = s.kbase u + fld w 15 0 →
    ∃ t, exec (.keyErase u .bar2 w) s = .next t ∧
      (if (s.kslot n).old then t.kslot n = s.kslot n ∧ t.f (USER.KWSTAT u) 3 0 = krBUSY
       else t.kslot n = ⟨none, none, 0, (s.kslot n).loads + 1, s.kheld n⟩ ∧ t.f (USER.KWSTAT u) 3 0 = krOK) ∧
      t.f (USER.KERASE u) 15 0 = fld w 15 0 ∧ mapKept s.key.slots t.key.slots [n] ∧
      t = { s with key := { s.key with slots := t.key.slots }, regs := t.regs } ∧ regsKept s t [USER.KERASE u, USER.KWSTAT u]) ∧
  (∀ (w : Word) (n : Nat) (s : State), s.dev.state ≠ .load → s.present pgKEY = true → s.busy pgKEY = false → fld w 15 0 = 0x2E50 →
    ∃ t, exec (.zeroize w) s = .next t ∧
      (t.kslot n).key = none ∧ (t.kslot n).salt = none ∧ t.kgen n = (s.kgen n + 1) % 256 ∧
      t.fb (HDR.IRQSTAT pgKEY) 2 = true ∧ t.key.imports = s.key.imports ∧ t.key.seq = s.key.seq ∧ t.key.spiCode = s.key.spiCode ∧
      t = { s with key := t.key, regs := t.regs, out := t.out, pci := s.pciBut t } ∧ regsKept s t [HDR.IRQSTAT pgKEY]) ∧
  (∀ (n : BitVec 16) (s : State), (s.kslot n.toNat).old = true → s.kheld n.toNat = false →
    ∃ t, exec (.oldKeyRelease n) s = .next t ∧
      t.kslot n.toNat = { s.kslot n.toNat with old := false } ∧ mapKept s.key.slots t.key.slots [n.toNat] ∧
      t = { s with key := { s.key with slots := t.key.slots } }) ∧
  (∀ (u : Fn) (w : Word) (sa : Nat) (s : State), s.fnHere u = true → s.dev.state ≠ .load → s.present pgMSC = true → s.curCtx u = some sa → sa < 32768 → fld w 17 17 = 1 → fld w 15 0 < s.kcount u → s.kbase u + fld w 15 0 < 65536 → s.role = roleNone →
    ∃ t, exec (.encodingSaSet u w) s = .next t ∧
      t.f (MSC.SACFG0 sa) 15 0 = s.kbase u + fld w 15 0 ∧ t.f (MSC.SACFG0 sa) 16 16 = fld w 16 16 ∧
      t.f (MSC.SECYCFG (sa / 4)) 14 13 = sa % 4 ∧
      t = { s with regs := t.regs, msc := t.msc } ∧ regsKept s t [MSC.SACFG0 sa, MSC.SECYCFG (sa / 4)])

/-- KEYSPI (R287 to R290): a well-formed LOAD or ERASE changes its slot, and SEQ and the kept RESULT follow; one that meets old
material is BUSY, one outside RUNNING NOTRUN; RESULT drives the four reply bytes and changes no slot; PROGDS programs a blank
device secret in factory mode and is DENIED else; a wrong CRC is CRC and a wrong length or OP FORMAT, and neither changes a
slot or a fuse. That SEQ counts every LOAD and ERASE whatever its result is the model's choice (log entry 19). -/
def Obligations.KeyAgentComplete : Prop :=
  (∀ (l : List Byte) (n : Nat) (s : State), s.spiOn = true → s.running pgKEY = true → l.length = 52 → beNat (slice l 0 1) = 1 → n = beNat (slice l 2 2) → beNat (l.drop 48) = (crc32c (l.take 48)).toNat → (s.kslot n).old = false →
    ∃ t, exec (.spiLoad l) s = .next t ∧
      t.kslot n = ⟨some (slice l 4 (if (beNat (slice l 1 1)).testBit 1 then 32 else 16)),
        if (beNat (slice l 1 1)).testBit 0 then some (slice l 36 12) else none, 1, (s.kslot n).loads + 1, s.kheld n⟩ ∧
      t.key = { s.key with slots := t.key.slots, spiCode := krOK, seq := (s.key.seq + 1) % 256 } ∧
      mapKept s.key.slots t.key.slots [n] ∧
      t.f KEY.SPISTAT 3 0 = krOK ∧ t.f KEY.SPISTAT 15 8 = (s.key.seq + 1) % 256 ∧ t.f KEY.SPISTAT 31 16 = n ∧ raised s t pgKEY 0 ∧
      t = { s with key := t.key, regs := t.regs, out := t.out, pci := s.pciBut t } ∧ regsKept s t [KEY.SPISTAT, HDR.IRQSTAT pgKEY]) ∧
  (∀ (l : List Byte) (n : Nat) (s : State), s.spiOn = true → s.running pgKEY = true → l.length = 8 → beNat (slice l 0 1) = 2 → n = beNat (slice l 2 2) → beNat (l.drop 4) = (crc32c (l.take 4)).toNat → (s.kslot n).old = false →
    ∃ t, exec (.spiErase l) s = .next t ∧
      t.kslot n = ⟨none, none, 0, (s.kslot n).loads + 1, s.kheld n⟩ ∧
      t.key = { s.key with slots := t.key.slots, spiCode := krOK, seq := (s.key.seq + 1) % 256 } ∧
      mapKept s.key.slots t.key.slots [n] ∧
      t.f KEY.SPISTAT 3 0 = krOK ∧ t.f KEY.SPISTAT 15 8 = (s.key.seq + 1) % 256 ∧ t.f KEY.SPISTAT 31 16 = n ∧ raised s t pgKEY 0 ∧
      t = { s with key := t.key, regs := t.regs, out := t.out, pci := s.pciBut t } ∧ regsKept s t [KEY.SPISTAT, HDR.IRQSTAT pgKEY]) ∧
  (∀ (l : List Byte) (n : Nat) (s : State), s.spiOn = true → l.length = 8 → beNat (slice l 0 1) = 3 → n = beNat (slice l 2 2) → beNat (l.drop 4) = (crc32c (l.take 4)).toNat →
    ∃ t, exec (.spiResult l) s = .next t ∧
      t.out = s.out ++ [.keySpi [BitVec.ofNat 8 (s.key.spiCode % 16), BitVec.ofNat 8 s.key.seq,
          if (s.kslot n).key.isSome then 1 else 0, BitVec.ofNat 8 (s.kgen n)]] ++
        edgeOut s t pgKEY ∧ t.pci.vecPend = edgePend s t pgKEY ∧
      t.fb (HDR.IRQSTAT pgKEY) 0 = true ∧ t.f KEY.SPISTAT 3 0 = krOK ∧
      t = { s with regs := t.regs, out := t.out, pci := s.pciBut t } ∧ regsKept s t [KEY.SPISTAT, HDR.IRQSTAT pgKEY]) ∧
  (∀ (l : List Byte) (s : State), s.spiOn = true → l.length = 40 → beNat (slice l 0 1) = 0xF → beNat (l.drop 36) = (crc32c (l.take 36)).toNat → s.factory = true → s.fuses.ds = none →
    ∃ t, exec (.progds l) s = .next t ∧
      t.fuses = { s.fuses with ds := some (slice l 4 32) } ∧ t.f KEY.SPISTAT 3 0 = krOK ∧ raised s t pgKEY 0 ∧
      t = { s with fuses := t.fuses, regs := t.regs, out := t.out, pci := s.pciBut t } ∧ regsKept s t [KEY.SPISTAT, HDR.IRQSTAT pgKEY]) ∧
  (∀ (l : List Byte) (s : State), s.spiOn = true → 4 ≤ l.length → spiLen (beNat (slice l 0 1)) ≠ some l.length → ¬ beNat (slice l 0 1) ∈ [1, 2, 3] →
    ∃ t, exec (.keyspiFormat l) s = .next t ∧
      t.f KEY.SPISTAT 3 0 = krFORMAT ∧ t.f KEY.SPISTAT 31 16 = beNat (slice l 2 2) ∧
      (t.rd KEY.SPIERR).toNat = min ((s.rd KEY.SPIERR).toNat + 1) 4294967295 ∧
      t.fb (HDR.IRQSTAT pgKEY) 0 = true ∧ t.fb (HDR.IRQSTAT pgKEY) 1 = true ∧
      onlyRegsOut s t [KEY.SPISTAT, KEY.SPIERR, HDR.IRQSTAT pgKEY]) ∧
  (∀ (l : List Byte) (n : Nat) (s : State), s.spiOn = true → s.running pgKEY = true → (l.length = 52 ∧ beNat (slice l 0 1) = 1 ∨ l.length = 8 ∧ beNat (slice l 0 1) = 2) → n = beNat (slice l 2 2) → beNat (l.drop (l.length - 4)) = (crc32c (l.take (l.length - 4))).toNat → (s.kslot n).old = true →
    ∃ t, exec (.spiLoad l) s = .next t ∧ exec (.spiErase l) s = .next t ∧
      t.key = { s.key with spiCode := krBUSY, seq := (s.key.seq + 1) % 256 } ∧
      t.f KEY.SPISTAT 3 0 = krBUSY ∧ t.f KEY.SPISTAT 15 8 = (s.key.seq + 1) % 256 ∧ t.f KEY.SPISTAT 31 16 = n ∧
      t.fb (HDR.IRQSTAT pgKEY) 0 = true ∧ t.fb (HDR.IRQSTAT pgKEY) 1 = true ∧
      t = { s with key := t.key, regs := t.regs, out := t.out, pci := s.pciBut t } ∧ regsKept s t [KEY.SPISTAT, HDR.IRQSTAT pgKEY]) ∧
  (∀ (l : List Byte) (op : Nat) (s : State), s.spiOn = true → op = beNat (slice l 0 1) → spiLen op = some l.length → beNat (l.drop (l.length - 4)) ≠ (crc32c (l.take (l.length - 4))).toNat →
    ∃ t, exec (.spiLoad l) s = .next t ∧ exec (.spiErase l) s = .next t ∧ exec (.spiResult l) s = .next t ∧
      exec (.progds l) s = .next t ∧
      t.key = (if op = 1 ∨ op = 2 then { s.key with spiCode := krCRC, seq := (s.key.seq + 1) % 256 } else s.key) ∧
      t.f KEY.SPISTAT 3 0 = krCRC ∧ t.f KEY.SPISTAT 31 16 = beNat (slice l 2 2) ∧
      (t.rd KEY.SPIERR).toNat = min ((s.rd KEY.SPIERR).toNat + 1) 4294967295 ∧
      t.fb (HDR.IRQSTAT pgKEY) 0 = true ∧ t.fb (HDR.IRQSTAT pgKEY) 1 = true ∧
      t = { s with key := t.key, regs := t.regs, out := t.out, pci := s.pciBut t } ∧
      regsKept s t [KEY.SPISTAT, KEY.SPIERR, HDR.IRQSTAT pgKEY]) ∧
  (∀ (l : List Byte) (s : State), s.spiOn = true → l.length = 40 → beNat (slice l 0 1) = 0xF → beNat (l.drop 36) = (crc32c (l.take 36)).toNat → (s.factory = false ∨ s.fuses.ds.isSome = true) →
    ∃ t, exec (.progds l) s = .next t ∧ t.f KEY.SPISTAT 3 0 = krDENIED ∧
      (t.rd KEY.SPIERR).toNat = min ((s.rd KEY.SPIERR).toNat + 1) 4294967295 ∧
      t.fb (HDR.IRQSTAT pgKEY) 0 = true ∧ t.fb (HDR.IRQSTAT pgKEY) 1 = true ∧
      onlyRegsOut s t [KEY.SPISTAT, KEY.SPIERR, HDR.IRQSTAT pgKEY]) ∧
  (∀ (l : List Byte) (s : State), s.spiOn = true → s.running pgKEY = false → (l.length = 52 ∧ beNat (slice l 0 1) = 1 ∨ l.length = 8 ∧ beNat (slice l 0 1) = 2) → beNat (l.drop (l.length - 4)) = (crc32c (l.take (l.length - 4))).toNat →
    ∃ t, exec (.spiLoad l) s = .next t ∧ exec (.spiErase l) s = .next t ∧
      t.key = { s.key with spiCode := krNOTRUN, seq := (s.key.seq + 1) % 256 } ∧ t.f KEY.SPISTAT 3 0 = krNOTRUN ∧
      t.fb (HDR.IRQSTAT pgKEY) 1 = true ∧
      t = { s with key := t.key, regs := t.regs, out := t.out, pci := s.pciBut t } ∧ regsKept s t [KEY.SPISTAT, HDR.IRQSTAT pgKEY]) ∧
  (∀ (l : List Byte) (s : State), s.spiOn = true → 4 ≤ l.length → (beNat (slice l 0 1) = 1 ∨ beNat (slice l 0 1) = 2) → spiLen (beNat (slice l 0 1)) ≠ some l.length →
    ∃ t, exec (.spiLoad l) s = .next t ∧ exec (.spiErase l) s = .next t ∧ exec (.keyspiFormat l) s = .next t ∧
      t.key = { s.key with spiCode := krFORMAT, seq := (s.key.seq + 1) % 256 } ∧ t.f KEY.SPISTAT 3 0 = krFORMAT ∧
      (t.rd KEY.SPIERR).toNat = min ((s.rd KEY.SPIERR).toNat + 1) 4294967295 ∧
      t.fb (HDR.IRQSTAT pgKEY) 0 = true ∧ t.fb (HDR.IRQSTAT pgKEY) 1 = true ∧
      t = { s with key := t.key, regs := t.regs, out := t.out, pci := s.pciBut t } ∧
      regsKept s t [KEY.SPISTAT, KEY.SPIERR, HDR.IRQSTAT pgKEY])

/-- Requests (R309 to R313): the port's oldest waiting request is handed over; a read takes a tag, at once or once one is free; an
address beyond the Basin is an ERR; the read that the scheduler serves completes with its data and its latency counts, or
with ERR where a burst is uncorrectable; a write puts its bytes in the DRAM; a due refresh or a forced slot keeps a request
back; a read's age makes it urgent and then panicking. These are the model's choice: that bursts of a page of unstated layout
leave the list (log entry 24), how the round robin counts and how long a forced slot lasts (log entry 120), that an
uncorrectable request counts once (log entry 121), and the ages that set the time (log entry 6). -/
def Obligations.DramRequestsComplete : Prop :=
  (∀ (p : Fin 6) (r : DReq) (n : Chan) (s : State), (s.drc.reqs.find? (fun r => decide (r.port = p.val) && (r.at_.isNone || (!r.write && r.fin.isNone && !r.tag))) = some r) → r.at_ = none → r.fin = none → s.drcBadAddr r = false → s.drcRefuses r = false → if r.write then s.wbuf (s.dramHalf r.addr) + r.len ≤ 2097152 else s.tagFree r.port (s.dramHalf r.addr) = true → ((s.drc.reqs.all fun q => decide (q.id ≠ r.id) || decide (q = r)) = true) →
    ∃ t, exec (.dramRequest p) s = .next t ∧
      t.drc = { s.drc with
        reqs := s.drc.reqs.map fun q => if q.id = r.id then { r with at_ := some s.now, seq := s.drc.handed, tag := !r.write } else q,
        handed := s.drc.handed + 1, chans := t.drc.chans } ∧
      t.ch n = (if n.val ∈ s.reqChans r ∧ (s.ch n).busy = none then { s.ch n with busy := some s.now } else s.ch n) ∧
      mapKept s.drc.chans t.drc.chans (s.reqChans r) ∧
      (if r.write then t.regs = s.regs else
        (let h := s.dramHalf r.addr;
         let m := (List.range 6).foldl (fun a q => a + t.tags q h) 0;
         let k := if h = 0 then DRC.TAGUSE_E else DRC.TAGUSE_W;
         t.f k 25 16 = (if s.f k 25 16 < m then m % 1024 else s.f k 25 16) ∧ regsKept s t [k])) ∧
      t = { s with regs := t.regs, drc := t.drc }) ∧
  (∀ (p : Fin 6) (r : DReq) (s : State), (s.drc.reqs.find? (fun r => decide (r.port = p.val) && (r.at_.isNone || (!r.write && r.fin.isNone && !r.tag))) = some r) → r.at_ = none → r.fin = none → r.write = false → s.drcBadAddr r = false → s.drcRefuses r = false → s.tagFree r.port (s.dramHalf r.addr) = false →
    ∃ t, exec (.dramRequest p) s = .next t ∧
      t.drc = { s.drc with
        reqs := s.drc.reqs.map fun q => if q.id = r.id then { r with at_ := some s.now, seq := s.drc.handed, tag := false } else q,
        handed := s.drc.handed + 1, chans := t.drc.chans } ∧
      t = { s with drc := t.drc }) ∧
  (∀ (p : Fin 6) (r : DReq) (s : State), (s.drc.reqs.find? (fun r => decide (r.port = p.val) && (r.at_.isNone || (!r.write && r.fin.isNone && !r.tag))) = some r) → r.at_.isSome = true → s.tagFree r.port (s.dramHalf r.addr) = true →
    ∃ t, exec (.dramRequest p) s = .next t ∧
      t.drc = { s.drc with reqs := s.drc.reqs.map fun q => if q.id = r.id then { r with tag := true } else q } ∧
      t = { s with regs := t.regs, drc := t.drc } ∧ regsKept s t [DRC.TAGUSE_E, DRC.TAGUSE_W]) ∧
  (∀ (p : Fin 6) (r : DReq) (s : State), (s.drc.reqs.find? (fun r => decide (r.port = p.val) && (r.at_.isNone || (!r.write && r.fin.isNone && !r.tag))) = some r) → r.at_ = none → s.drcBadAddr r = true → r.port = dpREFILL → r.write = false → ((s.drc.reqs.all fun q => decide (q.id ≠ r.id) || decide (q = r)) = true) → (((s.drc.reqs.filter fun q => q.port = dpBPM || q.port = dpHOST).all fun q => q.fin.isNone) = true) →
    ∃ t, exec (.dramRequest p) s = .next t ∧
      t.drc = { s.drc with
        reqs := s.drc.reqs.map fun q => if q.id = r.id then { r with at_ := some s.now, fin := some false } else q,
        chans := t.drc.chans } ∧
      (t.rd DRC.ADDRERR).toNat = min ((s.rd DRC.ADDRERR).toNat + 1) 4294967295 ∧ t.fb (HDR.FLTSTAT pgDRC) 1 = true ∧
      t = { s with regs := t.regs, drc := t.drc, flt := t.flt, out := t.out, pci := s.pciBut t }) ∧
  (∀ (g : Nat) (t0 : Nat) (i : Nat) (v : BitVec 512) (e : List (Fin 64)) (r : DReq) (s : State), s.drcNow g false = some r → r.port < 6 → r.at_ = some t0 → (r.port = dpHOST → (s.dma.act.any fun x => x.owns r && !x.stop) = true) → ((s.drc.reqs.all fun q => decide (q.id ≠ r.id) || decide (q = r)) = true) → (((s.drc.reqs.filter fun q => q.port = dpBPM || q.port = dpHOST).all fun q => q.fin.isNone) = true) →
    ∃ t, exec (.dramReadComplete g e []) s = .next t ∧
      (∃ q ∈ t.drc.reqs, q = { r with fin := some true, data := q.data } ∧
        (r.port = dpHOST → 64 * i < r.len → kget? s.drc.bursts ((r.addr + 64 * i) / 64) = some v →
          (q.data.drop (64 * i)).take 64 = (leBytes 64 v.toNat).map some)) ∧
      (t.rd (DRC.READS r.port)).toNat = min ((s.rd (DRC.READS r.port)).toNat + 1) 4294967295 ∧
      (t.rd (DRC.LATEREAD r.port)).toNat = (if (if s.drc.fc.isSome then 10000 else 8000) < s.now - t0 then
        min ((s.rd (DRC.LATEREAD r.port)).toNat + 1) 4294967295 else (s.rd (DRC.LATEREAD r.port)).toNat) ∧
      (t.rd (DRC.MAXLAT r.port)).toNat = (if (s.rd (DRC.MAXLAT r.port)).toNat < s.now - t0 then (s.now - t0) % 4294967296
        else (s.rd (DRC.MAXLAT r.port)).toNat) ∧
      (t.rd DRC.ECCCORR).toNat = min ((s.rd DRC.ECCCORR).toNat + (e.filter fun b => decide (b.val < cdiv r.len 64)).length) 4294967295 ∧
      t.drc = { s.drc with reqs := t.drc.reqs, chans := t.drc.chans, turns := t.drc.turns } ∧
      mapKept s.drc.chans t.drc.chans (s.reqChans r) ∧ mapKept s.drc.turns t.drc.turns [s.dramHalf r.addr] ∧
      t = { s with regs := t.regs, drc := t.drc, flt := t.flt, out := t.out, pci := s.pciBut t, free := t.free } ∧
      regsKept s t ([DRC.READS r.port, DRC.LATEREAD r.port, DRC.MAXLAT r.port, DRC.ECCCORR, HDR.FLTSTAT pgDRC,
        HDR.FLTCNT pgDRC, HDR.IRQSTAT pgDRC] ++ perfKeys pgDRC ++
        (s.reqChans r).flatMap fun n => [DC.ACTS n, DC.NRCNT n, DC.ECCCORR n, HDR.FLTSTAT (pgDC n), HDR.FLTCNT (pgDC n)])) ∧
  (∀ (g : Nat) (b : Fin 64) (t0 : Nat) (r : DReq) (n : Nat) (s : State), s.drcNow g false = some r → r.port = dpREFILL → r.at_ = some t0 → b.val < cdiv r.len 64 → n = s.chanOf (r.addr + 64 * b.val) → n < s.nCh → ((s.drc.reqs.all fun q => decide (q.id ≠ r.id) || decide (q = r)) = true) → (((s.drc.reqs.filter fun q => q.port = dpBPM || q.port = dpHOST).all fun q => q.fin.isNone) = true) →
    ∃ t, exec (.dramReadComplete g [] [b]) s = .next t ∧
      (∃ q ∈ t.drc.reqs, q = { r with fin := some false }) ∧
      (t.rd DRC.ECCUNC).toNat = min ((s.rd DRC.ECCUNC).toNat + 1) 4294967295 ∧
      (t.rd (DC.ECCUNC n)).toNat = min ((s.rd (DC.ECCUNC n)).toNat + 1) 4294967295 ∧
      t.rd64 DRC.LASTUNC_LO DRC.LASTUNC_HI = r.addr % 18446744073709551616 ∧
      t.fb (DC.LASTERR n) 31 = true ∧
      t.f (DC.LASTERR n) 30 0 = s.localOf (r.addr + 64 * b.val) % 2147483648 ∧
      t.fb (HDR.IRQSTAT pgDRC) irqECCUNC = true ∧ t.fb (HDR.FLTSTAT (pgDC n)) 1 = true ∧
      t.drc = { s.drc with reqs := t.drc.reqs, chans := t.drc.chans, turns := t.drc.turns } ∧
      t = { s with regs := t.regs, drc := t.drc, flt := t.flt, out := t.out, pci := s.pciBut t }) ∧
  (∀ (g : Nat) (i : Nat) (l : List Byte) (r : DReq) (s : State), s.drcNow g true = some r → r.port = dpHOST → r.addr % 64 = 0 → 64 * i < r.len → (r.data.drop (64 * i)).take 64 = l.map some → l.length = 64 → ((s.drc.reqs.all fun q => decide (q.id ≠ r.id) || decide (q = r)) = true) → (((s.drc.reqs.filter fun q => q.port = dpBPM || q.port = dpHOST).all fun q => q.fin.isNone) = true) →
    ∃ t, exec (.dramWriteComplete g []) s = .next t ∧
      (t.dramBurst (r.addr + 64 * i)).1 = BitVec.ofNat 512 (leNat l) ∧
      mapKept s.drc.bursts t.drc.bursts (r.bursts.map fun a => a / 64) ∧ t.drc.stale = s.drc.stale ∧
      (if s.drc.reqs.find? (fun q => decide (q.port = dpHOST)) = some r then
        t.drc.reqs = s.drc.reqs.filter (fun q => decide (q.id ≠ g)) ∧
          t.dma = { s.dma with act := s.dma.act.map fun x => if x.owns r then x.acked true else x }
       else (∃ q ∈ t.drc.reqs, q.id = g ∧ q.fin = some true) ∧ t.dma = s.dma) ∧
      (t.rd (DRC.WRITES 5)).toNat = min ((s.rd (DRC.WRITES 5)).toNat + 1) 4294967295 ∧
      t.drc = { s.drc with reqs := t.drc.reqs, chans := t.drc.chans, turns := t.drc.turns, bursts := t.drc.bursts } ∧
      t = { s with regs := t.regs, drc := t.drc, dma := t.dma, free := t.free } ∧
      regsKept s t ([DRC.WRITES 5] ++ perfKeys pgDRC ++ (s.reqChans r).flatMap fun n => [DC.ACTS n, DC.NRCNT n])) ∧
  (∀ (g : Nat) (e : List (Fin 64 × Bool)) (r : DReq) (s : State), s.drcNow g true = some r → r.port < 4 → ((s.drc.reqs.all fun q => decide (q.id ≠ r.id) || decide (q = r)) = true) → (((s.drc.reqs.filter fun q => q.port = dpBPM || q.port = dpHOST).all fun q => q.fin.isNone) = true) →
    ∃ t, exec (.dramWriteComplete g e) s = .next t ∧
      (r.addr / 4096 ∈ t.drc.stale) ∧ (∃ q ∈ t.drc.reqs, q.id = g ∧ q.fin = some true) ∧
      (t.rd (DRC.WRITES r.port)).toNat = min ((s.rd (DRC.WRITES r.port)).toNat + 1) 4294967295 ∧
      t.drc.bursts = s.drc.bursts.filter (fun b => !(decide (r.addr / 64 ≤ b.1) && decide (b.1 < (r.addr + r.len) / 64))) ∧
      t.drc = { s.drc with reqs := t.drc.reqs, chans := t.drc.chans, turns := t.drc.turns, bursts := t.drc.bursts,
                           stale := t.drc.stale } ∧
      t = { s with regs := t.regs, drc := t.drc } ∧
      regsKept s t ([DRC.WRITES r.port] ++ perfKeys pgDRC ++ (s.reqChans r).flatMap fun n => [DC.ACTS n, DC.NRCNT n])) ∧
  (∀ (g : Nat) (w : Bool) (r : DReq) (n : Nat) (e : List (Fin 64)) (s : State), (s.drc.reqs.find? (fun r => decide (r.id = g) && (r.write == w)) = some r) → n ∈ s.reqChans r → (s.slotOn n = true ∨ (s.refDue n (n % 8) s.now = true ∧ (s.ch n).refNs ≠ some s.now)) →
    (if w then exec (.dramWriteComplete g []) s = .next s else exec (.dramReadComplete g e e) s = .next s)) ∧
  (∀ (g : Nat) (t0 : Nat) (r : DReq) (s : State), (s.drc.reqs.find? (fun r => decide (r.id = g) && !r.write && r.fin.isNone && decide (r.urg = 0)) = some r) → r.at_ = some t0 → r.port < 6 →
    ∃ t, exec (.readUrgent g) s = .next t ∧ t.now = max s.now (t0 + s.f (DRC.PLAT r.port) 15 0) ∧
      t.drc = { s.drc with reqs := s.drc.reqs.map fun q => if q.id = g then { q with urg := 1 } else q } ∧
      (let u := s.until (t0 + s.f (DRC.PLAT r.port) 15 0);
       (t.rd (DRC.URGENT r.port)).toNat = min ((u.rd (DRC.URGENT r.port)).toNat + 1) 4294967295 ∧
       t = { u with regs := t.regs, drc := t.drc } ∧ regsKept u t [DRC.URGENT r.port])) ∧
  (∀ (g : Nat) (t0 : Nat) (r : DReq) (s : State), (s.drc.reqs.find? (fun r => decide (r.id = g) && !r.write && r.fin.isNone && decide (r.urg ≤ 1)) = some r) → r.at_ = some t0 → r.port < 6 →
    ∃ t, exec (.readPanic g) s = .next t ∧ t.now = max s.now (t0 + s.f (DRC.PLAT r.port) 31 16) ∧
      t.drc = { s.drc with reqs := s.drc.reqs.map fun q => if q.id = g then { q with urg := 2 } else q } ∧
      (let u := s.until (t0 + s.f (DRC.PLAT r.port) 31 16);
       (t.rd (DRC.PANICS r.port)).toNat = min ((u.rd (DRC.PANICS r.port)).toNat + 1) 4294967295 ∧
       t = { u with regs := t.regs, drc := t.drc } ∧ regsKept u t ([DRC.PANICS r.port] ++ perfKeys pgDRC))) ∧
  (∀ (g : Nat) (e : List (Fin 64)) (f : List (Fin 64)) (r : DReq) (s : State), (s.drc.reqs.find? (fun r => decide (r.id = g) && r.write == false) = some r) → s.drcServes r = false →
    exec (.dramReadComplete g e f) s = .next s)

/-- Channels (R304 to R307, R312 to R317): bring-up and training through READY or FAILED, retraining, refresh of a group at its
instant, an idle row's closing with its refresh management, the periodic MR4 read, ZQ latch and drift tracking in a free or
forced slot, a scrub pass with its write-backs, and self-refresh both ways, for accepted requests in a drain too (R322). What
waits for a channel that enters RETRAIN or FAILED ends in ERR.
These are the model's choice: the trained delays are free values (log entry 3), the order of scrub and its activations (log
entry 48), the idle time of a row (log entry 50), the deadlines that set the time (log entry 6), and that a forced slot lasts
100 ns (log entry 120). -/
def Obligations.DramChannelsComplete : Prop :=
  (∀ (n : Chan) (s : State), n.val < s.nCh → s.chRuns n = true → s.basinCap ≠ 0 → s.chSt n = csOFF →
    ∃ t, exec (.channelBringup n) s = .next t ∧ t.chSt n = csTRAINING ∧ t.rd (DC.TRAINSTAT n) = 0x10 ∧
      t.ch n = { lfsr := n.val + 1 } ∧ t.fb DRC.STAT 0 = false ∧ mapKept s.drc.chans t.drc.chans [n.val] ∧
      t = { s with regs := t.regs, drc := { s.drc with chans := t.drc.chans } } ∧ regsKept s t [DC.DCSTAT n, DC.TRAINSTAT n, DRC.STAT]) ∧
  (∀ (n : Chan) (b : Nat) (s : State), n.val < s.nCh → s.chSt n = csTRAINING →
    ∃ t, exec (.trainingDone n 0) s = .next t ∧ t.chSt n = (if s.chRuns n then csREADY else csSELFREF) ∧ t.chSet n = 0 ∧
      t.fb DRC.STAT 0 = trained t ∧
      t.ch n = { s.ch n with drift := [], mr4At := s.now, zqAt := s.now, trackAt := s.now, held := (s.ch n).held || !s.chRuns n } ∧
      (if s.chanOf (b * 64) = n.val then (t.dramBurst (b * 64)).1 = 0 else kget? t.drc.bursts b = kget? s.drc.bursts b) ∧
      mapKept s.drc.chans t.drc.chans [n.val] ∧
      t = { s with regs := t.regs, drc := { s.drc with bursts := t.drc.bursts, chans := t.drc.chans,
                                                       ever := s.drc.ever || (t.fb DRC.STAT 0 && !s.fb DRC.STAT 0) },
                   out := t.out, pci := s.pciBut t, free := t.free } ∧
      regsKept s t ([DC.DCSTAT n, DRC.STAT, HDR.IRQSTAT pgDRC] ++ (List.range 24).map (DC.DESKEW n))) ∧
  (∀ (n : Chan) (e : Fin 10) (s : State), s.chSt n = csTRAINING → e ≠ 0 → s.f (DC.TRAINSTAT n) 5 4 < 3 →
    ∃ t, exec (.trainingDone n e) s = .next t ∧ t.chSt n = csTRAINING ∧ t.f (DC.TRAINSTAT n) 3 0 = e.val ∧
      t.f (DC.TRAINSTAT n) 5 4 = s.f (DC.TRAINSTAT n) 5 4 + 1 ∧
      (t.rd (DC.TRAINFAILS n)).toNat = min ((s.rd (DC.TRAINFAILS n)).toNat + 1) 4294967295 ∧
      onlyRegs s t [DC.TRAINSTAT n, DC.TRAINFAILS n]) ∧
  (∀ (n : Chan) (e : Fin 10) (s : State), n.val < s.nCh → s.chSt n = csTRAINING → e ≠ 0 → s.f (DC.TRAINSTAT n) 5 4 = 3 → s.chQueued n = false →
    ∃ t, exec (.trainingDone n e) s = .next t ∧ t.chSt n = csFAILED ∧ t.f (DC.TRAINSTAT n) 3 0 = e.val ∧
      t.rd (DC.TRAINFAILS n) = s.rd (DC.TRAINFAILS n) ∧
      t.fb (HDR.FLTSTAT (pgDC n)) 4 = true ∧ t.fb DRC.STAT 0 = false ∧
      t = { s with regs := t.regs, flt := t.flt, out := t.out, pci := s.pciBut t }) ∧
  (∀ (n : Chan) (s : State), n.val < s.nCh → s.chSt n = csRETRAIN →
    ∃ t, exec (.retrainDone n 0) s = .next t ∧ t.chSt n = (if s.chRuns n then csREADY else csSELFREF) ∧
      t.ch n = { s.ch n with drift := [], mr4At := s.now, zqAt := s.now, trackAt := s.now, held := (s.ch n).held || !s.chRuns n } ∧
      t.fb DRC.STAT 0 = trained t ∧ (t.rd (DC.RETRAINS n)).toNat = min ((s.rd (DC.RETRAINS n)).toNat + 1) 4294967295 ∧
      t.fb (HDR.IRQSTAT (pgDC n)) 0 = true ∧ mapKept s.drc.chans t.drc.chans [n.val] ∧
      t = { s with regs := t.regs, out := t.out, pci := s.pciBut t, free := t.free,
                   drc := { s.drc with chans := t.drc.chans, ever := s.drc.ever || (t.fb DRC.STAT 0 && !s.fb DRC.STAT 0) } } ∧
      regsKept s t ([DC.DCSTAT n, DC.RETRAINS n, DRC.STAT, HDR.IRQSTAT pgDRC, HDR.IRQSTAT (pgDC n)] ++
        (List.range 24).map (DC.DESKEW n))) ∧
  (∀ (n : Chan) (e : Fin 10) (s : State), n.val < s.nCh → s.chSt n = csRETRAIN → e ≠ 0 → s.chQueued n = false →
    ∃ t, exec (.retrainDone n e) s = .next t ∧ t.chSt n = csFAILED ∧ t.f (DC.TRAINSTAT n) 3 0 = e.val ∧
      t.rd (DC.TRAINFAILS n) = s.rd (DC.TRAINFAILS n) ∧
      t.fb (HDR.FLTSTAT (pgDC n)) 4 = true ∧ t.fb (HDR.IRQSTAT (pgDC n)) 1 = true ∧ t.fb DRC.STAT 0 = false ∧
      t = { s with regs := t.regs, flt := t.flt, out := t.out, pci := s.pciBut t }) ∧
  (∀ (k : Fin 8) (n : Chan) (x : Nat) (a : Nat × Nat) (s : State), n.val < s.nCh → n.val % 8 = k.val → s.chSt n = csREADY → s.drc.refAt = some a → a.1 ≤ s.now → earliest ((s.refGroup k).filterMap (s.refNext k)) = some x → s.refNext k n = some x → (((s.ch n).refNs.all fun r => decide (r ≤ s.now)) = true) →
    ∃ t, exec (.refreshGroup k) s = .next t ∧ t.now = x ∧ s.now ≤ x ∧ x ≤ s.now + s.trefi n ∧
      (a.2 + (x - a.1)) % s.trefi n = k.val * s.trefi n / 8 ∧ (t.ch n).rows = [] ∧ (t.ch n).refNs = some x ∧
      (t.rd (DC.REFCNT n)).toNat = min (((s.until x).rd (DC.REFCNT n)).toNat + 1) 4294967295 ∧
      t.drc = { s.drc with chans := t.drc.chans } ∧
      (let u := s.until x; t = { u with regs := t.regs, drc := t.drc } ∧
        regsKept u t (((List.range s.nCh).filter fun m => m % 8 = k.val).flatMap fun m => [DC.REFCNT m, DC.NRCNT m]))) ∧
  (∀ (n : Chan) (b : Fin 16) (row : Nat) (s : State), kget? (s.ch n).rows b = some row →
    ∃ t, exec (.rowIdleClose n b) s = .next t ∧ t.now = max s.now ((kgetD (s.ch n).used b (0, 0)).1 + 36) ∧
      t.ch n = { s.ch n with rows := kerase (s.ch n).rows b, used := kerase (s.ch n).used b, sel := (s.ch n).sel.filter fun e => decide (e ≠ (b.val, row)) } ∧
      (let u := s.until ((kgetD (s.ch n).used b (0, 0)).1 + 36);
       (t.rd (DC.NRCNT n)).toNat = (if (b.val, row) ∈ (s.ch n).sel then min ((u.rd (DC.NRCNT n)).toNat + 1) 4294967295
         else (u.rd (DC.NRCNT n)).toNat) ∧ mapKept s.drc.chans t.drc.chans [n.val] ∧
       t = { u with regs := t.regs, drc := { u.drc with chans := t.drc.chans } } ∧ regsKept u t [DC.NRCNT n])) ∧
  (∀ (n : Chan) (v : Fin 3) (s : State), s.slotFree n = true →
    ∃ t, exec (.mr4Read n v) s = .next t ∧ t.now = max s.now ((s.ch n).mr4At + 16000000) ∧ t.f (DC.DCSTAT n) 5 4 = v.val ∧
      t.ch n = { s.ch n with mr4At := t.now, slot := false } ∧ mapKept s.drc.chans t.drc.chans [n.val] ∧
      (let u := s.until ((s.ch n).mr4At + 16000000);
       t = { u with regs := t.regs, drc := { u.drc with chans := t.drc.chans }, flt := t.flt, out := t.out, pci := u.pciBut t } ∧
       if v = 2 then t.fb (HDR.FLTSTAT (pgDC n)) 2 = true ∧ t.fb (HDR.IRQSTAT pgDRC) irqOVERTEMP = true
       else t.flt = s.flt ∧ t.out = s.out ∧ t.pci = s.pci ∧ regsKept u t [DC.DCSTAT n])) ∧
  (∀ (n : Chan) (s : State), s.slotFree n = true →
    ∃ t, exec (.zqLatch n) s = .next t ∧ t.now = max s.now ((s.ch n).zqAt + 64000000) ∧
      t.ch n = { s.ch n with zqAt := t.now, slot := false } ∧ mapKept s.drc.chans t.drc.chans [n.val] ∧
      (let u := s.until ((s.ch n).zqAt + 64000000); t = { u with drc := { u.drc with chans := t.drc.chans } })) ∧
  (∀ (n : Chan) (t0 : Nat) (s : State), (s.ch n).busy = some t0 → s.chSt n = csREADY →
    ∃ t, exec (.forcedMaintSlot n) s = .next t ∧ t.now = max s.now (t0 + cdiv (s.f DRC.BGCFG 15 0 * 10) 9) ∧
      t.ch n = { s.ch n with busy := some t.now, slot := true } ∧ t.slotFree n = true ∧
      mapKept s.drc.chans t.drc.chans [n.val] ∧
      (let u := s.until (t0 + cdiv (s.f DRC.BGCFG 15 0 * 10) 9); t = { u with drc := { u.drc with chans := t.drc.chans } })) ∧
  (∀ (n : Chan) (d : Fin 48) (ds : List (Fin 48 × Bool)) (s : State), s.slotFree n = true →
    ∃ t, exec (.phyTracking n ds) s = .next t ∧ t.now = max s.now ((s.ch n).trackAt + 1000000) ∧
      (t.ch n).trackAt = t.now ∧ (t.ch n).slot = false ∧
      kgetD (t.ch n).drift d 0 = kgetD (s.ch n).drift d 0 +
        (match ds.find? fun e => e.1.val = d.val with | some e => if e.2 then 1 else -1 | none => 0) ∧
      mapKept s.drc.chans t.drc.chans [n.val] ∧
      (let u := s.until ((s.ch n).trackAt + 1000000);
       if ((t.ch n).drift.all fun e => decide (-8 ≤ e.2) && decide (e.2 ≤ 8)) = true then
         t.ch n = { s.ch n with drift := (t.ch n).drift, trackAt := t.now, slot := false } ∧
         t = { u with drc := { u.drc with chans := t.drc.chans } }
       else t.chSt n = csRETRAIN ∧ (t.ch n).rows = [] ∧ t.fb (HDR.FLTSTAT (pgDC n)) 3 = true ∧ (s.chQueued n = false →
         t = { u with regs := t.regs, drc := { u.drc with chans := t.drc.chans, ever := t.drc.ever }, flt := t.flt, out := t.out,
                      pci := u.pciBut t }))) ∧
  (∀ (n : Chan) (r : DReq) (s : State), n.val < s.nCh → s.drc.reqs = [r] → r.open_ = true → r.port = dpREFILL → r.write = false → (s.reqChans r).contains n.val = true → (((s.chSt n = csREADY ∧ (s.slotOn n && (s.ch n).drift.any fun e => decide (e.1 < 48) && decide (8 < e.2)) = true))) →
    ∃ t, exec (.phyTracking n []) s = .next t ∧ t.drc.reqs = [{ r with fin := some false }] ∧ t.chSt n = csRETRAIN ∧
      (t.rd (DRC.READS 1)).toNat = min ((s.rd (DRC.READS 1)).toNat + 1) 4294967295) ∧
  (∀ (n : Chan) (c : Fin 9) (u : Bool) (l : Nat) (s : State), n.val < s.nCh → s.slotFree n = true → (s.ch n).scrubBack = none → l = (s.ch n).scrubNext → l < s.chBursts →
    ∃ t, exec (.dramScrub n c u) s = .next t ∧
      (let rb := s.rowBank (l * 64);
       kget? (t.ch n).rows rb.2 = some rb.1 ∧
       (t.rd (DC.ACTS n)).toNat = (if kget? (s.ch n).rows rb.2 = some rb.1 then (s.rd (DC.ACTS n)).toNat
         else min ((s.rd (DC.ACTS n)).toNat + 1) 4294967295)) ∧ mapKept s.drc.chans t.drc.chans [n.val] ∧
      (t.ch n).scrubNext = l + 1 ∧ (t.ch n).scrubFrom = some ((s.ch n).scrubFrom.getD s.now) ∧ (t.ch n).slot = false ∧
      (t.ch n).scrubBack = (if 0 < c.val ∧ u = false then some (l, false) else none) ∧ (t.ch n).scrubAgain = (s.ch n).scrubAgain ∧
      (c.val = 0 ∧ u = false → t = { s with regs := t.regs, drc := t.drc } ∧ regsKept s t [DC.ACTS n, DC.NRCNT n]) ∧
      (0 < c.val → (t.rd (DC.ECCCORR n)).toNat = min ((s.rd (DC.ECCCORR n)).toNat + c.val) 4294967295 ∧
         (t.rd DRC.ECCCORR).toNat = min ((s.rd DRC.ECCCORR).toNat + c.val) 4294967295 ∧ t.fb (HDR.FLTSTAT (pgDC n)) 0 = true) ∧
      (u = true → (t.rd (DC.ECCUNC n)).toNat = min ((s.rd (DC.ECCUNC n)).toNat + 1) 4294967295 ∧
         (t.rd DRC.ECCUNC).toNat = min ((s.rd DRC.ECCUNC).toNat + 1) 4294967295 ∧ t.fb (HDR.FLTSTAT (pgDC n)) 1 = true ∧
         t.f (DC.LASTERR n) 30 0 = l * 64 % 2147483648 ∧ t.fb (HDR.IRQSTAT pgDRC) irqECCUNC = true) ∧
      t = { s with regs := t.regs, drc := { s.drc with chans := t.drc.chans }, flt := t.flt, out := t.out, pci := s.pciBut t }) ∧
  (∀ (n : Chan) (c : Fin 9) (u : Bool) (l : Nat) (w : Bool) (s : State), n.val < s.nCh → s.slotFree n = true → (s.ch n).scrubBack = some (l, w) →
    ∃ t, exec (.dramScrub n c u) s = .next t ∧ (t.ch n).scrubBack = none ∧ (t.ch n).slot = false ∧
      (t.ch n).scrubNext = (s.ch n).scrubNext ∧
      (t.ch n).scrubAgain = (if w then (s.ch n).scrubAgain ++ [l] else (s.ch n).scrubAgain) ∧
      (w = false → kget? (t.ch n).rows (s.rowBank (l * 64)).2 = some (s.rowBank (l * 64)).1) ∧
      mapKept s.drc.chans t.drc.chans [n.val] ∧
      t = { s with regs := t.regs, drc := { s.drc with chans := t.drc.chans } } ∧ regsKept s t [DC.ACTS n, DC.NRCNT n]) ∧
  (∀ (n : Chan) (t0 : Nat) (s : State), n.val < s.nCh → s.slotFree n = true → (s.ch n).scrubBack = none → s.chBursts ≤ (s.ch n).scrubNext → (s.ch n).scrubAgain = [] → (s.ch n).scrubFrom = some t0 →
    ∃ t, exec (.dramScrub n 0 false) s = .next t ∧ t.now = max s.now (t0 + s.f DRC.BGCFG 23 16 * 3600000000000) ∧
      (t.ch n).scrubFrom = some t.now ∧ (t.ch n).scrubNext = 1 ∧
      (let u := s.until (t0 + s.f DRC.BGCFG 23 16 * 3600000000000);
       t = { u with regs := t.regs, drc := { u.drc with chans := t.drc.chans } } ∧ regsKept u t [DC.ACTS n, DC.NRCNT n])) ∧
  (∀ (n : Chan) (s : State), n.val < s.nCh → s.chSt n = csREADY → s.f DRC.SRIDLE 15 0 ≠ 0 → s.queuedBefore n ((s.ch n).idle + s.f DRC.SRIDLE 15 0 * 1000) = false →
    ∃ t, exec (.selfRefreshEntry n) s = .next t ∧ t.now = max s.now ((s.ch n).idle + s.f DRC.SRIDLE 15 0 * 1000) ∧
      (let u := s.until ((s.ch n).idle + s.f DRC.SRIDLE 15 0 * 1000);
       if s.chQueued n then t.chSt n = csREADY ∧ (t.ch n).idle = t.now ∧
         (t.rd (DC.SRABANDON n)).toNat = min ((u.rd (DC.SRABANDON n)).toNat + 1) 4294967295 ∧
         mapKept s.drc.chans t.drc.chans [n.val] ∧
         t = { u with regs := t.regs, drc := { u.drc with chans := t.drc.chans } } ∧ regsKept u t [DC.SRABANDON n, DC.NRCNT n]
       else t.chSt n = csSELFREF ∧ (t.ch n).rows = [] ∧
         (t.rd (DC.SRENTRY n)).toNat = min ((u.rd (DC.SRENTRY n)).toNat + 1) 4294967295 ∧ mapKept s.drc.chans t.drc.chans [n.val] ∧
         t = { u with regs := t.regs, drc := { u.drc with chans := t.drc.chans, ever := t.drc.ever }, out := t.out, pci := u.pciBut t } ∧
         regsKept u t [DC.DCSTAT n, DC.SRENTRY n, DC.NRCNT n, DRC.STAT, HDR.IRQSTAT pgDRC])) ∧
  (∀ (n : Chan) (s : State), n.val < s.nCh → s.chSt n = csSELFREF → ((s.chWorks n = true ∧ s.chQueued n = true) ∨ (s.chRuns n = true ∧ (s.ch n).held = true)) →
    ∃ t, exec (.selfRefreshExit n) s = .next t ∧ t.chSt n = csREADY ∧ t.ch n = { s.ch n with held := false, idle := s.now } ∧
      mapKept s.drc.chans t.drc.chans [n.val] ∧
      t = { s with regs := t.regs, drc := { s.drc with chans := t.drc.chans, ever := t.drc.ever }, out := t.out, pci := s.pciBut t } ∧
      regsKept s t [DC.DCSTAT n, DRC.STAT, HDR.IRQSTAT pgDRC])

/-- FREQ_CHANGE_GO (R319) completes in every state in which a host write takes effect: with no change running, TRAINED set and a
trained set named it starts a change to that set at group 0; in the three cases that R319 lists it is dropped and counted. -/
def Obligations.FrequencyChangeComplete : Prop :=
  (∀ (w : Word) (s : State), s.dev.state ≠ .load → s.present pgDRC = true → s.busy pgDRC = false → fld w 0 0 = 1 → s.drc.fc = none → (fld w 1 1 = 1 → s.fb DRC.CFG 14 = true) → s.fb DRC.STAT 0 = true →
    ∃ t, exec (.freqChangeGo w) s = .next t ∧
      t.drc = { s.drc with fc := some { set := fld w 1 1, group := none, next := 0, notBefore := s.now } } ∧
      t.f DRC.FCTL 1 1 = fld w 1 1 ∧ t.f DRC.FCTL 17 2 = max 1 (fld w 17 2) ∧
      t = { s with regs := t.regs, drc := t.drc } ∧ regsKept s t [DRC.FCTL]) ∧
  (∀ (w : Word) (s : State), s.dev.state ≠ .load → s.present pgDRC = true → s.busy pgDRC = false → fld w 0 0 = 1 → (s.drc.fc.isSome = true ∨ (fld w 1 1 = 1 ∧ s.fb DRC.CFG 14 = false) ∨ s.fb DRC.STAT 0 = false) →
    ∃ t, exec (.freqChangeGo w) s = .next t ∧ t.drc = s.drc ∧
      (t.rd DEV.BADACC).toNat = min ((s.rd DEV.BADACC).toNat + 1) 4294967295 ∧
      onlyRegs s t [DRC.FCTL, DEV.BADACC])

/-- FREQ_GROUP_START (R319, R320) completes in every state with a change under way, no group in progress and DEV.STATE not HOLD:
after the gap, and where the group has a channel to move at the end of the group's next refresh blackout, every such channel enters
FCHANGE and remembers whether it was in self-refresh. In HOLD nothing starts.
That the deadlines and instants set the time is the model's choice (log entry 6). -/
def Obligations.FreqGroupStartComplete : Prop :=
  (∀ (f : FreqChange) (n : Chan) (s : State), s.drc.fc = some f → f.group = none → f.next < 8 → s.dev.state ≠ .hold → n.val < s.nCh → n.val % 8 = f.next → s.chSet n ≠ f.set → (s.chSt n = csREADY ∨ s.chSt n = csSELFREF) →
    ∃ t, exec .freqGroupStart s = .next t ∧ t.chSt n = csFCHANGE ∧ (t.ch n).rows = [] ∧
      (t.ch n).wasSr = decide (s.chSt n = csSELFREF) ∧
      t.drc.fc = some { f with group := some f.next, began := t.now, next := f.next + 1 } ∧
      (let u := s.until f.notBefore;
       let w := u.afterBlackout f.next;
       t.now = (match (u.refGroup f.next).head? with
         | none => u.now
         | some m => (match u.groupFrom f.next (u.now - u.blackout m) with | none => u.now | some x => x + u.blackout m)) ∧
       t = { w with regs := t.regs, drc := { w.drc with chans := t.drc.chans, ever := t.drc.ever, fc := t.drc.fc }, out := t.out,
                    pci := w.pciBut t } ∧
       mapKept s.drc.chans t.drc.chans ((List.range s.nCh).filter fun m => decide (m % 8 = f.next)) ∧
       regsKept w t ([DRC.STAT, HDR.IRQSTAT pgDRC] ++
         ((List.range s.nCh).filter fun m => decide (m % 8 = f.next)).flatMap fun m => [DC.DCSTAT m, DC.NRCNT m]))) ∧
  (∀ (f : FreqChange) (s : State), s.drc.fc = some f → f.group = none → f.next < 8 → s.dev.state ≠ .hold → (s.until f.notBefore).fcGroup f.next f.set = [] →
    ∃ t, exec .freqGroupStart s = .next t ∧ t.now = max s.now f.notBefore ∧
      (let u := s.until f.notBefore;
       t = { u with drc := { u.drc with fc := some { f with group := some f.next, began := t.now, next := f.next + 1 } } })) ∧
  (∀ (s : State), s.dev.state = .hold →
    exec .freqGroupStart s = .next s)

/-- FREQ_GROUP_DONE (R319, R320) completes in every state with a group in progress: 2,100 ns after the group's start its channels
are on the new set, READY, back in self-refresh, or held there while their page does not run; the next group may start FCGAP µs
later, and after the last one the change is over and FCDONE is set.
That the deadlines and instants set the time is the model's choice (log entry 6). -/
def Obligations.FreqGroupDoneComplete : Prop :=
  ∀ (f : FreqChange) (k : Nat) (n : Chan) (s : State), s.drc.fc = some f → f.group = some k → n.val < s.nCh → n.val % 8 = k → s.chSt n = csFCHANGE → (s.blk (pgDC n)).st ≠ .resetting →
    ∃ t, exec .freqGroupDone s = .next t ∧ t.now = max s.now (f.began + 2100) ∧ t.chSet n = f.set % 2 ∧
      t.chSt n = (if (s.ch n).wasSr then csSELFREF else if s.chRuns n then csREADY else csSELFREF) ∧
      (t.ch n).held = ((s.ch n).held || (!(s.ch n).wasSr && !s.chRuns n)) ∧
      t.drc.fc = (if 8 ≤ f.next then none else
        some { f with group := none, notBefore := t.now + s.f DRC.FCTL 17 2 * 1000 }) ∧
      (8 ≤ f.next → t.fb (HDR.IRQSTAT pgDRC) irqFCDONE = true) ∧
      (let u := s.until (f.began + 2100);
       t = { u with regs := t.regs, drc := { u.drc with chans := t.drc.chans, ever := t.drc.ever, fc := t.drc.fc }, out := t.out,
                    pci := u.pciBut t } ∧
       mapKept s.drc.chans t.drc.chans ((List.range s.nCh).filter fun m => decide (m % 8 = k)) ∧
       regsKept u t ([DRC.STAT, HDR.IRQSTAT pgDRC] ++
         ((List.range s.nCh).filter fun m => decide (m % 8 = k)).flatMap fun m => [DC.DCSTAT m, DC.NRCNT m]))

/-- DRCPLL_RELOCK (R362) completes in every state: its domain is unlocked no longer, so that a request to a channel of the domain is
refused only where the page, DRC or the channel's own state refuses it (R305); every other domain, and everything else,
stays. -/
def Obligations.DrcpllRelockComplete : Prop :=
  ∀ (k : Fin 16) (j : Fin 16) (n : Chan) (r : DReq) (s : State), n.val / 4 = k.val → s.reqChans r = [n.val] → s.nCh ≠ 0 →
    ∃ t, exec (.drcpllRelock k) s = .next t ∧ t.drc.unlocked.contains k.val = false ∧
      (j ≠ k → t.drc.unlocked.contains j.val = s.drc.unlocked.contains j.val) ∧
      t.drcRefuses r = (!s.running pgDRC || decide (s.chSt n = csRETRAIN) || decide (s.chSt n = csFAILED) ||
        (s.drc.ever && (!s.running (pgDC n) || decide (s.chSt n = csTRAINING)))) ∧
      t = { s with drc := { s.drc with unlocked := t.drc.unlocked } }

/-- The hub (R347 to R358): a detection sets its source's FLTSTAT and reaches the hub unless masked; an event merges into an open
record, is recorded as consequential, or opens a record of its own with its reaction; a full log loses it and counts; a
QUIESCE reaction drains the block; a reset or FAILOVER reaction resets it, a FAILOVER hands the role over where it may and
sets FOSKIP where not, and each counts toward the fence limit, which fences the device; a FATAL fault fences it too. -/
def Obligations.FaultEventComplete : Prop :=
  (∀ (p : PageId) (i : Fin 32) (w : Word) (k : Kind) (n : Nat) (c : Nat × Nat) (s : State), kindOf p = some (k, n) → srcInfo p i = some c → s.present p = true →
    (∃ t, exec (.faultEvent (some (p, i, w))) s = .next t ∧ exec (.faultEvent none) (s.detect p i w) = .next t) ∧
      (s.detect p i w).fb (HDR.FLTSTAT p) i = true ∧
      (let u := s.fltEffect k n i w.toNat;
       (s.detect p i w).flt = (if u.fb (HDR.FLTMASK p) i = true ∨ u.dev.fused = false then u.flt
         else { u.flt with events := u.flt.events ++ [⟨p.val, i.val, false, if hasInfo k i then w else 0, u.now⟩] }))) ∧
  (∀ (e : FltEv) (c : Nat) (d : Nat) (s : State), s.fltNext = some e → srcInfo e.page e.src = some (c, d) → c ≠ clFATAL → s.mergesInto e c = none → s.conseqOf e c = none → s.reactionOf e.page e.src ≤ 1 → s.fltFull = false → ((s.flt.waits.all fun w => decide (w.page ≠ e.page)) = true) →
    ∃ t, exec (.faultEvent none) s = .next t ∧
      t.flt = { s.flt with
        events := s.flt.events.erase e,
        log := kset s.flt.log (s.flt.next % 64) (newRec s e c (s.reactionOf e.page e.src) true),
        next := (s.flt.next + 1) % 256,
        corr := s.flt.corr || decide (c = clCORR) } ∧
      (if s.reactionOf e.page e.src = 1 then raised s t pgFLT 0 ∧ onlyRegsOut { s with flt := t.flt } t [HDR.IRQSTAT pgFLT]
       else t = { s with flt := t.flt })) ∧
  (∀ (e : FltEv) (c : Nat) (d : Nat) (r : FltRec) (s : State), s.fltNext = some e → srcInfo e.page e.src = some (c, d) → s.mergesInto e c = some r →
    ∃ t, exec (.faultEvent none) s = .next t ∧
      t = { s with flt := { s.flt with
        events := s.flt.events.erase e,
        log := s.flt.log.map fun x => if x.2 = r then
          (x.1, { r with seccnt := min 65535 (r.seccnt + 1), sec := some (r.sec.getD (e.page, e.src)) }) else x } }) ∧
  (∀ (e : FltEv) (c : Nat) (d : Nat) (q : Nat) (s : State), s.fltNext = some e → srcInfo e.page e.src = some (c, d) → c ≠ clFATAL → s.mergesInto e c = none → s.conseqOf e c = some q → s.fltFull = false →
    ∃ t, exec (.faultEvent none) s = .next t ∧
      t = { s with flt := { s.flt with
        events := s.flt.events.erase e,
        log := kset s.flt.log (s.flt.next % 64) { newRec s e c 0 true with conseq := true, primref := some q },
        next := (s.flt.next + 1) % 256,
        corr := s.flt.corr || decide (c = clCORR) } }) ∧
  (∀ (e : FltEv) (c : Nat) (d : Nat) (s : State), s.fltNext = some e → srcInfo e.page e.src = some (c, d) → c ≠ clFATAL → s.mergesInto e c = none → s.conseqOf e c = none → s.reactionOf e.page e.src ≤ 1 → s.fltFull = true → ((s.flt.waits.all fun w => decide (w.page ≠ e.page)) = true) →
    ∃ t, exec (.faultEvent none) s = .next t ∧ t.flt = { s.flt with events := s.flt.events.erase e } ∧
      (t.rd FLT.LOSTREC).toNat = min ((s.rd FLT.LOSTREC).toNat + 1) 4294967295 ∧ t.fb (HDR.IRQSTAT pgFLT) 1 = true ∧
      t = { s with flt := t.flt, regs := t.regs, out := t.out, pci := s.pciBut t } ∧ regsKept s t [FLT.LOSTREC, HDR.IRQSTAT pgFLT]) ∧
  (∀ (e : FltEv) (c : Nat) (d : Nat) (s : State), s.fltNext = some e → srcInfo e.page e.src = some (c, d) → c ≠ clFATAL → e.inj = false → s.mergesInto e c = none → s.conseqOf e c = none → s.reactionOf e.page e.src = 3 → s.hasStates e.page = true → s.fltFull = false → s.reactWaits e.page s.flt.next false = false → (s.f FLT.QUIET 19 16 = 0 ∨ s.f FLT.QUIET 19 16 ≠ min 15 (s.fcount e.page + 1)) →
    ∃ t, exec (.faultEvent none) s = .next t ∧ (t.blk e.page).st = .resetting ∧
      kget? t.flt.log (s.flt.next % 64) = some (newRec s e c 3 false) ∧
      kget? t.flt.fence e.page = some (min 15 (s.fcount e.page + 1), s.now) ∧
      t.flt.wins = s.flt.wins ++ [{ page := e.page, seq := s.flt.next, inj := false }] ∧ t.dev = s.dev ∧ mapKept s.blks t.blks [e.page]) ∧
  (∀ (e : FltEv) (c : Nat) (d : Nat) (i : Nat) (old : FltRec) (s : State), s.fltNext = some e → srcInfo e.page e.src = some (c, d) → c ≠ clFATAL → s.mergesInto e c = none → s.conseqOf e c = none → (s.reactionOf e.page e.src = 2 ∨ s.reactionOf e.page e.src = 3) → s.hasStates e.page = true → s.fltFull = false → s.reactWaits e.page s.flt.next e.inj = true → (e.inj = true ∨ s.f FLT.QUIET 19 16 = 0) → kget? s.flt.log i = some old → i ≠ s.flt.next % 64 →
    ∃ t, exec (.faultEvent none) s = .next t ∧ t.blks = s.blks ∧ t.flt.wins = s.flt.wins ∧
      kget? t.flt.log (s.flt.next % 64) = some (newRec s e c (s.reactionOf e.page e.src) false) ∧
      t.flt.waits = (if e.inj then s.flt.waits else s.flt.waits.filter fun w => decide (w.page ≠ e.page) || !w.inj) ++
        [⟨e.page, s.reactionOf e.page e.src, s.flt.next, e.inj⟩] ∧
      kget? t.flt.log i = some (if e.inj = false ∧ old.page = e.page ∧ old.inj = true ∧ s.fltWaits old = true then
        { old with abandoned := true, done := true } else old) ∧
      t = { s with regs := t.regs, flt := t.flt, out := t.out, pci := s.pciBut t } ∧ regsKept s t [HDR.IRQSTAT pgFLT]) ∧
  (∀ (p : PageId) (w : FltWait) (s : State), s.hasStates p = true → (s.blk p).st = .draining → s.blkWork p = false → (s.flt.waits.find? (fun w => decide (w.page = p.val)) = some w) → w.code ≠ 2 →
    ∃ t, exec (.drainComplete p) s = .next t ∧ (t.blk p).st = .resetting ∧ t.flt.waits = s.flt.waits.erase w ∧
      (∃ x ∈ t.flt.wins, x = { page := p.val, seq := w.seq, inj := w.inj }) ∧ t.dev = s.dev ∧ t.pending = s.pending) ∧
  (∀ (e : FltEv) (d : Nat) (n : Nat) (s : State), s.fltNext = some e → srcInfo e.page e.src = some (clFATAL, d) → s.reactionOf e.page e.src = 5 → ¬ s.dev.state ∈ [.reset, .strap, .fenced] → s.fltFull = false → s.present pgKEY = true →
    ∃ t, exec (.faultEvent none) s = .next t ∧ t.dev.state = .fenced ∧ t.f DEV.FENCE 7 0 = 5 ∧
      t.flt.fatal = true ∧ t.flt.first = some (s.flt.first.getD (newRec s e clFATAL 5 true)) ∧
      kget? t.flt.log (s.flt.next % 64) = some (newRec s e clFATAL 5 true) ∧
      (t.kslot n).key = none ∧ t.role = roleNone ∧ (s.hasStates pgDRC = true → (t.blk pgDRC).st = .resetting) ∧ t.now = s.now) ∧
  (∀ (e : FltEv) (c : Nat) (d : Nat) (ho : Bool) (s : State), s.fltNext = some e → srcInfo e.page e.src = some (c, d) → c ≠ clFATAL → e.inj = false → s.mergesInto e c = none → s.conseqOf e c = none → s.reactionOf e.page e.src = 4 → s.hasStates e.page = true → s.fltFull = false → s.reactWaits e.page s.flt.next false = false → (s.f FLT.QUIET 19 16 = 0 ∨ s.f FLT.QUIET 19 16 ≠ min 15 (s.fcount e.page + 1)) → (ho = decide (s.dev.state = .run ∧ s.evtEn = true ∧ s.role = roleActive ∧ s.peer = stCurrent)) →
    ∃ t, exec (.faultEvent none) s = .next t ∧ (t.blk e.page).st = .resetting ∧
      kget? t.flt.log (s.flt.next % 64) = some { newRec s e c 4 false with foskip := !ho } ∧
      kget? t.flt.fence e.page = some (min 15 (s.fcount e.page + 1), s.now) ∧
      t.flt.wins = s.flt.wins ++ [{ page := e.page, seq := s.flt.next, inj := false }] ∧
      (ho = true → e.page ≠ pgEVT → t.evt.askedAt = some s.now ∧ t.fb EVT.STAT 15 = true) ∧
      (ho = false → e.page ≠ pgEVT → t.evt.askedAt = s.evt.askedAt ∧ t.fb EVT.STAT 15 = s.fb EVT.STAT 15) ∧ t.dev = s.dev) ∧
  (∀ (e : FltEv) (c : Nat) (d : Nat) (s : State), s.fltNext = some e → srcInfo e.page e.src = some (c, d) → c ≠ clFATAL → e.inj = false → s.mergesInto e c = none → s.conseqOf e c = none → s.reactionOf e.page e.src = 2 → s.hasStates e.page = true → ((s.flt.waits.all fun w => decide (w.page ≠ e.page)) = true) → s.fltFull = false → s.reactWaits e.page s.flt.next false = false → (s.f FLT.QUIET 19 16 = 0 ∨ s.f FLT.QUIET 19 16 ≠ min 15 (s.fcount e.page + 1)) →
    ∃ t, exec (.faultEvent none) s = .next t ∧ (t.blk e.page).fltq = true ∧
      ((s.blk e.page).st = .running → s.fb (HDR.BLKCTL e.page) 0 = true → (t.blk e.page).st = .draining ∨ (t.blk e.page).st = .quiesced) ∧
      (kget? t.flt.log (s.flt.next % 64)).map (fun r => (r.seq, r.page, r.src, r.cls, r.react)) =
        some (s.flt.next, e.page, e.src, c, 2) ∧
      kget? t.flt.fence e.page = some (min 15 (s.fcount e.page + 1), s.now) ∧
      (s.f FLT.CWIN 15 0 ≠ 0 →
        t.flt.wins.map (fun x => (x.page, x.seq)) = s.flt.wins.map (fun x => (x.page, x.seq)) ++ [(e.page, s.flt.next)]) ∧
      t.dev = s.dev ∧ mapKept s.blks t.blks [e.page]) ∧
  (∀ (e : FltEv) (c : Nat) (d : Nat) (s : State), s.fltNext = some e → srcInfo e.page e.src = some (c, d) → c ≠ clFATAL → e.inj = false → s.mergesInto e c = none → s.conseqOf e c = none → s.reactionOf e.page e.src ∈ [2, 3, 4] → s.hasStates e.page = true → s.fltFull = false → s.f FLT.QUIET 19 16 ≠ 0 → s.f FLT.QUIET 19 16 = min 15 (s.fcount e.page + 1) → ¬ s.dev.state ∈ [.reset, .strap, .fenced] →
    ∃ t, exec (.faultEvent none) s = .next t ∧ t.dev.state = .fenced ∧ t.f DEV.FENCE 7 0 = 5 ∧
      kget? t.flt.log (s.flt.next % 64) = some { newRec s e c 5 true with limit := true } ∧
      kget? t.flt.fence e.page = some (min 15 (s.fcount e.page + 1), s.now) ∧ t.role = roleNone ∧
      (t.blk e.page).st = .resetting ∧ t.now = s.now)

/-- FLT's registers (R349, R351, R352, R358 to R361): FLTFORCE injects every source it names in factory mode, and a bit that
names none counts BADACC; ACK acknowledges an open record; RXVAL sets a reaction; a read of REC0 latches eight words; windows
end and fence counts decay at their time; four differing samples in a row of a pad are a wire fault.
That the deadlines set the time is the model's choice (log entry 6). -/
def Obligations.FaultRegistersComplete : Prop :=
  (∀ (p : PageId) (i : Fin 32) (c : Nat × Nat) (w : Word) (s : State), s.dev.state ≠ .load → s.present p = true → s.busy p = false → s.factory = true → srcInfo p i = some c → w = BitVec.ofNat 32 (2 ^ i.val) →
    ∃ t, exec (.faultInject p w) s = .next t ∧ t.fb (HDR.FLTSTAT p) i = true ∧
      t.f (HDR.FLTCNT p) 30 16 = min (s.f (HDR.FLTCNT p) 30 16 + 1) 32767 ∧
      t.flt = (if s.fb (HDR.FLTMASK p) i = true ∨ s.dev.fused = false then s.flt
        else { s.flt with events := s.flt.events ++ [⟨p.val, i.val, true, 0, s.now⟩] }) ∧
      t = { s with regs := t.regs, flt := t.flt } ∧ regsKept s t ([HDR.FLTSTAT p, HDR.FLTCNT p] ++ perfKeys p)) ∧
  (∀ (p : PageId) (w : Word) (q : List Nat) (s : State), s.dev.state ≠ .load → s.present p = true → s.busy p = false → s.factory = true → (q = (List.range 32).filter fun i => w.getLsbD i && (srcInfo p i).isSome) →
    ∃ t, exec (.faultInject p w) s = .next t ∧
      (∀ i ∈ q, t.fb (HDR.FLTSTAT p) i = true) ∧
      t.f (HDR.FLTCNT p) 30 16 = min (s.f (HDR.FLTCNT p) 30 16 + q.length) 32767 ∧
      t.flt = { s.flt with events := s.flt.events ++
        (if s.dev.fused = false then [] else q.filter fun i => s.fb (HDR.FLTMASK p) i = false).map fun i => ⟨p.val, i, true, 0, s.now⟩ } ∧
      ((∃ i : Fin 32, w.getLsbD i = true ∧ (srcInfo p i).isNone = true) →
        t.f DEV.BADACC 31 0 = min (s.f DEV.BADACC 31 0 + 1) 4294967295) ∧
      ((∀ i : Fin 32, w.getLsbD i = true → (srcInfo p i).isSome = true) → t.rd DEV.BADACC = s.rd DEV.BADACC) ∧
      t = { s with regs := t.regs, flt := t.flt } ∧
      regsKept s t ([HDR.FLTSTAT p, HDR.FLTCNT p, DEV.BADACC] ++ perfKeys p)) ∧
  (∀ (p : PageId) (w : Word) (s : State), s.dev.state ≠ .load → s.present p = true → s.busy p = false → s.factory = false →
    ∃ t, exec (.faultInject p w) s = .next t ∧
      (t.rd DEV.BADACC).toNat = min ((s.rd DEV.BADACC).toNat + 1) 4294967295 ∧ onlyRegs s t [DEV.BADACC]) ∧
  (∀ (w : Word) (r : FltRec) (s : State), s.dev.state ≠ .load → s.busy pgFLT = false → kget? s.flt.log (fld w 7 0 % 64) = some r → r.seq = fld w 7 0 → r.isOpen = true → r.react ≠ 2 →
    ∃ t, exec (.faultAck w) s = .next t ∧
      t = { s with flt := { s.flt with log := kset s.flt.log (fld w 7 0 % 64) { r with acked := true } } }) ∧
  (∀ (w : Word) (r : FltRec) (s : State), s.dev.state ≠ .load → s.busy pgFLT = false → kget? s.flt.log (fld w 7 0 % 64) = some r → r.seq = fld w 7 0 → r.isOpen = true → r.react = 2 → (({ s with flt := { s.flt with log := kset s.flt.log (fld w 7 0 % 64) { r with acked := true } } } : State).openRecs.all (fun x => decide (x.react ≠ 2) || decide (x.page ≠ r.page) || decide (x.seq = r.seq)) = true) →
    ∃ t, exec (.faultAck w) s = .next t ∧
      (t.blk r.page).fltq = false ∧ (kget? t.flt.log (fld w 7 0 % 64)).map (fun x => x.acked) = some true ∧
      ((s.blk r.page).st = .quiesced → s.fb (HDR.BLKCTL r.page) 0 = true → s.fb (HDR.BLKCTL r.page) 1 = false →
        s.dev.state = .run → (t.blk r.page).st = .running)) ∧
  (∀ (w : Word) (k : Kind) (c : Nat) (d : Nat) (s : State), s.dev.state ≠ .load → typeKind s.rxIdx.1 = some k → srcInfo s.rxIdx.1 s.rxIdx.2 = some (c, d) → fld w 2 0 ≤ 5 → (c = clFATAL → fld w 2 0 = 5) → (fld w 2 0 = 2 ∨ fld w 2 0 = 3 → alwaysOn s.rxIdx.1 = false) → s.reactionOf s.rxIdx.1 s.rxIdx.2 ≠ fld w 2 0 → s.rwsFree 0 = true →
    ∃ t, exec (.reactionWrite w) s = .next t ∧ t.reactionOf s.rxIdx.1 s.rxIdx.2 = fld w 2 0 ∧
      mapKept s.flt.react t.flt.react [k.base * 32 + s.rxIdx.2] ∧ t.rd DEV.CFGGEN = s.rd DEV.CFGGEN + 1 ∧
      t = { s with regs := t.regs, flt := { s.flt with react := t.flt.react } } ∧
      regsKept s t [FLT.RXVAL (k.base * 32 + s.rxIdx.2), DEV.CFGGEN, DEV.VALSTAT]) ∧
  (∀ (b : Bool) (s : State), ∃ t, exec (.recordRead b) s = .next t ∧
      (let l := match (if b then s.flt.first else kget? s.flt.log (s.f FLT.RECSEL 5 0)) with | some r => r.words | none => List.replicate 8 0;
       t.flt = (if b then { s.flt with firstLatch := l } else { s.flt with recLatch := l }) ∧
       t = { s with flt := t.flt, out := s.out ++ [.readData 0 (l.headD 0)] })) ∧
  (∀ (p : PageId) (x : FltWin) (t0 : Nat) (s : State), (s.flt.wins.find? (fun w => decide (w.page = p.val) && w.ends.isSome) = some x) → x.ends = some t0 →
    ∃ t, exec (.conseqWindowEnd p) s = .next t ∧ t.now = max s.now t0 ∧
      t = { s.until t0 with flt := { s.flt with wins := s.flt.wins.erase x } }) ∧
  (∀ (p : PageId) (n : Nat) (t0 : Nat) (s : State), kget? s.flt.fence p = some (n + 1, t0) →
    ∃ t, exec (.fenceCountDecay p) s = .next t ∧ t.now = max s.now (t0 + s.f FLT.QUIET 15 0 * 1000000) ∧ t.fcount p = n ∧
      t = { s.until (t0 + s.f FLT.QUIET 15 0 * 1000000) with flt := { s.flt with fence := t.flt.fence } } ∧
      mapKept s.flt.fence t.flt.fence [p.val]) ∧
  (∀ (p : Bool) (n : Bool) (s : State), ∃ t, exec (.faultPinSample p n) s = .next t ∧
      t.flt.badP = (if p ≠ s.faultPins.1 then min 4 (s.flt.badP + 1) else 0) ∧
      t.flt.badN = (if n ≠ s.faultPins.2 then min 4 (s.flt.badN + 1) else 0) ∧
      t.flt.wireP = (if p ≠ s.faultPins.1 ∧ 3 ≤ s.flt.badP then true else if p = s.faultPins.1 ∧ 3 ≤ s.flt.okP then false
        else s.flt.wireP) ∧
      t.flt.wireN = (if n ≠ s.faultPins.2 ∧ 3 ≤ s.flt.badN then true else if n = s.faultPins.2 ∧ 3 ≤ s.flt.okN then false
        else s.flt.wireN) ∧
      (p ≠ s.faultPins.1 → s.flt.badP = 3 → t.fb (HDR.FLTSTAT pgFLT) 2 = true ∧ t.fb (HDR.IRQSTAT pgFLT) 2 = true) ∧
      (n ≠ s.faultPins.2 → s.flt.badN = 3 → t.fb (HDR.FLTSTAT pgFLT) 3 = true ∧ t.fb (HDR.IRQSTAT pgFLT) 2 = true) ∧
      t.now = (s.now / 1000 + 1) * 1000 ∧
      (let u := s.nextTick 1000;
       t = { u with regs := t.regs, flt := t.flt, out := t.out, pci := u.pciBut t } ∧
       regsKept u t ([HDR.IRQSTAT pgFLT, HDR.FLTSTAT pgFLT, HDR.FLTCNT pgFLT] ++ perfKeys pgFLT))) ∧
  (∀ (w : Word) (s : State), s.dev.state ≠ .load → s.busy pgFLT = false →
    ∃ t, exec (.legacyClear w) s = .next t ∧ t.rd FLT.LOSTREC = (if fld w 1 1 = 1 then 0 else s.rd FLT.LOSTREC) ∧
      t = { s with regs := t.regs, flt := { s.flt with corr := if fld w 0 0 = 1 then false else s.flt.corr } } ∧
      regsKept s t [FLT.LOSTREC])

/-- PWR (R363 to R370): a sample stores its values, and enough low ones in a row hold the device until the supply has been good
for RESUMEDLY; the hottest sensor is reported with its thresholds; the setpoint moves by at most 5 mV; each 8 ns window
keeps the current above its floor and within the fall it allows. The activity is the model's free value (log entry 35).
AVSSTAT.MOVING until the setpoint is reached is the model's choice (log entry 73), and so are the deadlines that set
the time (log entry 6). -/
def Obligations.SupplyTemperatureComplete : Prop :=
  (∀ (c : Nat) (l : List Nat) (i : Fin 8) (s : State), l.length = 8 → c ≤ 2047 → ((l.all fun v => decide (v ≤ 4095)) = true) → s.pwr.brown = false → ((((c :: l).zip (List.range 9)).all fun e => match s.supplyTh e.2 with
      | some (w, f, h) => decide (w ≤ e.1) && decide (f ≤ e.1) && decide (e.1 ≤ h)
      | none => true) = true) →
    ∃ t, exec (.supplySample c l) s = .next t ∧ t.f PWR.CORE 10 0 = c ∧ t.f (PWR.VMONVAL i) 11 0 = l.getD i 0 ∧
      t.now = (s.now / 1000 + 1) * 1000 ∧ t.supplyLow = false ∧ t.pwr.brown = false ∧ t.pwr.okAt = s.pwr.okAt ∧
      (s.supplyTh (i + 1) = none → kget? t.pwr.low (i + 1) = none ∧ kget? t.pwr.bad (i + 1) = none ∧
        kget? t.pwr.ovr (i + 1) = none) ∧
      (let w := t.pwr;
       t.pwr = { s.pwr with low := w.low, bad := w.bad, ovr := w.ovr, badFired := w.badFired, overFired := w.overFired }) ∧
      (let u := s.nextTick 1000; t = { u with regs := t.regs, pwr := t.pwr } ∧
        regsKept u t (PWR.CORE :: (List.range 8).map PWR.VMONVAL))) ∧
  (∀ (c : Nat) (l : List Nat) (w : Nat) (f : Nat) (h : Nat) (s : State), l.length = 8 → c ≤ 2047 → ((l.all fun v => decide (v ≤ 4095)) = true) → s.pwr.brown = false → s.dev.state ∈ [.load, .held, .armed, .run, .standby] → s.supplyTh 0 = some (w, f, h) → c < w → max 1 (s.f PWR.FILT 3 0) ≤ kgetD s.pwr.low 0 0 + 1 →
    ∃ t, exec (.supplySample c l) s = .next t ∧ t.dev.state = .hold ∧ t.dev.prev = some s.dev.state ∧ t.pwr.brown = true ∧
      t.pwr.okAt = none ∧ t.f PWR.CORE 10 0 = c ∧
      (t.rd PWR.BROWNCNT).toNat = min ((s.rd PWR.BROWNCNT).toNat + 1) 4294967295 ∧ t.fb (HDR.IRQSTAT pgPWR) 0 = true ∧
      t.fb (HDR.FLTSTAT pgPWR) 0 = true ∧ t.now = (s.now / 1000 + 1) * 1000 ∧ t.fuses = s.fuses) ∧
  (∀ (t0 : Nat) (d : DevState) (s : State), s.pwr.okAt = some t0 → s.pwr.brown = true → s.dev.state = .hold → s.dev.prev = some d → d ≠ .hold →
    ∃ t, exec .holdResume s = .next t ∧ t.now = max s.now (t0 + s.f PWR.RESUMEDLY 19 0 * 1000) ∧ t.dev.state = d ∧
      t.pwr.brown = false ∧ t.pwr.okAt = none ∧ t.fb (HDR.IRQSTAT pgPWR) 1 = true ∧ t.fuses = s.fuses) ∧
  (∀ (l : List Nat) (i : Fin 16) (s : State), l.length = 16 → ((l.all fun v => decide (v ≤ 255)) = true) → (((List.range 16).all fun j => if j < i.val then decide (sext 8 (l.getD j 0) < sext 8 (l.getD i 0)) else decide (sext 8 (l.getD j 0) ≤ sext 8 (l.getD i 0))) = true) →
    ∃ t, exec (.thermalRead l) s = .next t ∧ t.rd PWR.TEMP = BitVec.ofNat 32 (l.getD i 0 + i.val * 256) ∧
      (let v : Int := sext 8 (l.getD i 0);
       let warn : Int := (s.f PWR.THERM 7 0 : Nat);
       let crit : Int := (s.f PWR.THERM 15 8 : Nat);
       t.pwr = { s.pwr with
         warm := decide (warn ≤ v) || (s.pwr.warm && decide (warn - 5 < v)),
         crit := decide (crit ≤ v) || (s.pwr.crit && decide (crit - 5 < v)) } ∧
       (warn ≤ v → s.pwr.warm = false → t.fb (HDR.IRQSTAT pgPWR) 2 = true ∧ t.fb (HDR.FLTSTAT pgPWR) 4 = true) ∧
       (crit ≤ v → s.pwr.crit = false → t.fb (HDR.FLTSTAT pgPWR) 5 = true)) ∧
      t.now = (s.now / 100000 + 1) * 100000 ∧
      (let u := s.nextTick 100000;
       t = { u with regs := t.regs, flt := t.flt, pwr := t.pwr, out := t.out, pci := u.pciBut t } ∧
       regsKept u t ([PWR.TEMP, HDR.IRQSTAT pgPWR, HDR.FLTSTAT pgPWR, HDR.FLTCNT pgPWR] ++ perfKeys pgPWR))) ∧
  (∀ (u : State) (s : State), s.dev.state ≠ .hold → s.dev.fused = true → s.fb PWR.AVSCFG 6 = true → u = (match s.pwr.avsAt with | some t0 => s.until (t0 + 100000) | none => s) →
    ∃ t, exec .avsStep s = .next t ∧
      (let v := s.f PWR.AVSSTAT 10 0;
       t.f PWR.AVSSTAT 10 0 = (if v < s.avsTarget then min s.avsTarget (v + 5) else max s.avsTarget (v - 5)) ∧
       t.fb PWR.AVSSTAT 27 = decide (t.f PWR.AVSSTAT 10 0 ≠ s.avsTarget)) ∧
      t.now = u.now ∧ t.pwr = { s.pwr with avsAt := some t.now } ∧
      t = { u with regs := t.regs, pwr := t.pwr } ∧ regsKept u t [PWR.AVSSTAT]) ∧
  (∀ (w : Word) (s : State), s.flt.events = [] →
    ∃ t, exec (.faultEvent (some (⟨pgPWR, by decide⟩, 3, w))) s = .next t ∧ t.rd PWR.AVSSTAT = s.rd PWR.AVSSTAT ∧ t.fb (HDR.FLTSTAT pgPWR) 3 = true ∧ t.pwr = s.pwr) ∧
  (∀ (n : Nat) (b : Bool) (s : State), n ≤ 1023 →
    ∃ t, exec (.avsCurrentRead n b) s = .next t ∧
      t.now = (s.now / 100000 + 1) * 100000 ∧
      (let u := s.nextTick 100000;
       if b then t.f PWR.CORE 25 16 = n ∧ onlyRegs u t [PWR.CORE]
       else t.fb (HDR.FLTSTAT pgPWR) 3 = true ∧ t = { u with regs := t.regs, flt := t.flt } ∧
         regsKept u t ([HDR.FLTSTAT pgPWR, HDR.FLTCNT pgPWR] ++ perfKeys pgPWR))) ∧
  (∀ (s : State), s.fb PWR.SPCFG 0 = false →
    ∃ t, exec .snowploughWindow s = .next t ∧ t.now = (s.now / 8 + 1) * 8 ∧ t.free = s.free + 1 ∧
      t.pwr = { s.pwr with
        iest := (Config.freeValue s.free).toNat % 1024,
        bursts := s.pwr.bursts.map fun e => (e.1, { e.2 with left := 0, until_ := min e.2.until_ t.now }) } ∧ (t.rd PWR.SPSTAT).toNat = t.pwr.iest ∧
      (let u := s.until ((s.now / 8 + 1) * 8); t = { u with regs := t.regs, pwr := t.pwr, free := t.free } ∧ regsKept u t [PWR.SPSTAT])) ∧
  (∀ (s : State), s.fb PWR.SPCFG 0 = true → s.pwr.iest ≤ 1023 →
    ∃ t, exec .snowploughWindow s = .next t ∧ t.now = (s.now / 8 + 1) * 8 ∧ t.free = s.free + 1 ∧
      (let step := s.f PWR.SPCFG 15 8 * 1000;
       let slew := s.f PWR.SPCFG 24 16 * 8;
       let rise := min step (s.pwr.rise + slew);
       let fall := min step (s.pwr.fall + slew);
       let up := (t.pwr.iest - s.pwr.iest) * 1000;
       let down := (s.pwr.iest - t.pwr.iest) * 1000;
       let u := s.until ((s.now / 8 + 1) * 8);
       t.pwr.iest ≤ 1023 ∧ s.f PWR.SPFLOOR 9 0 ≤ t.pwr.iest ∧ t.f PWR.SPSTAT 9 0 = t.pwr.iest ∧
       t.pwr.rise = (if rise < up then 0 else rise - up) ∧ t.pwr.fall = (if fall < down then 0 else fall - down) ∧
       (t.rd PWR.SLEWOVER).toNat = (if rise < up ∨ fall < down then
         min ((s.rd PWR.SLEWOVER).toNat + 1) 4294967295 else (s.rd PWR.SLEWOVER).toNat) ∧
       (rise < up ∨ fall < down → t.fb (HDR.IRQSTAT pgPWR) 3 = true ∧ t.fb (HDR.FLTSTAT pgPWR) 6 = true) ∧
       t = { u with regs := t.regs, flt := t.flt, pwr := t.pwr, out := t.out, pci := u.pciBut t, free := t.free })) ∧
  (∀ (g : Nat) (b : SnowBurst) (c : SnowBurst) (s : State), s.fb PWR.SPCFG 0 = true → kget? s.pwr.bursts g = some b → g < s.nPg →
    ∃ t, exec .snowploughWindow s = .next t ∧
      (b.left ≠ 0 → kget? t.pwr.bursts g = some { b with left := b.left - min 24 b.left } ∧
        t.f PWR.SPSTAT 26 26 = 1) ∧
      (kget? t.pwr.bursts g = some c → c.until_ ≠ b.until_ → b.left = 0 ∧ b.until_ + 1000 ≤ t.now ∧ c.until_ ≤ t.now + 40))

/-- The I2C slave (R413) sets its offset from three bytes and reads registers from it, four bytes each, least significant first;
JTAG (R414) puts boundary scan in effect only while RESET_N is low and private instructions only in factory mode.
That a transfer to another address than its own gets no answer and changes nothing is the model's choice (log entry
16). -/
def Obligations.ServicePortsComplete : Prop :=
  (∀ (a : Fin 128) (l : List Byte) (s : State), s.i2cMine a = true → 3 ≤ l.length →
    ∃ t, exec (.i2cOffsetWrite ⟨a, l⟩) s = .next t ∧ t.i2c = BitVec.ofNat 24 (beNat (l.take 3)) ∧
      (t.rd DEV.BADACC).toNat = (if 3 < l.length then min ((s.rd DEV.BADACC).toNat + 1) 4294967295 else (s.rd DEV.BADACC).toNat) ∧
      t = { s with i2c := t.i2c, regs := t.regs } ∧ regsKept s t [DEV.BADACC]) ∧
  (∀ (a : Fin 128) (s : State), s.i2cMine a = true → s.i2c.toNat % 4 = 0 →
    ∃ t, exec (.i2cRead ⟨a, 1⟩) s = .next t ∧
      (let x := s.read0 whoI2C (s.i2c.toNat / 65536) (s.i2c.toNat % 65536);
       t = { x.2 with i2c := s.i2c + 4, out := x.2.out ++ [.i2c (leBytes 4 x.1.toNat)] })) ∧
  (∀ (a : Fin 128) (n : Nat) (s : State), s.i2cMine a = true →
    ∃ t, exec (.i2cRead ⟨a, n⟩) s = .next t ∧ t.i2c = s.i2c + BitVec.ofNat 24 (4 * n) ∧
      (match t.out.getLast? with | some (.i2c l) => l.length | _ => 0) = 4 * n) ∧
  (∀ (a : Fin 128) (l : List Byte) (n : Nat) (s : State), s.i2cMine a = false →
    exec (.i2cOffsetWrite ⟨a, l⟩) s = .next s ∧ exec (.i2cRead ⟨a, n⟩) s = .next s) ∧
  (∀ (i : JtagInstr) (s : State), ∃ t, exec (.jtagInstruction i) s = .next t ∧
      t.jtag = (if isScan i = true ∧ s.resetLow = false then .bypass else if i = .priv ∧ s.factory = false then .bypass else i) ∧
      t = { s with jtag := t.jtag, out := t.out } ∧ t.out = (if t.jtag = .idcode then s.out ++ [.jtag idcode] else s.out))

/-- The link (R371 to R374): a lane's rise and fall move LANEUP and LINK; HELLO, JOURNAL and ACK go out while the link is up; a bad
frame counts and changes nothing else; HELLO records the peer (R377), an entry in order is applied (R381), ACKSEQ releases
entries (R380), and ROLE and SYNCREQ act as R380 and R384 say.
These are the model's choice: the AUTORESYNC copy as soon as peer, link and EVT allow it (log entry 127), the byte
order of a JOURNAL frame's entries (log entry 51), where a copy starts (log entry 32), and the deadlines that set the
time (log entry 6). -/
def Obligations.EvturLinkComplete : Prop :=
  (∀ (l : Fin 4) (s : State), s.evtOn = true → (s.evtLink = true ∨ s.role ≠ roleActive ∨ s.peer ≠ stStale ∨ s.fb EVT.POLICY 0 = false ∨ s.running pgEVT = false) →
    ∃ t, exec (.evtLaneUp l) s = .next t ∧ t.f EVT.STAT 9 6 = s.f EVT.STAT 9 6 ||| 2 ^ l.val ∧ t.evtLink = true ∧
      (s.evtLink = false → t.fb (HDR.IRQSTAT pgEVT) 6 = true) ∧ onlyRegsOut s t [EVT.STAT, HDR.IRQSTAT pgEVT]) ∧
  (∀ (l : Fin 4) (s : State), s.evtOn = true → s.evtLink = false → s.role = roleActive → s.peer = stStale → s.fb EVT.POLICY 0 = true → s.running pgEVT = true → s.evt.journal = [] →
    ∃ t, exec (.evtLaneUp l) s = .next t ∧ t.evtLink = true ∧ t.peer = stSyncing ∧
      t.evt = { s.evt with
        journal := [(s.evt.jseq, .bulkBegin, s.now)], jseq := (s.evt.jseq + 1) % 4294967296, bulk := some 0, bulkEnd := none,
        sendAt := s.evt.jseq, ackAt := s.now } ∧
      (t.rd EVT.RESYNCS).toNat = min ((s.rd EVT.RESYNCS).toNat + 1) 4294967295 ∧ t.rd EVT.BULKROWS = 0 ∧
      t = { s with regs := t.regs, evt := t.evt, out := t.out, pci := s.pciBut t } ∧
      regsKept s t [EVT.STAT, EVT.RESYNCS, EVT.BULKROWS, HDR.IRQSTAT pgEVT]) ∧
  (∀ (l : Fin 4) (s : State), s.evtOn = true → s.f EVT.STAT 9 6 = 2 ^ l.val → s.evtLink = true →
    ∃ t, exec (.evtLaneDown l) s = .next t ∧ t.f EVT.STAT 9 6 = 0 ∧ t.evtLink = false ∧
      t.fb (HDR.IRQSTAT pgEVT) 6 = true ∧ t.fb (HDR.FLTSTAT pgEVT) 1 = true ∧
      t.flt = (if s.fb (HDR.FLTMASK pgEVT) 1 = true ∨ s.dev.fused = false then s.flt
        else { s.flt with events := s.flt.events ++ [⟨pgEVT, 1, false, BitVec.ofNat 32 l.val, s.now⟩] }) ∧
      t = { s with regs := t.regs, flt := t.flt, out := t.out, pci := s.pciBut t } ∧
      regsKept s t ([EVT.STAT, HDR.IRQSTAT pgEVT, HDR.FLTSTAT pgEVT, HDR.FLTCNT pgEVT] ++ perfKeys pgEVT)) ∧
  (∀ (s : State), s.running pgEVT = true → s.evtOn = true → s.evtLink = true → s.f EVT.STAT 9 6 ≠ 0 →
    ∃ t, exec .helloSend s = .next t ∧
      t.now = max s.now (match s.evt.helloSent with | some t0 => t0 + s.f EVT.HELLO 7 0 * 1000 | none => 0) ∧
      (let u := s.until s.helloDue;
       t = { u with
         evt := { s.evt with ackDue := false, lane := (s.nextLane + 1) % 4, helloSent := some t.now },
         out := s.out ++ [.evtur s.nextLane (u.evtFrame 1 0 0 u.helloBody)] }) ∧
      (s.f EVT.STAT 9 6).testBit s.nextLane = true) ∧
  (∀ (s : State), s.running pgEVT = true → s.evtOn = true → s.evtLink = true → s.role = roleStandby → s.evt.ackDue = true → s.now + 1000 < s.helloDue →
    ∃ t, exec .ackSend s = .next t ∧
      t = { s with
        evt := { s.evt with ackDue := false, lane := (s.nextLane + 1) % 4 },
        out := s.out ++ [.evtur s.nextLane (s.evtFrame 3 0 0 [])] }) ∧
  (∀ (s : State), s.helloDue ≤ s.now + 1000 →
    exec .ackSend s = .next s) ∧
  (∀ (e : Nat × JEntry × Nat) (l : List (Nat × JEntry × Nat)) (s : State), s.role = roleActive → s.running pgEVT = true → s.evtOn = true → s.evtLink = true → ((s.evt.journal.filter fun x => decide (x.1 = s.evt.sendAt) || serGt x.1 s.evt.sendAt).take 16 = e :: l) →
    ∃ t, exec .journalSend s = .next t ∧
      t.evt = { s.evt with
        ackDue := false, lane := (s.nextLane + 1) % 4, sendAt := (e.1 + (l.length + 1)) % 4294967296 } ∧
      t.out = s.out ++ [.evtur s.nextLane (s.evtFrame 2 (l.length + 1) e.1 ((e :: l).flatMap fun x => x.2.1.bytes))] ∧
      t = { s with regs := t.regs, evt := t.evt, out := t.out, pci := s.pciBut t } ∧ regsKept s t (perfKeys pgEVT)) ∧
  (∀ (f : List Byte) (s : State), s.evtOn = true → s.evtLink = true → s.evtBad f = true →
    ∃ t, exec (.evtBadframe f) s = .next t ∧
      (t.rd EVT.BADFRAME).toNat = min ((s.rd EVT.BADFRAME).toNat + 1) 4294967295 ∧ onlyRegs s t [EVT.BADFRAME]) ∧
  (∀ (f : List Byte) (s : State), evtTakes s f 1 = true → s.role = roleStandby →
    ∃ t, exec (.helloReceived f) s = .next t ∧
      t.rd64 EVT.PEERSERIAL_LO EVT.PEERSERIAL_HI = beNat (slice f 6 6) ∧ t.rd EVT.PEERCRC = BitVec.ofNat 32 (beNat (slice f 32 4)) ∧
      (t.fb EVT.STAT 13 = decide (t.rd EVT.PEERCRC ≠ s.rd DEV.CFGCRC)) ∧
      t.self = (if (beNat (slice f 15 1)).testBit 2 then stStale else s.self) ∧
      t.evt = { s.evt with
        rxEpoch := max s.evt.rxEpoch (beNat (slice f 20 4)), flags := beNat (slice f 15 1), helloAt := some s.now,
        activeAt := if (beNat (slice f 15 1)).testBit 0 then some s.now else s.evt.activeAt } ∧
      onlyRegsOut { s with evt := t.evt } t
        [EVT.PEERSERIAL_LO, EVT.PEERSERIAL_HI, EVT.PEERCRC, EVT.STAT, EVT.PINMISM, HDR.IRQSTAT pgEVT]) ∧
  (∀ (f : List Byte) (e : JEntry) (s : State), evtTakes s f 2 = true → s.role = roleStandby → s.running pgEVT = true → s.self = stCurrent → s.evt.held = [] → jParse (beNat (slice f 18 2)) ((f.take (f.length - 4)).drop 32) = [e] → s.follows = true → beNat (slice f 24 4) = (s.rd EVT.APPLIED).toNat →
    ∃ t, exec (.journalReceived f) s = .next t ∧
      (let u := (evtHead s f).jApply e;
       t = { u.wr EVT.APPLIED (s.rd EVT.APPLIED + 1) with evt := { u.evt with ackDue := true } })) ∧
  (∀ (f : List Byte) (e : JEntry) (s : State), evtTakes s f 2 = true → jParse (beNat (slice f 18 2)) ((f.take (f.length - 4)).drop 32) = [e] → e ≠ .bulkBegin → s.follows = false →
    exec (.journalReceived f) s = .next (evtHead s f)) ∧
  (∀ (f : List Byte) (s : State), evtTakes s f 3 = true → s.role = roleActive → s.running pgEVT = true →
    ∃ t, exec (.ackReceived f) s = .next t ∧
      (let a := beNat (slice f 28 4);
       t.rd EVT.ACKED = BitVec.ofNat 32 a ∧ t.evt.journal = s.evt.journal.filter (fun x => !serGt a x.1) ∧
       (s.evt.bulkEnd = none → t.peer = s.peer) ∧
       (∀ b ∈ s.evt.bulkEnd, serGt a b = true → s.peer = stSyncing → t.peer = stCurrent)) ∧
      t = { s with regs := t.regs, evt := t.evt, out := t.out, pci := s.pciBut t } ∧
      regsKept s t [EVT.PEERSERIAL_LO, EVT.PEERSERIAL_HI, EVT.ACKED, EVT.STAT, HDR.IRQSTAT pgEVT]) ∧
  (∀ (f : List Byte) (s : State), evtTakes s f 4 = true → s.role ≠ roleActive → beNat (slice f 32 1) = 1 →
    ∃ t, exec (.roleRequest f) s = .next t ∧
      (let u := evtHead s f;
       let ok : Bool := decide (s.role = roleStandby ∧ s.self = stCurrent);
       t.evt = { u.evt with
         accepted := if ok then true else s.evt.accepted, ackDue := false, lane := (s.nextLane + 1) % 4 } ∧
       t.out = s.out ++ [.evtur s.nextLane (u.evtFrame 4 0 0
         [if ok then 2 else 3, if ok then 0 else if s.role = roleStandby then 1 else 2, 0, 0, 0, 0, 0, 0])] ∧
       t = { u with evt := t.evt, out := t.out, pci := u.pciBut t })) ∧
  (∀ (f : List Byte) (s : State), evtTakes s f 4 = true → beNat (slice f 32 1) = 2 → s.role = roleActive → s.evt.askedAt.isSome = true → s.dev.state = .run →
    ∃ t, exec (.roleAccept f) s = .next t ∧ t.role = roleStandby ∧ t.self = stSyncing ∧ t.dev.state = .standby ∧
      t.evt.askedAt = none ∧ t.fb EVT.STAT 15 = false ∧ t.now = s.now ∧ t.fuses = s.fuses) ∧
  (∀ (f : List Byte) (s : State), evtTakes s f 4 = true → beNat (slice f 32 1) = 3 → (s.role ≠ roleActive ∨ s.running pgEVT = false) → s.evt.askedAt.isSome = true →
    ∃ t, exec (.roleRefuse f) s = .next t ∧
      (let u := evtHead s f;
       t.evt = { u.evt with askedAt := none } ∧ t.fb EVT.STAT 15 = false ∧
       (t.rd EVT.HOFAIL).toNat = min ((s.rd EVT.HOFAIL).toNat + 1) 4294967295 ∧
       t = { u with evt := t.evt, regs := t.regs } ∧ regsKept u t [EVT.STAT, EVT.HOFAIL])) ∧
  (∀ (f : List Byte) (s : State), evtTakes s f 4 = true → beNat (slice f 32 1) = 3 → s.role = roleActive → s.evt.askedAt.isSome = true →
    ∃ t, exec (.roleRefuse f) s = .next t ∧ t.evt.askedAt = none ∧ t.fb EVT.STAT 15 = false ∧ t.role = roleActive ∧
      (t.rd EVT.HOFAIL).toNat = min ((s.rd EVT.HOFAIL).toNat + 1) 4294967295 ∧
      t = { s with regs := t.regs, evt := t.evt, out := t.out, pci := s.pciBut t }) ∧
  (∀ (f : List Byte) (s : State), evtTakes s f 5 = true → s.role = roleActive → s.running pgEVT = true → s.evt.journal.length < 16384 →
    ∃ t, exec (.syncreq f) s = .next t ∧ t.peer = stSyncing ∧
      t.evt.journal = s.evt.journal.filter (fun x => !serGt (beNat (slice f 28 4)) x.1) ++ [(s.evt.jseq, .bulkBegin, s.now)] ∧
      t.evt.jseq = (s.evt.jseq + 1) % 4294967296 ∧ t.evt.bulk = some 0 ∧ t.rd EVT.BULKROWS = 0 ∧
      (t.rd EVT.RESYNCS).toNat = min ((s.rd EVT.RESYNCS).toNat + 1) 4294967295 ∧
      t = { s with regs := t.regs, evt := t.evt, out := t.out, pci := s.pciBut t } ∧
      regsKept s t [EVT.PEERSERIAL_LO, EVT.PEERSERIAL_HI, EVT.ACKED, EVT.STAT, EVT.RESYNCS, EVT.BULKROWS, HDR.IRQSTAT pgEVT])

/-- Roles (R376 to R384): after GO a unit decides by the peer's HELLO or claims by the pins; a claim is raised after its wait and
succeeds 10 microseconds later; a rising pin yields; a standby takes over; CTL asks for a handoff, a resynchronisation or
a takeover by force; a handoff without an answer fails after 100 microseconds.
These are the model's choice: a claim's wait from the later of its start and the pin's change (log entry 55), the
version slot that a takeover leaves open and empty (log entry 57), a RESYNC outside RUNNING dropped and counted (log
entry 127), and the deadlines that set the time (log entry 6). -/
def Obligations.EvturRolesComplete : Prop :=
  (∀ (t0 : Nat) (s : State), s.evt.goAt = some t0 → s.role = roleNone → s.evt.decided = false → s.evtOn = true → s.evtLink = true → s.dev.state = .armed → (s.evt.helloAt = none ∨ s.evt.flags.testBit 0 = false) → (s.evt.helloAt = none ∨ s.evt.flags.testBit 4 = false ∨ s.wins = true) → max (s.rd EVT.EPOCH).toNat s.evt.rxEpoch < 4294967295 →
    ∃ t, exec .roleDecision s = .next t ∧ t.now = max s.now (t0 + 2 * s.f EVT.HELLO 7 0 * 1000) ∧ t.role = roleActive ∧
      t.dev.state = .run ∧ (t.rd EVT.EPOCH).toNat = max (s.rd EVT.EPOCH).toNat s.evt.rxEpoch + 1 ∧ t.evt.goAt = none ∧
      t.fb (HDR.IRQSTAT pgEVT) 0 = true) ∧
  (∀ (t0 : Nat) (s : State), s.evt.goAt = some t0 → s.role = roleNone → s.evt.decided = false → s.evtOn = true → s.evtLink = true → s.dev.state = .armed → s.evt.helloAt.isSome = true → s.evt.flags.testBit 0 = true →
    ∃ t, exec .roleDecision s = .next t ∧ t.now = max s.now (t0 + 2 * s.f EVT.HELLO 7 0 * 1000) ∧ t.role = roleStandby ∧
      t.dev.state = .standby ∧ t.self = stSyncing ∧ t.evt.goAt = none) ∧
  (∀ (t0 : Nat) (s : State), s.evt.goAt = some t0 → s.role = roleNone → s.evt.decided = false → s.evtOn = true → s.evtLink = true → s.evt.helloAt.isSome = true → s.evt.flags.testBit 0 = false → s.evt.flags.testBit 4 = true → s.wins = false →
    ∃ t, exec .roleDecision s = .next t ∧
      t = { s.until (t0 + 2 * s.f EVT.HELLO 7 0 * 1000) with evt := { s.evt with decided := true } } ∧
      exec .roleDecision t = .next t) ∧
  (∀ (t0 : Nat) (s : State), s.evt.goAt = some t0 → s.role = roleNone → s.evtOn = true → s.evtLink = false → s.pinIn = false →
    ∃ t, exec .claimStart s = .next t ∧ t.now = max s.now (t0 + s.f EVT.CLAIM 31 16 * 1000000) ∧ t.role = roleClaiming ∧
      t.evt = { s.evt with claim := some (0, t.now, none) } ∧
      (let u := s.until (t0 + s.f EVT.CLAIM 31 16 * 1000000);
       t = { u with regs := t.regs, evt := t.evt, out := t.out, pci := u.pciBut t } ∧
       regsKept u t [EVT.STAT, EVT.LASTROLE_LO, EVT.LASTROLE_HI, HDR.IRQSTAT pgEVT])) ∧
  (∀ (k : Nat) (t0 : Nat) (s : State), s.evt.claim = some (k, t0, none) → s.pinIn = false →
    ∃ t, exec .claimRaise s = .next t ∧ t.now = max s.now (max t0 s.evt.pinAt + s.claimWait k) ∧
      t = { s.until (max t0 s.evt.pinAt + s.claimWait k) with evt := { s.evt with claim := some (k, t0, some t.now) } }) ∧
  (∀ (k : Nat) (t0 : Nat) (r : Nat) (s : State), s.evt.claim = some (k, t0, some r) → s.pinIn = false → s.role = roleClaiming → s.dev.state = .armed → max (s.rd EVT.EPOCH).toNat s.evt.rxEpoch < 4294967295 →
    ∃ t, exec .claimSuccess s = .next t ∧ t.now = max s.now (r + 10000) ∧ t.role = roleActive ∧ t.dev.state = .run ∧
      (t.rd EVT.EPOCH).toNat = max (s.rd EVT.EPOCH).toNat s.evt.rxEpoch + 1 ∧ t.evt.claim = none) ∧
  (∀ (k : Nat) (t0 : Nat) (r : Nat) (s : State), s.evtEn = true → s.initialising = false → s.pinIn = false → s.evt.claim = some (k, t0, some r) → s.evt.pinLast = false →
    ∃ t, exec (.peerPinChange [true, true, true]) s = .next t ∧ t.pinIn = true ∧ t.now = (s.now / 100 + 3) * 100 ∧
      t.evt = { s.evt with pinAt := t.now, claim := some (k + 1, t.now, none), pinLast := true, pinRun := 3 } ∧
      (let u := ((s.nextTick 100).nextTick 100).nextTick 100;
       t = { u with regs := t.regs, evt := t.evt } ∧ regsKept u t [EVT.STAT])) ∧
  (∀ (s : State), s.evtEn = true → s.initialising = false → s.pinIn = true → (s.evt.accepted = false ∨ s.role ≠ roleStandby) → s.evt.pinLast = true →
    ∃ t, exec (.peerPinChange [false, false, false]) s = .next t ∧ t.pinIn = false ∧ t.now = (s.now / 100 + 3) * 100 ∧
      t.evt = { s.evt with pinAt := t.now, pinLast := false, pinRun := 3 } ∧
      (let u := ((s.nextTick 100).nextTick 100).nextTick 100;
       t = { u with regs := t.regs, evt := t.evt } ∧ regsKept u t [EVT.STAT])) ∧
  (∀ (v : Bool) (s : State), s.evtEn = true → s.initialising = false → s.pinIn ≠ v → s.evt.pinLast ≠ v →
    ∃ t, exec (.peerPinChange [v, v, !v]) s = .next t ∧ t.pinIn = s.pinIn ∧ t.role = s.role ∧
      t.evt = { s.evt with pinLast := !v, pinRun := 1 } ∧
      t = { ((s.nextTick 100).nextTick 100).nextTick 100 with evt := t.evt }) ∧
  (∀ (s : State), s.role = roleStandby → s.pinIn = false → (s.self = stCurrent ∨ s.fb EVT.POLICY 2 = true) → s.dev.state = .standby → max (s.rd EVT.EPOCH).toNat s.evt.rxEpoch < 4294967295 →
    ∃ t, exec .takeOver s = .next t ∧
      t.now = max s.now (max s.evt.pinAt (s.evt.activeAt.getD 0) + s.f EVT.HELLO 15 8 * 1000) ∧
      t.role = roleActive ∧ t.dev.state = .run ∧ (s.ver.opened.isSome = true → t.fb EVT.STAT 14 = true ∧ t.ver.busy = .none_) ∧
      (t.rd EVT.EPOCH).toNat = max (s.rd EVT.EPOCH).toNat s.evt.rxEpoch + 1 ∧
      (t.rd EVT.TAKEOVERS).toNat = min ((s.rd EVT.TAKEOVERS).toNat + 1) 4294967295) ∧
  (∀ (s : State), s.role = roleStandby → s.pinIn = false → s.self ≠ stCurrent → s.fb EVT.POLICY 2 = false →
    ∃ t, exec .takeOver s = .next t ∧ t.fb (HDR.IRQSTAT pgEVT) 3 = true ∧
      (let u := s.until (max s.evt.pinAt (s.evt.activeAt.getD 0) + s.f EVT.HELLO 15 8 * 1000);
       onlyRegsOut u t [HDR.IRQSTAT pgEVT])) ∧
  (∀ (w : Word) (s : State), s.dev.state ≠ .load → s.present pgEVT = true → s.busy pgEVT = false → fld w 2 0 = 1 → s.role = roleActive → s.peer = stCurrent → s.evtOn = true → s.evtLink = true →
    ∃ t, exec (.handoffRequest w) s = .next t ∧ t.fb EVT.STAT 15 = true ∧
      t.evt = { s.evt with askedAt := some s.now, ackDue := false, lane := (s.nextLane + 1) % 4 } ∧
      t.out = s.out ++ [.evtur s.nextLane (s.evtFrame 4 0 0 [1, 0, 0, 0, 0, 0, 0, 0])] ∧
      t = { s with regs := t.regs, evt := t.evt, out := t.out, pci := s.pciBut t } ∧ regsKept s t [EVT.STAT]) ∧
  (∀ (w : Word) (s : State), s.dev.state ≠ .load → s.present pgEVT = true → s.busy pgEVT = false → fld w 2 0 = 2 → s.role = roleActive → s.peerHere = true → s.running pgEVT = true → s.evt.journal.length < 16384 →
    ∃ t, exec (.resyncRequest w) s = .next t ∧ t.peer = stSyncing ∧
      t.evt.journal = s.evt.journal ++ [(s.evt.jseq, .bulkBegin, s.now)] ∧
      t.evt.bulk = some 0 ∧ t.evt.jseq = (s.evt.jseq + 1) % 4294967296 ∧
      (t.rd EVT.RESYNCS).toNat = min ((s.rd EVT.RESYNCS).toNat + 1) 4294967295 ∧ t.rd EVT.BULKROWS = 0 ∧
      t = { s with regs := t.regs, evt := t.evt, out := t.out, pci := s.pciBut t } ∧
      regsKept s t [EVT.STAT, EVT.RESYNCS, EVT.BULKROWS, HDR.IRQSTAT pgEVT]) ∧
  (∀ (w : Word) (s : State), s.dev.state ≠ .load → s.present pgEVT = true → s.busy pgEVT = false → fld w 2 0 = 2 → (s.role ≠ roleActive ∨ s.peerHere = false ∨ s.running pgEVT = false) →
    ∃ t, exec (.resyncRequest w) s = .next t ∧
      (t.rd DEV.BADACC).toNat = min ((s.rd DEV.BADACC).toNat + 1) 4294967295 ∧ onlyRegs s t [DEV.BADACC]) ∧
  (∀ (w : Word) (s : State), s.dev.state ≠ .load → s.present pgEVT = true → s.busy pgEVT = false → fld w 2 0 = 4 → s.role = roleStandby → s.pinIn = false → s.dev.state = .standby → max (s.rd EVT.EPOCH).toNat s.evt.rxEpoch < 4294967295 →
    ∃ t, exec (.forceRole w) s = .next t ∧ t.role = roleActive ∧ t.dev.state = .run ∧ (s.ver.opened.isSome = true → t.fb EVT.STAT 14 = true ∧ t.ver.busy = .none_) ∧ t.now = s.now ∧
      (t.rd EVT.EPOCH).toNat = max (s.rd EVT.EPOCH).toNat s.evt.rxEpoch + 1 ∧
      (t.rd EVT.TAKEOVERS).toNat = min ((s.rd EVT.TAKEOVERS).toNat + 1) 4294967295) ∧
  (∀ (t0 : Nat) (s : State), s.evt.askedAt = some t0 →
    ∃ t, exec .handoffTimeout s = .next t ∧ t.now = max s.now (t0 + 100000) ∧
      t.evt = { s.evt with askedAt := none } ∧ t.fb EVT.STAT 15 = false ∧
      (let u := s.until (t0 + 100000);
       (t.rd EVT.HOFAIL).toNat = min ((u.rd EVT.HOFAIL).toNat + 1) 4294967295 ∧
       t = { u with regs := t.regs, evt := t.evt } ∧ regsKept u t [EVT.STAT, EVT.HOFAIL]))

/-- The journal (R380, R382, R386): without an advance of ACKSEQ the active unit sends again, and without an acknowledgement in time
holds its peer STALE; a standby whose peer is silent, or whose gap is old, is STALE; a copy reads the next row into the
journal while there is room.
That the deadlines and instants set the time is the model's choice (log entry 6). -/
def Obligations.EvturJournalComplete : Prop :=
  (∀ (q : Nat) (e : JEntry) (t0 : Nat) (l : List (Nat × JEntry × Nat)) (s : State), s.evt.journal = (q, e, t0) :: l →
    ∃ t, exec .retransmit s = .next t ∧ t.now = max s.now (max t0 s.evt.ackAt + s.f EVT.ACKCFG 7 0 * 1000) ∧
      t.evt = { s.evt with sendAt := q, ackAt := t.now } ∧
      (let u := s.until (max t0 s.evt.ackAt + s.f EVT.ACKCFG 7 0 * 1000);
       (t.rd EVT.RETX).toNat = min ((u.rd EVT.RETX).toNat + 1) 4294967295 ∧
       t = { u with regs := t.regs, evt := t.evt } ∧ regsKept u t [EVT.RETX])) ∧
  (∀ (q : Nat) (e : JEntry) (t0 : Nat) (l : List (Nat × JEntry × Nat)) (s : State), s.evt.journal = (q, e, t0) :: l → s.fb EVT.POLICY 0 = false →
    ∃ t, exec .ackTimeout s = .next t ∧ t.now = max s.now (t0 + s.f EVT.ACKCFG 31 16 * 1000) ∧ t.peer = stStale ∧
      t.evt = { s.evt with journal := [], bulk := none, bulkEnd := none } ∧ t.fb (HDR.IRQSTAT pgEVT) 2 = true ∧
      (let u := s.until (t0 + s.f EVT.ACKCFG 31 16 * 1000);
       (t.rd EVT.STALES).toNat = min ((u.rd EVT.STALES).toNat + 1) 4294967295 ∧
       t = { u with regs := t.regs, evt := t.evt, out := t.out, pci := u.pciBut t } ∧ regsKept u t [EVT.STAT, EVT.STALES, HDR.IRQSTAT pgEVT])) ∧
  (∀ (t0 : Nat) (s : State), s.evt.helloAt = some t0 → s.role = roleStandby →
    ∃ t, exec .deadTimeout s = .next t ∧ t.now = max s.now (t0 + s.f EVT.HELLO 31 16 * 1000) ∧ t.self = stStale ∧
      (let u := s.until (t0 + s.f EVT.HELLO 31 16 * 1000); onlyRegsOut u t [EVT.STAT, HDR.IRQSTAT pgEVT])) ∧
  (∀ (t0 : Nat) (s : State), s.gapAt = some t0 → s.role = roleStandby →
    ∃ t, exec .journalGapTimeout s = .next t ∧ t.now = max s.now (t0 + s.f EVT.ACKCFG 31 16 * 1000) ∧ t.self = stStale ∧
      t.evt = { s.evt with held := [], bulk := none } ∧
      (let u := s.until (t0 + s.f EVT.ACKCFG 31 16 * 1000);
       onlyRegsOut { u with evt := t.evt } t [EVT.STAT, HDR.IRQSTAT pgEVT])) ∧
  (∀ (k : Nat) (m : Nat) (h : Nat) (r : Nat) (s : State), s.evt.bulk = some k → s.role = roleActive → s.evtEn = true → s.peer = stSyncing → s.evt.journal.length < 8192 → bulkRow k = some (m, h, r) → s.evt.journal ≠ [] →
    ∃ t, exec .bulkRow s = .next t ∧ t.now = max s.now (cdiv s.evt.bulkDue 1000) ∧
      t.evt = { s.evt with
        bulk := some (k + 1), jseq := (s.evt.jseq + 1) % 4294967296,
        bulkDue := max s.evt.bulkDue (t.now * 1000) + cdiv 576000 (max 1 (s.f EVT.POLICY 16 8)),
        journal := s.evt.journal ++ [(s.evt.jseq, .row h m r (BitVec.ofNat 512 ((s.half h).row m r)), t.now)] } ∧
      t.f EVT.BULKROWS 21 0 = min (s.f EVT.BULKROWS 21 0 + 1) 4194303 ∧
      (let u := s.until (cdiv s.evt.bulkDue 1000); t = { u with regs := t.regs, evt := t.evt } ∧ regsKept u t [EVT.BULKROWS])) ∧
  (∀ (sa : Nat) (s : State), s.evt.bulk = some (bulkRows + 1) → s.role = roleActive → s.evtEn = true → s.peer = stSyncing → s.evt.journal.length < 8192 → s.evt.journal ≠ [] → s.nextSa 0 = some sa →
    ∃ t, exec .bulkRow s = .next t ∧ t.evt.bulk = some (bulkRows + sa + 2) ∧
      t.evt.journal = s.evt.journal ++ [(s.evt.jseq, .pnMark (decide (32768 ≤ sa)) (sa % 32768) (s.nextPn sa), t.now)] ∧
      (let u := s.until (cdiv s.evt.bulkDue 1000); t = { u with evt := t.evt })) ∧
  (∀ (s : State), s.evt.bulk = some (bulkRows + 65569) → s.role = roleActive → s.evtEn = true → s.peer = stSyncing → s.evt.journal.length < 8192 → s.evt.journal ≠ [] →
    ∃ t, exec .bulkRow s = .next t ∧ t.evt.bulk = none ∧ t.evt.bulkEnd = some s.evt.jseq ∧
      t.evt.journal = s.evt.journal ++ [(s.evt.jseq, .bulkEnd, t.now)] ∧
      (let u := s.until (cdiv s.evt.bulkDue 1000); t = { u with evt := t.evt }))

/-- The queue (model, log entry 1): a step of a state with c in front is exec of c on the state with the queue's rest. -/
def Obligations.StepRunsFront : Prop :=
  ∀ (c : Instr) (l : List Instr) (s : State), s.pending = c :: l →
    step s = exec c { s with pending := l }

/-- The tick is the model's choice (log entry 1): on an empty queue the step only lets one nanosecond pass, and TIM's count and
fraction grow by what R82 gives a nanosecond: 1 ns and RATE times 2^-32 ns. -/
def Obligations.IdleStepIsOneNanosecond : Prop :=
  ∀ (s : State), s.pending = [] →
    ∃ t, step s = .next t ∧ t.now = s.now + 1 ∧ t.out = s.out ∧ t.pending = [] ∧
      (t.tim.count.toNat : Int) * 4294967296 + t.tim.frac.toNat =
        ((s.tim.count.toNat : Int) * 4294967296 + s.tim.frac.toNat + 4294967296 + sext 32 (s.rd TIM.RATE).toNat) % 2 ^ 96 ∧
      t = { s with now := t.now, tim := { s.tim with count := t.tim.count, frac := t.tim.frac, starts := t.tim.starts }, regs := t.regs }

/-- Reset (R51): DEV.STATE is RESET and the seal is open; every register reads its reset value (values the spec does not give are
log entry 46's); no role, no command and no byte of DRAM. -/
def Obligations.ResetState : Prop :=
  ∀ (k : Nat), State.reset.dev.state = .reset ∧ State.reset.dev.sealed = false ∧ State.reset.rd k = resetVal k ∧
      State.reset.role = roleNone ∧ State.reset.drc.bursts = [] ∧ State.reset.pending = [] ∧ State.reset.out = [] ∧
      State.reset.now = 0

/-- SealInv and Memory.wf hold of State.reset (R51, R70). -/
def Obligations.InvariantsAtReset : Prop :=
  SealInv State.reset ∧ Memory.wf State.reset.drc = true

/-- The seal (R57, R70, R71): from every state in which a sealed device is past HELD (HOLD counts as the state it was entered
from), every step leads to such a state. -/
def Obligations.SealInvariant : Prop :=
  ∀ s t : State, SealInv s → step s = .next t → SealInv t

/-- R71: SEALED clears only through RESET_N or a full reset; block soft resets and reactions keep it. A step that clears it
leaves the device in RESET. -/
def Obligations.SealClearsOnlyByReset : Prop :=
  ∀ s t : State, s.dev.sealed = true → step s = .next t → t.dev.sealed = true ∨ t.dev.state = .reset

/-- The fuses (R290): part, serial, voltage and key-hash slots never change, and a device secret, once programmed, is neither
changed nor cleared by any step. -/
def Obligations.FusesKept : Prop :=
  ∀ s t : State, step s = .next t →
    t.fuses = { s.fuses with ds := t.fuses.ds } ∧ ∀ d : List Byte, s.fuses.ds = some d → t.fuses.ds = some d

/-- The queue of commands (model, log entry 1): whatever the command does, the commands behind it wait in the same order. -/
def Obligations.QueueIsFirstInFirstOut : Prop :=
  ∀ (c : Instr) (l : List Instr) (s t : State), s.pending = c :: l → step s = .next t → t.pending = l

/-- Memory (model): the list of DRAM bursts stays sorted, and lists a burst of zeros only in a page whose unlisted bursts are left
open (log entry 24), so equal memories are equal lists. -/
def Obligations.DramListKeepsItsForm : Prop :=
  ∀ s t : State, Memory.wf s.drc = true → step s = .next t → Memory.wf t.drc = true

/-- R56: after the fuses are read and initialisation ends, the device is FENCED exactly if a condition of the table holds; where
only one row's condition holds, REASON is that row's. -/
def Obligations.StrapErrorsFence : Prop :=
  ∀ (a : Bool) (s : State), s.dev.state = .strap → s.dev.plls = true → s.dev.fused = false →
    ∃ t, exec (.fuseRead a) s = .next t ∧ ∃ u, exec .initComplete t = .next u ∧
      (let v := s.dev.straps.toNat;
       let x : Prop := v % 4 = 3 ∨ v / 256 % 4 = 3 ∨ v / 16384 % 4 ≠ 0 ∨ v / 4096 % 4 = 3 ∧ v.testBit 7 = true ∧ s.nCh ≠ 0;
       let y : Prop := v.testBit 10 = true ∧ v.testBit 11 = true;
       let z : Prop := v.testBit 11 = true ∧ v % 4 = 0;
       (u.dev.state = .fenced ↔ x ∨ y ∨ z) ∧ (x → ¬y → ¬z → u.f DEV.FENCE 7 0 = 1) ∧
       (y → ¬x → ¬z → u.f DEV.FENCE 7 0 = 2) ∧ (z → ¬x → ¬y → u.f DEV.FENCE 7 0 = 3))

/-- R43: the request of a block is QUIESCE, FLTQ or ENABLE 0; a host write of 0 to QUIESCE clears the host's request alone, and a
quiesced block runs again exactly if neither of the others is left. -/
def Obligations.QuiesceRequest : Prop :=
  (∀ (p : PageId) (s : State), s.request p = true ↔ s.fb (HDR.BLKCTL p) 1 = true ∨ (s.blk p).fltq = true ∨ s.fb (HDR.BLKCTL p) 0 = false) ∧
  (∀ (p : PageId) (w : Word) (s : State), s.dev.state ≠ .load → s.present p = true → alwaysOn p = false → fld w 0 0 = s.f (HDR.BLKCTL p) 0 0 → fld w 2 1 = 0 →
    ∃ t, exec (.quiesceRequest p w) s = .next t ∧ t.fb (HDR.BLKCTL p) 1 = false ∧ (t.blk p).fltq = (s.blk p).fltq ∧
      t.f (HDR.BLKCTL p) 0 0 = s.f (HDR.BLKCTL p) 0 0 ∧
      ((s.blk p).st = .quiesced → ((t.blk p).st = .running ↔ (s.blk p).fltq = false ∧ s.fb (HDR.BLKCTL p) 0 = true)) ∧
      t.dev = s.dev ∧ t.now = s.now)

/-- R248: the CRC-8 of bytes followed by one more byte is zero exactly if that byte is the CRC-8 of the bytes. -/
def Obligations.NoticeCrcChecks : Prop :=
  ∀ (l : List Byte) (b : Byte), crc8 (l ++ [b]) = 0 ↔ b.toNat = crc8 l

/-- R374: parsing the bytes of entries whose fields fit gives the entries, whatever bytes follow. -/
def Obligations.JournalEntriesRoundTrip : Prop :=
  ∀ (l : List JEntry) (r : List Byte), ((l.all fun e => jFits e) = true) →
    jParse l.length (l.flatMap JEntry.bytes ++ r) = l

end
end

