-- ==== Sys2Proof/Laws/Bits.lean ====
section
/-! SUPPORT. Laws of sparse maps, bit fields and register reads and writes: what a write of a register or a field leaves
in every register. -/

namespace Sys2Proof.Machine

/-! ## Maps -/

@[simp] theorem kget?_kset {α : Type} (m : KMap α) (k : Nat) (v : α) (j : Nat) :
    kget? (kset m k v) j = if j = k then some v else kget? m j := by
  induction m with
  | nil => simp [kset, kget?, eq_comm]
  | cons e t ih =>
    obtain ⟨a, b⟩ := e
    simp only [kset]
    split
    · subst a; simp only [kget?]; split <;> simp_all [eq_comm]
    · split
      · simp only [kget?]; by_cases h : k = j <;> simp [h, eq_comm]
      · simp only [kget?, ih]; split <;> split <;> simp_all

@[simp] theorem kgetD_kset {α : Type} (m : KMap α) (k : Nat) (v : α) (j : Nat) (d : α) :
    kgetD (kset m k v) j d = if j = k then v else kgetD m j d := by
  unfold kgetD; rw [kget?_kset]; split <;> rfl

@[simp] theorem kget?_kerase {α : Type} (m : KMap α) (k j : Nat) :
    kget? (kerase m k) j = if j = k then none else kget? m j := by
  induction m with
  | nil => simp [kerase, kget?]
  | cons e t ih =>
    obtain ⟨a, b⟩ := e
    unfold kerase at *
    by_cases h : a = k
    · subst h
      rw [List.filter_cons_of_neg (by simp)]
      rw [ih]; simp only [kget?]; split
      · rfl
      · rw [if_neg (by omega)]
    · rw [List.filter_cons_of_pos (by simpa using h)]
      simp only [kget?, ih]; split <;> split <;> simp_all

/-! ## Fields of a word -/

theorem fld_lt (w : Word) (hi lo : Nat) : fld w hi lo < 2 ^ (hi + 1 - lo) := Nat.mod_lt _ (Nat.two_pow_pos _)

theorem ins_toNat (w : Word) (hi lo v : Nat) (h : hi < 32) (hl : lo ≤ hi) :
    (ins w hi lo v).toNat = w.toNat - fld w hi lo * 2 ^ lo + v % 2 ^ (hi + 1 - lo) * 2 ^ lo := by
  have hw : w.toNat / 2 ^ lo / 2 ^ (hi + 1 - lo) * 2 ^ (hi + 1 - lo) + fld w hi lo = w.toNat / 2 ^ lo := by
    unfold fld; exact Nat.div_add_mod' _ _
  have hm : fld w hi lo * 2 ^ lo ≤ w.toNat := by
    have := Nat.div_mul_le_self w.toNat (2 ^ lo)
    have : fld w hi lo ≤ w.toNat / 2 ^ lo := by omega
    calc _ ≤ w.toNat / 2 ^ lo * 2 ^ lo := Nat.mul_le_mul_right _ this
      _ ≤ _ := Nat.div_mul_le_self _ _
  have hp : 2 ^ 32 = 2 ^ (31 - hi) * (2 ^ (hi + 1 - lo) * 2 ^ lo) := by
    rw [← Nat.pow_add, ← Nat.pow_add]; congr 1; omega
  have hlt := w.isLt
  have hq : w.toNat / 2 ^ lo / 2 ^ (hi + 1 - lo) < 2 ^ (31 - hi) := by
    rw [Nat.div_div_eq_div_mul, Nat.mul_comm]
    apply Nat.div_lt_of_lt_mul
    rw [Nat.mul_comm, ← hp]; exact hlt
  have hv : v % 2 ^ (hi + 1 - lo) < 2 ^ (hi + 1 - lo) := Nat.mod_lt _ (Nat.two_pow_pos _)
  have hr : w.toNat % 2 ^ lo < 2 ^ lo := Nat.mod_lt _ (Nat.two_pow_pos _)
  have hd := Nat.div_add_mod' w.toNat (2 ^ lo)
  unfold ins
  rw [BitVec.toNat_ofNat, Nat.mod_eq_of_lt]
  generalize hQ : w.toNat / 2 ^ lo / 2 ^ (hi + 1 - lo) = q at *
  generalize hF : fld w hi lo = m at *
  generalize hB : w.toNat % 2 ^ lo = b at *
  generalize hP : 2 ^ lo = P at *
  generalize hN : 2 ^ (hi + 1 - lo) = N at *
  generalize hV : v % N = v' at *
  rw [hp]
  rw [← hw] at hd
  have e1 : (q * N + m) * P = q * N * P + m * P := Nat.add_mul _ _ _
  rw [e1] at hd
  have : w.toNat - m * P + v' * P = q * N * P + b + v' * P := by omega
  rw [this]
  have h1 : (v' + 1) * P ≤ N * P := Nat.mul_le_mul_right _ hv
  have h2 : (q + 1) * (N * P) ≤ 2 ^ (31 - hi) * (N * P) := Nat.mul_le_mul_right _ hq
  rw [Nat.add_mul] at h1 h2
  rw [Nat.mul_assoc]
  omega

/-- A field just written reads as the low bits of what was written. -/
theorem fld_ins_self (w : Word) (hi lo v : Nat) (h : hi < 32) (hl : lo ≤ hi) :
    fld (ins w hi lo v) hi lo = v % 2 ^ (hi + 1 - lo) := by
  have hw : w.toNat / 2 ^ lo / 2 ^ (hi + 1 - lo) * 2 ^ (hi + 1 - lo) + fld w hi lo = w.toNat / 2 ^ lo := by
    unfold fld; exact Nat.div_add_mod' _ _
  have hd := Nat.div_add_mod' w.toNat (2 ^ lo)
  have hr : w.toNat % 2 ^ lo < 2 ^ lo := Nat.mod_lt _ (Nat.two_pow_pos _)
  have hP0 : 0 < 2 ^ lo := Nat.two_pow_pos _
  have hv : v % 2 ^ (hi + 1 - lo) < 2 ^ (hi + 1 - lo) := Nat.mod_lt _ (Nat.two_pow_pos _)
  rw [fld, ins_toNat w hi lo v h hl]
  generalize hQ : w.toNat / 2 ^ lo / 2 ^ (hi + 1 - lo) = q at *
  generalize hF : fld w hi lo = m at *
  generalize hB : w.toNat % 2 ^ lo = b at *
  generalize hP : 2 ^ lo = P at *
  generalize hN : 2 ^ (hi + 1 - lo) = N at *
  generalize hV : v % N = v' at *
  rw [← hw] at hd
  have e1 : (q * N + m) * P = q * N * P + m * P := Nat.add_mul _ _ _
  rw [e1] at hd
  have e2 : w.toNat - m * P + v' * P = b + P * (v' + q * N) := by
    rw [Nat.mul_add, Nat.mul_comm P v', Nat.mul_comm P (q * N)]; omega
  rw [e2, Nat.add_mul_div_left _ _ hP0, Nat.div_eq_of_lt hr, Nat.zero_add, Nat.mul_comm q N, Nat.add_mul_mod_self_left,
    Nat.mod_eq_of_lt hv]

/-- A field above the one written keeps its value. -/
theorem fld_ins_above (w : Word) (hi lo v h2 l2 : Nat) (h : hi < 32) (hl : lo ≤ hi) (hd : hi < l2) :
    fld (ins w hi lo v) h2 l2 = fld w h2 l2 := by
  have key : (ins w hi lo v).toNat / 2 ^ l2 = w.toNat / 2 ^ l2 := by
    have hw : w.toNat / 2 ^ lo / 2 ^ (hi + 1 - lo) * 2 ^ (hi + 1 - lo) + fld w hi lo = w.toNat / 2 ^ lo := by
      unfold fld; exact Nat.div_add_mod' _ _
    have hdm := Nat.div_add_mod' w.toNat (2 ^ lo)
    have hr : w.toNat % 2 ^ lo < 2 ^ lo := Nat.mod_lt _ (Nat.two_pow_pos _)
    have hv : v % 2 ^ (hi + 1 - lo) < 2 ^ (hi + 1 - lo) := Nat.mod_lt _ (Nat.two_pow_pos _)
    have hm : fld w hi lo < 2 ^ (hi + 1 - lo) := fld_lt _ _ _
    have hp : 2 ^ l2 = 2 ^ (hi + 1 - lo) * 2 ^ lo * 2 ^ (l2 - hi - 1) := by
      rw [← Nat.pow_add, ← Nat.pow_add]; congr 1; omega
    rw [hp, ← Nat.div_div_eq_div_mul, ← Nat.div_div_eq_div_mul (w.toNat), ins_toNat w hi lo v h hl]
    congr 1
    generalize hQ : w.toNat / 2 ^ lo / 2 ^ (hi + 1 - lo) = q at *
    generalize hF : fld w hi lo = m at *
    generalize hB : w.toNat % 2 ^ lo = b at *
    generalize hP : 2 ^ lo = P at *
    generalize hN : 2 ^ (hi + 1 - lo) = N at *
    generalize hV : v % N = v' at *
    rw [← hw] at hdm
    have e1 : (q * N + m) * P = q * N * P + m * P := Nat.add_mul _ _ _
    rw [e1] at hdm
    have b1 : ∀ x, x < N → b + x * P < N * P := fun x hx => by
      have : (x + 1) * P ≤ N * P := Nat.mul_le_mul_right _ hx
      rw [Nat.add_mul] at this; omega
    have hNP : 0 < N * P := Nat.lt_of_le_of_lt (Nat.zero_le _) (b1 _ hv)
    have e2 : w.toNat - m * P + v' * P = (b + v' * P) + N * P * q := by
      rw [Nat.mul_comm (N * P) q, ← Nat.mul_assoc]; omega
    have e3 : w.toNat = (b + m * P) + N * P * q := by rw [Nat.mul_comm (N * P) q, ← Nat.mul_assoc]; omega
    rw [e2, Nat.add_mul_div_left _ _ hNP, Nat.div_eq_of_lt (b1 _ hv), e3, Nat.add_mul_div_left _ _ hNP,
      Nat.div_eq_of_lt (b1 _ hm)]
  rw [fld, fld, key]

/-- A field below the one written keeps its value. -/
theorem fld_ins_below (w : Word) (hi lo v h2 l2 : Nat) (h : hi < 32) (hl : lo ≤ hi) (hd : h2 < lo) :
    fld (ins w hi lo v) h2 l2 = fld w h2 l2 := by
  have hdm := Nat.div_add_mod' w.toNat (2 ^ lo)
  have hw : fld w hi lo * 2 ^ lo ≤ w.toNat := by
    have h0 : fld w hi lo ≤ w.toNat / 2 ^ lo := Nat.mod_le _ _
    calc _ ≤ w.toNat / 2 ^ lo * 2 ^ lo := Nat.mul_le_mul_right _ h0
      _ ≤ _ := Nat.div_mul_le_self _ _
  have e : (ins w hi lo v).toNat % 2 ^ lo = w.toNat % 2 ^ lo := by
    rw [ins_toNat w hi lo v h hl]
    obtain ⟨c, hc⟩ := Nat.exists_eq_add_of_le hw
    rw [Nat.add_mul_mod_self_right]
    have e1 : w.toNat - fld w hi lo * 2 ^ lo = c := by omega
    have e2 : w.toNat = 2 ^ lo * fld w hi lo + c := by rw [Nat.mul_comm]; exact hc
    rw [e1, e2, Nat.mul_add_mod]
  by_cases hle : l2 ≤ h2
  · unfold fld
    have g : ∀ x : Nat, x / 2 ^ l2 % 2 ^ (h2 + 1 - l2) = x % 2 ^ lo / 2 ^ l2 % 2 ^ (h2 + 1 - l2) := by
      intro x
      have : 2 ^ lo = 2 ^ l2 * 2 ^ (h2 + 1 - l2) * 2 ^ (lo - h2 - 1) := by
        rw [← Nat.pow_add, ← Nat.pow_add]; congr 1; omega
      have hdvd : 2 ^ l2 * 2 ^ (h2 + 1 - l2) ∣ 2 ^ lo := ⟨_, this⟩
      rw [← Nat.mod_mul_right_div_self, ← Nat.mod_mul_right_div_self, Nat.mod_mod_of_dvd _ hdvd]
    rw [g, g w.toNat, e]
  · have : h2 + 1 - l2 = 0 := by omega
    simp only [fld, this, Nat.pow_zero, Nat.mod_one]

/-! ## Registers -/

/-- Reading after a write. -/
@[simp] theorem State.rd_wr (s : State) (k : Nat) (v : Word) (j : Nat) :
    (s.wr k v).rd j = if j = k then v else s.rd j := by
  simp only [State.rd, State.wr, regSet]
  split
  · next h => rw [kget?_kerase]; split
              · next e => subst e; rw [h]; rfl
              · rfl
  · rw [kget?_kset]; split <;> rfl

/-- Reading after a field is written. -/
@[simp] theorem State.rd_setF (s : State) (k hi lo v j : Nat) :
    (s.setF k hi lo v).rd j = if j = k then ins (s.rd k) hi lo v else s.rd j := State.rd_wr ..

theorem State.f_setF_self (s : State) (k hi lo v : Nat) (h : hi < 32) (hl : lo ≤ hi) :
    (s.setF k hi lo v).f k hi lo = v % 2 ^ (hi + 1 - lo) := by
  rw [State.f, State.rd_setF, if_pos rfl, fld_ins_self _ _ _ _ h hl]

theorem State.f_setF_above (s : State) (k hi lo v h2 l2 : Nat) (h : hi < 32) (hl : lo ≤ hi) (hd : hi < l2) :
    (s.setF k hi lo v).f k h2 l2 = s.f k h2 l2 := by
  rw [State.f, State.rd_setF, if_pos rfl, fld_ins_above _ _ _ _ _ _ h hl hd]; rfl

theorem State.f_setF_below (s : State) (k hi lo v h2 l2 : Nat) (h : hi < 32) (hl : lo ≤ hi) (hd : h2 < lo) :
    (s.setF k hi lo v).f k h2 l2 = s.f k h2 l2 := by
  rw [State.f, State.rd_setF, if_pos rfl, fld_ins_below _ _ _ _ _ _ h hl hd]; rfl

/-- A field of another register keeps its value. -/
theorem State.f_wr_ne (s : State) (k j hi lo : Nat) (v : Word) (h : j ≠ k) : (s.wr k v).f j hi lo = s.f j hi lo := by
  rw [State.f, State.rd_wr, if_neg h]; rfl

theorem State.f_setF_ne (s : State) (k j hi lo h2 l2 v : Nat) (h : j ≠ k) : (s.setF k hi lo v).f j h2 l2 = s.f j h2 l2 :=
  State.f_wr_ne _ _ _ _ _ _ h

/-- A whole register is its one field. -/
theorem State.f_all (s : State) (k : Nat) : s.f k 31 0 = (s.rd k).toNat := by
  simp only [State.f, fld, Nat.pow_zero, Nat.div_one]; exact Nat.mod_eq_of_lt (s.rd k).isLt

/-- A saturating count of one. -/
theorem State.f_bump_self (s : State) (k : Nat) : (s.bump k).f k 31 0 = min (s.f k 31 0 + 1) 4294967295 := by
  rw [State.bump, State.addF, State.f_setF_self _ _ _ _ _ (by omega) (by omega)]
  exact Nat.mod_eq_of_lt (Nat.lt_of_le_of_lt (Nat.min_le_right _ _) (by decide))

@[simp] theorem State.rd_bump_ne (s : State) (k j : Nat) (h : j ≠ k) : (s.bump k).rd j = s.rd j := by
  simp [State.bump, State.addF, h]

end Sys2Proof.Machine
end

