-- ==== Sys2Proof/Laws/Keep.lean ====
section
/-! SUPPORT. One lemma per shared operation that leaves the fuses, the device state machine and the queue of commands
alone: what every whole-machine invariant about them cites instead of unfolding the operation. -/

namespace Sys2Proof.Machine

set_option linter.unusedSimpArgs false

/-- What most operations leave alone: the fuses, the device state machine's part of the state, the queue. -/
def State.keep (s : State) : Fuses × Dev × List Instr := (s.fuses, s.dev, s.pending)
theorem keep_mk (t : State) (acc_ : KMap Access) (blks_ : KMap Blk) (regs_ : KMap Word) (now_ : Nat) (tim_ : Tim) (ports_ : KMap PortSt) (pgs_ : KMap PgSt) (tbl_ : Tbl) (ver_ : Ver) (ips_ : KMap IpSt) (eps_ : KMap EpSt) (tmg_ : Tmg) (bpm_ : Bpm) (drc_ : Drc) (sch_ : Sch) (blg_ : Blg) (msc_ : Msc) (key_ : KeySt) (pci_ : Pci) (hst_ : Hst) (dma_ : Dma) (cnt_ : Cnt) (flt_ : Flt) (evt_ : Evt) (pwr_ : Pwr) (i2c_ : Offset) (jtag_ : JtagInstr) (out_ : List Out) (free_ : Nat) :
    State.keep ⟨t.fuses, t.dev, acc_, blks_, regs_, now_, tim_, ports_, pgs_, tbl_, ver_, ips_, eps_, tmg_, bpm_, drc_, sch_, blg_, msc_, key_, pci_, hst_, dma_, cnt_, flt_, evt_, pwr_, i2c_, jtag_, out_, free_, t.pending⟩ = t.keep := rfl
theorem foldl_keep {α : Type} (f : State → α → State) (l : List α) (s : State) (h : ∀ t a, (f t a).keep = t.keep) : (l.foldl f s).keep = s.keep := by
  induction l generalizing s with
  | nil => rfl
  | cons a t ih => rw [List.foldl_cons, ih, h]
theorem foldl1_keep {α β : Type} (f : State × β → α → State × β) (l : List α) (s : State × β) (h : ∀ t a, (f t a).1.keep = t.1.keep) :
    (l.foldl f s).1.keep = s.1.keep := by
  induction l generalizing s with
  | nil => rfl
  | cons a t ih => rw [List.foldl_cons, ih, h]
theorem foldl2_keep {α β : Type} (f : β × State → α → β × State) (l : List α) (s : β × State) (h : ∀ t a, (f t a).2.keep = t.2.keep) :
    (l.foldl f s).2.keep = s.2.keep := by
  induction l generalizing s with
  | nil => rfl
  | cons a t ih => rw [List.foldl_cons, ih, h]
theorem ite_cases_keep (c : Prop) [Decidable c] (a b s : State) (ha : c → a.keep = s.keep) (hb : ¬c → b.keep = s.keep) : (if c then a else b).keep = s.keep := by
  split
  · exact ha ‹_›
  · exact hb ‹_›
theorem ite1_keep {β : Type} (c : Prop) [Decidable c] (a b : State × β) : (if c then a else b).1.keep = if c then a.1.keep else b.1.keep := by split <;> rfl
theorem ite2_keep {β : Type} (c : Prop) [Decidable c] (a b : β × State) : (if c then a else b).2.keep = if c then a.2.keep else b.2.keep := by split <;> rfl
theorem ite_keep (c : Prop) [Decidable c] (a b : State) : (if c then a else b).keep = if c then a.keep else b.keep := by split <;> rfl
theorem State.wr_keep (s : State) (k : Nat) (v : Word) : (State.wr s k v).keep = s.keep := by
  simp -implicitDefEqProofs only [State.wr, ite_keep, ite1_keep, ite2_keep, foldl_keep, foldl1_keep, foldl2_keep, ite_self, implies_true, keep_mk]
theorem State.setF_keep (s : State) (k hi lo v : Nat) : (State.setF s k hi lo v).keep = s.keep := by
  simp -implicitDefEqProofs only [State.setF, ite_keep, ite1_keep, ite2_keep, foldl_keep, foldl1_keep, foldl2_keep, ite_self, implies_true, keep_mk, State.wr_keep]
theorem State.addF_keep (s : State) (k hi lo n : Nat) : (State.addF s k hi lo n).keep = s.keep := by
  simp -implicitDefEqProofs only [State.addF, ite_keep, ite1_keep, ite2_keep, foldl_keep, foldl1_keep, foldl2_keep, ite_self, implies_true, keep_mk, State.setF_keep]
theorem State.bump_keep (s : State) (k : Nat) : (State.bump s k).keep = s.keep := by
  simp -implicitDefEqProofs only [State.bump, ite_keep, ite1_keep, ite2_keep, foldl_keep, foldl1_keep, foldl2_keep, ite_self, implies_true, keep_mk, State.addF_keep]
theorem State.setB_keep (s : State) (k n : Nat) : (State.setB s k n).keep = s.keep := by
  simp -implicitDefEqProofs only [State.setB, ite_keep, ite1_keep, ite2_keep, foldl_keep, foldl1_keep, foldl2_keep, ite_self, implies_true, keep_mk, State.setF_keep]
theorem State.zero_keep (s : State) (ks : List Nat) : (State.zero s ks).keep = s.keep := by
  simp -implicitDefEqProofs only [State.zero, ite_keep, ite1_keep, ite2_keep, foldl_keep, foldl1_keep, foldl2_keep, ite_self, implies_true, keep_mk, State.wr_keep]
theorem State.wr64_keep (s : State) (lo hi v : Nat) : (State.wr64 s lo hi v).keep = s.keep := by
  simp -implicitDefEqProofs only [State.wr64, ite_keep, ite1_keep, ite2_keep, foldl_keep, foldl1_keep, foldl2_keep, ite_self, implies_true, keep_mk, State.wr_keep]
theorem State.drawFree_keep (s : State) : (State.drawFree s).2.keep = s.keep := by
  simp -implicitDefEqProofs only [State.drawFree, ite_keep, ite1_keep, ite2_keep, foldl_keep, foldl1_keep, foldl2_keep, ite_self, implies_true, keep_mk]
theorem State.setPort_keep (s : State) (p : Nat) (v : PortSt) : (State.setPort s p v).keep = s.keep := by
  simp -implicitDefEqProofs only [State.setPort, ite_keep, ite1_keep, ite2_keep, foldl_keep, foldl1_keep, foldl2_keep, ite_self, implies_true, keep_mk]
theorem State.setPg_keep (s : State) (g : Nat) (v : PgSt) : (State.setPg s g v).keep = s.keep := by
  simp -implicitDefEqProofs only [State.setPg, ite_keep, ite1_keep, ite2_keep, foldl_keep, foldl1_keep, foldl2_keep, ite_self, implies_true, keep_mk]
theorem State.setIp_keep (s : State) (g : Nat) (v : IpSt) : (State.setIp s g v).keep = s.keep := by
  simp -implicitDefEqProofs only [State.setIp, ite_keep, ite1_keep, ite2_keep, foldl_keep, foldl1_keep, foldl2_keep, ite_self, implies_true, keep_mk]
theorem State.setEp_keep (s : State) (g : Nat) (v : EpSt) : (State.setEp s g v).keep = s.keep := by
  simp -implicitDefEqProofs only [State.setEp, ite_keep, ite1_keep, ite2_keep, foldl_keep, foldl1_keep, foldl2_keep, ite_self, implies_true, keep_mk]
theorem State.setBlk_keep (s : State) (p : Nat) (b : Blk) : (State.setBlk s p b).keep = s.keep := by
  simp -implicitDefEqProofs only [State.setBlk, ite_keep, ite1_keep, ite2_keep, foldl_keep, foldl1_keep, foldl2_keep, ite_self, implies_true, keep_mk]
theorem State.setHalf_keep (s : State) (h : Nat) (v : HalfTbl) : (State.setHalf s h v).keep = s.keep := by
  simp -implicitDefEqProofs only [State.setHalf, ite_keep, ite1_keep, ite2_keep, foldl_keep, foldl1_keep, foldl2_keep, ite_self, implies_true, keep_mk]
theorem State.emit_keep (s : State) (o : Out) : (State.emit s o).keep = s.keep := by
  simp -implicitDefEqProofs only [State.emit, ite_keep, ite1_keep, ite2_keep, foldl_keep, foldl1_keep, foldl2_keep, ite_self, implies_true, keep_mk]
theorem State.cntAdd_keep (s : State) (page n amt : Nat) : (State.cntAdd s page n amt).keep = s.keep := by
  simp -implicitDefEqProofs only [State.cntAdd, ite_keep, ite1_keep, ite2_keep, foldl_keep, foldl1_keep, foldl2_keep, ite_self, implies_true, keep_mk, State.wr64_keep]
theorem State.event_keep (s : State) (page code amt : Nat) (q : Nat → Bool) : (State.event s page code amt q).keep = s.keep := by
  simp -implicitDefEqProofs only [State.event, ite_keep, ite1_keep, ite2_keep, foldl_keep, foldl1_keep, foldl2_keep, ite_self, implies_true, keep_mk, State.cntAdd_keep]
theorem State.sendMsix_keep (s : State) (u v : Nat) : (State.sendMsix s u v).keep = s.keep := by
  simp -implicitDefEqProofs only [State.sendMsix, ite_keep, ite1_keep, ite2_keep, foldl_keep, foldl1_keep, foldl2_keep, ite_self, implies_true, keep_mk]
theorem State.irqEdge_keep (s : State) (page : Nat) (before : Bool) : (State.irqEdge s page before).keep = s.keep := by
  simp -implicitDefEqProofs only [State.irqEdge, ite_keep, ite1_keep, ite2_keep, foldl_keep, foldl1_keep, foldl2_keep, ite_self, implies_true, keep_mk, State.sendMsix_keep]
theorem State.irq_keep (s : State) (page n : Nat) : (State.irq s page n).keep = s.keep := by
  simp -implicitDefEqProofs only [State.irq, ite_keep, ite1_keep, ite2_keep, foldl_keep, foldl1_keep, foldl2_keep, ite_self, implies_true, keep_mk, State.irqEdge_keep, State.setB_keep]
theorem State.badAcc_keep (s : State) : (State.badAcc s).keep = s.keep := by
  simp -implicitDefEqProofs only [State.badAcc, ite_keep, ite1_keep, ite2_keep, foldl_keep, foldl1_keep, foldl2_keep, ite_self, implies_true, keep_mk, State.bump_keep]
theorem State.absentWrite_keep (s : State) (bar user off : Nat) : (State.absentWrite s bar user off).keep = s.keep := by
  simp -implicitDefEqProofs only [State.absentWrite, ite_keep, ite1_keep, ite2_keep, foldl_keep, foldl1_keep, foldl2_keep, ite_self, implies_true, keep_mk, State.bump_keep, State.irq_keep, State.wr_keep]
theorem State.hostWr_keep (s : State) (key : Nat) (g : State → State) (hg : ∀ t0, (g t0).keep = t0.keep) : (State.hostWr s key g).keep = s.keep := by
  unfold State.hostWr
  repeat' (first | (simp -implicitDefEqProofs only [ite_keep, ite1_keep, ite2_keep, foldl_keep, foldl1_keep, foldl2_keep, ite_self, implies_true, keep_mk, State.absentWrite_keep, State.badAcc_keep, *]; done) | split | (refine (foldl_keep _ _ _ (fun t a => ?_)).trans ?_) | (refine (foldl1_keep _ _ _ (fun t a => ?_)).trans ?_) | (refine (foldl2_keep _ _ _ (fun t a => ?_)).trans ?_) | (simp -implicitDefEqProofs only [ite_keep, ite1_keep, ite2_keep, foldl_keep, foldl1_keep, foldl2_keep, ite_self, implies_true, keep_mk, State.absentWrite_keep, State.badAcc_keep, *]))
theorem State.hostWO_keep (s : State) (key : Nat) (w : Word) (g : State → State) (hg : ∀ t0, (g t0).keep = t0.keep) : (State.hostWO s key w g).keep = s.keep := by
  unfold State.hostWO
  repeat' (first | (simp -implicitDefEqProofs only [ite_keep, ite1_keep, ite2_keep, foldl_keep, foldl1_keep, foldl2_keep, ite_self, implies_true, keep_mk, State.badAcc_keep, State.hostWr_keep, *]; done) | split | (refine (foldl_keep _ _ _ (fun t a => ?_)).trans ?_) | (refine (foldl1_keep _ _ _ (fun t a => ?_)).trans ?_) | (refine (foldl2_keep _ _ _ (fun t a => ?_)).trans ?_) | (simp -implicitDefEqProofs only [ite_keep, ite1_keep, ite2_keep, foldl_keep, foldl1_keep, foldl2_keep, ite_self, implies_true, keep_mk, State.badAcc_keep, State.hostWr_keep, *]))
theorem State.fire_keep (s : State) (page src : Nat) (inj : Bool) (info : Word) : (State.fire s page src inj info).keep = s.keep := by
  simp -implicitDefEqProofs only [State.fire, ite_keep, ite1_keep, ite2_keep, foldl_keep, foldl1_keep, foldl2_keep, ite_self, implies_true, keep_mk, State.addF_keep, State.event_keep, State.setB_keep]
theorem State.fault_keep (s : State) (page src : Nat) : (State.fault s page src).keep = s.keep := by
  simp -implicitDefEqProofs only [State.fault, ite_keep, ite1_keep, ite2_keep, foldl_keep, foldl1_keep, foldl2_keep, ite_self, implies_true, keep_mk, State.fire_keep]
theorem State.cycles_keep (s : State) (t0 t1 : Nat) : (State.cycles s t0 t1).keep = s.keep := by
  unfold State.cycles
  repeat' (first | (simp -implicitDefEqProofs only [ite_keep, ite1_keep, ite2_keep, foldl_keep, foldl1_keep, foldl2_keep, ite_self, implies_true, keep_mk, State.cntAdd_keep, *]; done) | split | (refine (foldl_keep _ _ _ (fun t a => ?_)).trans ?_) | (refine (foldl1_keep _ _ _ (fun t a => ?_)).trans ?_) | (refine (foldl2_keep _ _ _ (fun t a => ?_)).trans ?_) | (simp -implicitDefEqProofs only [ite_keep, ite1_keep, ite2_keep, foldl_keep, foldl1_keep, foldl2_keep, ite_self, implies_true, keep_mk, State.cntAdd_keep, *]))
theorem State.advance_keep (s : State) (d : Nat) : (State.advance s d).keep = s.keep := by
  simp -implicitDefEqProofs only [State.advance, ite_keep, ite1_keep, ite2_keep, foldl_keep, foldl1_keep, foldl2_keep, ite_self, implies_true, keep_mk, State.cycles_keep]
theorem State.until_keep (s : State) (t : Nat) : (State.until s t).keep = s.keep := by
  simp -implicitDefEqProofs only [State.until, ite_keep, ite1_keep, ite2_keep, foldl_keep, foldl1_keep, foldl2_keep, ite_self, implies_true, keep_mk, State.advance_keep]
theorem State.nextTick_keep (s : State) (period : Nat) : (State.nextTick s period).keep = s.keep := by
  simp -implicitDefEqProofs only [State.nextTick, ite_keep, ite1_keep, ite2_keep, foldl_keep, foldl1_keep, foldl2_keep, ite_self, implies_true, keep_mk, State.until_keep]
theorem State.untilInstant_keep (s : State) (i : Nat) : (State.untilInstant s i).keep = s.keep := by
  simp -implicitDefEqProofs only [State.untilInstant, ite_keep, ite1_keep, ite2_keep, foldl_keep, foldl1_keep, foldl2_keep, ite_self, implies_true, keep_mk, State.advance_keep]
theorem State.sealReject_keep (s : State) (key : Nat) : (State.sealReject s key).keep = s.keep := by
  simp -implicitDefEqProofs only [State.sealReject, ite_keep, ite1_keep, ite2_keep, foldl_keep, foldl1_keep, foldl2_keep, ite_self, implies_true, keep_mk, State.addF_keep, State.irq_keep, State.wr_keep]
theorem State.dropValid_keep (s : State) : (State.dropValid s).keep = s.keep := by
  simp -implicitDefEqProofs only [State.dropValid, ite_keep, ite1_keep, ite2_keep, foldl_keep, foldl1_keep, foldl2_keep, ite_self, implies_true, keep_mk, State.setF_keep]
theorem State.cfgGen_keep (s : State) : (State.cfgGen s).keep = s.keep := by
  simp -implicitDefEqProofs only [State.cfgGen, ite_keep, ite1_keep, ite2_keep, foldl_keep, foldl1_keep, foldl2_keep, ite_self, implies_true, keep_mk, State.dropValid_keep, State.wr_keep]
theorem State.rwsPut_keep (s : State) (who key : Nat) (f : Field) (v : Nat) : (State.rwsPut s who key f v).keep = s.keep := by
  simp -implicitDefEqProofs only [State.rwsPut, ite_keep, ite1_keep, ite2_keep, foldl_keep, foldl1_keep, foldl2_keep, ite_self, implies_true, keep_mk, State.cfgGen_keep, State.sealReject_keep, State.setF_keep]
theorem State.fieldPut_keep (s : State) (who key : Nat) (w : Word) (f : Field) : (State.fieldPut s who key w f).keep = s.keep := by
  unfold State.fieldPut; (repeat' split) <;> simp -implicitDefEqProofs only [ite_keep, ite1_keep, ite2_keep, foldl_keep, foldl1_keep, foldl2_keep, ite_self, implies_true, keep_mk, State.rwsPut_keep, State.setF_keep]
theorem State.regPut_keep (s : State) (who key : Nat) (r : Row) (w : Word) : (State.regPut s who key r w).keep = s.keep := by
  simp -implicitDefEqProofs only [State.regPut, ite_keep, ite1_keep, ite2_keep, foldl_keep, foldl1_keep, foldl2_keep, ite_self, implies_true, keep_mk, State.fieldPut_keep]
theorem State.setPeer_keep (s : State) (v : Nat) : (State.setPeer s v).keep = s.keep := by
  simp -implicitDefEqProofs only [State.setPeer, ite_keep, ite1_keep, ite2_keep, foldl_keep, foldl1_keep, foldl2_keep, ite_self, implies_true, keep_mk, State.irq_keep, State.setF_keep]
theorem State.setSelf_keep (s : State) (v : Nat) : (State.setSelf s v).keep = s.keep := by
  simp -implicitDefEqProofs only [State.setSelf, ite_keep, ite1_keep, ite2_keep, foldl_keep, foldl1_keep, foldl2_keep, ite_self, implies_true, keep_mk, State.irq_keep, State.setF_keep]
theorem State.setRole_keep (s : State) (r : Nat) : (State.setRole s r).keep = s.keep := by
  simp -implicitDefEqProofs only [State.setRole, ite_keep, ite1_keep, ite2_keep, foldl_keep, foldl1_keep, foldl2_keep, ite_self, implies_true, keep_mk, State.irq_keep, State.setF_keep, State.wr64_keep]
theorem State.journalPut_keep (s : State) (e : JEntry) : (State.journalPut s e).keep = s.keep := by
  simp -implicitDefEqProofs only [State.journalPut, ite_keep, ite1_keep, ite2_keep, foldl_keep, foldl1_keep, foldl2_keep, ite_self, implies_true, keep_mk]
theorem State.bulkBegin_keep (s : State) : (State.bulkBegin s).keep = s.keep := by
  simp -implicitDefEqProofs only [State.bulkBegin, ite_keep, ite1_keep, ite2_keep, foldl_keep, foldl1_keep, foldl2_keep, ite_self, implies_true, keep_mk, State.bump_keep, State.journalPut_keep, State.setPeer_keep, State.zero_keep]
theorem State.resyncPoll_keep (s : State) : (State.resyncPoll s).keep = s.keep := by
  simp -implicitDefEqProofs only [State.resyncPoll, ite_keep, ite1_keep, ite2_keep, foldl_keep, foldl1_keep, foldl2_keep, ite_self, implies_true, keep_mk, State.bulkBegin_keep]
theorem State.peerStale_keep (s : State) : (State.peerStale s).keep = s.keep := by
  simp -implicitDefEqProofs only [State.peerStale, ite_keep, ite1_keep, ite2_keep, foldl_keep, foldl1_keep, foldl2_keep, ite_self, implies_true, keep_mk, State.bump_keep, State.irq_keep, State.resyncPoll_keep, State.setPeer_keep]
theorem State.journalFull_keep (s : State) : (State.journalFull s).keep = s.keep := by
  simp -implicitDefEqProofs only [State.journalFull, ite_keep, ite1_keep, ite2_keep, foldl_keep, foldl1_keep, foldl2_keep, ite_self, implies_true, keep_mk, State.fault_keep, State.peerStale_keep]
theorem State.journal_keep (s : State) (e : JEntry) : (State.journal s e).keep = s.keep := by
  simp -implicitDefEqProofs only [State.journal, ite_keep, ite1_keep, ite2_keep, foldl_keep, foldl1_keep, foldl2_keep, ite_self, implies_true, keep_mk, State.journalFull_keep, State.journalPut_keep]
theorem State.startBulk_keep (s : State) : (State.startBulk s).keep = s.keep := by
  simp -implicitDefEqProofs only [State.startBulk, ite_keep, ite1_keep, ite2_keep, foldl_keep, foldl1_keep, foldl2_keep, ite_self, implies_true, keep_mk, State.bulkBegin_keep, State.journalFull_keep, State.journal_keep]
theorem State.setLanes_keep (s : State) (v : Nat) : (State.setLanes s v).keep = s.keep := by
  simp -implicitDefEqProofs only [State.setLanes, ite_keep, ite1_keep, ite2_keep, foldl_keep, foldl1_keep, foldl2_keep, ite_self, implies_true, keep_mk, State.irq_keep, State.resyncPoll_keep, State.setF_keep]
theorem State.rowPut_keep (s : State) (h mem row v : Nat) : (State.rowPut s h mem row v).keep = s.keep := by
  simp -implicitDefEqProofs only [State.rowPut, ite_keep, ite1_keep, ite2_keep, foldl_keep, foldl1_keep, foldl2_keep, ite_self, implies_true, keep_mk, State.journal_keep, State.setHalf_keep]
theorem State.rowReplace_keep (s : State) (h mem row v : Nat) : (State.rowReplace s h mem row v).keep = s.keep := by
  simp -implicitDefEqProofs only [State.rowReplace, ite_keep, ite1_keep, ite2_keep, foldl_keep, foldl1_keep, foldl2_keep, ite_self, implies_true, keep_mk, State.rowPut_keep, State.setHalf_keep]
theorem State.lookEffect_keep (s : State) (h res resid : Nat) (source : Bool) (l : Look) : (State.lookEffect s h res resid source l).keep = s.keep := by
  unfold State.lookEffect; (repeat' split) <;> simp -implicitDefEqProofs only [ite_keep, ite1_keep, ite2_keep, foldl_keep, foldl1_keep, foldl2_keep, ite_self, implies_true, keep_mk, State.bump_keep, State.fire_keep, State.irq_keep, State.setHalf_keep]
theorem State.jVer_keep (s : State) : (State.jVer s).keep = s.keep := by
  simp -implicitDefEqProofs only [State.jVer, ite_keep, ite1_keep, ite2_keep, foldl_keep, foldl1_keep, foldl2_keep, ite_self, implies_true, keep_mk, State.journal_keep]
theorem State.dropFolded_keep (s : State) : (State.dropFolded s).keep = s.keep := by
  simp -implicitDefEqProofs only [State.dropFolded, ite_keep, ite1_keep, ite2_keep, foldl_keep, foldl1_keep, foldl2_keep, ite_self, implies_true, keep_mk]
theorem State.retireList_keep (s : State) (l : List Nat) : (State.retireList s l).keep = s.keep := by
  induction l generalizing s with
  | nil => simp -implicitDefEqProofs only [State.retireList]
  | cons v r ih =>
    unfold State.retireList
    repeat' (first | (simp -implicitDefEqProofs only [ite_keep, ite1_keep, ite2_keep, foldl_keep, foldl1_keep, foldl2_keep, ite_self, implies_true, keep_mk, State.jVer_keep, ih, *]; done) | split | (simp -implicitDefEqProofs only [ite_keep, ite1_keep, ite2_keep, foldl_keep, foldl1_keep, foldl2_keep, ite_self, implies_true, keep_mk, State.jVer_keep, ih, *]))
theorem State.retire_keep (s : State) : (State.retire s).keep = s.keep := by
  simp -implicitDefEqProofs only [State.retire, ite_keep, ite1_keep, ite2_keep, foldl_keep, foldl1_keep, foldl2_keep, ite_self, implies_true, keep_mk, State.dropFolded_keep, State.retireList_keep]
theorem State.hold_keep (s : State) (v : Nat) : (State.hold s v).keep = s.keep := by
  simp -implicitDefEqProofs only [State.hold, ite_keep, ite1_keep, ite2_keep, foldl_keep, foldl1_keep, foldl2_keep, ite_self, implies_true, keep_mk, State.addF_keep]
theorem State.release_keep (s : State) (v : Nat) : (State.release s v).keep = s.keep := by
  simp -implicitDefEqProofs only [State.release, ite_keep, ite1_keep, ite2_keep, foldl_keep, foldl1_keep, foldl2_keep, ite_self, implies_true, keep_mk, State.retire_keep, State.setF_keep]
theorem State.releaseAll_keep (s : State) (l : List Nat) : (State.releaseAll s l).keep = s.keep := by
  simp -implicitDefEqProofs only [State.releaseAll, ite_keep, ite1_keep, ite2_keep, foldl_keep, foldl1_keep, foldl2_keep, ite_self, implies_true, keep_mk, State.release_keep]
theorem State.commitPoll_keep (s : State) : (State.commitPoll s).keep = s.keep := by
  unfold State.commitPoll; (repeat' split) <;> simp -implicitDefEqProofs only [ite_keep, ite1_keep, ite2_keep, foldl_keep, foldl1_keep, foldl2_keep, ite_self, implies_true, keep_mk, State.bump_keep, State.irq_keep]
theorem State.commitHold_keep (s : State) (hold : Bool) : (State.commitHold s hold).keep = s.keep := by
  simp -implicitDefEqProofs only [State.commitHold, ite_keep, ite1_keep, ite2_keep, foldl_keep, foldl1_keep, foldl2_keep, ite_self, implies_true, keep_mk, State.commitPoll_keep, State.hold_keep]
theorem State.commitGo_keep (s : State) : (State.commitGo s).keep = s.keep := by
  unfold State.commitGo; (repeat' split) <;> simp -implicitDefEqProofs only [ite_keep, ite1_keep, ite2_keep, foldl_keep, foldl1_keep, foldl2_keep, ite_self, implies_true, keep_mk, State.badAcc_keep, State.commitPoll_keep]
theorem State.abortGo_keep (s : State) : (State.abortGo s).keep = s.keep := by
  unfold State.abortGo; (repeat' split) <;> simp -implicitDefEqProofs only [ite_keep, ite1_keep, ite2_keep, foldl_keep, foldl1_keep, foldl2_keep, ite_self, implies_true, keep_mk, State.badAcc_keep]
theorem State.verCtl_keep (s : State) (w : Word) : (State.verCtl s w).keep = s.keep := by
  simp -implicitDefEqProofs only [State.verCtl, ite_keep, ite1_keep, ite2_keep, foldl_keep, foldl1_keep, foldl2_keep, ite_self, implies_true, keep_mk, State.abortGo_keep, State.badAcc_keep, State.commitGo_keep]
theorem State.switchTo_keep (s : State) (v n : Nat) : (State.switchTo s v n).keep = s.keep := by
  simp -implicitDefEqProofs only [State.switchTo, ite_keep, ite1_keep, ite2_keep, foldl_keep, foldl1_keep, foldl2_keep, ite_self, implies_true, keep_mk, State.bump_keep, State.irq_keep, State.jVer_keep, State.retire_keep, State.setF_keep, State.wr64_keep]
theorem State.fixHalf_keep (s : State) (h u : Nat) (undo : Bool) : (State.fixHalf s h u undo).keep = s.keep := by
  simp -implicitDefEqProofs only [State.fixHalf, ite_keep, ite1_keep, ite2_keep, foldl_keep, foldl1_keep, foldl2_keep, ite_self, implies_true, keep_mk, State.fire_keep, State.rowPut_keep, State.setHalf_keep]
theorem State.pendClear_keep (s : State) (u : Nat) : (State.pendClear s u).keep = s.keep := by
  simp -implicitDefEqProofs only [State.pendClear, ite_keep, ite1_keep, ite2_keep, foldl_keep, foldl1_keep, foldl2_keep, ite_self, implies_true, keep_mk, State.jVer_keep, State.setF_keep]
theorem State.verReset_keep (s : State) : (State.verReset s).keep = s.keep := by
  unfold State.verReset; (repeat' split) <;> simp -implicitDefEqProofs only [ite_keep, ite1_keep, ite2_keep, foldl_keep, foldl1_keep, foldl2_keep, ite_self, implies_true, keep_mk]
theorem State.markFold_keep (s : State) (h v key : Nat) : (State.markFold s h v key).keep = s.keep := by
  simp -implicitDefEqProofs only [State.markFold, ite_keep, ite1_keep, ite2_keep, foldl_keep, foldl1_keep, foldl2_keep, ite_self, implies_true, keep_mk, State.jVer_keep, State.setB_keep, State.setHalf_keep]
theorem State.markTags_keep (s : State) (h ctl key : Nat) : (State.markTags s h ctl key).keep = s.keep := by
  simp -implicitDefEqProofs only [State.markTags, ite_keep, ite1_keep, ite2_keep, foldl_keep, foldl1_keep, foldl2_keep, ite_self, implies_true, keep_mk, State.markFold_keep]
theorem State.slotPut_keep (s : State) (h way row fmt i ctl key : Nat) : (State.slotPut s h way row fmt i ctl key).keep = s.keep := by
  simp -implicitDefEqProofs only [State.slotPut, ite_keep, ite1_keep, ite2_keep, foldl_keep, foldl1_keep, foldl2_keep, ite_self, implies_true, keep_mk, State.rowPut_keep]
theorem State.kickMoves_keep (s : State) (h fmt : Nat) (prev : KMap (Option (Nat × Nat))) (fuel a b c : Nat) :
    (State.kickMoves s h fmt prev fuel a b c).1.keep = s.keep := by
  induction fuel generalizing s a b c with
  | zero => rfl
  | succ k ih =>
    unfold State.kickMoves
    split
    · simp only; rw [ih]; simp -implicitDefEqProofs only [ite_keep, ite1_keep, ite2_keep, foldl_keep, foldl1_keep, foldl2_keep, ite_self, implies_true, keep_mk, State.markTags_keep, State.setHalf_keep, State.slotPut_keep]
    · rfl
theorem State.place_keep (s : State) (h : Nat) (p : Part') (ws : List Nat) (ctl : Nat) : (State.place s h p ws ctl).1.keep = s.keep := by
  unfold State.place
  simp only
  split
  · rfl
  · split
    · simp -implicitDefEqProofs only [ite_keep, ite1_keep, ite2_keep, foldl_keep, foldl1_keep, foldl2_keep, ite_self, implies_true, keep_mk, State.event_keep, State.kickMoves_keep, State.setHalf_keep, State.slotPut_keep]
    · split
      · rfl
      · simp -implicitDefEqProofs only [ite_keep, ite1_keep, ite2_keep, foldl_keep, foldl1_keep, foldl2_keep, ite_self, implies_true, keep_mk, State.event_keep, State.kickMoves_keep, State.setHalf_keep, State.slotPut_keep]
theorem State.addEntry_keep (s : State) (h part : Nat) (vis : List Nat) (ws : List Nat) (ctl : Nat) : (State.addEntry s h part vis ws ctl).1.keep = s.keep := by
  unfold State.addEntry
  repeat' (first | (simp -implicitDefEqProofs only [ite_keep, ite1_keep, ite2_keep, foldl_keep, foldl1_keep, foldl2_keep, ite_self, implies_true, keep_mk, State.place_keep, *]; done) | split | (refine (foldl_keep _ _ _ (fun t a => ?_)).trans ?_) | (refine (foldl1_keep _ _ _ (fun t a => ?_)).trans ?_) | (refine (foldl2_keep _ _ _ (fun t a => ?_)).trans ?_) | (simp -implicitDefEqProofs only [ite_keep, ite1_keep, ite2_keep, foldl_keep, foldl1_keep, foldl2_keep, ite_self, implies_true, keep_mk, State.place_keep, *]))
theorem State.cmdMark_keep (s : State) (c : TblCmd) (h key : Nat) : (State.cmdMark s c h key).keep = s.keep := by
  simp -implicitDefEqProofs only [State.cmdMark, ite_keep, ite1_keep, ite2_keep, foldl_keep, foldl1_keep, foldl2_keep, ite_self, implies_true, keep_mk, State.markFold_keep]
theorem State.tAdd_keep (s : State) (h : Nat) (c : TblCmd) : (State.tAdd s h c).1.keep = s.keep := by
  simp -implicitDefEqProofs only [State.tAdd, ite_keep, ite1_keep, ite2_keep, foldl_keep, foldl1_keep, foldl2_keep, ite_self, implies_true, keep_mk, State.addEntry_keep, State.cmdMark_keep]
theorem State.tDel_keep (s : State) (h : Nat) (c : TblCmd) : (State.tDel s h c).1.keep = s.keep := by
  unfold State.tDel
  repeat' (first | (simp -implicitDefEqProofs only [ite_keep, ite1_keep, ite2_keep, foldl_keep, foldl1_keep, foldl2_keep, ite_self, implies_true, keep_mk, State.cmdMark_keep, State.slotPut_keep, *]; done) | split | (refine (foldl_keep _ _ _ (fun t a => ?_)).trans ?_) | (refine (foldl1_keep _ _ _ (fun t a => ?_)).trans ?_) | (refine (foldl2_keep _ _ _ (fun t a => ?_)).trans ?_) | (simp -implicitDefEqProofs only [ite_keep, ite1_keep, ite2_keep, foldl_keep, foldl1_keep, foldl2_keep, ite_self, implies_true, keep_mk, State.cmdMark_keep, State.slotPut_keep, *]))
theorem State.tFind_keep (s : State) (h : Nat) (c : TblCmd) : (State.tFind s h c).1.keep = s.keep := by
  simp -implicitDefEqProofs only [State.tFind, ite_keep, ite1_keep, ite2_keep, foldl_keep, foldl1_keep, foldl2_keep, ite_self, implies_true, keep_mk]
theorem State.tRowRead_keep (s : State) (h : Nat) (c : TblCmd) : (State.tRowRead s h c).1.keep = s.keep := by
  simp -implicitDefEqProofs only [State.tRowRead, ite_keep, ite1_keep, ite2_keep, foldl_keep, foldl1_keep, foldl2_keep, ite_self, implies_true, keep_mk]
theorem State.rowWrite_keep (s : State) (h mem row img : Nat) : (State.rowWrite s h mem row img).1.keep = s.keep := by
  simp -implicitDefEqProofs only [State.rowWrite, ite_keep, ite1_keep, ite2_keep, foldl_keep, foldl1_keep, foldl2_keep, ite_self, implies_true, keep_mk, State.markFold_keep, State.rowReplace_keep]
theorem State.tRowWrite_keep (s : State) (h : Nat) (c : TblCmd) : (State.tRowWrite s h c).1.keep = s.keep := by
  simp -implicitDefEqProofs only [State.tRowWrite, ite_keep, ite1_keep, ite2_keep, foldl_keep, foldl1_keep, foldl2_keep, ite_self, implies_true, keep_mk, State.rowWrite_keep]
theorem State.tRootSet_keep (s : State) (h : Nat) (c : TblCmd) : (State.tRootSet s h c).1.keep = s.keep := by
  unfold State.tRootSet
  repeat' (first | (simp -implicitDefEqProofs only [ite_keep, ite1_keep, ite2_keep, foldl_keep, foldl1_keep, foldl2_keep, ite_self, implies_true, keep_mk, State.cmdMark_keep, State.rowPut_keep, *]; done) | split | (refine (foldl_keep _ _ _ (fun t a => ?_)).trans ?_) | (refine (foldl1_keep _ _ _ (fun t a => ?_)).trans ?_) | (refine (foldl2_keep _ _ _ (fun t a => ?_)).trans ?_) | (simp -implicitDefEqProofs only [ite_keep, ite1_keep, ite2_keep, foldl_keep, foldl1_keep, foldl2_keep, ite_self, implies_true, keep_mk, State.cmdMark_keep, State.rowPut_keep, *]))
theorem State.tPondWr_keep (s : State) (h : Nat) (c : TblCmd) : (State.tPondWr s h c).1.keep = s.keep := by
  simp -implicitDefEqProofs only [State.tPondWr, ite_keep, ite1_keep, ite2_keep, foldl_keep, foldl1_keep, foldl2_keep, ite_self, implies_true, keep_mk, State.cmdMark_keep, State.rowPut_keep]
theorem State.tPondDel_keep (s : State) (h : Nat) (c : TblCmd) : (State.tPondDel s h c).1.keep = s.keep := by
  simp -implicitDefEqProofs only [State.tPondDel, ite_keep, ite1_keep, ite2_keep, foldl_keep, foldl1_keep, foldl2_keep, ite_self, implies_true, keep_mk, State.cmdMark_keep, State.rowPut_keep]
theorem State.tLock_keep (s : State) (h : Nat) (c : TblCmd) : (State.tLock s h c).1.keep = s.keep := by
  simp -implicitDefEqProofs only [State.tLock, ite_keep, ite1_keep, ite2_keep, foldl_keep, foldl1_keep, foldl2_keep, ite_self, implies_true, keep_mk, State.rowPut_keep]
theorem State.tUnlock_keep (s : State) (h : Nat) (c : TblCmd) : (State.tUnlock s h c).1.keep = s.keep := by
  simp -implicitDefEqProofs only [State.tUnlock, ite_keep, ite1_keep, ite2_keep, foldl_keep, foldl1_keep, foldl2_keep, ite_self, implies_true, keep_mk, State.rowPut_keep]
theorem State.tFlush_keep (s : State) (h : Nat) (c : TblCmd) : (State.tFlush s h c).1.keep = s.keep := by
  simp -implicitDefEqProofs only [State.tFlush, ite_keep, ite1_keep, ite2_keep, foldl_keep, foldl1_keep, foldl2_keep, ite_self, implies_true, keep_mk, State.cmdMark_keep, State.rowPut_keep]
theorem State.cmdHalf_keep (s : State) (h : Nat) (c : TblCmd) : (State.cmdHalf s h c).1.keep = s.keep := by
  unfold State.cmdHalf; (repeat' split) <;> simp -implicitDefEqProofs only [ite_keep, ite1_keep, ite2_keep, foldl_keep, foldl1_keep, foldl2_keep, ite_self, implies_true, keep_mk, State.tAdd_keep, State.tDel_keep, State.tFind_keep, State.tFlush_keep, State.tLock_keep, State.tPondDel_keep, State.tPondWr_keep, State.tRootSet_keep, State.tRowRead_keep, State.tRowWrite_keep, State.tUnlock_keep]
theorem State.cmdRun_keep (s : State) (c : TblCmd) : (State.cmdRun s c).keep = s.keep := by
  simp -implicitDefEqProofs only [State.cmdRun, ite_keep, ite1_keep, ite2_keep, foldl_keep, foldl1_keep, foldl2_keep, ite_self, implies_true, keep_mk, State.cmdHalf_keep]
theorem State.cmdResume_keep (s : State) : (State.cmdResume s).keep = s.keep := by
  simp -implicitDefEqProofs only [State.cmdResume, ite_keep, ite1_keep, ite2_keep, foldl_keep, foldl1_keep, foldl2_keep, ite_self, implies_true, keep_mk, State.cmdRun_keep]
theorem State.tblGo_keep (s : State) (words : List Word) : (State.tblGo s words).keep = s.keep := by
  unfold State.tblGo; (repeat' split) <;> simp -implicitDefEqProofs only [ite_keep, ite1_keep, ite2_keep, foldl_keep, foldl1_keep, foldl2_keep, ite_self, implies_true, keep_mk, State.bump_keep, State.cmdRun_keep, State.setF_keep]
theorem State.tblOp_keep (s : State) (op : Nat) : (State.tblOp s op).keep = s.keep := by
  simp -implicitDefEqProofs only [State.tblOp, ite_keep, ite1_keep, ite2_keep, foldl_keep, foldl1_keep, foldl2_keep, ite_self, implies_true, keep_mk, State.hostWO_keep, State.tblGo_keep]
theorem State.verErr_keep (s : State) (c : TblCmd) (k : Cmpl) : (State.verErr s c k).keep = s.keep := by
  simp -implicitDefEqProofs only [State.verErr, ite_keep, ite1_keep, ite2_keep, foldl_keep, foldl1_keep, foldl2_keep, ite_self, implies_true, keep_mk, State.setB_keep]
theorem State.tblComplete_keep (s : State) (i : Nat) : (State.tblComplete s i).keep = s.keep := by
  unfold State.tblComplete
  repeat' (first | (simp -implicitDefEqProofs only [ite_keep, ite1_keep, ite2_keep, foldl_keep, foldl1_keep, foldl2_keep, ite_self, implies_true, keep_mk, State.commitPoll_keep, State.event_keep, State.irq_keep, State.verErr_keep, *]; done) | split | (refine (foldl_keep _ _ _ (fun t a => ?_)).trans ?_) | (refine (foldl1_keep _ _ _ (fun t a => ?_)).trans ?_) | (refine (foldl2_keep _ _ _ (fun t a => ?_)).trans ?_) | (simp -implicitDefEqProofs only [ite_keep, ite1_keep, ite2_keep, foldl_keep, foldl1_keep, foldl2_keep, ite_self, implies_true, keep_mk, State.commitPoll_keep, State.event_keep, State.irq_keep, State.verErr_keep, *]))
theorem State.cmplLatch_keep (s : State) : (State.cmplLatch s).keep = s.keep := by
  simp -implicitDefEqProofs only [State.cmplLatch, ite_keep, ite1_keep, ite2_keep, foldl_keep, foldl1_keep, foldl2_keep, ite_self, implies_true, keep_mk]
theorem State.cmplPop_keep (s : State) : (State.cmplPop s).keep = s.keep := by
  unfold State.cmplPop; (repeat' split) <;> simp -implicitDefEqProofs only [ite_keep, ite1_keep, ite2_keep, foldl_keep, foldl1_keep, foldl2_keep, ite_self, implies_true, keep_mk]
theorem State.sweepEnd_keep (s : State) (h : Nat) : (State.sweepEnd s h).keep = s.keep := by
  simp -implicitDefEqProofs only [State.sweepEnd, ite_keep, ite1_keep, ite2_keep, foldl_keep, foldl1_keep, foldl2_keep, ite_self, implies_true, keep_mk, State.wr_keep]
theorem State.tcmReset_keep (s : State) : (State.tcmReset s).keep = s.keep := by
  simp -implicitDefEqProofs only [State.tcmReset, ite_keep, ite1_keep, ite2_keep, foldl_keep, foldl1_keep, foldl2_keep, ite_self, implies_true, keep_mk, State.wr_keep]
theorem State.tblReset_keep (s : State) : (State.tblReset s).keep = s.keep := by
  simp -implicitDefEqProofs only [State.tblReset, ite_keep, ite1_keep, ite2_keep, foldl_keep, foldl1_keep, foldl2_keep, ite_self, implies_true, keep_mk, State.commitPoll_keep, State.irq_keep, State.verErr_keep]
theorem State.notice_keep (s : State) (h : Nat) (n : Notice) : (State.notice s h n).keep = s.keep := by
  simp -implicitDefEqProofs only [State.notice, ite_keep, ite1_keep, ite2_keep, foldl_keep, foldl1_keep, foldl2_keep, ite_self, implies_true, keep_mk, State.bump_keep, State.irq_keep, State.setHalf_keep]
theorem State.noticeOf_keep (s : State) (h : Nat) (key : BitVec 64) (type port port2 ns : Nat) : (State.noticeOf s h key type port port2 ns).keep = s.keep := by
  simp -implicitDefEqProofs only [State.noticeOf, ite_keep, ite1_keep, ite2_keep, foldl_keep, foldl1_keep, foldl2_keep, ite_self, implies_true, keep_mk, State.notice_keep]
theorem State.holdoffDrop_keep (s : State) (h : Nat) : (State.holdoffDrop s h).keep = s.keep := by
  simp -implicitDefEqProofs only [State.holdoffDrop, ite_keep, ite1_keep, ite2_keep, foldl_keep, foldl1_keep, foldl2_keep, ite_self, implies_true, keep_mk, State.setHalf_keep]
theorem State.moveCand_keep (s : State) (h : Nat) (key : BitVec 64) (p1 q : Nat) : (State.moveCand s h key p1 q).keep = s.keep := by
  simp -implicitDefEqProofs only [State.moveCand, ite_keep, ite1_keep, ite2_keep, foldl_keep, foldl1_keep, foldl2_keep, ite_self, implies_true, keep_mk, State.bump_keep, State.noticeOf_keep]
theorem State.learnEvent_keep (s : State) (h : Nat) (key : BitVec 64) (q : Nat) (ent : Option Nat) (part : Nat) : (State.learnEvent s h key q ent part).keep = s.keep := by
  unfold State.learnEvent
  repeat' (first | (simp -implicitDefEqProofs only [ite_keep, ite1_keep, ite2_keep, foldl_keep, foldl1_keep, foldl2_keep, ite_self, implies_true, keep_mk, State.bump_keep, State.holdoffDrop_keep, State.irq_keep, State.moveCand_keep, State.setHalf_keep, *]; done) | split | (refine (foldl_keep _ _ _ (fun t a => ?_)).trans ?_) | (refine (foldl1_keep _ _ _ (fun t a => ?_)).trans ?_) | (refine (foldl2_keep _ _ _ (fun t a => ?_)).trans ?_) | (simp -implicitDefEqProofs only [ite_keep, ite1_keep, ite2_keep, foldl_keep, foldl1_keep, foldl2_keep, ite_self, implies_true, keep_mk, State.bump_keep, State.holdoffDrop_keep, State.irq_keep, State.moveCand_keep, State.setHalf_keep, *]))
theorem State.learnInsert_keep (s : State) (h : Nat) : (State.learnInsert s h).keep = s.keep := by
  unfold State.learnInsert; (repeat' split) <;> simp -implicitDefEqProofs only [ite_keep, ite1_keep, ite2_keep, foldl_keep, foldl1_keep, foldl2_keep, ite_self, implies_true, keep_mk, State.addEntry_keep, State.bump_keep, State.noticeOf_keep, State.setHalf_keep]
theorem State.noticeWrite_keep (s : State) (h : Nat) : (State.noticeWrite s h).keep = s.keep := by
  unfold State.noticeWrite
  repeat' (first | (simp -implicitDefEqProofs only [ite_keep, ite1_keep, ite2_keep, foldl_keep, foldl1_keep, foldl2_keep, ite_self, implies_true, keep_mk, State.emit_keep, State.irq_keep, State.setF_keep, State.setHalf_keep, *]; done) | split | (refine (foldl_keep _ _ _ (fun t a => ?_)).trans ?_) | (refine (foldl1_keep _ _ _ (fun t a => ?_)).trans ?_) | (refine (foldl2_keep _ _ _ (fun t a => ?_)).trans ?_) | (simp -implicitDefEqProofs only [ite_keep, ite1_keep, ite2_keep, foldl_keep, foldl1_keep, foldl2_keep, ite_self, implies_true, keep_mk, State.emit_keep, State.irq_keep, State.setF_keep, State.setHalf_keep, *]))
theorem State.ageRow_keep (s : State) (h : Nat) (p : Part') (limit : Nat) (mr : Nat × Nat) : (State.ageRow s h p limit mr).keep = s.keep := by
  simp -implicitDefEqProofs only [State.ageRow, ite_keep, ite1_keep, ite2_keep, foldl_keep, foldl1_keep, foldl2_keep, ite_self, implies_true, keep_mk, State.bump_keep, State.noticeOf_keep, State.rowPut_keep, State.setHalf_keep]
theorem State.lrnReset1_keep (s : State) (h : Nat) : (State.lrnReset1 s h).keep = s.keep := by
  simp -implicitDefEqProofs only [State.lrnReset1, ite_keep, ite1_keep, ite2_keep, foldl_keep, foldl1_keep, foldl2_keep, ite_self, implies_true, keep_mk, State.addF_keep, State.setHalf_keep]
theorem State.lrnReset_keep (s : State) : (State.lrnReset s).keep = s.keep := by
  simp -implicitDefEqProofs only [State.lrnReset, ite_keep, ite1_keep, ite2_keep, foldl_keep, foldl1_keep, foldl2_keep, ite_self, implies_true, keep_mk, State.lrnReset1_keep]
theorem State.setGacc_keep (s : State) (k : Nat) (a : GAcc) : (State.setGacc s k a).keep = s.keep := by
  simp -implicitDefEqProofs only [State.setGacc, ite_keep, ite1_keep, ite2_keep, foldl_keep, foldl1_keep, foldl2_keep, ite_self, implies_true, keep_mk]
theorem State.clearCounter_keep (s : State) (page n : Nat) : (State.clearCounter s page n).keep = s.keep := by
  simp -implicitDefEqProofs only [State.clearCounter, ite_keep, ite1_keep, ite2_keep, foldl_keep, foldl1_keep, foldl2_keep, ite_self, implies_true, keep_mk, State.setGacc_keep, State.zero_keep]
theorem State.clearCounters_keep (s : State) (page : Nat) : (State.clearCounters s page).keep = s.keep := by
  simp -implicitDefEqProofs only [State.clearCounters, ite_keep, ite1_keep, ite2_keep, foldl_keep, foldl1_keep, foldl2_keep, ite_self, implies_true, keep_mk, State.clearCounter_keep]
theorem State.cselWrite_keep (s : State) (page n : Nat) (w : Word) : (State.cselWrite s page n w).keep = s.keep := by
  simp -implicitDefEqProofs only [State.cselWrite, ite_keep, ite1_keep, ite2_keep, foldl_keep, foldl1_keep, foldl2_keep, ite_self, implies_true, keep_mk, State.clearCounter_keep, State.wr_keep]
theorem State.gaugeRead_keep (s : State) (k : Nat) : (State.gaugeRead s k).keep = s.keep := by
  simp -implicitDefEqProofs only [State.gaugeRead, ite_keep, ite1_keep, ite2_keep, foldl_keep, foldl1_keep, foldl2_keep, ite_self, implies_true, keep_mk, State.setGacc_keep]
theorem State.snapLost_keep (s : State) : (State.snapLost s).keep = s.keep := by
  simp -implicitDefEqProofs only [State.snapLost, ite_keep, ite1_keep, ite2_keep, foldl_keep, foldl1_keep, foldl2_keep, ite_self, implies_true, keep_mk, State.bump_keep, State.irq_keep]
theorem State.snapRequest_keep (s : State) (at_ : Nat) (late : Bool) : (State.snapRequest s at_ late).keep = s.keep := by
  simp -implicitDefEqProofs only [State.snapRequest, ite_keep, ite1_keep, ite2_keep, foldl_keep, foldl1_keep, foldl2_keep, ite_self, implies_true, keep_mk, State.setB_keep, State.snapLost_keep]
theorem State.snapCtl_keep (s : State) (w : Word) : (State.snapCtl s w).keep = s.keep := by
  simp -implicitDefEqProofs only [State.snapCtl, ite_keep, ite1_keep, ite2_keep, foldl_keep, foldl1_keep, foldl2_keep, ite_self, implies_true, keep_mk, State.setF_keep, State.snapRequest_keep]
theorem State.goWr_keep (s : State) (key : Nat) (w : Word) (g : State → Word → State) (hg : ∀ t0 t1, (g t0 t1).keep = t0.keep) : (State.goWr s key w g).keep = s.keep := by
  unfold State.goWr
  repeat' (first | (simp -implicitDefEqProofs only [ite_keep, ite1_keep, ite2_keep, foldl_keep, foldl1_keep, foldl2_keep, ite_self, implies_true, keep_mk, State.badAcc_keep, State.hostWr_keep, *]; done) | split | (refine (foldl_keep _ _ _ (fun t a => ?_)).trans ?_) | (refine (foldl1_keep _ _ _ (fun t a => ?_)).trans ?_) | (refine (foldl2_keep _ _ _ (fun t a => ?_)).trans ?_) | (simp -implicitDefEqProofs only [ite_keep, ite1_keep, ite2_keep, foldl_keep, foldl1_keep, foldl2_keep, ite_self, implies_true, keep_mk, State.badAcc_keep, State.hostWr_keep, *]))
theorem State.snapLatch_keep (s : State) : (State.snapLatch s).keep = s.keep := by
  unfold State.snapLatch; (repeat' split) <;> simp -implicitDefEqProofs only [ite_keep, ite1_keep, ite2_keep, foldl_keep, foldl1_keep, foldl2_keep, ite_self, implies_true, keep_mk, State.setB_keep, State.untilInstant_keep]
theorem State.freezeCtl_keep (s : State) (w : Word) : (State.freezeCtl s w).keep = s.keep := by
  simp -implicitDefEqProofs only [State.freezeCtl, ite_keep, ite1_keep, ite2_keep, foldl_keep, foldl1_keep, foldl2_keep, ite_self, implies_true, keep_mk, State.badAcc_keep, State.setB_keep, State.setF_keep, State.snapLost_keep]
theorem State.freezeChange_keep (s : State) : (State.freezeChange s).keep = s.keep := by
  unfold State.freezeChange; (repeat' split) <;> simp -implicitDefEqProofs only [ite_keep, ite1_keep, ite2_keep, foldl_keep, foldl1_keep, foldl2_keep, ite_self, implies_true, keep_mk, State.setB_keep, State.setF_keep, State.untilInstant_keep]
theorem State.gaugeUnc_keep (s : State) (page n : Nat) : (State.gaugeUnc s page n).keep = s.keep := by
  simp -implicitDefEqProofs only [State.gaugeUnc, ite_keep, ite1_keep, ite2_keep, foldl_keep, foldl1_keep, foldl2_keep, ite_self, implies_true, keep_mk, State.irq_keep, State.setB_keep, State.setGacc_keep]
theorem State.cntReset_keep (s : State) : (State.cntReset s).keep = s.keep := by
  simp -implicitDefEqProofs only [State.cntReset, ite_keep, ite1_keep, ite2_keep, foldl_keep, foldl1_keep, foldl2_keep, ite_self, implies_true, keep_mk, State.zero_keep]
theorem State.emitPort_keep (s : State) (p : Nat) (o : Out) : (State.emitPort s p o).keep = s.keep := by
  simp -implicitDefEqProofs only [State.emitPort, ite_keep, ite1_keep, ite2_keep, foldl_keep, foldl1_keep, foldl2_keep, ite_self, implies_true, keep_mk, State.emit_keep]
theorem State.linkChg_keep (s : State) (p : Nat) : (State.linkChg s p).keep = s.keep := by
  simp -implicitDefEqProofs only [State.linkChg, ite_keep, ite1_keep, ite2_keep, foldl_keep, foldl1_keep, foldl2_keep, ite_self, implies_true, keep_mk, State.irq_keep]
theorem State.sends_keep (s : State) (p : Nat) (l : TxLine) : (State.sends s p l).keep = s.keep := by
  simp -implicitDefEqProofs only [State.sends, ite_keep, ite1_keep, ite2_keep, foldl_keep, foldl1_keep, foldl2_keep, ite_self, implies_true, keep_mk, State.emitPort_keep, State.setPort_keep]
theorem State.flapEnds_keep (s : State) (p : Nat) : (State.flapEnds s p).keep = s.keep := by
  simp -implicitDefEqProofs only [State.flapEnds, ite_keep, ite1_keep, ite2_keep, foldl_keep, foldl1_keep, foldl2_keep, ite_self, implies_true, keep_mk, State.emit_keep, State.sends_keep, State.setPort_keep]
theorem State.startLink_keep (s : State) (p : Nat) : (State.startLink s p).keep = s.keep := by
  simp -implicitDefEqProofs only [State.startLink, ite_keep, ite1_keep, ite2_keep, foldl_keep, foldl1_keep, foldl2_keep, ite_self, implies_true, keep_mk, State.sends_keep, State.setPort_keep]
theorem State.leaveDown_keep (s : State) (p : Nat) : (State.leaveDown s p).keep = s.keep := by
  simp -implicitDefEqProofs only [State.leaveDown, ite_keep, ite1_keep, ite2_keep, foldl_keep, foldl1_keep, foldl2_keep, ite_self, implies_true, keep_mk, State.sends_keep, State.setPort_keep]
theorem State.pcount_keep (s : State) (key : Nat → Nat → Nat) (p : Nat) : (State.pcount s key p).keep = s.keep := by
  simp -implicitDefEqProofs only [State.pcount, ite_keep, ite1_keep, ite2_keep, foldl_keep, foldl1_keep, foldl2_keep, ite_self, implies_true, keep_mk, State.bump_keep]
theorem State.pause_keep (s : State) (p c q : Nat) : (State.pause s p c q).keep = s.keep := by
  simp -implicitDefEqProofs only [State.pause, ite_keep, ite1_keep, ite2_keep, foldl_keep, foldl1_keep, foldl2_keep, ite_self, implies_true, keep_mk, State.setPort_keep]
theorem State.pfcApply_keep (s : State) (p : Nat) (f : List Byte) : (State.pfcApply s p f).keep = s.keep := by
  simp -implicitDefEqProofs only [State.pfcApply, ite_keep, ite1_keep, ite2_keep, foldl_keep, foldl1_keep, foldl2_keep, ite_self, implies_true, keep_mk, State.pause_keep]
theorem State.pauseApply_keep (s : State) (p : Nat) (f : List Byte) : (State.pauseApply s p f).keep = s.keep := by
  simp -implicitDefEqProofs only [State.pauseApply, ite_keep, ite1_keep, ite2_keep, foldl_keep, foldl1_keep, foldl2_keep, ite_self, implies_true, keep_mk, State.pause_keep]
theorem State.tsfPush_keep (s : State) (g : Nat) (e : TsfEntry) : (State.tsfPush s g e).keep = s.keep := by
  simp -implicitDefEqProofs only [State.tsfPush, ite_keep, ite1_keep, ite2_keep, foldl_keep, foldl1_keep, foldl2_keep, ite_self, implies_true, keep_mk, State.addF_keep, State.irq_keep, State.setPg_keep]
theorem State.tsfLatch_keep (s : State) (g : Nat) : (State.tsfLatch s g).keep = s.keep := by
  simp -implicitDefEqProofs only [State.tsfLatch, ite_keep, ite1_keep, ite2_keep, foldl_keep, foldl1_keep, foldl2_keep, ite_self, implies_true, keep_mk, State.setPg_keep]
theorem State.tsfPop_keep (s : State) (g : Nat) : (State.tsfPop s g).keep = s.keep := by
  simp -implicitDefEqProofs only [State.tsfPop, ite_keep, ite1_keep, ite2_keep, foldl_keep, foldl1_keep, foldl2_keep, ite_self, implies_true, keep_mk, State.setPg_keep]
theorem State.mogArm_keep (s : State) (who g : Nat) (w : Word) : (State.mogArm s who g w).keep = s.keep := by
  simp -implicitDefEqProofs only [State.mogArm, ite_keep, ite1_keep, ite2_keep, foldl_keep, foldl1_keep, foldl2_keep, ite_self, implies_true, keep_mk, State.badAcc_keep, State.setF_keep, State.setPg_keep, State.zero_keep]
theorem State.mogParam_keep (s : State) (g r : Nat) : (State.mogParam s g r).keep = s.keep := by
  unfold State.mogParam; (repeat' split) <;> simp -implicitDefEqProofs only [ite_keep, ite1_keep, ite2_keep, foldl_keep, foldl1_keep, foldl2_keep, ite_self, implies_true, keep_mk, State.setF_keep]
theorem State.mogAdvance_keep (s : State) (g r : Nat) : (State.mogAdvance s g r).1.keep = s.keep := by
  unfold State.mogAdvance
  repeat' (first | (simp -implicitDefEqProofs only [ite_keep, ite1_keep, ite2_keep, foldl_keep, foldl1_keep, foldl2_keep, ite_self, implies_true, keep_mk, State.setPg_keep, *]; done) | split | (refine (foldl_keep _ _ _ (fun t a => ?_)).trans ?_) | (refine (foldl1_keep _ _ _ (fun t a => ?_)).trans ?_) | (refine (foldl2_keep _ _ _ (fun t a => ?_)).trans ?_) | (simp -implicitDefEqProofs only [ite_keep, ite1_keep, ite2_keep, foldl_keep, foldl1_keep, foldl2_keep, ite_self, implies_true, keep_mk, State.setPg_keep, *]))
theorem State.mogSelect_keep (s : State) (g r : Nat) : (State.mogSelect s g r).1.keep = s.keep := by
  simp -implicitDefEqProofs only [State.mogSelect, ite_keep, ite1_keep, ite2_keep, foldl_keep, foldl1_keep, foldl2_keep, ite_self, implies_true, keep_mk, State.mogAdvance_keep, State.setB_keep]
theorem State.mogDecide_keep (s : State) (g slot : Nat) (tx : Bool) (cls len : Nat) (f : List Byte) : (State.mogDecide s g slot tx cls len f).1.keep = s.keep := by
  unfold State.mogDecide
  repeat' (first | (simp -implicitDefEqProofs only [ite_keep, ite1_keep, ite2_keep, foldl_keep, foldl1_keep, foldl2_keep, ite_self, implies_true, keep_mk, State.bump_keep, State.mogSelect_keep, *]; done) | split | (refine (foldl_keep _ _ _ (fun t a => ?_)).trans ?_) | (refine (foldl1_keep _ _ _ (fun t a => ?_)).trans ?_) | (refine (foldl2_keep _ _ _ (fun t a => ?_)).trans ?_) | (simp -implicitDefEqProofs only [ite_keep, ite1_keep, ite2_keep, foldl_keep, foldl1_keep, foldl2_keep, ite_self, implies_true, keep_mk, State.bump_keep, State.mogSelect_keep, *]))
theorem State.mogPassed_keep (s : State) (g slot : Nat) (dir : Dir) : (State.mogPassed s g slot dir).keep = s.keep := by
  simp -implicitDefEqProofs only [State.mogPassed, ite_keep, ite1_keep, ite2_keep, foldl_keep, foldl1_keep, foldl2_keep, ite_self, implies_true, keep_mk, State.setPg_keep]
theorem State.mogTake_keep (s : State) (g : Nat) (h : MogHeld) : (State.mogTake s g h).keep = s.keep := by
  simp -implicitDefEqProofs only [State.mogTake, ite_keep, ite1_keep, ite2_keep, foldl_keep, foldl1_keep, foldl2_keep, ite_self, implies_true, keep_mk, State.setPg_keep]
theorem State.mogHold_keep (s : State) (g slot : Nat) (dir : Dir) (wire : List Byte) (h : MogHeld) (ns : Nat) (left : Option Nat) : (State.mogHold s g slot dir wire h ns left).1.keep = s.keep := by
  simp -implicitDefEqProofs only [State.mogHold, ite_keep, ite1_keep, ite2_keep, foldl_keep, foldl1_keep, foldl2_keep, ite_self, implies_true, keep_mk, State.addF_keep, State.mogPassed_keep, State.setPg_keep]
theorem State.mogFlap_keep (s : State) (g slot : Nat) (dir : Dir) (fin : Nat) : (State.mogFlap s g slot dir fin).keep = s.keep := by
  unfold State.mogFlap; (repeat' split) <;> simp -implicitDefEqProofs only [ite_keep, ite1_keep, ite2_keep, foldl_keep, foldl1_keep, foldl2_keep, ite_self, implies_true, keep_mk, State.emit_keep, State.irq_keep, State.sends_keep, State.setPort_keep]
theorem State.mogAct_keep (s : State) (g slot : Nat) (dir : Dir) (cls : Nat) (wire : List Byte) (h : MogHeld) : (State.mogAct s g slot dir cls wire h).1.keep = s.keep := by
  unfold State.mogAct
  repeat' (first | (simp -implicitDefEqProofs only [ite_keep, ite1_keep, ite2_keep, foldl_keep, foldl1_keep, foldl2_keep, ite_self, implies_true, keep_mk, State.mogDecide_keep, State.mogFlap_keep, State.mogHold_keep, State.mogPassed_keep, *]; done) | split | (refine (foldl_keep _ _ _ (fun t a => ?_)).trans ?_) | (refine (foldl1_keep _ _ _ (fun t a => ?_)).trans ?_) | (refine (foldl2_keep _ _ _ (fun t a => ?_)).trans ?_) | (simp -implicitDefEqProofs only [ite_keep, ite1_keep, ite2_keep, foldl_keep, foldl1_keep, foldl2_keep, ite_self, implies_true, keep_mk, State.mogDecide_keep, State.mogFlap_keep, State.mogHold_keep, State.mogPassed_keep, *]))
theorem State.pgClear_keep (s : State) (g : Nat) (w : Word) : (State.pgClear s g w).keep = s.keep := by
  simp -implicitDefEqProofs only [State.pgClear, ite_keep, ite1_keep, ite2_keep, foldl_keep, foldl1_keep, foldl2_keep, ite_self, implies_true, keep_mk, State.zero_keep]
theorem State.txRelease_keep (s : State) (f : TxFrame) : (State.txRelease s f).keep = s.keep := by
  simp -implicitDefEqProofs only [State.txRelease, ite_keep, ite1_keep, ite2_keep, foldl_keep, foldl1_keep, foldl2_keep, ite_self, implies_true, keep_mk, State.release_keep]
theorem State.txFinish_keep (s : State) (p : Nat) : (State.txFinish s p).keep = s.keep := by
  unfold State.txFinish; (repeat' split) <;> simp -implicitDefEqProofs only [ite_keep, ite1_keep, ite2_keep, foldl_keep, foldl1_keep, foldl2_keep, ite_self, implies_true, keep_mk, State.emitPort_keep, State.setPort_keep, State.txRelease_keep, State.until_keep]
theorem State.txCut_keep (s : State) (p : Nat) : (State.txCut s p).keep = s.keep := by
  unfold State.txCut; (repeat' split) <;> simp -implicitDefEqProofs only [ite_keep, ite1_keep, ite2_keep, foldl_keep, foldl1_keep, foldl2_keep, ite_self, implies_true, keep_mk, State.emitPort_keep, State.setPort_keep, State.txFinish_keep, State.until_keep]
theorem State.txResume_keep (s : State) (p : Nat) : (State.txResume s p).keep = s.keep := by
  unfold State.txResume; (repeat' split) <;> simp -implicitDefEqProofs only [ite_keep, ite1_keep, ite2_keep, foldl_keep, foldl1_keep, foldl2_keep, ite_self, implies_true, keep_mk, State.setPort_keep]
theorem State.putLevels_keep (s : State) (e : Nat) (l : Int × Int) : (State.putLevels s e l).keep = s.keep := by
  simp -implicitDefEqProofs only [State.putLevels, ite_keep, ite1_keep, ite2_keep, foldl_keep, foldl1_keep, foldl2_keep, ite_self, implies_true, keep_mk]
theorem State.settle_keep (s : State) (e : Nat) : (State.settle s e).keep = s.keep := by
  simp -implicitDefEqProofs only [State.settle, ite_keep, ite1_keep, ite2_keep, foldl_keep, foldl1_keep, foldl2_keep, ite_self, implies_true, keep_mk, State.putLevels_keep]
theorem State.settleAll_keep (s : State) : (State.settleAll s).keep = s.keep := by
  simp -implicitDefEqProofs only [State.settleAll, ite_keep, ite1_keep, ite2_keep, foldl_keep, foldl1_keep, foldl2_keep, ite_self, implies_true, keep_mk, State.settle_keep]
theorem State.anchorAll_keep (s : State) : (State.anchorAll s).keep = s.keep := by
  simp -implicitDefEqProofs only [State.anchorAll, ite_keep, ite1_keep, ite2_keep, foldl_keep, foldl1_keep, foldl2_keep, ite_self, implies_true, keep_mk]
theorem State.resetLevels_keep (s : State) (e : Nat) : (State.resetLevels s e).keep = s.keep := by
  simp -implicitDefEqProofs only [State.resetLevels, ite_keep, ite1_keep, ite2_keep, foldl_keep, foldl1_keep, foldl2_keep, ite_self, implies_true, keep_mk, State.putLevels_keep]
theorem State.resetAllLevels_keep (s : State) : (State.resetAllLevels s).keep = s.keep := by
  simp -implicitDefEqProofs only [State.resetAllLevels, ite_keep, ite1_keep, ite2_keep, foldl_keep, foldl1_keep, foldl2_keep, ite_self, implies_true, keep_mk, State.resetLevels_keep]
theorem State.commitPar_keep (s : State) (e : Nat) (p : Par) (load : Bool) : (State.commitPar s e p load).keep = s.keep := by
  simp -implicitDefEqProofs only [State.commitPar, ite_keep, ite1_keep, ite2_keep, foldl_keep, foldl1_keep, foldl2_keep, ite_self, implies_true, keep_mk, State.putLevels_keep, State.resetLevels_keep]
theorem State.shctl_keep (s : State) (n : Nat) (w : Word) : (State.shctl s n w).keep = s.keep := by
  simp -implicitDefEqProofs only [State.shctl, ite_keep, ite1_keep, ite2_keep, foldl_keep, foldl1_keep, foldl2_keep, ite_self, implies_true, keep_mk, State.commitPar_keep, State.wr_keep]
theorem State.pshctl_keep (s : State) (p : Nat) (w : Word) : (State.pshctl s p w).keep = s.keep := by
  simp -implicitDefEqProofs only [State.pshctl, ite_keep, ite1_keep, ite2_keep, foldl_keep, foldl1_keep, foldl2_keep, ite_self, implies_true, keep_mk, State.commitPar_keep, State.wr_keep]
theorem State.capctl_keep (s : State) (c : Nat) (w : Word) : (State.capctl s c w).keep = s.keep := by
  simp -implicitDefEqProofs only [State.capctl, ite_keep, ite1_keep, ite2_keep, foldl_keep, foldl1_keep, foldl2_keep, ite_self, implies_true, keep_mk, State.commitPar_keep, State.wr_keep]
theorem State.polctl_keep (s : State) (ix : Nat) (w : Word) : (State.polctl s ix w).keep = s.keep := by
  simp -implicitDefEqProofs only [State.polctl, ite_keep, ite1_keep, ite2_keep, foldl_keep, foldl1_keep, foldl2_keep, ite_self, implies_true, keep_mk, State.commitPar_keep, State.wr_keep]
theorem State.commitWr_keep (s : State) (key bitNo : Nat) (w : Word) (g : State → Word → State) (hg : ∀ t0 t1, (g t0 t1).keep = t0.keep) : (State.commitWr s key bitNo w g).keep = s.keep := by
  unfold State.commitWr
  repeat' (first | (simp -implicitDefEqProofs only [ite_keep, ite1_keep, ite2_keep, foldl_keep, foldl1_keep, foldl2_keep, ite_self, implies_true, keep_mk, State.badAcc_keep, State.hostWr_keep, *]; done) | split | (refine (foldl_keep _ _ _ (fun t a => ?_)).trans ?_) | (refine (foldl1_keep _ _ _ (fun t a => ?_)).trans ?_) | (refine (foldl2_keep _ _ _ (fun t a => ?_)).trans ?_) | (simp -implicitDefEqProofs only [ite_keep, ite1_keep, ite2_keep, foldl_keep, foldl1_keep, foldl2_keep, ite_self, implies_true, keep_mk, State.badAcc_keep, State.hostWr_keep, *]))
theorem State.shaperCommit_keep (s : State) (o : Nat) (w : Word) : (State.shaperCommit s o w).keep = s.keep := by
  simp -implicitDefEqProofs only [State.shaperCommit, ite_keep, ite1_keep, ite2_keep, foldl_keep, foldl1_keep, foldl2_keep, ite_self, implies_true, keep_mk, State.capctl_keep, State.commitWr_keep, State.pshctl_keep, State.shctl_keep]
theorem State.meter_keep (s : State) (h ix : Nat) (blind : Bool) (len pre : Nat) : (State.meter s h ix blind len pre).1.keep = s.keep := by
  simp -implicitDefEqProofs only [State.meter, ite_keep, ite1_keep, ite2_keep, foldl_keep, foldl1_keep, foldl2_keep, ite_self, implies_true, keep_mk, State.putLevels_keep]
theorem State.setGate_keep (s : State) (p : Nat) (g : Gate) : (State.setGate s p g).keep = s.keep := by
  simp -implicitDefEqProofs only [State.setGate, ite_keep, ite1_keep, ite2_keep, foldl_keep, foldl1_keep, foldl2_keep, ite_self, implies_true, keep_mk]
theorem State.gateGo_keep (s : State) (p : Nat) : (State.gateGo s p).keep = s.keep := by
  simp -implicitDefEqProofs only [State.gateGo, ite_keep, ite1_keep, ite2_keep, foldl_keep, foldl1_keep, foldl2_keep, ite_self, implies_true, keep_mk, State.badAcc_keep, State.bump_keep, State.irq_keep, State.setB_keep, State.setGate_keep, State.wr_keep]
theorem State.gateCtl_keep (s : State) (p : Nat) (w : Word) : (State.gateCtl s p w).keep = s.keep := by
  simp -implicitDefEqProofs only [State.gateCtl, ite_keep, ite1_keep, ite2_keep, foldl_keep, foldl1_keep, foldl2_keep, ite_self, implies_true, keep_mk, State.gateGo_keep, State.setF_keep, State.setGate_keep]
theorem State.holdMoved_keep (s t : State) (p : Nat) (h : t.keep = s.keep) : (State.holdMoved s t p).keep = s.keep := by
  unfold State.holdMoved
  repeat' (first | (simp -implicitDefEqProofs only [ite_keep, ite1_keep, ite2_keep, foldl_keep, foldl1_keep, foldl2_keep, ite_self, implies_true, keep_mk, State.txCut_keep, *]; done) | split | (refine (foldl_keep _ _ _ (fun t a => ?_)).trans ?_) | (refine (foldl1_keep _ _ _ (fun t a => ?_)).trans ?_) | (refine (foldl2_keep _ _ _ (fun t a => ?_)).trans ?_) | (simp -implicitDefEqProofs only [ite_keep, ite1_keep, ite2_keep, foldl_keep, foldl1_keep, foldl2_keep, ite_self, implies_true, keep_mk, State.txCut_keep, *]))
theorem State.gateBegin_keep (s : State) (p : Nat) : (State.gateBegin s p).keep = s.keep := by
  unfold State.gateBegin; (repeat' split) <;> simp -implicitDefEqProofs only [ite_keep, ite1_keep, ite2_keep, foldl_keep, foldl1_keep, foldl2_keep, ite_self, implies_true, keep_mk, State.irq_keep, State.setGate_keep, State.untilInstant_keep, State.wr_keep]
theorem State.gateStart_keep (s : State) (p : Nat) : (State.gateStart s p).keep = s.keep := by
  simp -implicitDefEqProofs only [State.gateStart, ite_keep, ite1_keep, ite2_keep, foldl_keep, foldl1_keep, foldl2_keep, ite_self, implies_true, keep_mk, State.gateBegin_keep, State.holdMoved_keep]
theorem State.gateMove_keep (s : State) (p : Nat) : (State.gateMove s p).keep = s.keep := by
  unfold State.gateMove
  repeat' (first | (simp -implicitDefEqProofs only [ite_keep, ite1_keep, ite2_keep, foldl_keep, foldl1_keep, foldl2_keep, ite_self, implies_true, keep_mk, State.setGate_keep, State.untilInstant_keep, *]; done) | split | (refine (foldl_keep _ _ _ (fun t a => ?_)).trans ?_) | (refine (foldl1_keep _ _ _ (fun t a => ?_)).trans ?_) | (refine (foldl2_keep _ _ _ (fun t a => ?_)).trans ?_) | (simp -implicitDefEqProofs only [ite_keep, ite1_keep, ite2_keep, foldl_keep, foldl1_keep, foldl2_keep, ite_self, implies_true, keep_mk, State.setGate_keep, State.untilInstant_keep, *]))
theorem State.gateChange_keep (s : State) (p : Nat) : (State.gateChange s p).keep = s.keep := by
  unfold State.gateChange
  exact State.holdMoved_keep _ _ _ (State.gateMove_keep s p)
theorem State.gateUnc_keep (s : State) (p : Nat) : (State.gateUnc s p).keep = s.keep := by
  simp -implicitDefEqProofs only [State.gateUnc, ite_keep, ite1_keep, ite2_keep, foldl_keep, foldl1_keep, foldl2_keep, ite_self, implies_true, keep_mk, State.setF_keep, State.setGate_keep]
theorem State.xokPoll_keep (s : State) (p : Nat) : (State.xokPoll s p).keep = s.keep := by
  simp -implicitDefEqProofs only [State.xokPoll, ite_keep, ite1_keep, ite2_keep, foldl_keep, foldl1_keep, foldl2_keep, ite_self, implies_true, keep_mk, State.bump_keep, State.irq_keep, State.setF_keep]
theorem State.xokAll_keep (s : State) : (State.xokAll s).keep = s.keep := by
  simp -implicitDefEqProofs only [State.xokAll, ite_keep, ite1_keep, ite2_keep, foldl_keep, foldl1_keep, foldl2_keep, ite_self, implies_true, keep_mk, State.xokPoll_keep]
theorem State.raise_keep (s : State) (g exc code : Nat) : (State.raise s g exc code).1.keep = s.keep := by
  simp -implicitDefEqProofs only [State.raise, ite_keep, ite1_keep, ite2_keep, foldl_keep, foldl1_keep, foldl2_keep, ite_self, implies_true, keep_mk, State.bump_keep, State.event_keep, State.irq_keep]
theorem State.learnLookup_keep (s : State) (h part : Nat) (p : Pkt) (ws : List Nat) (l : Look) : (State.learnLookup s h part p ws l).keep = s.keep := by
  simp -implicitDefEqProofs only [State.learnLookup, ite_keep, ite1_keep, ite2_keep, foldl_keep, foldl1_keep, foldl2_keep, ite_self, implies_true, keep_mk, State.learnEvent_keep]
theorem State.stageLook_keep (s : State) (g i : Nat) (cfg : Word) (tag : Nat) (ws : List Nat) : (State.stageLook s g i cfg tag ws).1.keep = s.keep := by
  simp -implicitDefEqProofs only [State.stageLook, ite_keep, ite1_keep, ite2_keep, foldl_keep, foldl1_keep, foldl2_keep, ite_self, implies_true, keep_mk, State.lookEffect_keep]
theorem State.ingressStage_keep (g : Nat) (p : Pkt) (r : PRes) (acc : State × StageSt) (i : Nat) : (State.ingressStage g p r acc i).1.keep = acc.1.keep := by
  unfold State.ingressStage
  repeat' (first | (simp -implicitDefEqProofs only [ite_keep, ite1_keep, ite2_keep, foldl_keep, foldl1_keep, foldl2_keep, ite_self, implies_true, keep_mk, State.bump_keep, State.event_keep, State.irq_keep, State.learnLookup_keep, State.raise_keep, State.stageLook_keep, *]; done) | split | (simp -implicitDefEqProofs only [ite_keep, ite1_keep, ite2_keep, foldl_keep, foldl1_keep, foldl2_keep, ite_self, implies_true, keep_mk, State.bump_keep, State.event_keep, State.irq_keep, State.learnLookup_keep, State.raise_keep, State.stageLook_keep, *]))
theorem State.handOn_keep (s : State) (g : Nat) (o : IngOut) : (State.handOn s g o).keep = s.keep := by
  simp -implicitDefEqProofs only [State.handOn, ite_keep, ite1_keep, ite2_keep, foldl_keep, foldl1_keep, foldl2_keep, ite_self, implies_true, keep_mk, State.setIp_keep]
theorem State.toHost_keep (s : State) (g : Nat) (copy : Bool) (p : Pkt) : (State.toHost s g copy p).keep = s.keep := by
  simp -implicitDefEqProofs only [State.toHost, ite_keep, ite1_keep, ite2_keep, foldl_keep, foldl1_keep, foldl2_keep, ite_self, implies_true, keep_mk, State.bump_keep, State.handOn_keep, State.meter_keep, State.release_keep]
theorem State.actionStep_keep (s : State) (g : Nat) (r : PRes) (t : StageSt) (p : Pkt) : (State.actionStep s g r t p).keep = s.keep := by
  unfold State.actionStep; (repeat' split) <;> simp -implicitDefEqProofs only [ite_keep, ite1_keep, ite2_keep, foldl_keep, foldl1_keep, foldl2_keep, ite_self, implies_true, keep_mk, State.bump_keep, State.handOn_keep, State.meter_keep, State.release_keep]
theorem State.ingress_keep (s : State) (g : Nat) (p : Pkt) : (State.ingress s g p).keep = s.keep := by
  unfold State.ingress
  repeat' (first | (simp -implicitDefEqProofs only [ite_keep, ite1_keep, ite2_keep, foldl_keep, foldl1_keep, foldl2_keep, ite_self, implies_true, keep_mk, State.actionStep_keep, State.event_keep, State.hold_keep, State.ingressStage_keep, State.raise_keep, State.release_keep, State.toHost_keep, *]; done) | split | (refine (foldl_keep _ _ _ (fun t a => ?_)).trans ?_) | (refine (foldl1_keep _ _ _ (fun t a => ?_)).trans ?_) | (refine (foldl2_keep _ _ _ (fun t a => ?_)).trans ?_) | (simp -implicitDefEqProofs only [ite_keep, ite1_keep, ite2_keep, foldl_keep, foldl1_keep, foldl2_keep, ite_self, implies_true, keep_mk, State.actionStep_keep, State.event_keep, State.hold_keep, State.ingressStage_keep, State.raise_keep, State.release_keep, State.toHost_keep, *]))
theorem State.ingressNext_keep {s : State} {g : Nat} {x : Pkt × State} (h : s.ingressNext g = some x) : x.2.keep = s.keep := by
  unfold State.ingressNext at h
  simp only at h
  split at h
  · cases h; simp -implicitDefEqProofs only [ite_keep, ite1_keep, ite2_keep, foldl_keep, foldl1_keep, foldl2_keep, ite_self, implies_true, keep_mk, State.setEp_keep, State.setIp_keep, State.setPg_keep]
  · cases h; simp -implicitDefEqProofs only [ite_keep, ite1_keep, ite2_keep, foldl_keep, foldl1_keep, foldl2_keep, ite_self, implies_true, keep_mk, State.setEp_keep, State.setIp_keep, State.setPg_keep]
  · cases h; simp -implicitDefEqProofs only [ite_keep, ite1_keep, ite2_keep, foldl_keep, foldl1_keep, foldl2_keep, ite_self, implies_true, keep_mk, State.setEp_keep, State.setIp_keep, State.setPg_keep]
  · cases h
theorem State.slotStart_keep (s : State) (g : Nat) : (State.slotStart s g).keep = s.keep := by
  simp -implicitDefEqProofs only [State.slotStart, ite_keep, ite1_keep, ite2_keep, foldl_keep, foldl1_keep, foldl2_keep, ite_self, implies_true, keep_mk]
theorem State.ipReset_keep (s : State) (g : Nat) : (State.ipReset s g).keep = s.keep := by
  simp -implicitDefEqProofs only [State.ipReset, ite_keep, ite1_keep, ite2_keep, foldl_keep, foldl1_keep, foldl2_keep, ite_self, implies_true, keep_mk, State.addF_keep, State.releaseAll_keep, State.setIp_keep]
theorem State.putCh_keep (s : State) (n : Nat) (c : ChanSt) : (State.putCh s n c).keep = s.keep := by
  simp -implicitDefEqProofs only [State.putCh, ite_keep, ite1_keep, ite2_keep, foldl_keep, foldl1_keep, foldl2_keep, ite_self, implies_true, keep_mk]
theorem State.trainPoll_keep (s : State) : (State.trainPoll s).keep = s.keep := by
  simp -implicitDefEqProofs only [State.trainPoll, ite_keep, ite1_keep, ite2_keep, foldl_keep, foldl1_keep, foldl2_keep, ite_self, implies_true, keep_mk, State.irq_keep, State.setF_keep]
theorem State.chGo_keep (s : State) (n st : Nat) : (State.chGo s n st).keep = s.keep := by
  simp -implicitDefEqProofs only [State.chGo, ite_keep, ite1_keep, ite2_keep, foldl_keep, foldl1_keep, foldl2_keep, ite_self, implies_true, keep_mk, State.setF_keep, State.trainPoll_keep]
theorem State.closeBank_keep (s : State) (n bank : Nat) : (State.closeBank s n bank).keep = s.keep := by
  unfold State.closeBank
  repeat' (first | (simp -implicitDefEqProofs only [ite_keep, ite1_keep, ite2_keep, foldl_keep, foldl1_keep, foldl2_keep, ite_self, implies_true, keep_mk, State.bump_keep, State.putCh_keep, *]; done) | split | (refine (foldl_keep _ _ _ (fun t a => ?_)).trans ?_) | (refine (foldl1_keep _ _ _ (fun t a => ?_)).trans ?_) | (refine (foldl2_keep _ _ _ (fun t a => ?_)).trans ?_) | (simp -implicitDefEqProofs only [ite_keep, ite1_keep, ite2_keep, foldl_keep, foldl1_keep, foldl2_keep, ite_self, implies_true, keep_mk, State.bump_keep, State.putCh_keep, *]))
theorem State.closeAll_keep (s : State) (n : Nat) : (State.closeAll s n).keep = s.keep := by
  simp -implicitDefEqProofs only [State.closeAll, ite_keep, ite1_keep, ite2_keep, foldl_keep, foldl1_keep, foldl2_keep, ite_self, implies_true, keep_mk, State.closeBank_keep]
theorem State.touch_keep (s : State) (n bank row : Nat) : (State.touch s n bank row).keep = s.keep := by
  simp -implicitDefEqProofs only [State.touch, ite_keep, ite1_keep, ite2_keep, foldl_keep, foldl1_keep, foldl2_keep, ite_self, implies_true, keep_mk, State.bump_keep, State.closeBank_keep, State.putCh_keep]
theorem State.drcPut_keep (s : State) (r : DReq) : (State.drcPut s r).keep = s.keep := by
  simp -implicitDefEqProofs only [State.drcPut, ite_keep, ite1_keep, ite2_keep, foldl_keep, foldl1_keep, foldl2_keep, ite_self, implies_true, keep_mk]
theorem State.drcSet_keep (s : State) (r : DReq) : (State.drcSet s r).keep = s.keep := by
  simp -implicitDefEqProofs only [State.drcSet, ite_keep, ite1_keep, ite2_keep, foldl_keep, foldl1_keep, foldl2_keep, ite_self, implies_true, keep_mk]
theorem State.hostSweep_keep (s : State) : (State.hostSweep s).keep = s.keep := by
  simp -implicitDefEqProofs only [State.hostSweep, ite_keep, ite1_keep, ite2_keep, foldl_keep, foldl1_keep, foldl2_keep, ite_self, implies_true, keep_mk]
theorem State.ringReq_keep (s : State) (write : Bool) (block copy : Nat) : (State.ringReq s write block copy).keep = s.keep := by
  simp -implicitDefEqProofs only [State.ringReq, ite_keep, ite1_keep, ite2_keep, foldl_keep, foldl1_keep, foldl2_keep, ite_self, implies_true, keep_mk, State.drcPut_keep]
theorem State.buildFill_keep (s : State) (fuel : Nat) : (State.buildFill s fuel).keep = s.keep := by
  induction fuel generalizing s with
  | zero => simp -implicitDefEqProofs only [State.buildFill]
  | succ k ih =>
    unfold State.buildFill
    repeat' (first | (simp -implicitDefEqProofs only [ite_keep, ite1_keep, ite2_keep, foldl_keep, foldl1_keep, foldl2_keep, ite_self, implies_true, keep_mk, State.ringReq_keep, ih, *]; done) | split | (simp -implicitDefEqProofs only [ite_keep, ite1_keep, ite2_keep, foldl_keep, foldl1_keep, foldl2_keep, ite_self, implies_true, keep_mk, State.ringReq_keep, ih, *]))
theorem State.ringSweep_keep (s : State) : (State.ringSweep s).keep = s.keep := by
  simp only [State.ringSweep]
  split
  · rfl
  · exact (State.buildFill_keep _ _).trans rfl
theorem State.drcSweep_keep (s : State) : (State.drcSweep s).keep = s.keep := by
  simp -implicitDefEqProofs only [State.drcSweep, ite_keep, ite1_keep, ite2_keep, foldl_keep, foldl1_keep, foldl2_keep, ite_self, implies_true, keep_mk, State.hostSweep_keep, State.ringSweep_keep]
theorem State.slotPoll_keep (s : State) (n : Nat) : (State.slotPoll s n).keep = s.keep := by
  unfold State.slotPoll; (repeat' split) <;> simp -implicitDefEqProofs only [ite_keep, ite1_keep, ite2_keep, foldl_keep, foldl1_keep, foldl2_keep, ite_self, implies_true, keep_mk, State.putCh_keep]
theorem State.drcHand_keep (s : State) (r : DReq) (tag : Bool) : (State.drcHand s r tag).keep = s.keep := by
  simp -implicitDefEqProofs only [State.drcHand, ite_keep, ite1_keep, ite2_keep, foldl_keep, foldl1_keep, foldl2_keep, ite_self, implies_true, keep_mk, State.drcSet_keep, State.slotPoll_keep]
theorem State.drcFin_keep (s : State) (r : DReq) (ok : Bool) : (State.drcFin s r ok).keep = s.keep := by
  simp -implicitDefEqProofs only [State.drcFin, ite_keep, ite1_keep, ite2_keep, foldl_keep, foldl1_keep, foldl2_keep, ite_self, implies_true, keep_mk, State.bump_keep, State.drcSet_keep, State.drcSweep_keep, State.event_keep, State.fault_keep, State.irq_keep, State.slotPoll_keep, State.wr_keep]
theorem State.chDrops_keep (s : State) (n : Nat) : (State.chDrops s n).keep = s.keep := by
  simp -implicitDefEqProofs only [State.chDrops, ite_keep, ite1_keep, ite2_keep, foldl_keep, foldl1_keep, foldl2_keep, ite_self, implies_true, keep_mk, State.drcFin_keep]
theorem State.pllUnlocked_keep (s : State) (k : Nat) : (State.pllUnlocked s k).keep = s.keep := by
  simp -implicitDefEqProofs only [State.pllUnlocked, ite_keep, ite1_keep, ite2_keep, foldl_keep, foldl1_keep, foldl2_keep, ite_self, implies_true, keep_mk, State.chDrops_keep]
theorem State.deskew_keep (s : State) (n : Nat) : (State.deskew s n).keep = s.keep := by
  simp -implicitDefEqProofs only [State.deskew, ite_keep, ite1_keep, ite2_keep, foldl_keep, foldl1_keep, foldl2_keep, ite_self, implies_true, keep_mk, State.drawFree_keep, State.wr_keep]
theorem State.chReady_keep (s : State) (n : Nat) : (State.chReady s n).keep = s.keep := by
  simp -implicitDefEqProofs only [State.chReady, ite_keep, ite1_keep, ite2_keep, foldl_keep, foldl1_keep, foldl2_keep, ite_self, implies_true, keep_mk, State.chGo_keep, State.putCh_keep]
theorem State.zeroChan_keep (s : State) (n : Nat) : (State.zeroChan s n).keep = s.keep := by
  simp -implicitDefEqProofs only [State.zeroChan, ite_keep, ite1_keep, ite2_keep, foldl_keep, foldl1_keep, foldl2_keep, ite_self, implies_true, keep_mk]
theorem State.retrain_keep (s : State) (n : Nat) : (State.retrain s n).keep = s.keep := by
  simp -implicitDefEqProofs only [State.retrain, ite_keep, ite1_keep, ite2_keep, foldl_keep, foldl1_keep, foldl2_keep, ite_self, implies_true, keep_mk, State.chDrops_keep, State.chGo_keep, State.closeAll_keep]
theorem State.slotUsed_keep (s : State) (n : Nat) : (State.slotUsed s n).keep = s.keep := by
  simp -implicitDefEqProofs only [State.slotUsed, ite_keep, ite1_keep, ite2_keep, foldl_keep, foldl1_keep, foldl2_keep, ite_self, implies_true, keep_mk, State.putCh_keep]
theorem State.refreshChan_keep (s : State) (n : Nat) : (State.refreshChan s n).keep = s.keep := by
  simp -implicitDefEqProofs only [State.refreshChan, ite_keep, ite1_keep, ite2_keep, foldl_keep, foldl1_keep, foldl2_keep, ite_self, implies_true, keep_mk, State.bump_keep, State.closeAll_keep, State.putCh_keep]
theorem State.refresh_keep (s : State) (k : Nat) : (State.refresh s k).keep = s.keep := by
  unfold State.refresh; (repeat' split) <;> simp -implicitDefEqProofs only [ite_keep, ite1_keep, ite2_keep, foldl_keep, foldl1_keep, foldl2_keep, ite_self, implies_true, keep_mk, State.refreshChan_keep, State.until_keep]
theorem State.takeTag_keep (s : State) (r : DReq) : (State.takeTag s r).keep = s.keep := by
  simp -implicitDefEqProofs only [State.takeTag, ite_keep, ite1_keep, ite2_keep, foldl_keep, foldl1_keep, foldl2_keep, ite_self, implies_true, keep_mk, State.drcSet_keep, State.setF_keep]
theorem State.drcCharge_keep (s : State) (r : DReq) : (State.drcCharge s r).keep = s.keep := by
  simp -implicitDefEqProofs only [State.drcCharge, ite_keep, ite1_keep, ite2_keep, foldl_keep, foldl1_keep, foldl2_keep, ite_self, implies_true, keep_mk]
theorem State.drcTouch_keep (s : State) (r : DReq) : (State.drcTouch s r).keep = s.keep := by
  simp -implicitDefEqProofs only [State.drcTouch, ite_keep, ite1_keep, ite2_keep, foldl_keep, foldl1_keep, foldl2_keep, ite_self, implies_true, keep_mk, State.closeBank_keep, State.putCh_keep, State.touch_keep]
theorem State.dramBurst_keep (s : State) (a : Nat) : (State.dramBurst s a).2.keep = s.keep := by
  unfold State.dramBurst; (repeat' split) <;> simp -implicitDefEqProofs only [ite_keep, ite1_keep, ite2_keep, foldl_keep, foldl1_keep, foldl2_keep, ite_self, implies_true, keep_mk, State.drawFree_keep]
theorem State.dramBytes_keep (s : State) (r : DReq) : (State.dramBytes s r).2.keep = s.keep := by
  simp -implicitDefEqProofs only [State.dramBytes, ite_keep, ite1_keep, ite2_keep, foldl_keep, foldl1_keep, foldl2_keep, ite_self, implies_true, keep_mk, State.dramBurst_keep]
theorem State.scrubSeen_keep (s : State) (r : DReq) : (State.scrubSeen s r).keep = s.keep := by
  unfold State.scrubSeen
  repeat' (first | (simp -implicitDefEqProofs only [ite_keep, ite1_keep, ite2_keep, foldl_keep, foldl1_keep, foldl2_keep, ite_self, implies_true, keep_mk, State.putCh_keep, *]; done) | split | (refine (foldl_keep _ _ _ (fun t a => ?_)).trans ?_) | (refine (foldl1_keep _ _ _ (fun t a => ?_)).trans ?_) | (refine (foldl2_keep _ _ _ (fun t a => ?_)).trans ?_) | (simp -implicitDefEqProofs only [ite_keep, ite1_keep, ite2_keep, foldl_keep, foldl1_keep, foldl2_keep, ite_self, implies_true, keep_mk, State.putCh_keep, *]))
theorem State.dramStore_keep (s : State) (r : DReq) : (State.dramStore s r).keep = s.keep := by
  simp -implicitDefEqProofs only [State.dramStore, ite_keep, ite1_keep, ite2_keep, foldl_keep, foldl1_keep, foldl2_keep, ite_self, implies_true, keep_mk, State.dramBurst_keep, State.scrubSeen_keep]
theorem State.drcUnc_keep (s : State) (n l addr : Nat) : (State.drcUnc s n l addr).keep = s.keep := by
  simp -implicitDefEqProofs only [State.drcUnc, ite_keep, ite1_keep, ite2_keep, foldl_keep, foldl1_keep, foldl2_keep, ite_self, implies_true, keep_mk, State.bump_keep, State.fault_keep, State.irq_keep, State.wr64_keep, State.wr_keep]
theorem State.drcCorr_keep (s : State) (n : Nat) : (State.drcCorr s n).keep = s.keep := by
  simp -implicitDefEqProofs only [State.drcCorr, ite_keep, ite1_keep, ite2_keep, foldl_keep, foldl1_keep, foldl2_keep, ite_self, implies_true, keep_mk, State.bump_keep, State.fault_keep]
theorem State.drcCheck_keep (s : State) (r : DReq) (e : Codewords) : (State.drcCheck s r e).1.keep = s.keep := by
  unfold State.drcCheck; (repeat' split) <;> simp -implicitDefEqProofs only [ite_keep, ite1_keep, ite2_keep, foldl_keep, foldl1_keep, foldl2_keep, ite_self, implies_true, keep_mk, State.drcCorr_keep, State.drcUnc_keep]
theorem State.drcTake_keep {s : State} {p : Nat} {w : Bool} {x : DReq × State} (h : s.drcTake p w = some x) : x.2.keep = s.keep := by
  unfold State.drcTake at h
  split at h
  · split at h
    · cases h; simp -implicitDefEqProofs only [ite_keep, ite1_keep, ite2_keep, foldl_keep, foldl1_keep, foldl2_keep, ite_self, implies_true, keep_mk, State.drcSweep_keep]
    · cases h
  · cases h
theorem State.scrubPick_keep (s : State) (n : Nat) : (State.scrubPick s n).1.keep = s.keep := by
  unfold State.scrubPick
  repeat' (first | (simp -implicitDefEqProofs only [ite_keep, ite1_keep, ite2_keep, foldl_keep, foldl1_keep, foldl2_keep, ite_self, implies_true, keep_mk, State.putCh_keep, State.until_keep, *]; done) | split | (refine (foldl_keep _ _ _ (fun t a => ?_)).trans ?_) | (refine (foldl1_keep _ _ _ (fun t a => ?_)).trans ?_) | (refine (foldl2_keep _ _ _ (fun t a => ?_)).trans ?_) | (simp -implicitDefEqProofs only [ite_keep, ite1_keep, ite2_keep, foldl_keep, foldl1_keep, foldl2_keep, ite_self, implies_true, keep_mk, State.putCh_keep, State.until_keep, *]))
theorem State.scrubTouch_keep (s : State) (n l : Nat) : (State.scrubTouch s n l).keep = s.keep := by
  simp -implicitDefEqProofs only [State.scrubTouch, ite_keep, ite1_keep, ite2_keep, foldl_keep, foldl1_keep, foldl2_keep, ite_self, implies_true, keep_mk, State.touch_keep]
theorem State.scrubStep_keep (s : State) (n corr : Nat) (unc : Bool) : (State.scrubStep s n corr unc).keep = s.keep := by
  unfold State.scrubStep; (repeat' split) <;> simp -implicitDefEqProofs only [ite_keep, ite1_keep, ite2_keep, foldl_keep, foldl1_keep, foldl2_keep, ite_self, implies_true, keep_mk, State.drcCorr_keep, State.drcUnc_keep, State.putCh_keep, State.scrubPick_keep, State.scrubTouch_keep]
theorem State.chHold_keep (s : State) (n : Nat) : (State.chHold s n).keep = s.keep := by
  simp -implicitDefEqProofs only [State.chHold, ite_keep, ite1_keep, ite2_keep, foldl_keep, foldl1_keep, foldl2_keep, ite_self, implies_true, keep_mk, State.chGo_keep, State.closeAll_keep, State.putCh_keep]
theorem State.fctl_keep (s : State) (w : Word) : (State.fctl s w).keep = s.keep := by
  simp -implicitDefEqProofs only [State.fctl, ite_keep, ite1_keep, ite2_keep, foldl_keep, foldl1_keep, foldl2_keep, ite_self, implies_true, keep_mk, State.badAcc_keep, State.setF_keep]
theorem State.fcStart_keep (s : State) (n : Nat) : (State.fcStart s n).keep = s.keep := by
  simp -implicitDefEqProofs only [State.fcStart, ite_keep, ite1_keep, ite2_keep, foldl_keep, foldl1_keep, foldl2_keep, ite_self, implies_true, keep_mk, State.chGo_keep, State.closeAll_keep, State.putCh_keep]
theorem State.fcEnd_keep (set : Nat) (s : State) (n : Nat) : (State.fcEnd set s n).keep = s.keep := by
  simp -implicitDefEqProofs only [State.fcEnd, ite_keep, ite1_keep, ite2_keep, foldl_keep, foldl1_keep, foldl2_keep, ite_self, implies_true, keep_mk, State.chGo_keep, State.putCh_keep, State.retrain_keep, State.setF_keep]
theorem State.afterBlackout_keep (s : State) (k : Nat) : (State.afterBlackout s k).keep = s.keep := by
  unfold State.afterBlackout
  repeat' (first | (simp -implicitDefEqProofs only [ite_keep, ite1_keep, ite2_keep, foldl_keep, foldl1_keep, foldl2_keep, ite_self, implies_true, keep_mk, State.refresh_keep, State.until_keep, *]; done) | split | (refine (foldl_keep _ _ _ (fun t a => ?_)).trans ?_) | (refine (foldl1_keep _ _ _ (fun t a => ?_)).trans ?_) | (refine (foldl2_keep _ _ _ (fun t a => ?_)).trans ?_) | (simp -implicitDefEqProofs only [ite_keep, ite1_keep, ite2_keep, foldl_keep, foldl1_keep, foldl2_keep, ite_self, implies_true, keep_mk, State.refresh_keep, State.until_keep, *]))
theorem State.freqStart_keep (s : State) (f : FreqChange) : (State.freqStart s f).keep = s.keep := by
  simp -implicitDefEqProofs only [State.freqStart, ite_keep, ite1_keep, ite2_keep, foldl_keep, foldl1_keep, foldl2_keep, ite_self, implies_true, keep_mk, State.afterBlackout_keep, State.fcStart_keep, State.until_keep]
theorem State.freqDone_keep (s : State) (f : FreqChange) (k : Nat) : (State.freqDone s f k).keep = s.keep := by
  simp -implicitDefEqProofs only [State.freqDone, ite_keep, ite1_keep, ite2_keep, foldl_keep, foldl1_keep, foldl2_keep, ite_self, implies_true, keep_mk, State.fcEnd_keep, State.irq_keep, State.until_keep]
theorem State.drcReset_keep (s : State) : (State.drcReset s).keep = s.keep := by
  simp -implicitDefEqProofs only [State.drcReset, ite_keep, ite1_keep, ite2_keep, foldl_keep, foldl1_keep, foldl2_keep, ite_self, implies_true, keep_mk, State.chHold_keep, State.drcFin_keep]
theorem State.dcReset_keep (s : State) (n : Nat) : (State.dcReset s n).keep = s.keep := by
  simp -implicitDefEqProofs only [State.dcReset, ite_keep, ite1_keep, ite2_keep, foldl_keep, foldl1_keep, foldl2_keep, ite_self, implies_true, keep_mk, State.chDrops_keep, State.chGo_keep, State.putCh_keep, State.retrain_keep, State.wr_keep]
theorem State.setBpm_keep (s : State) (b : Bpm) : (State.setBpm s b).keep = s.keep := by
  simp -implicitDefEqProofs only [State.setBpm, ite_keep, ite1_keep, ite2_keep, foldl_keep, foldl1_keep, foldl2_keep, ite_self, implies_true, keep_mk]
theorem State.lowFree_keep (s : State) (before : Nat) : (State.lowFree s before).keep = s.keep := by
  simp -implicitDefEqProofs only [State.lowFree, ite_keep, ite1_keep, ite2_keep, foldl_keep, foldl1_keep, foldl2_keep, ite_self, implies_true, keep_mk, State.irq_keep]
theorem State.setHeld_keep (s : State) (o n : Nat) : (State.setHeld s o n).keep = s.keep := by
  simp -implicitDefEqProofs only [State.setHeld, ite_keep, ite1_keep, ite2_keep, foldl_keep, foldl1_keep, foldl2_keep, ite_self, implies_true, keep_mk, State.setF_keep]
theorem State.setOwner_keep (s : State) (page o : Nat) : (State.setOwner s page o).keep = s.keep := by
  simp -implicitDefEqProofs only [State.setOwner, ite_keep, ite1_keep, ite2_keep, foldl_keep, foldl1_keep, foldl2_keep, ite_self, implies_true, keep_mk, State.setBpm_keep]
theorem State.ringLoss_keep (s : State) (before n : Nat) : (State.ringLoss s before n).keep = s.keep := by
  simp -implicitDefEqProofs only [State.ringLoss, ite_keep, ite1_keep, ite2_keep, foldl_keep, foldl1_keep, foldl2_keep, ite_self, implies_true, keep_mk, State.addF_keep, State.lowFree_keep]
theorem State.ringRead_keep (s : State) (before block : Nat) (pages : List Nat) : (State.ringRead s before block pages).keep = s.keep := by
  simp -implicitDefEqProofs only [State.ringRead, ite_keep, ite1_keep, ite2_keep, foldl_keep, foldl1_keep, foldl2_keep, ite_self, implies_true, keep_mk, State.fault_keep, State.ringLoss_keep, State.ringReq_keep, State.setBpm_keep]
theorem State.ringPop_keep (s : State) : (State.ringPop s).keep = s.keep := by
  simp -implicitDefEqProofs only [State.ringPop, ite_keep, ite1_keep, ite2_keep, foldl_keep, foldl1_keep, foldl2_keep, ite_self, implies_true, keep_mk, State.setBpm_keep]
theorem State.writeback_keep (s : State) : (State.writeback s).keep = s.keep := by
  simp -implicitDefEqProofs only [State.writeback, ite_keep, ite1_keep, ite2_keep, foldl_keep, foldl1_keep, foldl2_keep, ite_self, implies_true, keep_mk, State.ringReq_keep, State.setBpm_keep]
theorem State.askPage_keep (s : State) (o who : Nat) : (State.askPage s o who).keep = s.keep := by
  simp -implicitDefEqProofs only [State.askPage, ite_keep, ite1_keep, ite2_keep, foldl_keep, foldl1_keep, foldl2_keep, ite_self, implies_true, keep_mk, State.setBpm_keep]
theorem State.countRefusal_keep (s : State) (o : Nat) : (State.countRefusal s o).keep = s.keep := by
  simp -implicitDefEqProofs only [State.countRefusal, ite_keep, ite1_keep, ite2_keep, foldl_keep, foldl1_keep, foldl2_keep, ite_self, implies_true, keep_mk, State.bump_keep, State.irq_keep]
theorem State.grantClock_keep (s : State) : (State.grantClock s).1.keep = s.keep := by
  unfold State.grantClock
  repeat' (first | (simp -implicitDefEqProofs only [ite_keep, ite1_keep, ite2_keep, foldl_keep, foldl1_keep, foldl2_keep, ite_self, implies_true, keep_mk, State.bump_keep, State.countRefusal_keep, State.fault_keep, State.lowFree_keep, State.setBpm_keep, State.setHeld_keep, State.setOwner_keep, *]; done) | split | (refine (foldl_keep _ _ _ (fun t a => ?_)).trans ?_) | (refine (foldl1_keep _ _ _ (fun t a => ?_)).trans ?_) | (refine (foldl2_keep _ _ _ (fun t a => ?_)).trans ?_) | (simp -implicitDefEqProofs only [ite_keep, ite1_keep, ite2_keep, foldl_keep, foldl1_keep, foldl2_keep, ite_self, implies_true, keep_mk, State.bump_keep, State.countRefusal_keep, State.fault_keep, State.lowFree_keep, State.setBpm_keep, State.setHeld_keep, State.setOwner_keep, *]))
theorem State.givePage_keep (s : State) (o page : Nat) : (State.givePage s o page).keep = s.keep := by
  simp -implicitDefEqProofs only [State.givePage, ite_keep, ite1_keep, ite2_keep, foldl_keep, foldl1_keep, foldl2_keep, ite_self, implies_true, keep_mk, State.setBpm_keep]
theorem State.takeBack_keep (s : State) (o page : Nat) : (State.takeBack s o page).keep = s.keep := by
  simp -implicitDefEqProofs only [State.takeBack, ite_keep, ite1_keep, ite2_keep, foldl_keep, foldl1_keep, foldl2_keep, ite_self, implies_true, keep_mk, State.fault_keep, State.setBpm_keep, State.setHeld_keep, State.setOwner_keep]
theorem State.hostRet_keep (s : State) (addr : Nat) : (State.hostRet s addr).keep = s.keep := by
  unfold State.hostRet; (repeat' split) <;> simp -implicitDefEqProofs only [ite_keep, ite1_keep, ite2_keep, foldl_keep, foldl1_keep, foldl2_keep, ite_self, implies_true, keep_mk, State.bump_keep, State.givePage_keep, State.irq_keep, State.setF_keep]
theorem State.basinRdy_keep (s : State) : (State.basinRdy s).keep = s.keep := by
  simp -implicitDefEqProofs only [State.basinRdy, ite_keep, ite1_keep, ite2_keep, foldl_keep, foldl1_keep, foldl2_keep, ite_self, implies_true, keep_mk, State.irq_keep, State.setF_keep]
theorem State.refuseReq_keep (s : State) (r : Nat × Nat) : (State.refuseReq s r).keep = s.keep := by
  simp -implicitDefEqProofs only [State.refuseReq, ite_keep, ite1_keep, ite2_keep, foldl_keep, foldl1_keep, foldl2_keep, ite_self, implies_true, keep_mk, State.countRefusal_keep, State.emit_keep]
theorem State.reclaim_keep (s : State) (o : Nat) : (State.reclaim s o).keep = s.keep := by
  simp -implicitDefEqProofs only [State.reclaim, ite_keep, ite1_keep, ite2_keep, foldl_keep, foldl1_keep, foldl2_keep, ite_self, implies_true, keep_mk, State.basinRdy_keep, State.refuseReq_keep, State.setBpm_keep, State.setF_keep]
theorem State.reclaimWr_keep (s : State) (w : Word) : (State.reclaimWr s w).keep = s.keep := by
  simp -implicitDefEqProofs only [State.reclaimWr, ite_keep, ite1_keep, ite2_keep, foldl_keep, foldl1_keep, foldl2_keep, ite_self, implies_true, keep_mk, State.badAcc_keep, State.reclaim_keep]
theorem State.pushPage_keep (s : State) (p : Nat) : (State.pushPage s p).keep = s.keep := by
  simp -implicitDefEqProofs only [State.pushPage, ite_keep, ite1_keep, ite2_keep, foldl_keep, foldl1_keep, foldl2_keep, ite_self, implies_true, keep_mk, State.setBpm_keep, State.setOwner_keep]
theorem State.sweepPages_keep (s : State) (o : Nat) : (State.sweepPages s o).keep = s.keep := by
  simp -implicitDefEqProofs only [State.sweepPages, ite_keep, ite1_keep, ite2_keep, foldl_keep, foldl1_keep, foldl2_keep, ite_self, implies_true, keep_mk, State.pushPage_keep, State.setHeld_keep]
theorem State.reclaimed_keep (s : State) (o : Nat) : (State.reclaimed s o).keep = s.keep := by
  simp -implicitDefEqProofs only [State.reclaimed, ite_keep, ite1_keep, ite2_keep, foldl_keep, foldl1_keep, foldl2_keep, ite_self, implies_true, keep_mk, State.basinRdy_keep, State.irq_keep, State.setBpm_keep, State.setF_keep]
theorem State.ringChanLost_keep (s : State) (n : Nat) : (State.ringChanLost s n).keep = s.keep := by
  simp -implicitDefEqProofs only [State.ringChanLost, ite_keep, ite1_keep, ite2_keep, foldl_keep, foldl1_keep, foldl2_keep, ite_self, implies_true, keep_mk, State.setBpm_keep]
theorem State.bpmReset_keep (s : State) : (State.bpmReset s).keep = s.keep := by
  simp -implicitDefEqProofs only [State.bpmReset, ite_keep, ite1_keep, ite2_keep, foldl_keep, foldl1_keep, foldl2_keep, ite_self, implies_true, keep_mk, State.basinRdy_keep, State.irq_keep, State.setBpm_keep, State.setF_keep, State.zero_keep]
theorem State.setTmg_keep (s : State) (t : Tmg) : (State.setTmg s t).keep = s.keep := by
  simp -implicitDefEqProofs only [State.setTmg, ite_keep, ite1_keep, ite2_keep, foldl_keep, foldl1_keep, foldl2_keep, ite_self, implies_true, keep_mk]
theorem State.setTq_keep (s : State) (q : Nat) (v : Queue) : (State.setTq s q v).keep = s.keep := by
  simp -implicitDefEqProofs only [State.setTq, ite_keep, ite1_keep, ite2_keep, foldl_keep, foldl1_keep, foldl2_keep, ite_self, implies_true, keep_mk, State.setTmg_keep]
theorem State.tmgId_keep (s : State) : (State.tmgId s).2.keep = s.keep := by
  simp -implicitDefEqProofs only [State.tmgId, ite_keep, ite1_keep, ite2_keep, foldl_keep, foldl1_keep, foldl2_keep, ite_self, implies_true, keep_mk, State.setTmg_keep]
theorem State.weir_keep (s : State) (e c : Nat) : (State.weir s e c).keep = s.keep := by
  simp -implicitDefEqProofs only [State.weir, ite_keep, ite1_keep, ite2_keep, foldl_keep, foldl1_keep, foldl2_keep, ite_self, implies_true, keep_mk, State.setF_keep]
theorem State.putData_keep (s : State) (id : Nat) (d : Data) : (State.putData s id d).keep = s.keep := by
  simp -implicitDefEqProofs only [State.putData, ite_keep, ite1_keep, ite2_keep, foldl_keep, foldl1_keep, foldl2_keep, ite_self, implies_true, keep_mk, State.setTmg_keep]
theorem State.newData_keep (s : State) (d : Data) : (State.newData s d).2.keep = s.keep := by
  simp -implicitDefEqProofs only [State.newData, ite_keep, ite1_keep, ite2_keep, foldl_keep, foldl1_keep, foldl2_keep, ite_self, implies_true, keep_mk, State.putData_keep, State.tmgId_keep, State.weir_keep]
theorem State.freeRef_keep (s : State) (id : Nat) : (State.freeRef s id).keep = s.keep := by
  unfold State.freeRef; (repeat' split) <;> simp -implicitDefEqProofs only [ite_keep, ite1_keep, ite2_keep, foldl_keep, foldl1_keep, foldl2_keep, ite_self, implies_true, keep_mk, State.putData_keep, State.setTmg_keep, State.weir_keep]
theorem State.freeRefs_keep (s : State) (l : List QPkt) : (State.freeRefs s l).keep = s.keep := by
  simp -implicitDefEqProofs only [State.freeRefs, ite_keep, ite1_keep, ite2_keep, foldl_keep, foldl1_keep, foldl2_keep, ite_self, implies_true, keep_mk, State.freeRef_keep]
theorem State.tmgHold_keep (s : State) (v : Nat) : (State.tmgHold s v).keep = s.keep := by
  simp -implicitDefEqProofs only [State.tmgHold, ite_keep, ite1_keep, ite2_keep, foldl_keep, foldl1_keep, foldl2_keep, ite_self, implies_true, keep_mk, State.addF_keep]
theorem State.tmgUnhold_keep (s : State) (v : Nat) : (State.tmgUnhold s v).keep = s.keep := by
  simp -implicitDefEqProofs only [State.tmgUnhold, ite_keep, ite1_keep, ite2_keep, foldl_keep, foldl1_keep, foldl2_keep, ite_self, implies_true, keep_mk, State.setF_keep]
theorem State.pcAdd_keep (s : State) (who ix : Nat) : (State.pcAdd s who ix).keep = s.keep := by
  simp -implicitDefEqProofs only [State.pcAdd, ite_keep, ite1_keep, ite2_keep, foldl_keep, foldl1_keep, foldl2_keep, ite_self, implies_true, keep_mk, State.setTmg_keep]
theorem State.discardIrq_keep (s : State) (code : Nat) : (State.discardIrq s code).keep = s.keep := by
  unfold State.discardIrq; (repeat' split) <;> simp -implicitDefEqProofs only [ite_keep, ite1_keep, ite2_keep, foldl_keep, foldl1_keep, foldl2_keep, ite_self, implies_true, keep_mk, State.bump_keep, State.irq_keep]
theorem State.discard_keep (s : State) (code port : Nat) (p : Pkt) : (State.discard s code port p).keep = s.keep := by
  simp -implicitDefEqProofs only [State.discard, ite_keep, ite1_keep, ite2_keep, foldl_keep, foldl1_keep, foldl2_keep, ite_self, implies_true, keep_mk, State.discardIrq_keep, State.event_keep, State.pcAdd_keep, State.release_keep]
theorem State.discardHeld_keep (s : State) (code : Nat) (x : QPkt) : (State.discardHeld s code x).keep = s.keep := by
  simp -implicitDefEqProofs only [State.discardHeld, ite_keep, ite1_keep, ite2_keep, foldl_keep, foldl1_keep, foldl2_keep, ite_self, implies_true, keep_mk, State.discard_keep, State.tmgUnhold_keep]
theorem State.kill_keep (s : State) (q code : Nat) (ids : List Nat) : (State.kill s q code ids).keep = s.keep := by
  simp -implicitDefEqProofs only [State.kill, ite_keep, ite1_keep, ite2_keep, foldl_keep, foldl1_keep, foldl2_keep, ite_self, implies_true, keep_mk, State.discardHeld_keep, State.freeRefs_keep, State.setTq_keep]
theorem State.listPage_keep (s : State) (page : Nat) : (State.listPage s page).keep = s.keep := by
  unfold State.listPage; (repeat' split) <;> simp -implicitDefEqProofs only [ite_keep, ite1_keep, ite2_keep, foldl_keep, foldl1_keep, foldl2_keep, ite_self, implies_true, keep_mk, State.setTmg_keep]
theorem State.listRoom_keep {s : State} {q : Nat} {t : State} (h : s.listRoom q = some t) : t.keep = s.keep := by
  unfold State.listRoom at h
  simp only at h
  repeat' split at h
  all_goals cases h
  all_goals first | rfl | simp -implicitDefEqProofs only [ite_keep, ite1_keep, ite2_keep, foldl_keep, foldl1_keep, foldl2_keep, ite_self, implies_true, keep_mk, State.setTmg_keep, State.setTq_keep]
theorem State.listReq_keep (s : State) (write : Bool) (q : Nat) (b : ListBlk) (copy : Nat) : (State.listReq s write q b copy).keep = s.keep := by
  simp -implicitDefEqProofs only [State.listReq, ite_keep, ite1_keep, ite2_keep, foldl_keep, foldl1_keep, foldl2_keep, ite_self, implies_true, keep_mk, State.drcPut_keep, State.setTmg_keep, State.tmgId_keep]
theorem State.listWrite_keep (s : State) (q id : Nat) : (State.listWrite s q id).keep = s.keep := by
  unfold State.listWrite; (repeat' split) <;> simp -implicitDefEqProofs only [ite_keep, ite1_keep, ite2_keep, foldl_keep, foldl1_keep, foldl2_keep, ite_self, implies_true, keep_mk, State.listReq_keep]
theorem State.listRead_keep (s : State) (q id : Nat) : (State.listRead s q id).keep = s.keep := by
  unfold State.listRead
  repeat' (first | (simp -implicitDefEqProofs only [ite_keep, ite1_keep, ite2_keep, foldl_keep, foldl1_keep, foldl2_keep, ite_self, implies_true, keep_mk, State.listReq_keep, State.setTq_keep, *]; done) | split | (refine (foldl_keep _ _ _ (fun t a => ?_)).trans ?_) | (refine (foldl1_keep _ _ _ (fun t a => ?_)).trans ?_) | (refine (foldl2_keep _ _ _ (fun t a => ?_)).trans ?_) | (simp -implicitDefEqProofs only [ite_keep, ite1_keep, ite2_keep, foldl_keep, foldl1_keep, foldl2_keep, ite_self, implies_true, keep_mk, State.listReq_keep, State.setTq_keep, *]))
theorem State.listDone_keep (s : State) (id : Nat) (write ok : Bool) : (State.listDone s id write ok).keep = s.keep := by
  unfold State.listDone
  repeat' (first | (simp -implicitDefEqProofs only [ite_keep, ite1_keep, ite2_keep, foldl_keep, foldl1_keep, foldl2_keep, ite_self, implies_true, keep_mk, State.fault_keep, State.listReq_keep, State.setTmg_keep, State.setTq_keep, *]; done) | split | (refine (foldl_keep _ _ _ (fun t a => ?_)).trans ?_) | (refine (foldl1_keep _ _ _ (fun t a => ?_)).trans ?_) | (refine (foldl2_keep _ _ _ (fun t a => ?_)).trans ?_) | (simp -implicitDefEqProofs only [ite_keep, ite1_keep, ite2_keep, foldl_keep, foldl1_keep, foldl2_keep, ite_self, implies_true, keep_mk, State.fault_keep, State.listReq_keep, State.setTmg_keep, State.setTq_keep, *]))
theorem State.pageGone_keep (s : State) (q : Nat) (p : PageRec) : (State.pageGone s q p).keep = s.keep := by
  simp -implicitDefEqProofs only [State.pageGone, ite_keep, ite1_keep, ite2_keep, foldl_keep, foldl1_keep, foldl2_keep, ite_self, implies_true, keep_mk, State.givePage_keep, State.setTmg_keep, State.setTq_keep]
theorem State.spillWait_keep (s : State) (q : Nat) : (State.spillWait s q).keep = s.keep := by
  simp -implicitDefEqProofs only [State.spillWait, ite_keep, ite1_keep, ite2_keep, foldl_keep, foldl1_keep, foldl2_keep, ite_self, implies_true, keep_mk, State.bump_keep, State.irq_keep, State.setTq_keep]
theorem State.askSpill_keep (s : State) (q : Nat) : (State.askSpill s q).keep = s.keep := by
  unfold State.askSpill
  simp only
  split
  · split
    · simp -implicitDefEqProofs only [ite_keep, ite1_keep, ite2_keep, foldl_keep, foldl1_keep, foldl2_keep, ite_self, implies_true, keep_mk, State.askPage_keep, State.listRoom_keep, State.setTq_keep, State.spillWait_keep]
    · split
      · next t h =>
        have ht := State.listRoom_keep h
        simp -implicitDefEqProofs only [ite_keep, ite1_keep, ite2_keep, foldl_keep, foldl1_keep, foldl2_keep, ite_self, implies_true, keep_mk, State.askPage_keep, State.listRoom_keep, State.setTq_keep, State.spillWait_keep, ht]
      · simp -implicitDefEqProofs only [ite_keep, ite1_keep, ite2_keep, foldl_keep, foldl1_keep, foldl2_keep, ite_self, implies_true, keep_mk, State.askPage_keep, State.listRoom_keep, State.setTq_keep, State.spillWait_keep]
  · rfl
theorem State.formPage_keep (s : State) (q page : Nat) : (State.formPage s q page).keep = s.keep := by
  simp -implicitDefEqProofs only [State.formPage, ite_keep, ite1_keep, ite2_keep, foldl_keep, foldl1_keep, foldl2_keep, ite_self, implies_true, keep_mk, State.bump_keep, State.drcPut_keep, State.event_keep, State.pcAdd_keep, State.setTq_keep, State.tmgId_keep]
theorem State.refillRead_keep (s : State) (q : Nat) : (State.refillRead s q).keep = s.keep := by
  unfold State.refillRead
  repeat' (first | (simp -implicitDefEqProofs only [ite_keep, ite1_keep, ite2_keep, foldl_keep, foldl1_keep, foldl2_keep, ite_self, implies_true, keep_mk, State.drcPut_keep, State.listRead_keep, State.setTq_keep, *]; done) | split | (refine (foldl_keep _ _ _ (fun t a => ?_)).trans ?_) | (refine (foldl1_keep _ _ _ (fun t a => ?_)).trans ?_) | (refine (foldl2_keep _ _ _ (fun t a => ?_)).trans ?_) | (simp -implicitDefEqProofs only [ite_keep, ite1_keep, ite2_keep, foldl_keep, foldl1_keep, foldl2_keep, ite_self, implies_true, keep_mk, State.drcPut_keep, State.listRead_keep, State.setTq_keep, *]))
theorem State.refills_keep (s : State) (q : Nat) (fuel : Nat) : (State.refills s q fuel).keep = s.keep := by
  induction fuel generalizing s with
  | zero => simp -implicitDefEqProofs only [State.refills]
  | succ k ih =>
    unfold State.refills
    repeat' (first | (simp -implicitDefEqProofs only [ite_keep, ite1_keep, ite2_keep, foldl_keep, foldl1_keep, foldl2_keep, ite_self, implies_true, keep_mk, State.refillRead_keep, ih, *]; done) | split | (simp -implicitDefEqProofs only [ite_keep, ite1_keep, ite2_keep, foldl_keep, foldl1_keep, foldl2_keep, ite_self, implies_true, keep_mk, State.refillRead_keep, ih, *]))
theorem State.joins_keep (s : State) (q : Nat) : (State.joins s q).keep = s.keep := by
  simp -implicitDefEqProofs only [State.joins, ite_keep, ite1_keep, ite2_keep, foldl_keep, foldl1_keep, foldl2_keep, ite_self, implies_true, keep_mk, State.setTq_keep]
theorem State.refillAll_keep (s : State) : (State.refillAll s).keep = s.keep := by
  simp -implicitDefEqProofs only [State.refillAll, ite_keep, ite1_keep, ite2_keep, foldl_keep, foldl1_keep, foldl2_keep, ite_self, implies_true, keep_mk, State.refills_keep]
theorem State.pump_keep (s : State) (q : Nat) : (State.pump s q).keep = s.keep := by
  simp -implicitDefEqProofs only [State.pump, ite_keep, ite1_keep, ite2_keep, foldl_keep, foldl1_keep, foldl2_keep, ite_self, implies_true, keep_mk, State.askSpill_keep, State.joins_keep, State.refillAll_keep, State.refills_keep]
theorem State.enqueue_keep (s : State) (q : Nat) (x : QPkt) : (State.enqueue s q x).keep = s.keep := by
  simp -implicitDefEqProofs only [State.enqueue, ite_keep, ite1_keep, ite2_keep, foldl_keep, foldl1_keep, foldl2_keep, ite_self, implies_true, keep_mk, State.pump_keep, State.setTq_keep, State.tmgId_keep]
theorem State.dropJob_keep (s : State) (code : Nat) (j : McJob) : (State.dropJob s code j).keep = s.keep := by
  simp -implicitDefEqProofs only [State.dropJob, ite_keep, ite1_keep, ite2_keep, foldl_keep, foldl1_keep, foldl2_keep, ite_self, implies_true, keep_mk, State.discard_keep, State.freeRef_keep, State.tmgUnhold_keep]
theorem State.dropJobs_keep (s : State) (code : Nat) (f : McJob → Bool) : (State.dropJobs s code f).keep = s.keep := by
  simp -implicitDefEqProofs only [State.dropJobs, ite_keep, ite1_keep, ite2_keep, foldl_keep, foldl1_keep, foldl2_keep, ite_self, implies_true, keep_mk, State.dropJob_keep, State.setTmg_keep]
theorem State.ageJobs_keep (s : State) : (State.ageJobs s).keep = s.keep := by
  simp -implicitDefEqProofs only [State.ageJobs, ite_keep, ite1_keep, ite2_keep, foldl_keep, foldl1_keep, foldl2_keep, ite_self, implies_true, keep_mk, State.dropJobs_keep]
theorem State.readNow_keep (s : State) (q : Nat) (fuel : Nat) : (State.readNow s q fuel).keep = s.keep := by
  induction fuel generalizing s with
  | zero => simp -implicitDefEqProofs only [State.readNow]
  | succ k ih =>
    unfold State.readNow
    repeat' (first | (simp -implicitDefEqProofs only [ite_keep, ite1_keep, ite2_keep, foldl_keep, foldl1_keep, foldl2_keep, ite_self, implies_true, keep_mk, State.refillRead_keep, ih, *]; done) | split | (simp -implicitDefEqProofs only [ite_keep, ite1_keep, ite2_keep, foldl_keep, foldl1_keep, foldl2_keep, ite_self, implies_true, keep_mk, State.refillRead_keep, ih, *]))
theorem State.ageQueue_keep (s : State) (q : Nat) : (State.ageQueue s q).keep = s.keep := by
  simp -implicitDefEqProofs only [State.ageQueue, ite_keep, ite1_keep, ite2_keep, foldl_keep, foldl1_keep, foldl2_keep, ite_self, implies_true, keep_mk, State.bump_keep, State.kill_keep, State.pageGone_keep, State.pump_keep, State.readNow_keep, State.setTq_keep]
theorem State.failPage_keep (s : State) (q : Nat) (p : PageRec) (more : List QPkt) : (State.failPage s q p more).keep = s.keep := by
  simp -implicitDefEqProofs only [State.failPage, ite_keep, ite1_keep, ite2_keep, foldl_keep, foldl1_keep, foldl2_keep, ite_self, implies_true, keep_mk, State.kill_keep]
theorem State.refillPkt_keep (s : State) (q : Nat) (x : QPkt) : (State.refillPkt s q x).keep = s.keep := by
  simp -implicitDefEqProofs only [State.refillPkt, ite_keep, ite1_keep, ite2_keep, foldl_keep, foldl1_keep, foldl2_keep, ite_self, implies_true, keep_mk, State.event_keep, State.newData_keep, State.setTq_keep]
theorem State.spillGrant_keep (s : State) (q page : Nat) : (State.spillGrant s q page).keep = s.keep := by
  simp -implicitDefEqProofs only [State.spillGrant, ite_keep, ite1_keep, ite2_keep, foldl_keep, foldl1_keep, foldl2_keep, ite_self, implies_true, keep_mk, State.formPage_keep, State.givePage_keep, State.pump_keep, State.setTq_keep]
theorem State.tmgGrant_keep (s : State) (who page : Nat) : (State.tmgGrant s who page).keep = s.keep := by
  simp -implicitDefEqProofs only [State.tmgGrant, ite_keep, ite1_keep, ite2_keep, foldl_keep, foldl1_keep, foldl2_keep, ite_self, implies_true, keep_mk, State.listPage_keep, State.pump_keep, State.setTq_keep, State.spillGrant_keep]
theorem State.tmgRefused_keep (s : State) (who : Nat) : (State.tmgRefused s who).keep = s.keep := by
  simp -implicitDefEqProofs only [State.tmgRefused, ite_keep, ite1_keep, ite2_keep, foldl_keep, foldl1_keep, foldl2_keep, ite_self, implies_true, keep_mk, State.spillWait_keep]
theorem State.mcentWr_keep (s : State) (w : Word) : (State.mcentWr s w).keep = s.keep := by
  simp -implicitDefEqProofs only [State.mcentWr, ite_keep, ite1_keep, ite2_keep, foldl_keep, foldl1_keep, foldl2_keep, ite_self, implies_true, keep_mk, State.wr_keep]
theorem State.rinkWr_keep (s : State) (k : Nat) (w : Word) : (State.rinkWr s k w).keep = s.keep := by
  simp -implicitDefEqProofs only [State.rinkWr, ite_keep, ite1_keep, ite2_keep, foldl_keep, foldl1_keep, foldl2_keep, ite_self, implies_true, keep_mk, State.setTmg_keep, State.wr_keep]
theorem State.pcidxWr_keep (s : State) (w : Word) : (State.pcidxWr s w).keep = s.keep := by
  simp -implicitDefEqProofs only [State.pcidxWr, ite_keep, ite1_keep, ite2_keep, foldl_keep, foldl1_keep, foldl2_keep, ite_self, implies_true, keep_mk, State.setTmg_keep, State.wr_keep]
theorem State.tmgReset_keep (s : State) : (State.tmgReset s).keep = s.keep := by
  simp -implicitDefEqProofs only [State.tmgReset, ite_keep, ite1_keep, ite2_keep, foldl_keep, foldl1_keep, foldl2_keep, ite_self, implies_true, keep_mk, State.reclaim_keep, State.retire_keep, State.setF_keep, State.setTmg_keep, State.wr_keep, State.zero_keep]
theorem State.tmgBasinLost_keep (s : State) : (State.tmgBasinLost s).keep = s.keep := by
  simp -implicitDefEqProofs only [State.tmgBasinLost, ite_keep, ite1_keep, ite2_keep, foldl_keep, foldl1_keep, foldl2_keep, ite_self, implies_true, keep_mk, State.kill_keep, State.pump_keep, State.setTmg_keep, State.setTq_keep]
theorem State.tmgChanLost_keep (s : State) (n : Nat) : (State.tmgChanLost s n).keep = s.keep := by
  simp -implicitDefEqProofs only [State.tmgChanLost, ite_keep, ite1_keep, ite2_keep, foldl_keep, foldl1_keep, foldl2_keep, ite_self, implies_true, keep_mk, State.setTmg_keep]
theorem State.txPoison_keep (s : State) (p : Nat) (x : TxNow) : (State.txPoison s p x).keep = s.keep := by
  simp -implicitDefEqProofs only [State.txPoison, ite_keep, ite1_keep, ite2_keep, foldl_keep, foldl1_keep, foldl2_keep, ite_self, implies_true, keep_mk, State.irq_keep, State.pcAdd_keep, State.setPort_keep]
theorem State.poisonSent_keep (s : State) (d : Nat) : (State.poisonSent s d).keep = s.keep := by
  unfold State.poisonSent
  repeat' (first | (simp -implicitDefEqProofs only [ite_keep, ite1_keep, ite2_keep, foldl_keep, foldl1_keep, foldl2_keep, ite_self, implies_true, keep_mk, State.txPoison_keep, *]; done) | split | (refine (foldl_keep _ _ _ (fun t a => ?_)).trans ?_) | (refine (foldl1_keep _ _ _ (fun t a => ?_)).trans ?_) | (refine (foldl2_keep _ _ _ (fun t a => ?_)).trans ?_) | (simp -implicitDefEqProofs only [ite_keep, ite1_keep, ite2_keep, foldl_keep, foldl1_keep, foldl2_keep, ite_self, implies_true, keep_mk, State.txPoison_keep, *]))
theorem State.cellLost_keep (s : State) (d : Nat) : (State.cellLost s d).keep = s.keep := by
  simp -implicitDefEqProofs only [State.cellLost, ite_keep, ite1_keep, ite2_keep, foldl_keep, foldl1_keep, foldl2_keep, ite_self, implies_true, keep_mk, State.dropJobs_keep, State.kill_keep, State.poisonSent_keep, State.pump_keep]
theorem State.pageLost_keep (s : State) (page : Nat) : (State.pageLost s page).keep = s.keep := by
  unfold State.pageLost
  repeat' (first | (simp -implicitDefEqProofs only [ite_keep, ite1_keep, ite2_keep, foldl_keep, foldl1_keep, foldl2_keep, ite_self, implies_true, keep_mk, State.kill_keep, State.pump_keep, *]; done) | split | (refine (foldl_keep _ _ _ (fun t a => ?_)).trans ?_) | (refine (foldl1_keep _ _ _ (fun t a => ?_)).trans ?_) | (refine (foldl2_keep _ _ _ (fun t a => ?_)).trans ?_) | (simp -implicitDefEqProofs only [ite_keep, ite1_keep, ite2_keep, foldl_keep, foldl1_keep, foldl2_keep, ite_self, implies_true, keep_mk, State.kill_keep, State.pump_keep, *]))
theorem State.setWrr_keep (s : State) (n pass : Nat) (w : Wrr) : (State.setWrr s n pass w).keep = s.keep := by
  simp -implicitDefEqProofs only [State.setWrr, ite_keep, ite1_keep, ite2_keep, foldl_keep, foldl1_keep, foldl2_keep, ite_self, implies_true, keep_mk]
theorem State.drrPick_keep {s : State} {p n pass fuel : Nat} {x : Child × State} (h : s.drrPick p n pass fuel = some x) : x.2.keep = s.keep := by
  unfold State.drrPick at h
  simp only at h
  generalize (if pass = 0 then s.committed p fuel else s.excess p fuel) = e at h
  by_cases hc : (s.children p n 4).any e = true
  · rw [if_pos hc] at h
    generalize drr _ _ _ _ _ _ = y at h
    obtain ⟨_ | c, w⟩ := y
    · cases h
    · cases h; simp -implicitDefEqProofs only [ite_keep, ite1_keep, ite2_keep, foldl_keep, foldl1_keep, foldl2_keep, ite_self, implies_true, keep_mk, State.setWrr_keep]
  · rw [if_neg hc] at h; cases h
theorem State.nodePick_keep {s : State} {p fuel n : Nat} {x : Pick × State} (h : s.nodePick p fuel n = some x) : x.2.keep = s.keep := by
  induction fuel generalizing s n x with
  | zero => simp only [State.nodePick] at h; cases h
  | succ k ih =>
    unfold State.nodePick at h
    simp only at h
    split at h
    · split at h
      · cases h; rfl
      · rw [Option.map_eq_some_iff] at h
        obtain ⟨y, hy, rfl⟩ := h
        have h3 := ih hy; exact h3
    · split at h
      · next h1 =>
        have h2 := State.drrPick_keep h1
        split at h
        · cases h; exact h2
        · rw [Option.map_eq_some_iff] at h
          obtain ⟨y, hy, rfl⟩ := h
          have h3 := ih hy; exact h3.trans h2
      · split at h
        · next h1 =>
          have h2 := State.drrPick_keep h1
          split at h
          · cases h; exact h2
          · rw [Option.map_eq_some_iff] at h
            obtain ⟨y, hy, rfl⟩ := h
            have h3 := ih hy; exact h3.trans h2
        · cases h
theorem State.portPick_keep {s : State} {p : Nat} {x : Pick × State} (h : s.portPick p = some x) : x.2.keep = s.keep := by
  unfold State.portPick at h
  split at h
  · cases h
  · split at h
    · cases h; rfl
    · split at h
      · exact State.nodePick_keep h
      · cases h
theorem State.charge_keep (s : State) (e len : Nat) : (State.charge s e len).keep = s.keep := by
  simp -implicitDefEqProofs only [State.charge, ite_keep, ite1_keep, ite2_keep, foldl_keep, foldl1_keep, foldl2_keep, ite_self, implies_true, keep_mk, State.putLevels_keep]
theorem State.chargeAll_keep (s : State) (p len : Nat) (nodes : List Nat) : (State.chargeAll s p len nodes).keep = s.keep := by
  simp -implicitDefEqProofs only [State.chargeAll, ite_keep, ite1_keep, ite2_keep, foldl_keep, foldl1_keep, foldl2_keep, ite_self, implies_true, keep_mk, State.charge_keep]
theorem State.drrCharge_keep (s : State) (len : Nat) (d : Nat × Nat × Child) : (State.drrCharge s len d).keep = s.keep := by
  simp -implicitDefEqProofs only [State.drrCharge, ite_keep, ite1_keep, ite2_keep, foldl_keep, foldl1_keep, foldl2_keep, ite_self, implies_true, keep_mk, State.setWrr_keep]
theorem State.unqueue_keep (s : State) (q : Nat) (x : QPkt) : (State.unqueue s q x).keep = s.keep := by
  simp -implicitDefEqProofs only [State.unqueue, ite_keep, ite1_keep, ite2_keep, foldl_keep, foldl1_keep, foldl2_keep, ite_self, implies_true, keep_mk, State.setTq_keep]
theorem State.nextSeq_keep (s : State) (g : Nat) (q : Word) : (State.nextSeq s g q).keep = s.keep := by
  simp -implicitDefEqProofs only [State.nextSeq, ite_keep, ite1_keep, ite2_keep, foldl_keep, foldl1_keep, foldl2_keep, ite_self, implies_true, keep_mk, State.journal_keep, State.wr_keep]
theorem State.bondTag_keep {s : State} {p : Nat} {l : List Nat} {x : BondTag × State} (h : s.bondTag p l = some x) : x.2.keep = s.keep := by
  unfold State.bondTag at h
  split at h
  · split at h
    · cases h; simp -implicitDefEqProofs only [ite_keep, ite1_keep, ite2_keep, foldl_keep, foldl1_keep, foldl2_keep, ite_self, implies_true, keep_mk, State.nextSeq_keep]
    · cases h
  · cases h
theorem State.hand_keep (s : State) (p : Nat) (x : QPkt) (tag : Option BondTag) : (State.hand s p x tag).keep = s.keep := by
  simp -implicitDefEqProofs only [State.hand, ite_keep, ite1_keep, ite2_keep, foldl_keep, foldl1_keep, foldl2_keep, ite_self, implies_true, keep_mk, State.freeRef_keep, State.setEp_keep, State.tmgUnhold_keep]
theorem State.grantPick_keep (s : State) (p : Nat) (k : Pick) : (State.grantPick s p k).keep = s.keep := by
  unfold State.grantPick
  split
  · rfl
  · simp only
    split
    · simp -implicitDefEqProofs only [ite_keep, ite1_keep, ite2_keep, foldl_keep, foldl1_keep, foldl2_keep, ite_self, implies_true, keep_mk, State.bondTag_keep, State.chargeAll_keep, State.drrCharge_keep, State.event_keep, State.hand_keep, State.pump_keep, State.refillAll_keep, State.unqueue_keep]
    · next h =>
      have h1 := State.bondTag_keep h
      simp -implicitDefEqProofs only [ite_keep, ite1_keep, ite2_keep, foldl_keep, foldl1_keep, foldl2_keep, ite_self, implies_true, keep_mk, State.bondTag_keep, State.chargeAll_keep, State.drrCharge_keep, State.event_keep, State.hand_keep, State.pump_keep, State.refillAll_keep, State.unqueue_keep] at h1
      simp -implicitDefEqProofs only [ite_keep, ite1_keep, ite2_keep, foldl_keep, foldl1_keep, foldl2_keep, ite_self, implies_true, keep_mk, State.bondTag_keep, State.chargeAll_keep, State.drrCharge_keep, State.event_keep, State.hand_keep, State.pump_keep, State.refillAll_keep, State.unqueue_keep]
      rw [← h1]
theorem State.schGrant_keep (s : State) (p : Nat) (fuel : Nat) : (State.schGrant s p fuel).keep = s.keep := by
  induction fuel generalizing s with
  | zero => simp -implicitDefEqProofs only [State.schGrant]
  | succ k ih =>
    unfold State.schGrant
    split
    · rfl
    · split
      · split
        · simp -implicitDefEqProofs only [ite_keep, ite1_keep, ite2_keep, foldl_keep, foldl1_keep, foldl2_keep, ite_self, implies_true, keep_mk, State.event_keep, State.grantPick_keep, State.kill_keep, State.portPick_keep, State.pump_keep]
        · rfl
      · next h =>
        have h1 := State.portPick_keep h
        simp only at h1
        split
        · rw [ih]; simp -implicitDefEqProofs only [ite_keep, ite1_keep, ite2_keep, foldl_keep, foldl1_keep, foldl2_keep, ite_self, implies_true, keep_mk, State.event_keep, State.grantPick_keep, State.kill_keep, State.portPick_keep, State.pump_keep]
        · rw [State.grantPick_keep, h1]
theorem State.schReset_keep (s : State) : (State.schReset s).keep = s.keep := by
  simp -implicitDefEqProofs only [State.schReset, ite_keep, ite1_keep, ite2_keep, foldl_keep, foldl1_keep, foldl2_keep, ite_self, implies_true, keep_mk, State.resetAllLevels_keep]
theorem State.admitEvents_keep (s : State) (q : Nat) (p : Pkt) : (State.admitEvents s q p).keep = s.keep := by
  simp -implicitDefEqProofs only [State.admitEvents, ite_keep, ite1_keep, ite2_keep, foldl_keep, foldl1_keep, foldl2_keep, ite_self, implies_true, keep_mk, State.event_keep]
theorem State.queueIn_keep (s : State) (q port data enq : Nat) (p : Pkt) : (State.queueIn s q port data enq p).keep = s.keep := by
  simp -implicitDefEqProofs only [State.queueIn, ite_keep, ite1_keep, ite2_keep, foldl_keep, foldl1_keep, foldl2_keep, ite_self, implies_true, keep_mk, State.admitEvents_keep, State.enqueue_keep, State.pcAdd_keep, State.tmgHold_keep]
theorem State.arriving_keep (s : State) (i data : Nat) (p : Pkt) : (State.arriving s i data p).keep = s.keep := by
  simp -implicitDefEqProofs only [State.arriving, ite_keep, ite1_keep, ite2_keep, foldl_keep, foldl1_keep, foldl2_keep, ite_self, implies_true, keep_mk, State.setIp_keep]
theorem State.rinkSelect_keep (s : State) (k : Nat) : (State.rinkSelect s k).1.keep = s.keep := by
  simp -implicitDefEqProofs only [State.rinkSelect, ite_keep, ite1_keep, ite2_keep, foldl_keep, foldl1_keep, foldl2_keep, ite_self, implies_true, keep_mk, State.setTmg_keep]
theorem State.rinkCopy_keep (s : State) (i k code : Nat) (known : Bool) (p : Pkt) (data : Option Nat) : (State.rinkCopy s i k code known p data).1.keep = s.keep := by
  unfold State.rinkCopy
  repeat' (first | (simp -implicitDefEqProofs only [ite_keep, ite1_keep, ite2_keep, foldl_keep, foldl1_keep, foldl2_keep, ite_self, implies_true, keep_mk, State.arriving_keep, State.bump_keep, State.charge_keep, State.hold_keep, State.newData_keep, State.putData_keep, State.queueIn_keep, State.rinkSelect_keep, State.weir_keep, *]; done) | split | (refine (foldl_keep _ _ _ (fun t a => ?_)).trans ?_) | (refine (foldl1_keep _ _ _ (fun t a => ?_)).trans ?_) | (refine (foldl2_keep _ _ _ (fun t a => ?_)).trans ?_) | (simp -implicitDefEqProofs only [ite_keep, ite1_keep, ite2_keep, foldl_keep, foldl1_keep, foldl2_keep, ite_self, implies_true, keep_mk, State.arriving_keep, State.bump_keep, State.charge_keep, State.hold_keep, State.newData_keep, State.putData_keep, State.queueIn_keep, State.rinkSelect_keep, State.weir_keep, *]))
theorem State.rinks_keep (s : State) (i code : Nat) (known : Bool) (p : Pkt) (data : Option Nat) : (State.rinks s i code known p data).keep = s.keep := by
  simp -implicitDefEqProofs only [State.rinks, ite_keep, ite1_keep, ite2_keep, foldl_keep, foldl1_keep, foldl2_keep, ite_self, implies_true, keep_mk, State.rinkCopy_keep]
theorem State.glideGrant_keep (s : State) (q : Nat) (x : QPkt) : (State.glideGrant s q x).keep = s.keep := by
  simp -implicitDefEqProofs only [State.glideGrant, ite_keep, ite1_keep, ite2_keep, foldl_keep, foldl1_keep, foldl2_keep, ite_self, implies_true, keep_mk, State.event_keep, State.grantPick_keep, State.pcAdd_keep]
theorem State.admitUnicast_keep (s : State) (i : Nat) (known : Bool) (p : Pkt) : (State.admitUnicast s i known p).keep = s.keep := by
  unfold State.admitUnicast
  repeat' (first | (simp -implicitDefEqProofs only [ite_keep, ite1_keep, ite2_keep, foldl_keep, foldl1_keep, foldl2_keep, ite_self, implies_true, keep_mk, State.arriving_keep, State.charge_keep, State.discard_keep, State.glideGrant_keep, State.newData_keep, State.queueIn_keep, State.rinks_keep, *]; done) | split | (refine (foldl_keep _ _ _ (fun t a => ?_)).trans ?_) | (refine (foldl1_keep _ _ _ (fun t a => ?_)).trans ?_) | (refine (foldl2_keep _ _ _ (fun t a => ?_)).trans ?_) | (simp -implicitDefEqProofs only [ite_keep, ite1_keep, ite2_keep, foldl_keep, foldl1_keep, foldl2_keep, ite_self, implies_true, keep_mk, State.arriving_keep, State.charge_keep, State.discard_keep, State.glideGrant_keep, State.newData_keep, State.queueIn_keep, State.rinks_keep, *]))
theorem State.admitMulticast_keep (s : State) (i : Nat) (known : Bool) (p : Pkt) : (State.admitMulticast s i known p).keep = s.keep := by
  simp -implicitDefEqProofs only [State.admitMulticast, ite_keep, ite1_keep, ite2_keep, foldl_keep, foldl1_keep, foldl2_keep, ite_self, implies_true, keep_mk, State.arriving_keep, State.charge_keep, State.discard_keep, State.newData_keep, State.rinks_keep, State.setTmg_keep, State.tmgHold_keep]
theorem State.admitHost_keep (s : State) (i user qp : Nat) (copy known : Bool) (p : Pkt) : (State.admitHost s i user qp copy known p).keep = s.keep := by
  simp -implicitDefEqProofs only [State.admitHost, ite_keep, ite1_keep, ite2_keep, foldl_keep, foldl1_keep, foldl2_keep, ite_self, implies_true, keep_mk, State.arriving_keep, State.charge_keep, State.discard_keep, State.newData_keep, State.queueIn_keep, State.rinks_keep]
theorem State.arrived_keep (s : State) (data : Nat) (bad : Bool) : (State.arrived s data bad).keep = s.keep := by
  unfold State.arrived; (repeat' split) <;> simp -implicitDefEqProofs only [ite_keep, ite1_keep, ite2_keep, foldl_keep, foldl1_keep, foldl2_keep, ite_self, implies_true, keep_mk, State.dropJobs_keep, State.kill_keep, State.pump_keep, State.putData_keep]
theorem State.mcCopy_keep (s : State) (data enq : Nat) (p : Pkt) : (State.mcCopy s data enq p).keep = s.keep := by
  unfold State.mcCopy
  repeat' (first | (simp -implicitDefEqProofs only [ite_keep, ite1_keep, ite2_keep, foldl_keep, foldl1_keep, foldl2_keep, ite_self, implies_true, keep_mk, State.bump_keep, State.charge_keep, State.discard_keep, State.hold_keep, State.putData_keep, State.queueIn_keep, State.weir_keep, *]; done) | split | (refine (foldl_keep _ _ _ (fun t a => ?_)).trans ?_) | (refine (foldl1_keep _ _ _ (fun t a => ?_)).trans ?_) | (refine (foldl2_keep _ _ _ (fun t a => ?_)).trans ?_) | (simp -implicitDefEqProofs only [ite_keep, ite1_keep, ite2_keep, foldl_keep, foldl1_keep, foldl2_keep, ite_self, implies_true, keep_mk, State.bump_keep, State.charge_keep, State.discard_keep, State.hold_keep, State.putData_keep, State.queueIn_keep, State.weir_keep, *]))
theorem State.fanOut_keep (s : State) (j : McJob) : (State.fanOut s j).keep = s.keep := by
  simp -implicitDefEqProofs only [State.fanOut, ite_keep, ite1_keep, ite2_keep, foldl_keep, foldl1_keep, foldl2_keep, ite_self, implies_true, keep_mk, State.freeRef_keep, State.mcCopy_keep, State.release_keep, State.tmgUnhold_keep]
theorem State.replicate_keep (s : State) : (State.replicate s).keep = s.keep := by
  unfold State.replicate; (repeat' split) <;> simp -implicitDefEqProofs only [ite_keep, ite1_keep, ite2_keep, foldl_keep, foldl1_keep, foldl2_keep, ite_self, implies_true, keep_mk, State.fanOut_keep, State.setTmg_keep]
theorem State.setBlg_keep (s : State) (b : Blg) : (State.setBlg s b).keep = s.keep := by
  simp -implicitDefEqProofs only [State.setBlg, ite_keep, ite1_keep, ite2_keep, foldl_keep, foldl1_keep, foldl2_keep, ite_self, implies_true, keep_mk]
theorem State.setMem_keep (s : State) (g m : Nat) (v : Member) : (State.setMem s g m v).keep = s.keep := by
  simp -implicitDefEqProofs only [State.setMem, ite_keep, ite1_keep, ite2_keep, foldl_keep, foldl1_keep, foldl2_keep, ite_self, implies_true, keep_mk, State.setBlg_keep]
theorem State.setGrp_keep (s : State) (g : Nat) (v : Group) : (State.setGrp s g v).keep = s.keep := by
  simp -implicitDefEqProofs only [State.setGrp, ite_keep, ite1_keep, ite2_keep, foldl_keep, foldl1_keep, foldl2_keep, ite_self, implies_true, keep_mk, State.setBlg_keep]
theorem State.gcount_keep (s : State) (g ix : Nat) : (State.gcount s g ix).keep = s.keep := by
  simp -implicitDefEqProofs only [State.gcount, ite_keep, ite1_keep, ite2_keep, foldl_keep, foldl1_keep, foldl2_keep, ite_self, implies_true, keep_mk, State.bump_keep]
theorem State.gcountN_keep (s : State) (g ix n : Nat) : (State.gcountN s g ix n).keep = s.keep := by
  simp -implicitDefEqProofs only [State.gcountN, ite_keep, ite1_keep, ite2_keep, foldl_keep, foldl1_keep, foldl2_keep, ite_self, implies_true, keep_mk, State.addF_keep]
theorem State.setCap_keep (s : State) (g m cap : Nat) : (State.setCap s g m cap).keep = s.keep := by
  simp -implicitDefEqProofs only [State.setCap, ite_keep, ite1_keep, ite2_keep, foldl_keep, foldl1_keep, foldl2_keep, ite_self, implies_true, keep_mk, State.setF_keep, State.settle_keep]
theorem State.setTx_keep (s : State) (g m st : Nat) : (State.setTx s g m st).keep = s.keep := by
  simp -implicitDefEqProofs only [State.setTx, ite_keep, ite1_keep, ite2_keep, foldl_keep, foldl1_keep, foldl2_keep, ite_self, implies_true, keep_mk, State.irq_keep, State.setF_keep]
theorem State.memberStep_keep (s : State) (g m : Nat) : (State.memberStep s g m).keep = s.keep := by
  unfold State.memberStep
  repeat' (first | (simp -implicitDefEqProofs only [ite_keep, ite1_keep, ite2_keep, foldl_keep, foldl1_keep, foldl2_keep, ite_self, implies_true, keep_mk, State.setMem_keep, State.setTx_keep, *]; done) | split | (refine (foldl_keep _ _ _ (fun t a => ?_)).trans ?_) | (refine (foldl1_keep _ _ _ (fun t a => ?_)).trans ?_) | (refine (foldl2_keep _ _ _ (fun t a => ?_)).trans ?_) | (simp -implicitDefEqProofs only [ite_keep, ite1_keep, ite2_keep, foldl_keep, foldl1_keep, foldl2_keep, ite_self, implies_true, keep_mk, State.setMem_keep, State.setTx_keep, *]))
theorem State.memberPoll_keep (s : State) (g m : Nat) : (State.memberPoll s g m).keep = s.keep := by
  simp -implicitDefEqProofs only [State.memberPoll, ite_keep, ite1_keep, ite2_keep, foldl_keep, foldl1_keep, foldl2_keep, ite_self, implies_true, keep_mk, State.memberStep_keep]
theorem State.memberExcl_keep (s : State) (g m : Nat) : (State.memberExcl s g m).keep = s.keep := by
  simp -implicitDefEqProofs only [State.memberExcl, ite_keep, ite1_keep, ite2_keep, foldl_keep, foldl1_keep, foldl2_keep, ite_self, implies_true, keep_mk, State.setMem_keep, State.setTx_keep]
theorem State.acceptNotice_keep (s : State) (g m : Nat) (n : NoticeF) (at_ : Nat) : (State.acceptNotice s g m n at_).1.keep = s.keep := by
  simp -implicitDefEqProofs only [State.acceptNotice, ite_keep, ite1_keep, ite2_keep, foldl_keep, foldl1_keep, foldl2_keep, ite_self, implies_true, keep_mk, State.bump_keep, State.irq_keep, State.setF_keep, State.setMem_keep]
theorem State.landNotice_keep (s : State) (src : Option Nat) (l : List Byte) : (State.landNotice s src l).1.keep = s.keep := by
  unfold State.landNotice
  simp only
  split
  · rfl
  · split
    · rfl
    · split
      · rfl
      · next g m _ =>
        generalize (match src with | some k => s.f (BLG.MCFG g m) 11 9 != k | none => false) = b
        repeat' (first | (simp -implicitDefEqProofs only [ite_keep, ite1_keep, ite2_keep, foldl_keep, foldl1_keep, foldl2_keep, ite_self, implies_true, keep_mk, State.acceptNotice_keep]; done) | split)
theorem State.noticeIrq_keep (s : State) (r : Nat) : (State.noticeIrq s r).keep = s.keep := by
  simp -implicitDefEqProofs only [State.noticeIrq, ite_keep, ite1_keep, ite2_keep, foldl_keep, foldl1_keep, foldl2_keep, ite_self, implies_true, keep_mk, State.irq_keep]
theorem State.hnot2_keep (s : State) (w : Word) : (State.hnot2 s w).keep = s.keep := by
  simp -implicitDefEqProofs only [State.hnot2, ite_keep, ite1_keep, ite2_keep, foldl_keep, foldl1_keep, foldl2_keep, ite_self, implies_true, keep_mk, State.landNotice_keep, State.noticeIrq_keep, State.setF_keep, State.wr_keep]
theorem State.capacityApply_keep (s : State) (g m : Nat) : (State.capacityApply s g m).keep = s.keep := by
  unfold State.capacityApply; (repeat' split) <;> simp -implicitDefEqProofs only [ite_keep, ite1_keep, ite2_keep, foldl_keep, foldl1_keep, foldl2_keep, ite_self, implies_true, keep_mk, State.memberPoll_keep, State.setCap_keep, State.setMem_keep, State.untilInstant_keep, State.wr64_keep, State.xokAll_keep]
theorem State.memberCfg_keep (s : State) (g m : Nat) : (State.memberCfg s g m).keep = s.keep := by
  simp -implicitDefEqProofs only [State.memberCfg, ite_keep, ite1_keep, ite2_keep, foldl_keep, foldl1_keep, foldl2_keep, ite_self, implies_true, keep_mk, State.memberPoll_keep, State.setF_keep, State.setMem_keep, State.settle_keep, State.wr_keep, State.xokAll_keep]
theorem State.setEq_keep (s : State) (g m : Nat) (v : Queue) : (State.setEq s g m v).keep = s.keep := by
  simp -implicitDefEqProofs only [State.setEq, ite_keep, ite1_keep, ite2_keep, foldl_keep, foldl1_keep, foldl2_keep, ite_self, implies_true, keep_mk, State.setMem_keep]
theorem State.eddyAsk_keep (s : State) (g m : Nat) : (State.eddyAsk s g m).keep = s.keep := by
  simp -implicitDefEqProofs only [State.eddyAsk, ite_keep, ite1_keep, ite2_keep, foldl_keep, foldl1_keep, foldl2_keep, ite_self, implies_true, keep_mk, State.askPage_keep, State.setEq_keep]
theorem State.eddyRefused_keep (s : State) (g m : Nat) : (State.eddyRefused s g m).keep = s.keep := by
  simp -implicitDefEqProofs only [State.eddyRefused, ite_keep, ite1_keep, ite2_keep, foldl_keep, foldl1_keep, foldl2_keep, ite_self, implies_true, keep_mk, State.setEq_keep]
theorem State.eddyRefills_keep (s : State) (g m : Nat) (fuel : Nat) : (State.eddyRefills s g m fuel).keep = s.keep := by
  induction fuel generalizing s with
  | zero => simp -implicitDefEqProofs only [State.eddyRefills]
  | succ k ih =>
    unfold State.eddyRefills
    repeat' (first | (simp -implicitDefEqProofs only [ite_keep, ite1_keep, ite2_keep, foldl_keep, foldl1_keep, foldl2_keep, ite_self, implies_true, keep_mk, State.drcPut_keep, State.setEq_keep, ih, *]; done) | split | (simp -implicitDefEqProofs only [ite_keep, ite1_keep, ite2_keep, foldl_keep, foldl1_keep, foldl2_keep, ite_self, implies_true, keep_mk, State.drcPut_keep, State.setEq_keep, ih, *]))
theorem State.eddyJoins_keep (s : State) (g m : Nat) : (State.eddyJoins s g m).keep = s.keep := by
  simp -implicitDefEqProofs only [State.eddyJoins, ite_keep, ite1_keep, ite2_keep, foldl_keep, foldl1_keep, foldl2_keep, ite_self, implies_true, keep_mk, State.setEq_keep]
theorem State.eddyRefillAll_keep (s : State) : (State.eddyRefillAll s).keep = s.keep := by
  simp -implicitDefEqProofs only [State.eddyRefillAll, ite_keep, ite1_keep, ite2_keep, foldl_keep, foldl1_keep, foldl2_keep, ite_self, implies_true, keep_mk, State.eddyRefills_keep]
theorem State.eddyPump_keep (s : State) (g m : Nat) : (State.eddyPump s g m).keep = s.keep := by
  simp -implicitDefEqProofs only [State.eddyPump, ite_keep, ite1_keep, ite2_keep, foldl_keep, foldl1_keep, foldl2_keep, ite_self, implies_true, keep_mk, State.eddyAsk_keep, State.eddyJoins_keep, State.eddyRefillAll_keep, State.eddyRefills_keep]
theorem State.eddyGrant_keep (s : State) (g m page : Nat) : (State.eddyGrant s g m page).keep = s.keep := by
  simp -implicitDefEqProofs only [State.eddyGrant, ite_keep, ite1_keep, ite2_keep, foldl_keep, foldl1_keep, foldl2_keep, ite_self, implies_true, keep_mk, State.drcPut_keep, State.eddyPump_keep, State.givePage_keep, State.setBlg_keep, State.setEq_keep]
theorem State.gapRelease_keep (s : State) (g : Nat) : (State.gapRelease s g).keep = s.keep := by
  unfold State.gapRelease; (repeat' split) <;> simp -implicitDefEqProofs only [ite_keep, ite1_keep, ite2_keep, foldl_keep, foldl1_keep, foldl2_keep, ite_self, implies_true, keep_mk, State.gcountN_keep, State.gcount_keep, State.irq_keep, State.setGrp_keep, State.wr_keep]
theorem State.gapPoll_keep (s : State) (g : Nat) : (State.gapPoll s g).keep = s.keep := by
  simp -implicitDefEqProofs only [State.gapPoll, ite_keep, ite1_keep, ite2_keep, foldl_keep, foldl1_keep, foldl2_keep, ite_self, implies_true, keep_mk, State.gapRelease_keep, State.setGrp_keep]
theorem State.dropDups_keep (s : State) (g seq : Nat) : (State.dropDups s g seq).keep = s.keep := by
  unfold State.dropDups
  repeat' (first | (simp -implicitDefEqProofs only [ite_keep, ite1_keep, ite2_keep, foldl_keep, foldl1_keep, foldl2_keep, ite_self, implies_true, keep_mk, State.eddyPump_keep, State.gcount_keep, State.setEq_keep, *]; done) | split | (refine (foldl_keep _ _ _ (fun t a => ?_)).trans ?_) | (refine (foldl1_keep _ _ _ (fun t a => ?_)).trans ?_) | (refine (foldl2_keep _ _ _ (fun t a => ?_)).trans ?_) | (simp -implicitDefEqProofs only [ite_keep, ite1_keep, ite2_keep, foldl_keep, foldl1_keep, foldl2_keep, ite_self, implies_true, keep_mk, State.eddyPump_keep, State.gcount_keep, State.setEq_keep, *]))
theorem State.eddyArrive_keep (s : State) (g m : Nat) (p : Pkt) (seq : Nat) : (State.eddyArrive s g m p seq).keep = s.keep := by
  simp -implicitDefEqProofs only [State.eddyArrive, ite_keep, ite1_keep, ite2_keep, foldl_keep, foldl1_keep, foldl2_keep, ite_self, implies_true, keep_mk, State.eddyPump_keep, State.gcount_keep, State.irq_keep, State.setBlg_keep, State.setEq_keep, State.setF_keep, State.setGrp_keep, State.setMem_keep]
theorem State.rxAlive_keep (s : State) (g m : Nat) : (State.rxAlive s g m).keep = s.keep := by
  simp -implicitDefEqProofs only [State.rxAlive, ite_keep, ite1_keep, ite2_keep, foldl_keep, foldl1_keep, foldl2_keep, ite_self, implies_true, keep_mk, State.setMem_keep]
theorem State.rxHigh_keep (s : State) (g m seq : Nat) : (State.rxHigh s g m seq).keep = s.keep := by
  simp -implicitDefEqProofs only [State.rxHigh, ite_keep, ite1_keep, ite2_keep, foldl_keep, foldl1_keep, foldl2_keep, ite_self, implies_true, keep_mk, State.wr_keep]
theorem State.heartbeat_keep (s : State) (g m : Nat) (f : List Byte) (h : ShimF) : (State.heartbeat s g m f h).keep = s.keep := by
  simp -implicitDefEqProofs only [State.heartbeat, ite_keep, ite1_keep, ite2_keep, foldl_keep, foldl1_keep, foldl2_keep, ite_self, implies_true, keep_mk, State.gapPoll_keep, State.gcount_keep, State.memberPoll_keep, State.rxAlive_keep, State.rxHigh_keep, State.setF_keep, State.wr_keep]
theorem State.shimmed_keep (s : State) (p : Nat) (k : Pkt) : (State.shimmed s p k).keep = s.keep := by
  unfold State.shimmed
  repeat' (first | (simp -implicitDefEqProofs only [ite_keep, ite1_keep, ite2_keep, foldl_keep, foldl1_keep, foldl2_keep, ite_self, implies_true, keep_mk, State.bump_keep, State.eddyArrive_keep, State.gapPoll_keep, State.gcount_keep, State.heartbeat_keep, State.rxAlive_keep, State.rxHigh_keep, *]; done) | split | (refine (foldl_keep _ _ _ (fun t a => ?_)).trans ?_) | (refine (foldl1_keep _ _ _ (fun t a => ?_)).trans ?_) | (refine (foldl2_keep _ _ _ (fun t a => ?_)).trans ?_) | (simp -implicitDefEqProofs only [ite_keep, ite1_keep, ite2_keep, foldl_keep, foldl1_keep, foldl2_keep, ite_self, implies_true, keep_mk, State.bump_keep, State.eddyArrive_keep, State.gapPoll_keep, State.gcount_keep, State.heartbeat_keep, State.rxAlive_keep, State.rxHigh_keep, *]))
theorem State.rxInactive_keep (s : State) (g m : Nat) : (State.rxInactive s g m).keep = s.keep := by
  simp -implicitDefEqProofs only [State.rxInactive, ite_keep, ite1_keep, ite2_keep, foldl_keep, foldl1_keep, foldl2_keep, ite_self, implies_true, keep_mk, State.gapPoll_keep, State.setMem_keep]
theorem State.blgPort_keep (s : State) (p : Nat) : (State.blgPort s p).keep = s.keep := by
  unfold State.blgPort; (repeat' split) <;> simp -implicitDefEqProofs only [ite_keep, ite1_keep, ite2_keep, foldl_keep, foldl1_keep, foldl2_keep, ite_self, implies_true, keep_mk, State.memberPoll_keep, State.rxInactive_keep]
theorem State.eddyFail_keep (s : State) (g m : Nat) (l : List QPkt) : (State.eddyFail s g m l).keep = s.keep := by
  simp -implicitDefEqProofs only [State.eddyFail, ite_keep, ite1_keep, ite2_keep, foldl_keep, foldl1_keep, foldl2_keep, ite_self, implies_true, keep_mk, State.fault_keep, State.gapPoll_keep, State.setEq_keep]
theorem State.eddyBasinLost_keep (s : State) : (State.eddyBasinLost s).keep = s.keep := by
  simp -implicitDefEqProofs only [State.eddyBasinLost, ite_keep, ite1_keep, ite2_keep, foldl_keep, foldl1_keep, foldl2_keep, ite_self, implies_true, keep_mk, State.eddyPump_keep, State.gapPoll_keep, State.gcountN_keep, State.setEq_keep]
theorem State.rxStates_keep (s : State) : (State.rxStates s).keep = s.keep := by
  simp -implicitDefEqProofs only [State.rxStates, ite_keep, ite1_keep, ite2_keep, foldl_keep, foldl1_keep, foldl2_keep, ite_self, implies_true, keep_mk, State.gapPoll_keep, State.setF_keep, State.setGrp_keep]
theorem State.eddyChanLost_keep (s : State) (n : Nat) : (State.eddyChanLost s n).keep = s.keep := by
  simp -implicitDefEqProofs only [State.eddyChanLost, ite_keep, ite1_keep, ite2_keep, foldl_keep, foldl1_keep, foldl2_keep, ite_self, implies_true, keep_mk, State.setBlg_keep]
theorem State.blgReset_keep (s : State) : (State.blgReset s).keep = s.keep := by
  simp -implicitDefEqProofs only [State.blgReset, ite_keep, ite1_keep, ite2_keep, foldl_keep, foldl1_keep, foldl2_keep, ite_self, implies_true, keep_mk, State.gcountN_keep, State.memberPoll_keep, State.reclaim_keep, State.setBlg_keep, State.setF_keep, State.setTx_keep, State.wr_keep, State.zero_keep]
theorem State.denied_keep (s : State) (u : Nat) : (State.denied s u).keep = s.keep := by
  simp -implicitDefEqProofs only [State.denied, ite_keep, ite1_keep, ite2_keep, foldl_keep, foldl1_keep, foldl2_keep, ite_self, implies_true, keep_mk, State.bump_keep]
theorem State.userWr_keep (s : State) (u off page : Nat) (g : State → State) (hg : ∀ t0, (g t0).keep = t0.keep) : (State.userWr s u off page g).keep = s.keep := by
  unfold State.userWr
  repeat' (first | (simp -implicitDefEqProofs only [ite_keep, ite1_keep, ite2_keep, foldl_keep, foldl1_keep, foldl2_keep, ite_self, implies_true, keep_mk, State.absentWrite_keep, State.badAcc_keep, *]; done) | split | (refine (foldl_keep _ _ _ (fun t a => ?_)).trans ?_) | (refine (foldl1_keep _ _ _ (fun t a => ?_)).trans ?_) | (refine (foldl2_keep _ _ _ (fun t a => ?_)).trans ?_) | (simp -implicitDefEqProofs only [ite_keep, ite1_keep, ite2_keep, foldl_keep, foldl1_keep, foldl2_keep, ite_self, implies_true, keep_mk, State.absentWrite_keep, State.badAcc_keep, *]))
theorem State.setKslot_keep (s : State) (n : Nat) (v : KeySlot) : (State.setKslot s n v).keep = s.keep := by
  simp -implicitDefEqProofs only [State.setKslot, ite_keep, ite1_keep, ite2_keep, foldl_keep, foldl1_keep, foldl2_keep, ite_self, implies_true, keep_mk]
theorem State.kput_keep (s : State) (n : Nat) (key salt : Option (List Byte)) (src : Nat) : (State.kput s n key salt src).1.keep = s.keep := by
  simp -implicitDefEqProofs only [State.kput, ite_keep, ite1_keep, ite2_keep, foldl_keep, foldl1_keep, foldl2_keep, ite_self, implies_true, keep_mk, State.setKslot_keep]
theorem State.kslotErase_keep (s : State) (n : Nat) : (State.kslotErase s n).1.keep = s.keep := by
  simp -implicitDefEqProofs only [State.kslotErase, ite_keep, ite1_keep, ite2_keep, foldl_keep, foldl1_keep, foldl2_keep, ite_self, implies_true, keep_mk, State.kput_keep]
theorem State.zeroizeAll_keep (s : State) : (State.zeroizeAll s).keep = s.keep := by
  simp -implicitDefEqProofs only [State.zeroizeAll, ite_keep, ite1_keep, ite2_keep, foldl_keep, foldl1_keep, foldl2_keep, ite_self, implies_true, keep_mk]
theorem State.zeroize_keep (s : State) : (State.zeroize s).keep = s.keep := by
  simp -implicitDefEqProofs only [State.zeroize, ite_keep, ite1_keep, ite2_keep, foldl_keep, foldl1_keep, foldl2_keep, ite_self, implies_true, keep_mk, State.irq_keep, State.zeroizeAll_keep]
theorem State.importGo_keep (s : State) (u : Nat) (w : Word) : (State.importGo s u w).keep = s.keep := by
  simp -implicitDefEqProofs only [State.importGo, ite_keep, ite1_keep, ite2_keep, foldl_keep, foldl1_keep, foldl2_keep, ite_self, implies_true, keep_mk, State.badAcc_keep, State.denied_keep, State.setF_keep]
theorem State.importDo_keep (s : State) (i : KeyImp) : (State.importDo s i).1.keep = s.keep := by
  unfold State.importDo; (repeat' split) <;> simp -implicitDefEqProofs only [ite_keep, ite1_keep, ite2_keep, foldl_keep, foldl1_keep, foldl2_keep, ite_self, implies_true, keep_mk, State.kput_keep]
theorem State.keyReset_keep (s : State) : (State.keyReset s).keep = s.keep := by
  simp -implicitDefEqProofs only [State.keyReset, ite_keep, ite1_keep, ite2_keep, foldl_keep, foldl1_keep, foldl2_keep, ite_self, implies_true, keep_mk]
theorem State.eraseOp_keep (s : State) (n : Nat) : (State.eraseOp s n).1.keep = s.keep := by
  simp -implicitDefEqProofs only [State.eraseOp, ite_keep, ite1_keep, ite2_keep, foldl_keep, foldl1_keep, foldl2_keep, ite_self, implies_true, keep_mk, State.kslotErase_keep]
theorem State.eraseWr_keep (s : State) (w : Word) : (State.eraseWr s w).keep = s.keep := by
  simp -implicitDefEqProofs only [State.eraseWr, ite_keep, ite1_keep, ite2_keep, foldl_keep, foldl1_keep, foldl2_keep, ite_self, implies_true, keep_mk, State.badAcc_keep, State.eraseOp_keep, State.setF_keep]
theorem State.userErase_keep (s : State) (u : Nat) (w : Word) : (State.userErase s u w).keep = s.keep := by
  simp -implicitDefEqProofs only [State.userErase, ite_keep, ite1_keep, ite2_keep, foldl_keep, foldl1_keep, foldl2_keep, ite_self, implies_true, keep_mk, State.denied_keep, State.kslotErase_keep, State.setF_keep]
theorem State.zeroizeWr_keep (s : State) (w : Word) : (State.zeroizeWr s w).keep = s.keep := by
  simp -implicitDefEqProofs only [State.zeroizeWr, ite_keep, ite1_keep, ite2_keep, foldl_keep, foldl1_keep, foldl2_keep, ite_self, implies_true, keep_mk, State.badAcc_keep, State.zeroize_keep]
theorem State.secyCount_keep (s : State) (y i : Nat) : (State.secyCount s y i).keep = s.keep := by
  simp -implicitDefEqProofs only [State.secyCount, ite_keep, ite1_keep, ite2_keep, foldl_keep, foldl1_keep, foldl2_keep, ite_self, implies_true, keep_mk, State.bump_keep]
theorem State.saCount_keep (s : State) (sa i : Nat) : (State.saCount s sa i).keep = s.keep := by
  simp -implicitDefEqProofs only [State.saCount, ite_keep, ite1_keep, ite2_keep, foldl_keep, foldl1_keep, foldl2_keep, ite_self, implies_true, keep_mk, State.bump_keep]
theorem State.pnMark_keep (s : State) (sa : Nat) : (State.pnMark s sa).keep = s.keep := by
  simp -implicitDefEqProofs only [State.pnMark, ite_keep, ite1_keep, ite2_keep, foldl_keep, foldl1_keep, foldl2_keep, ite_self, implies_true, keep_mk, State.journal_keep]
theorem State.setNextPn_keep (s : State) (sa pn : Nat) : (State.setNextPn s sa pn).keep = s.keep := by
  simp -implicitDefEqProofs only [State.setNextPn, ite_keep, ite1_keep, ite2_keep, foldl_keep, foldl1_keep, foldl2_keep, ite_self, implies_true, keep_mk, State.pnMark_keep, State.wr64_keep]
theorem State.lastEvt_keep (s : State) (y : Nat) : (State.lastEvt s y).keep = s.keep := by
  simp -implicitDefEqProofs only [State.lastEvt, ite_keep, ite1_keep, ite2_keep, foldl_keep, foldl1_keep, foldl2_keep, ite_self, implies_true, keep_mk, State.setF_keep]
theorem State.setInUse_keep (s : State) (sa : Nat) (v : Bool) : (State.setInUse s sa v).keep = s.keep := by
  simp -implicitDefEqProofs only [State.setInUse, ite_keep, ite1_keep, ite2_keep, foldl_keep, foldl1_keep, foldl2_keep, ite_self, implies_true, keep_mk, State.pnMark_keep, State.setF_keep]
theorem State.txSa_keep (s : State) (y : Nat) (fuel : Nat) : (State.txSa s y fuel).1.keep = s.keep := by
  induction fuel generalizing s with
  | zero => simp -implicitDefEqProofs only [State.txSa, ite_keep, ite1_keep, ite2_keep, foldl_keep, foldl1_keep, foldl2_keep, ite_self, implies_true, keep_mk, State.irq_keep, State.lastEvt_keep, State.secyCount_keep, State.setF_keep, State.setInUse_keep]
  | succ k ih =>
    unfold State.txSa
    simp only
    repeat' (first | (simp -implicitDefEqProofs only [ite_keep, ite1_keep, ite2_keep, foldl_keep, foldl1_keep, foldl2_keep, ite_self, implies_true, keep_mk, State.irq_keep, State.lastEvt_keep, State.secyCount_keep, State.setF_keep, State.setInUse_keep, ih, *]; done) | split)
theorem State.pnThresh_keep (s : State) (y sa : Nat) : (State.pnThresh s y sa).keep = s.keep := by
  simp -implicitDefEqProofs only [State.pnThresh, ite_keep, ite1_keep, ite2_keep, foldl_keep, foldl1_keep, foldl2_keep, ite_self, implies_true, keep_mk, State.irq_keep, State.lastEvt_keep]
theorem State.mscTx_keep (s : State) (p : Nat) (ud : Nat) (l : List Byte) : (State.mscTx s p ud l).1.keep = s.keep := by
  unfold State.mscTx
  repeat' (first | (simp -implicitDefEqProofs only [ite_keep, ite1_keep, ite2_keep, foldl_keep, foldl1_keep, foldl2_keep, ite_self, implies_true, keep_mk, State.bump_keep, State.event_keep, State.pnThresh_keep, State.saCount_keep, State.secyCount_keep, State.setNextPn_keep, State.txSa_keep, *]; done) | split | (refine (foldl_keep _ _ _ (fun t a => ?_)).trans ?_) | (refine (foldl1_keep _ _ _ (fun t a => ?_)).trans ?_) | (refine (foldl2_keep _ _ _ (fun t a => ?_)).trans ?_) | (simp -implicitDefEqProofs only [ite_keep, ite1_keep, ite2_keep, foldl_keep, foldl1_keep, foldl2_keep, ite_self, implies_true, keep_mk, State.bump_keep, State.event_keep, State.pnThresh_keep, State.saCount_keep, State.secyCount_keep, State.setNextPn_keep, State.txSa_keep, *]))
theorem State.secAccept_keep (s : State) (sa pn : Nat) : (State.secAccept s sa pn).keep = s.keep := by
  simp -implicitDefEqProofs only [State.secAccept, ite_keep, ite1_keep, ite2_keep, foldl_keep, foldl1_keep, foldl2_keep, ite_self, implies_true, keep_mk, State.event_keep, State.saCount_keep, State.setNextPn_keep]
theorem State.mscRx_keep (s : State) (p : Nat) (l : List Byte) : (State.mscRx s p l).1.keep = s.keep := by
  unfold State.mscRx
  repeat' (first | (simp -implicitDefEqProofs only [ite_keep, ite1_keep, ite2_keep, foldl_keep, foldl1_keep, foldl2_keep, ite_self, implies_true, keep_mk, State.bump_keep, State.saCount_keep, State.secyCount_keep, *]; done) | split | (refine (foldl_keep _ _ _ (fun t a => ?_)).trans ?_) | (refine (foldl1_keep _ _ _ (fun t a => ?_)).trans ?_) | (refine (foldl2_keep _ _ _ (fun t a => ?_)).trans ?_) | (simp -implicitDefEqProofs only [ite_keep, ite1_keep, ite2_keep, foldl_keep, foldl1_keep, foldl2_keep, ite_self, implies_true, keep_mk, State.bump_keep, State.saCount_keep, State.secyCount_keep, *]))
theorem State.secVerify_keep (s : State) (sa pn : Nat) (good : Bool) : (State.secVerify s sa pn good).1.keep = s.keep := by
  simp -implicitDefEqProofs only [State.secVerify, ite_keep, ite1_keep, ite2_keep, foldl_keep, foldl1_keep, foldl2_keep, ite_self, implies_true, keep_mk, State.saCount_keep, State.secAccept_keep]
theorem State.secRelease_keep (s : State) (p y sa pn : Nat) (good : Bool) : (State.secRelease s p y sa pn good).1.keep = s.keep := by
  simp -implicitDefEqProofs only [State.secRelease, ite_keep, ite1_keep, ite2_keep, foldl_keep, foldl1_keep, foldl2_keep, ite_self, implies_true, keep_mk, State.setPort_keep]
theorem State.lateFail_keep (s : State) (tok : Nat) : (State.lateFail s tok).keep = s.keep := by
  simp -implicitDefEqProofs only [State.lateFail, ite_keep, ite1_keep, ite2_keep, foldl_keep, foldl1_keep, foldl2_keep, ite_self, implies_true, keep_mk, State.arriving_keep]
theorem State.icvDone_keep (s : State) (i : Icv) : (State.icvDone s i).keep = s.keep := by
  simp -implicitDefEqProofs only [State.icvDone, ite_keep, ite1_keep, ite2_keep, foldl_keep, foldl1_keep, foldl2_keep, ite_self, implies_true, keep_mk, State.irq_keep, State.lateFail_keep, State.saCount_keep, State.secAccept_keep, State.secyCount_keep]
theorem State.icvNext_keep (s : State) (p : Nat) : (State.icvNext s p).keep = s.keep := by
  unfold State.icvNext; (repeat' split) <;> simp -implicitDefEqProofs only [ite_keep, ite1_keep, ite2_keep, foldl_keep, foldl1_keep, foldl2_keep, ite_self, implies_true, keep_mk, State.icvDone_keep, State.setPort_keep]
theorem State.icvOld_keep (s : State) (p slot : Nat) (fuel : Nat) : (State.icvOld s p slot fuel).keep = s.keep := by
  induction fuel generalizing s with
  | zero => simp -implicitDefEqProofs only [State.icvOld]
  | succ k ih =>
    unfold State.icvOld
    repeat' (first | (simp -implicitDefEqProofs only [ite_keep, ite1_keep, ite2_keep, foldl_keep, foldl1_keep, foldl2_keep, ite_self, implies_true, keep_mk, State.icvNext_keep, ih, *]; done) | split | (simp -implicitDefEqProofs only [ite_keep, ite1_keep, ite2_keep, foldl_keep, foldl1_keep, foldl2_keep, ite_self, implies_true, keep_mk, State.icvNext_keep, ih, *]))
theorem State.writeNextPn_keep (s : State) (sa pn : Nat) : (State.writeNextPn s sa pn).keep = s.keep := by
  simp -implicitDefEqProofs only [State.writeNextPn, ite_keep, ite1_keep, ite2_keep, foldl_keep, foldl1_keep, foldl2_keep, ite_self, implies_true, keep_mk, State.badAcc_keep, State.pnMark_keep, State.wr64_keep]
theorem State.ctxCfgWr_keep (s : State) (u : Nat) (w : Word) : (State.ctxCfgWr s u w).keep = s.keep := by
  unfold State.ctxCfgWr; (repeat' split) <;> simp -implicitDefEqProofs only [ite_keep, ite1_keep, ite2_keep, foldl_keep, foldl1_keep, foldl2_keep, ite_self, implies_true, keep_mk, State.denied_keep, State.setF_keep, State.setInUse_keep]
theorem State.mscReset_keep (s : State) : (State.mscReset s).keep = s.keep := by
  simp -implicitDefEqProofs only [State.mscReset, ite_keep, ite1_keep, ite2_keep, foldl_keep, foldl1_keep, foldl2_keep, ite_self, implies_true, keep_mk, State.bump_keep, State.lateFail_keep]
theorem State.egrStage_keep (g : Nat) (p : Pkt) (acc : State × EgrSt) (e : Nat) : (State.egrStage g p acc e).1.keep = acc.1.keep := by
  unfold State.egrStage
  repeat' (first | (simp -implicitDefEqProofs only [ite_keep, ite1_keep, ite2_keep, foldl_keep, foldl1_keep, foldl2_keep, ite_self, implies_true, keep_mk, State.bump_keep, State.lookEffect_keep, *]; done) | split | (simp -implicitDefEqProofs only [ite_keep, ite1_keep, ite2_keep, foldl_keep, foldl1_keep, foldl2_keep, ite_self, implies_true, keep_mk, State.bump_keep, State.lookEffect_keep, *]))
theorem State.egrDrop_keep (s : State) (p : Pkt) : (State.egrDrop s p).keep = s.keep := by
  unfold State.egrDrop; (repeat' split) <;> simp -implicitDefEqProofs only [ite_keep, ite1_keep, ite2_keep, foldl_keep, foldl1_keep, foldl2_keep, ite_self, implies_true, keep_mk, State.gcount_keep, State.release_keep]
theorem State.egrRaise_keep (s : State) (g : Nat) (p : Pkt) (code : Nat) : (State.egrRaise s g p code).keep = s.keep := by
  simp -implicitDefEqProofs only [State.egrRaise, ite_keep, ite1_keep, ite2_keep, foldl_keep, foldl1_keep, foldl2_keep, ite_self, implies_true, keep_mk, State.egrDrop_keep, State.raise_keep]
theorem State.toLift_keep (s : State) (g : Nat) (p : Pkt) : (State.toLift s g p).keep = s.keep := by
  unfold State.toLift; (repeat' split) <;> simp -implicitDefEqProofs only [ite_keep, ite1_keep, ite2_keep, foldl_keep, foldl1_keep, foldl2_keep, ite_self, implies_true, keep_mk, State.bump_keep, State.egrDrop_keep, State.event_keep, State.gcount_keep, State.irq_keep, State.setEp_keep]
theorem State.shimSent_keep (s : State) (t : BondTag) : (State.shimSent s t).keep = s.keep := by
  simp -implicitDefEqProofs only [State.shimSent, ite_keep, ite1_keep, ite2_keep, foldl_keep, foldl1_keep, foldl2_keep, ite_self, implies_true, keep_mk, State.event_keep, State.gcount_keep, State.setGrp_keep, State.setMem_keep]
theorem State.toMac_keep (s : State) (p : Nat) (f : TxFrame) : (State.toMac s p f).keep = s.keep := by
  unfold State.toMac; (repeat' split) <;> simp -implicitDefEqProofs only [ite_keep, ite1_keep, ite2_keep, foldl_keep, foldl1_keep, foldl2_keep, ite_self, implies_true, keep_mk, State.gcount_keep, State.pcount_keep, State.setPort_keep, State.txRelease_keep]
theorem State.toPort_keep (s : State) (port tpl : Nat) (poison : Bool) (p : Pkt) : (State.toPort s port tpl poison p).keep = s.keep := by
  unfold State.toPort
  repeat' (first | (simp -implicitDefEqProofs only [ite_keep, ite1_keep, ite2_keep, foldl_keep, foldl1_keep, foldl2_keep, ite_self, implies_true, keep_mk, State.egrDrop_keep, State.gcount_keep, State.mscTx_keep, State.shimSent_keep, State.toMac_keep, *]; done) | split | (refine (foldl_keep _ _ _ (fun t a => ?_)).trans ?_) | (refine (foldl1_keep _ _ _ (fun t a => ?_)).trans ?_) | (refine (foldl2_keep _ _ _ (fun t a => ?_)).trans ?_) | (simp -implicitDefEqProofs only [ite_keep, ite1_keep, ite2_keep, foldl_keep, foldl1_keep, foldl2_keep, ite_self, implies_true, keep_mk, State.egrDrop_keep, State.gcount_keep, State.mscTx_keep, State.shimSent_keep, State.toMac_keep, *]))
theorem State.egrSend_keep (s : State) (g port tpl : Nat) (p : Pkt) (f : List Byte) : (State.egrSend s g port tpl p f).keep = s.keep := by
  simp -implicitDefEqProofs only [State.egrSend, ite_keep, ite1_keep, ite2_keep, foldl_keep, foldl1_keep, foldl2_keep, ite_self, implies_true, keep_mk, State.egrRaise_keep, State.raise_keep, State.toPort_keep]
theorem State.egrRewrite_keep (s : State) (g port : Nat) (p : Pkt) (t : EgrSt) : (State.egrRewrite s g port p t).keep = s.keep := by
  unfold State.egrRewrite
  cases s.rewrite g (s.egrTpl g t.tpl) t.ud p.bytes
  · exact State.egrRaise_keep _ _ _ _
  · simp -implicitDefEqProofs only [Option.elim, ite_keep, ite1_keep, ite2_keep, foldl_keep, foldl1_keep, foldl2_keep, ite_self, implies_true, keep_mk, State.egrRaise_keep, State.egrSend_keep, State.toLift_keep]
theorem State.egressOut_keep (s : State) (g port : Nat) (p : Pkt) (t : EgrSt) : (State.egressOut s g port p t).keep = s.keep := by
  simp -implicitDefEqProofs only [State.egressOut, ite_keep, ite1_keep, ite2_keep, foldl_keep, foldl1_keep, foldl2_keep, ite_self, implies_true, keep_mk, State.bump_keep, State.egrDrop_keep, State.egrRaise_keep, State.egrRewrite_keep]
theorem State.egress_keep (s : State) (g port : Nat) (p : Pkt) : (State.egress s g port p).keep = s.keep := by
  unfold State.egress
  simp only
  rw [State.egressOut_keep, foldl1_keep _ _ _ (fun t a => State.egrStage_keep g p t a)]
  simp -implicitDefEqProofs only [ite_keep, ite1_keep, ite2_keep, foldl_keep, foldl1_keep, foldl2_keep, ite_self, implies_true, keep_mk, State.egrStage_keep, State.egressOut_keep, State.event_keep]
theorem State.epReset_keep (s : State) (g : Nat) : (State.epReset s g).keep = s.keep := by
  simp -implicitDefEqProofs only [State.epReset, ite_keep, ite1_keep, ite2_keep, foldl_keep, foldl1_keep, foldl2_keep, ite_self, implies_true, keep_mk, State.addF_keep, State.egrDrop_keep, State.setEp_keep]
theorem State.hbSend_keep (s : State) (g m : Nat) : (State.hbSend s g m).keep = s.keep := by
  unfold State.hbSend
  repeat' (first | (simp -implicitDefEqProofs only [ite_keep, ite1_keep, ite2_keep, foldl_keep, foldl1_keep, foldl2_keep, ite_self, implies_true, keep_mk, State.mscTx_keep, State.setGrp_keep, State.setMem_keep, State.setPort_keep, *]; done) | split | (refine (foldl_keep _ _ _ (fun t a => ?_)).trans ?_) | (refine (foldl1_keep _ _ _ (fun t a => ?_)).trans ?_) | (refine (foldl2_keep _ _ _ (fun t a => ?_)).trans ?_) | (simp -implicitDefEqProofs only [ite_keep, ite1_keep, ite2_keep, foldl_keep, foldl1_keep, foldl2_keep, ite_self, implies_true, keep_mk, State.mscTx_keep, State.setGrp_keep, State.setMem_keep, State.setPort_keep, *]))
theorem State.rxDeliver_keep (s : State) (p : Nat) (k : Pkt) : (State.rxDeliver s p k).keep = s.keep := by
  simp -implicitDefEqProofs only [State.rxDeliver, ite_keep, ite1_keep, ite2_keep, foldl_keep, foldl1_keep, foldl2_keep, ite_self, implies_true, keep_mk, State.fault_keep, State.pcount_keep, State.setPg_keep, State.setPort_keep]
theorem State.rxSec_keep (s : State) (p : Nat) (k : Pkt) : (State.rxSec s p k).keep = s.keep := by
  unfold State.rxSec
  repeat' (first | (simp -implicitDefEqProofs only [ite_keep, ite1_keep, ite2_keep, foldl_keep, foldl1_keep, foldl2_keep, ite_self, implies_true, keep_mk, State.mscRx_keep, State.rxDeliver_keep, State.secRelease_keep, State.secVerify_keep, *]; done) | split | (refine (foldl_keep _ _ _ (fun t a => ?_)).trans ?_) | (refine (foldl1_keep _ _ _ (fun t a => ?_)).trans ?_) | (refine (foldl2_keep _ _ _ (fun t a => ?_)).trans ?_) | (simp -implicitDefEqProofs only [ite_keep, ite1_keep, ite2_keep, foldl_keep, foldl1_keep, foldl2_keep, ite_self, implies_true, keep_mk, State.mscRx_keep, State.rxDeliver_keep, State.secRelease_keep, State.secVerify_keep, *]))
theorem State.macCheck_keep (s : State) (p : Nat) (wire : List Byte) (fec : Bool) (ingTs : Nat) (stored : Bool) : (State.macCheck s p wire fec ingTs stored).keep = s.keep := by
  simp -implicitDefEqProofs only [State.macCheck, ite_keep, ite1_keep, ite2_keep, foldl_keep, foldl1_keep, foldl2_keep, ite_self, implies_true, keep_mk, State.pauseApply_keep, State.pcount_keep, State.pfcApply_keep, State.rxSec_keep]
theorem State.frameIn_keep (s : State) (p : Nat) (wire : List Byte) (fec : Bool) (corr : Nat) : (State.frameIn s p wire fec corr).keep = s.keep := by
  unfold State.frameIn
  repeat' (first | (simp -implicitDefEqProofs only [ite_keep, ite1_keep, ite2_keep, foldl_keep, foldl1_keep, foldl2_keep, ite_self, implies_true, keep_mk, State.addF_keep, State.event_keep, State.macCheck_keep, State.mogAct_keep, State.pcount_keep, *]; done) | split | (refine (foldl_keep _ _ _ (fun t a => ?_)).trans ?_) | (refine (foldl1_keep _ _ _ (fun t a => ?_)).trans ?_) | (refine (foldl2_keep _ _ _ (fun t a => ?_)).trans ?_) | (simp -implicitDefEqProofs only [ite_keep, ite1_keep, ite2_keep, foldl_keep, foldl1_keep, foldl2_keep, ite_self, implies_true, keep_mk, State.addF_keep, State.event_keep, State.macCheck_keep, State.mogAct_keep, State.pcount_keep, *]))
theorem State.sendWire_keep (s : State) (p : Nat) (f : TxFrame) (wire : List Byte) : (State.sendWire s p f wire).keep = s.keep := by
  simp -implicitDefEqProofs only [State.sendWire, ite_keep, ite1_keep, ite2_keep, foldl_keep, foldl1_keep, foldl2_keep, ite_self, implies_true, keep_mk, State.emitPort_keep, State.event_keep, State.irq_keep, State.pcAdd_keep, State.pcount_keep, State.setPort_keep, State.tsfPush_keep, State.txRelease_keep]
theorem State.linkDrop_keep (s : State) (p : Nat) (f : TxFrame) : (State.linkDrop s p f).keep = s.keep := by
  unfold State.linkDrop; (repeat' split) <;> simp -implicitDefEqProofs only [ite_keep, ite1_keep, ite2_keep, foldl_keep, foldl1_keep, foldl2_keep, ite_self, implies_true, keep_mk, State.gcount_keep, State.pcount_keep, State.txRelease_keep]
theorem State.txClear_keep (s : State) (p : Nat) : (State.txClear s p).keep = s.keep := by
  simp -implicitDefEqProofs only [State.txClear, ite_keep, ite1_keep, ite2_keep, foldl_keep, foldl1_keep, foldl2_keep, ite_self, implies_true, keep_mk, State.txFinish_keep, State.txResume_keep]
theorem State.txLost_keep (s : State) (p : Nat) : (State.txLost s p).keep = s.keep := by
  unfold State.txLost; (repeat' split) <;> simp -implicitDefEqProofs only [ite_keep, ite1_keep, ite2_keep, foldl_keep, foldl1_keep, foldl2_keep, ite_self, implies_true, keep_mk, State.linkDrop_keep, State.setPort_keep]
theorem State.txBefore_keep (s : State) (p : Nat) : (State.txBefore s p).keep = s.keep := by
  unfold State.txBefore; (repeat' split) <;> simp -implicitDefEqProofs only [ite_keep, ite1_keep, ite2_keep, foldl_keep, foldl1_keep, foldl2_keep, ite_self, implies_true, keep_mk, State.txCut_keep, State.txFinish_keep, State.txLost_keep, State.txResume_keep]
theorem State.txTake_keep (s : State) (p : Nat) : (State.txTake s p).keep = s.keep := by
  unfold State.txTake
  repeat' (first | (simp -implicitDefEqProofs only [ite_keep, ite1_keep, ite2_keep, foldl_keep, foldl1_keep, foldl2_keep, ite_self, implies_true, keep_mk, State.linkDrop_keep, State.mogAct_keep, State.sendWire_keep, State.setPort_keep, State.txRelease_keep, *]; done) | split | (refine (foldl_keep _ _ _ (fun t a => ?_)).trans ?_) | (refine (foldl1_keep _ _ _ (fun t a => ?_)).trans ?_) | (refine (foldl2_keep _ _ _ (fun t a => ?_)).trans ?_) | (simp -implicitDefEqProofs only [ite_keep, ite1_keep, ite2_keep, foldl_keep, foldl1_keep, foldl2_keep, ite_self, implies_true, keep_mk, State.linkDrop_keep, State.mogAct_keep, State.sendWire_keep, State.setPort_keep, State.txRelease_keep, *]))
theorem State.mogRelease_keep (s : State) (g : Nat) (h : MogHeld) : (State.mogRelease s g h).keep = s.keep := by
  unfold State.mogRelease; (repeat' split) <;> simp -implicitDefEqProofs only [ite_keep, ite1_keep, ite2_keep, foldl_keep, foldl1_keep, foldl2_keep, ite_self, implies_true, keep_mk, State.linkDrop_keep, State.macCheck_keep, State.mogTake_keep, State.pcount_keep, State.sendWire_keep, State.setPort_keep, State.txClear_keep, State.txCut_keep]
theorem State.mogLeave_keep (s : State) : (State.mogLeave s).keep = s.keep := by
  simp -implicitDefEqProofs only [State.mogLeave, ite_keep, ite1_keep, ite2_keep, foldl_keep, foldl1_keep, foldl2_keep, ite_self, implies_true, keep_mk, State.flapEnds_keep, State.irq_keep, State.mogRelease_keep, State.setF_keep]
theorem State.mogFlush_keep (s : State) (g : Nat) : (State.mogFlush s g).keep = s.keep := by
  simp -implicitDefEqProofs only [State.mogFlush, ite_keep, ite1_keep, ite2_keep, foldl_keep, foldl1_keep, foldl2_keep, ite_self, implies_true, keep_mk, State.addF_keep, State.setPg_keep, State.txRelease_keep]
theorem State.linkMoved_keep (s : State) (p : Nat) : (State.linkMoved s p).keep = s.keep := by
  simp -implicitDefEqProofs only [State.linkMoved, ite_keep, ite1_keep, ite2_keep, foldl_keep, foldl1_keep, foldl2_keep, ite_self, implies_true, keep_mk, State.blgPort_keep, State.linkChg_keep, State.setPort_keep, State.xokPoll_keep]
theorem State.portOff_keep (s : State) (p : Nat) : (State.portOff s p).keep = s.keep := by
  simp -implicitDefEqProofs only [State.portOff, ite_keep, ite1_keep, ite2_keep, foldl_keep, foldl1_keep, foldl2_keep, ite_self, implies_true, keep_mk, State.linkMoved_keep, State.sends_keep, State.setPort_keep, State.txClear_keep]
theorem State.pgPortsOff_keep (s : State) (g : Nat) : (State.pgPortsOff s g).keep = s.keep := by
  simp -implicitDefEqProofs only [State.pgPortsOff, ite_keep, ite1_keep, ite2_keep, foldl_keep, foldl1_keep, foldl2_keep, ite_self, implies_true, keep_mk, State.portOff_keep]
theorem State.pgReset_keep (s : State) (g : Nat) : (State.pgReset s g).keep = s.keep := by
  simp -implicitDefEqProofs only [State.pgReset, ite_keep, ite1_keep, ite2_keep, foldl_keep, foldl1_keep, foldl2_keep, ite_self, implies_true, keep_mk, State.flapEnds_keep, State.pgPortsOff_keep, State.setF_keep, State.setPg_keep, State.setPort_keep, State.txRelease_keep]
theorem State.tellRefused_keep (s : State) (r : Nat × Nat) : (State.tellRefused s r).keep = s.keep := by
  simp -implicitDefEqProofs only [State.tellRefused, ite_keep, ite1_keep, ite2_keep, foldl_keep, foldl1_keep, foldl2_keep, ite_self, implies_true, keep_mk, State.eddyRefused_keep, State.emit_keep, State.tmgRefused_keep]
theorem State.tellGranted_keep (s : State) (r : Nat × Nat) (page : Nat) : (State.tellGranted s r page).keep = s.keep := by
  simp -implicitDefEqProofs only [State.tellGranted, ite_keep, ite1_keep, ite2_keep, foldl_keep, foldl1_keep, foldl2_keep, ite_self, implies_true, keep_mk, State.eddyGrant_keep, State.emit_keep, State.tmgGrant_keep]
theorem State.pageClock_keep (s : State) : (State.pageClock s).keep = s.keep := by
  unfold State.pageClock
  repeat' (first | (simp -implicitDefEqProofs only [ite_keep, ite1_keep, ite2_keep, foldl_keep, foldl1_keep, foldl2_keep, ite_self, implies_true, keep_mk, State.grantClock_keep, State.tellGranted_keep, State.tellRefused_keep, *]; done) | split | (refine (foldl_keep _ _ _ (fun t a => ?_)).trans ?_) | (refine (foldl1_keep _ _ _ (fun t a => ?_)).trans ?_) | (refine (foldl2_keep _ _ _ (fun t a => ?_)).trans ?_) | (simp -implicitDefEqProofs only [ite_keep, ite1_keep, ite2_keep, foldl_keep, foldl1_keep, foldl2_keep, ite_self, implies_true, keep_mk, State.grantClock_keep, State.tellGranted_keep, State.tellRefused_keep, *]))
theorem State.hostAlloc_keep (s : State) : (State.hostAlloc s).keep = s.keep := by
  simp -implicitDefEqProofs only [State.hostAlloc, ite_keep, ite1_keep, ite2_keep, foldl_keep, foldl1_keep, foldl2_keep, ite_self, implies_true, keep_mk, State.askPage_keep, State.countRefusal_keep, State.emit_keep]
theorem State.hostPut_keep (s : State) (u a : Nat) (bytes : List Byte) : (State.hostPut s u a bytes).keep = s.keep := by
  simp -implicitDefEqProofs only [State.hostPut, ite_keep, ite1_keep, ite2_keep, foldl_keep, foldl1_keep, foldl2_keep, ite_self, implies_true, keep_mk, State.emit_keep]
theorem State.hostGet_keep (s : State) (u a n : Nat) : (State.hostGet s u a n).keep = s.keep := by
  simp -implicitDefEqProofs only [State.hostGet, ite_keep, ite1_keep, ite2_keep, foldl_keep, foldl1_keep, foldl2_keep, ite_self, implies_true, keep_mk, State.emit_keep]
theorem State.cplErr_keep (s : State) (u kind unit at_ : Nat) : (State.cplErr s u kind unit at_).keep = s.keep := by
  simp -implicitDefEqProofs only [State.cplErr, ite_keep, ite1_keep, ite2_keep, foldl_keep, foldl1_keep, foldl2_keep, ite_self, implies_true, keep_mk, State.bump_keep, State.fault_keep, State.irq_keep, State.setF_keep, State.until_keep]
theorem State.qpPoll_keep (s : State) (u q : Nat) : (State.qpPoll s u q).keep = s.keep := by
  simp -implicitDefEqProofs only [State.qpPoll, ite_keep, ite1_keep, ite2_keep, foldl_keep, foldl1_keep, foldl2_keep, ite_self, implies_true, keep_mk, State.sendMsix_keep]
theorem State.qpDone_keep (s : State) (u q : Nat) : (State.qpDone s u q).keep = s.keep := by
  simp -implicitDefEqProofs only [State.qpDone, ite_keep, ite1_keep, ite2_keep, foldl_keep, foldl1_keep, foldl2_keep, ite_self, implies_true, keep_mk, State.qpPoll_keep]
theorem State.injCharge_keep (s : State) (u bytes : Nat) : (State.injCharge s u bytes).keep = s.keep := by
  simp -implicitDefEqProofs only [State.injCharge, ite_keep, ite1_keep, ite2_keep, foldl_keep, foldl1_keep, foldl2_keep, ite_self, implies_true, keep_mk]
theorem State.txDone_keep (s : State) (u q st : Nat) : (State.txDone s u q st).keep = s.keep := by
  simp -implicitDefEqProofs only [State.txDone, ite_keep, ite1_keep, ite2_keep, foldl_keep, foldl1_keep, foldl2_keep, ite_self, implies_true, keep_mk, State.bump_keep, State.hostPut_keep, State.qpDone_keep, State.setB_keep, State.setF_keep]
theorem State.inject_keep (s : State) (u q : Nat) (buf : List Byte) : (State.inject s u q buf).keep = s.keep := by
  simp -implicitDefEqProofs only [State.inject, ite_keep, ite1_keep, ite2_keep, foldl_keep, foldl1_keep, foldl2_keep, ite_self, implies_true, keep_mk, State.bump_keep, State.drawFree_keep, State.event_keep, State.injCharge_keep, State.setIp_keep]
theorem State.txReads_keep (s : State) (u q : Nat) (desc buf : Cpl) : (State.txReads s u q desc buf).keep = s.keep := by
  unfold State.txReads; (repeat' split) <;> simp -implicitDefEqProofs only [ite_keep, ite1_keep, ite2_keep, foldl_keep, foldl1_keep, foldl2_keep, ite_self, implies_true, keep_mk, State.cplErr_keep, State.hostGet_keep]
theorem State.txServed_keep (s : State) (u q : Nat) : (State.txServed s u q).keep = s.keep := by
  simp -implicitDefEqProofs only [State.txServed, ite_keep, ite1_keep, ite2_keep, foldl_keep, foldl1_keep, foldl2_keep, ite_self, implies_true, keep_mk]
theorem State.txUnheld_keep (s : State) (u q : Nat) : (State.txUnheld s u q).keep = s.keep := by
  simp -implicitDefEqProofs only [State.txUnheld, ite_keep, ite1_keep, ite2_keep, foldl_keep, foldl1_keep, foldl2_keep, ite_self, implies_true, keep_mk]
theorem State.txFlush_keep (s : State) (u q : Nat) : (State.txFlush s u q).keep = s.keep := by
  unfold State.txFlush; (repeat' split) <;> simp -implicitDefEqProofs only [ite_keep, ite1_keep, ite2_keep, foldl_keep, foldl1_keep, foldl2_keep, ite_self, implies_true, keep_mk, State.txDone_keep, State.txUnheld_keep]
theorem State.descTake_keep (s : State) (u q : Nat) (desc buf : Cpl) : (State.descTake s u q desc buf).keep = s.keep := by
  simp -implicitDefEqProofs only [State.descTake, ite_keep, ite1_keep, ite2_keep, foldl_keep, foldl1_keep, foldl2_keep, ite_self, implies_true, keep_mk, State.inject_keep, State.txDone_keep, State.txReads_keep]
theorem State.hostLeave_keep (s : State) (hq : Nat) (x : QPkt) : (State.hostLeave s hq x).keep = s.keep := by
  simp -implicitDefEqProofs only [State.hostLeave, ite_keep, ite1_keep, ite2_keep, foldl_keep, foldl1_keep, foldl2_keep, ite_self, implies_true, keep_mk, State.freeRef_keep, State.pump_keep, State.release_keep, State.tmgUnhold_keep, State.unqueue_keep]
theorem State.rxWrite_keep (s : State) (u q : Nat) (x : QPkt) (copy : Bool) (ring : List Byte) : (State.rxWrite s u q x copy ring).keep = s.keep := by
  simp -implicitDefEqProofs only [State.rxWrite, ite_keep, ite1_keep, ite2_keep, foldl_keep, foldl1_keep, foldl2_keep, ite_self, implies_true, keep_mk, State.bump_keep, State.hostGet_keep, State.hostPut_keep, State.qpDone_keep, State.setB_keep, State.setF_keep]
theorem State.hostHead_keep (s : State) (hq : Nat) (fuel : Nat) : (State.hostHead s hq fuel).keep = s.keep := by
  induction fuel generalizing s with
  | zero => simp -implicitDefEqProofs only [State.hostHead]
  | succ k ih =>
    unfold State.hostHead
    repeat' (first | (simp -implicitDefEqProofs only [ite_keep, ite1_keep, ite2_keep, foldl_keep, foldl1_keep, foldl2_keep, ite_self, implies_true, keep_mk, State.kill_keep, State.pump_keep, ih, *]; done) | split | (simp -implicitDefEqProofs only [ite_keep, ite1_keep, ite2_keep, foldl_keep, foldl1_keep, foldl2_keep, ite_self, implies_true, keep_mk, State.kill_keep, State.pump_keep, ih, *]))
theorem State.linkUp_keep (s : State) (v : Bool) : (State.linkUp s v).keep = s.keep := by
  simp -implicitDefEqProofs only [State.linkUp, ite_keep, ite1_keep, ite2_keep, foldl_keep, foldl1_keep, foldl2_keep, ite_self, implies_true, keep_mk, State.irq_keep, State.setF_keep]
theorem State.msixPoll_keep (s : State) (u : Nat) : (State.msixPoll s u).keep = s.keep := by
  simp -implicitDefEqProofs only [State.msixPoll, ite_keep, ite1_keep, ite2_keep, foldl_keep, foldl1_keep, foldl2_keep, ite_self, implies_true, keep_mk]
theorem State.qpUnc_keep (s : State) (u q : Nat) : (State.qpUnc s u q).keep = s.keep := by
  simp -implicitDefEqProofs only [State.qpUnc, ite_keep, ite1_keep, ite2_keep, foldl_keep, foldl1_keep, foldl2_keep, ite_self, implies_true, keep_mk, State.setF_keep, State.txFlush_keep]
theorem State.linkCorr_keep (s : State) (k : Nat) : (State.linkCorr s k).keep = s.keep := by
  simp -implicitDefEqProofs only [State.linkCorr, ite_keep, ite1_keep, ite2_keep, foldl_keep, foldl1_keep, foldl2_keep, ite_self, implies_true, keep_mk]
theorem State.setDch_keep (s : State) (c : Nat) (v : DmaCh) : (State.setDch s c v).keep = s.keep := by
  simp -implicitDefEqProofs only [State.setDch, ite_keep, ite1_keep, ite2_keep, foldl_keep, foldl1_keep, foldl2_keep, ite_self, implies_true, keep_mk]
theorem State.dmaGo_keep (s : State) (c st : Nat) : (State.dmaGo s c st).keep = s.keep := by
  simp -implicitDefEqProofs only [State.dmaGo, ite_keep, ite1_keep, ite2_keep, foldl_keep, foldl1_keep, foldl2_keep, ite_self, implies_true, keep_mk, State.setF_keep]
theorem State.dmaEdge_keep (s : State) (c : Nat) (before : Bool) : (State.dmaEdge s c before).keep = s.keep := by
  simp -implicitDefEqProofs only [State.dmaEdge, ite_keep, ite1_keep, ite2_keep, foldl_keep, foldl1_keep, foldl2_keep, ite_self, implies_true, keep_mk, State.sendMsix_keep]
theorem State.dmaErrBit_keep (s : State) (c : Nat) : (State.dmaErrBit s c).keep = s.keep := by
  simp -implicitDefEqProofs only [State.dmaErrBit, ite_keep, ite1_keep, ite2_keep, foldl_keep, foldl1_keep, foldl2_keep, ite_self, implies_true, keep_mk, State.irq_keep, State.setB_keep]
theorem State.dmaTrigger_keep (s : State) (kind n : Nat) : (State.dmaTrigger s kind n).keep = s.keep := by
  unfold State.dmaTrigger
  repeat' (first | (simp -implicitDefEqProofs only [ite_keep, ite1_keep, ite2_keep, foldl_keep, foldl1_keep, foldl2_keep, ite_self, implies_true, keep_mk, State.bump_keep, State.dmaGo_keep, State.setDch_keep, *]; done) | split | (refine (foldl_keep _ _ _ (fun t a => ?_)).trans ?_) | (refine (foldl1_keep _ _ _ (fun t a => ?_)).trans ?_) | (refine (foldl2_keep _ _ _ (fun t a => ?_)).trans ?_) | (simp -implicitDefEqProofs only [ite_keep, ite1_keep, ite2_keep, foldl_keep, foldl1_keep, foldl2_keep, ite_self, implies_true, keep_mk, State.bump_keep, State.dmaGo_keep, State.setDch_keep, *]))
theorem State.dmaFinish_keep (s : State) (c status : Nat) (late : Bool) (resid : Nat) (wb : Bool) : (State.dmaFinish s c status late resid wb).keep = s.keep := by
  unfold State.dmaFinish; (repeat' split) <;> simp -implicitDefEqProofs only [ite_keep, ite1_keep, ite2_keep, foldl_keep, foldl1_keep, foldl2_keep, ite_self, implies_true, keep_mk, State.bump_keep, State.dmaEdge_keep, State.dmaErrBit_keep, State.dmaGo_keep, State.dmaTrigger_keep, State.hostPut_keep, State.setB_keep, State.setDch_keep, State.setF_keep]
theorem State.dmaStop_keep (s : State) (mute : Bool) : (State.dmaStop s mute).keep = s.keep := by
  unfold State.dmaStop; (repeat' split) <;> simp -implicitDefEqProofs only [ite_keep, ite1_keep, ite2_keep, foldl_keep, foldl1_keep, foldl2_keep, ite_self, implies_true, keep_mk, State.drcSweep_keep]
theorem State.dctlWr_keep (s : State) (c : Nat) (w : Word) : (State.dctlWr s c w).keep = s.keep := by
  simp -implicitDefEqProofs only [State.dctlWr, ite_keep, ite1_keep, ite2_keep, foldl_keep, foldl1_keep, foldl2_keep, ite_self, implies_true, keep_mk, State.dmaGo_keep, State.dmaStop_keep, State.setDch_keep, State.setF_keep]
theorem State.userDctl_keep (s : State) (u : Nat) (w : Word) : (State.userDctl s u w).keep = s.keep := by
  unfold State.userDctl
  refine State.userWr_keep _ _ _ _ _ (fun t => ?_)
  split <;> simp -implicitDefEqProofs only [ite_keep, ite1_keep, ite2_keep, foldl_keep, foldl1_keep, foldl2_keep, ite_self, implies_true, keep_mk, State.dctlWr_keep, State.denied_keep, State.userWr_keep]
theorem State.setX_keep (s : State) (x : DmaXfer) : (State.setX s x).keep = s.keep := by
  simp -implicitDefEqProofs only [State.setX, ite_keep, ite1_keep, ite2_keep, foldl_keep, foldl1_keep, foldl2_keep, ite_self, implies_true, keep_mk]
theorem State.dmaRead_keep (s : State) (x : DmaXfer) (d : List Byte) : (State.dmaRead s x d).1.keep = s.keep := by
  unfold State.dmaRead; (repeat' split) <;> simp -implicitDefEqProofs only [ite_keep, ite1_keep, ite2_keep, foldl_keep, foldl1_keep, foldl2_keep, ite_self, implies_true, keep_mk, State.drcPut_keep, State.emit_keep]
theorem State.dmaReads_keep (s : State) (x : DmaXfer) (d : List Byte) : (State.dmaReads s x d).keep = s.keep := by
  simp -implicitDefEqProofs only [State.dmaReads, ite_keep, ite1_keep, ite2_keep, foldl_keep, foldl1_keep, foldl2_keep, ite_self, implies_true, keep_mk, State.dmaRead_keep, State.setX_keep]
theorem State.dmaWrite_keep (s : State) (x : DmaXfer) (sp a : Nat) (l : List Byte) : (State.dmaWrite s x sp a l).1.keep = s.keep := by
  unfold State.dmaWrite
  repeat' (first | (simp -implicitDefEqProofs only [ite_keep, ite1_keep, ite2_keep, foldl_keep, foldl1_keep, foldl2_keep, ite_self, implies_true, keep_mk, State.bump_keep, State.drcPut_keep, State.emit_keep, State.rowWrite_keep, *]; done) | split | (refine (foldl_keep _ _ _ (fun t a => ?_)).trans ?_) | (refine (foldl1_keep _ _ _ (fun t a => ?_)).trans ?_) | (refine (foldl2_keep _ _ _ (fun t a => ?_)).trans ?_) | (simp -implicitDefEqProofs only [ite_keep, ite1_keep, ite2_keep, foldl_keep, foldl1_keep, foldl2_keep, ite_self, implies_true, keep_mk, State.bump_keep, State.drcPut_keep, State.emit_keep, State.rowWrite_keep, *]))
theorem State.dmaHand_keep (s : State) (x : DmaXfer) (d : List Byte) : (State.dmaHand s x d).keep = s.keep := by
  unfold State.dmaHand
  repeat' (first | (simp -implicitDefEqProofs only [ite_keep, ite1_keep, ite2_keep, foldl_keep, foldl1_keep, foldl2_keep, ite_self, implies_true, keep_mk, State.dmaWrite_keep, State.event_keep, State.setX_keep, *]; done) | split | (refine (foldl_keep _ _ _ (fun t a => ?_)).trans ?_) | (refine (foldl1_keep _ _ _ (fun t a => ?_)).trans ?_) | (refine (foldl2_keep _ _ _ (fun t a => ?_)).trans ?_) | (simp -implicitDefEqProofs only [ite_keep, ite1_keep, ite2_keep, foldl_keep, foldl1_keep, foldl2_keep, ite_self, implies_true, keep_mk, State.dmaWrite_keep, State.event_keep, State.setX_keep, *]))
theorem State.dmaGoOn_keep (s : State) : (State.dmaGoOn s).keep = s.keep := by
  unfold State.dmaGoOn
  repeat' (first | (simp -implicitDefEqProofs only [ite_keep, ite1_keep, ite2_keep, foldl_keep, foldl1_keep, foldl2_keep, ite_self, implies_true, keep_mk, State.dmaHand_keep, State.dmaReads_keep, *]; done) | split | (refine (foldl_keep _ _ _ (fun t a => ?_)).trans ?_) | (refine (foldl1_keep _ _ _ (fun t a => ?_)).trans ?_) | (refine (foldl2_keep _ _ _ (fun t a => ?_)).trans ?_) | (simp -implicitDefEqProofs only [ite_keep, ite1_keep, ite2_keep, foldl_keep, foldl1_keep, foldl2_keep, ite_self, implies_true, keep_mk, State.dmaHand_keep, State.dmaReads_keep, *]))
theorem State.dmaGot_keep (s : State) (data : Option (List Byte)) : (State.dmaGot s data).keep = s.keep := by
  unfold State.dmaGot; (repeat' split) <;> simp -implicitDefEqProofs only [ite_keep, ite1_keep, ite2_keep, foldl_keep, foldl1_keep, foldl2_keep, ite_self, implies_true, keep_mk, State.dmaGoOn_keep, State.setX_keep]
theorem State.orphanRet_keep (s : State) (o : Nat × Nat) (cpl : Cpl) : (State.orphanRet s o cpl).keep = s.keep := by
  unfold State.orphanRet; (repeat' split) <;> simp -implicitDefEqProofs only [ite_keep, ite1_keep, ite2_keep, foldl_keep, foldl1_keep, foldl2_keep, ite_self, implies_true, keep_mk, State.cplErr_keep]
theorem State.xferRet_keep (s : State) (x : DmaXfer) (d : List Byte) (k at_ : Nat) (cpl : Cpl) : (State.xferRet s x d k at_ cpl).keep = s.keep := by
  unfold State.xferRet
  split
  · split
    · simp -implicitDefEqProofs only [ite_keep, ite1_keep, ite2_keep, foldl_keep, foldl1_keep, foldl2_keep, ite_self, implies_true, keep_mk, State.bump_keep, State.cplErr_keep, State.dmaGot_keep, State.drcTake_keep]
    · split <;> simp -implicitDefEqProofs only [ite_keep, ite1_keep, ite2_keep, foldl_keep, foldl1_keep, foldl2_keep, ite_self, implies_true, keep_mk, State.bump_keep, State.cplErr_keep, State.dmaGot_keep, State.drcTake_keep]
  · split
    · rfl
    · next r t h =>
      have ht : t.keep = s.keep := State.drcTake_keep h
      split <;> simp -implicitDefEqProofs only [ite_keep, ite1_keep, ite2_keep, foldl_keep, foldl1_keep, foldl2_keep, ite_self, implies_true, keep_mk, State.bump_keep, State.cplErr_keep, State.dmaGot_keep, State.drcTake_keep, ht]
  · split
    · simp -implicitDefEqProofs only [ite_keep, ite1_keep, ite2_keep, foldl_keep, foldl1_keep, foldl2_keep, ite_self, implies_true, keep_mk, State.bump_keep, State.cplErr_keep, State.dmaGot_keep, State.drcTake_keep]
    · split <;> simp -implicitDefEqProofs only [ite_keep, ite1_keep, ite2_keep, foldl_keep, foldl1_keep, foldl2_keep, ite_self, implies_true, keep_mk, State.bump_keep, State.cplErr_keep, State.dmaGot_keep, State.drcTake_keep]
theorem State.dmaRet_keep (s : State) (cpl : Cpl) : (State.dmaRet s cpl).keep = s.keep := by
  unfold State.dmaRet
  split
  · exact State.orphanRet_keep _ _ _
  · split
    · rfl
    · split
      · rfl
      · exact State.xferRet_keep _ _ _ _ _ _
theorem State.dmaEnd_keep (s : State) (x : DmaXfer) (d : List Byte) (st : Nat) (late wb : Bool) : (State.dmaEnd s x d st late wb).keep = s.keep := by
  simp -implicitDefEqProofs only [State.dmaEnd, ite_keep, ite1_keep, ite2_keep, foldl_keep, foldl1_keep, foldl2_keep, ite_self, implies_true, keep_mk, State.dmaFinish_keep]
theorem State.dmaMuted_keep (s : State) : (State.dmaMuted s).keep = s.keep := by
  unfold State.dmaMuted
  repeat' (first | (simp -implicitDefEqProofs only [ite_keep, ite1_keep, ite2_keep, foldl_keep, foldl1_keep, foldl2_keep, ite_self, implies_true, keep_mk, *]; done) | split | (refine (foldl_keep _ _ _ (fun t a => ?_)).trans ?_) | (refine (foldl1_keep _ _ _ (fun t a => ?_)).trans ?_) | (refine (foldl2_keep _ _ _ (fun t a => ?_)).trans ?_) | (simp -implicitDefEqProofs only [ite_keep, ite1_keep, ite2_keep, foldl_keep, foldl1_keep, foldl2_keep, ite_self, implies_true, keep_mk, *]))
theorem State.dmaOrphan_keep (s : State) : (State.dmaOrphan s).keep = s.keep := by
  unfold State.dmaOrphan
  repeat' (first | (simp -implicitDefEqProofs only [ite_keep, ite1_keep, ite2_keep, foldl_keep, foldl1_keep, foldl2_keep, ite_self, implies_true, keep_mk, *]; done) | split | (refine (foldl_keep _ _ _ (fun t a => ?_)).trans ?_) | (refine (foldl1_keep _ _ _ (fun t a => ?_)).trans ?_) | (refine (foldl2_keep _ _ _ (fun t a => ?_)).trans ?_) | (simp -implicitDefEqProofs only [ite_keep, ite1_keep, ite2_keep, foldl_keep, foldl1_keep, foldl2_keep, ite_self, implies_true, keep_mk, *]))
theorem State.dmaAbort_keep (s : State) (c : Nat) : (State.dmaAbort s c).keep = s.keep := by
  unfold State.dmaAbort
  repeat' (first | (simp -implicitDefEqProofs only [ite_keep, ite1_keep, ite2_keep, foldl_keep, foldl1_keep, foldl2_keep, ite_self, implies_true, keep_mk, State.dmaGo_keep, State.dmaMuted_keep, State.dmaOrphan_keep, State.dmaStop_keep, State.setDch_keep, *]; done) | split | (refine (foldl_keep _ _ _ (fun t a => ?_)).trans ?_) | (refine (foldl1_keep _ _ _ (fun t a => ?_)).trans ?_) | (refine (foldl2_keep _ _ _ (fun t a => ?_)).trans ?_) | (simp -implicitDefEqProofs only [ite_keep, ite1_keep, ite2_keep, foldl_keep, foldl1_keep, foldl2_keep, ite_self, implies_true, keep_mk, State.dmaGo_keep, State.dmaMuted_keep, State.dmaOrphan_keep, State.dmaStop_keep, State.setDch_keep, *]))
theorem State.dmaReset_keep (s : State) : (State.dmaReset s).keep = s.keep := by
  unfold State.dmaReset
  repeat' (first | (simp -implicitDefEqProofs only [ite_keep, ite1_keep, ite2_keep, foldl_keep, foldl1_keep, foldl2_keep, ite_self, implies_true, keep_mk, State.dmaGo_keep, State.dmaStop_keep, State.setDch_keep, *]; done) | split | (refine (foldl_keep _ _ _ (fun t a => ?_)).trans ?_) | (refine (foldl1_keep _ _ _ (fun t a => ?_)).trans ?_) | (refine (foldl2_keep _ _ _ (fun t a => ?_)).trans ?_) | (simp -implicitDefEqProofs only [ite_keep, ite1_keep, ite2_keep, foldl_keep, foldl1_keep, foldl2_keep, ite_self, implies_true, keep_mk, State.dmaGo_keep, State.dmaStop_keep, State.setDch_keep, *]))
theorem State.writeRate_keep (s : State) (w : Word) : (State.writeRate s w).keep = s.keep := by
  simp -implicitDefEqProofs only [State.writeRate, ite_keep, ite1_keep, ite2_keep, foldl_keep, foldl1_keep, foldl2_keep, ite_self, implies_true, keep_mk, State.setB_keep, State.wr_keep]
theorem State.timerFires_keep (s : State) (n : Nat) : (State.timerFires s n).keep = s.keep := by
  simp -implicitDefEqProofs only [State.timerFires, ite_keep, ite1_keep, ite2_keep, foldl_keep, foldl1_keep, foldl2_keep, ite_self, implies_true, keep_mk, State.dmaTrigger_keep, State.irq_keep, State.setF_keep, State.snapRequest_keep, State.wr64_keep, State.wr_keep]
theorem State.timerWr_keep (s : State) (n : Nat) (w : Word) : (State.timerWr s n w).keep = s.keep := by
  simp -implicitDefEqProofs only [State.timerWr, ite_keep, ite1_keep, ite2_keep, foldl_keep, foldl1_keep, foldl2_keep, ite_self, implies_true, keep_mk, State.setB_keep, State.setF_keep, State.timerFires_keep]
theorem State.fltDone_keep (s : State) (p : Nat) (reacts : List Nat) : (State.fltDone s p reacts).keep = s.keep := by
  simp -implicitDefEqProofs only [State.fltDone, ite_keep, ite1_keep, ite2_keep, foldl_keep, foldl1_keep, foldl2_keep, ite_self, implies_true, keep_mk]
theorem State.fltWindow_keep (s : State) (p seq : Nat) (inj : Bool) : (State.fltWindow s p seq inj).keep = s.keep := by
  simp -implicitDefEqProofs only [State.fltWindow, ite_keep, ite1_keep, ite2_keep, foldl_keep, foldl1_keep, foldl2_keep, ite_self, implies_true, keep_mk]
theorem State.fltWinEnds_keep (s : State) (p : Nat) : (State.fltWinEnds s p).keep = s.keep := by
  simp -implicitDefEqProofs only [State.fltWinEnds, ite_keep, ite1_keep, ite2_keep, foldl_keep, foldl1_keep, foldl2_keep, ite_self, implies_true, keep_mk]
theorem State.evtReset_keep (s : State) : (State.evtReset s).keep = s.keep := by
  simp -implicitDefEqProofs only [State.evtReset, ite_keep, ite1_keep, ite2_keep, foldl_keep, foldl1_keep, foldl2_keep, ite_self, implies_true, keep_mk, State.journal_keep, State.peerStale_keep, State.setSelf_keep]
theorem State.blkReset_keep (s : State) (p : Nat) : (State.blkReset s p).keep = s.keep := by
  unfold State.blkReset
  repeat' (first | (simp -implicitDefEqProofs only [ite_keep, ite1_keep, ite2_keep, foldl_keep, foldl1_keep, foldl2_keep, ite_self, implies_true, keep_mk, State.blgReset_keep, State.bpmReset_keep, State.cntReset_keep, State.dcReset_keep, State.dmaReset_keep, State.drcReset_keep, State.eddyBasinLost_keep, State.eddyChanLost_keep, State.epReset_keep, State.evtReset_keep, State.ipReset_keep, State.keyReset_keep, State.lrnReset_keep, State.mscReset_keep, State.pgReset_keep, State.ringChanLost_keep, State.schReset_keep, State.tblReset_keep, State.tcmReset_keep, State.tmgBasinLost_keep, State.tmgChanLost_keep, State.tmgReset_keep, State.verReset_keep, *]; done) | split | (refine (foldl_keep _ _ _ (fun t a => ?_)).trans ?_) | (refine (foldl1_keep _ _ _ (fun t a => ?_)).trans ?_) | (refine (foldl2_keep _ _ _ (fun t a => ?_)).trans ?_) | (simp -implicitDefEqProofs only [ite_keep, ite1_keep, ite2_keep, foldl_keep, foldl1_keep, foldl2_keep, ite_self, implies_true, keep_mk, State.blgReset_keep, State.bpmReset_keep, State.cntReset_keep, State.dcReset_keep, State.dmaReset_keep, State.drcReset_keep, State.eddyBasinLost_keep, State.eddyChanLost_keep, State.epReset_keep, State.evtReset_keep, State.ipReset_keep, State.keyReset_keep, State.lrnReset_keep, State.mscReset_keep, State.pgReset_keep, State.ringChanLost_keep, State.schReset_keep, State.tblReset_keep, State.tcmReset_keep, State.tmgBasinLost_keep, State.tmgChanLost_keep, State.tmgReset_keep, State.verReset_keep, *]))
theorem State.blkStops_keep (s : State) (p : Nat) : (State.blkStops s p).keep = s.keep := by
  unfold State.blkStops
  repeat' (first | (simp -implicitDefEqProofs only [ite_keep, ite1_keep, ite2_keep, foldl_keep, foldl1_keep, foldl2_keep, ite_self, implies_true, keep_mk, State.mogFlush_keep, State.peerStale_keep, State.rxStates_keep, State.xokAll_keep, *]; done) | split | (refine (foldl_keep _ _ _ (fun t a => ?_)).trans ?_) | (refine (foldl1_keep _ _ _ (fun t a => ?_)).trans ?_) | (refine (foldl2_keep _ _ _ (fun t a => ?_)).trans ?_) | (simp -implicitDefEqProofs only [ite_keep, ite1_keep, ite2_keep, foldl_keep, foldl1_keep, foldl2_keep, ite_self, implies_true, keep_mk, State.mogFlush_keep, State.peerStale_keep, State.rxStates_keep, State.xokAll_keep, *]))
theorem State.blkStarts_keep (s : State) (p : Nat) : (State.blkStarts s p).keep = s.keep := by
  unfold State.blkStarts
  repeat' (first | (simp -implicitDefEqProofs only [ite_keep, ite1_keep, ite2_keep, foldl_keep, foldl1_keep, foldl2_keep, ite_self, implies_true, keep_mk, State.resyncPoll_keep, State.rxStates_keep, State.setHalf_keep, State.xokAll_keep, *]; done) | split | (refine (foldl_keep _ _ _ (fun t a => ?_)).trans ?_) | (refine (foldl1_keep _ _ _ (fun t a => ?_)).trans ?_) | (refine (foldl2_keep _ _ _ (fun t a => ?_)).trans ?_) | (simp -implicitDefEqProofs only [ite_keep, ite1_keep, ite2_keep, foldl_keep, foldl1_keep, foldl2_keep, ite_self, implies_true, keep_mk, State.resyncPoll_keep, State.rxStates_keep, State.setHalf_keep, State.xokAll_keep, *]))
theorem State.blkSt_keep (s : State) (p : Nat) (st : BlkState) : (State.blkSt s p st).keep = s.keep := by
  simp -implicitDefEqProofs only [State.blkSt, ite_keep, ite1_keep, ite2_keep, foldl_keep, foldl1_keep, foldl2_keep, ite_self, implies_true, keep_mk, State.setBlk_keep]
theorem State.resetStart_keep (s : State) (p : Nat) : (State.resetStart s p).keep = s.keep := by
  simp -implicitDefEqProofs only [State.resetStart, ite_keep, ite1_keep, ite2_keep, foldl_keep, foldl1_keep, foldl2_keep, ite_self, implies_true, keep_mk, State.blkReset_keep, State.blkStops_keep, State.clearCounters_keep, State.fltDone_keep, State.setBlk_keep, State.xokAll_keep, State.zero_keep]
theorem State.resumeNext_keep (p : Nat) (stands : Bool) (fuel : Nat) (s : State) : (State.resumeNext p stands fuel s).keep = s.keep := by
  induction fuel generalizing s with
  | zero => simp -implicitDefEqProofs only [State.resumeNext]
  | succ k ih =>
    unfold State.resumeNext
    repeat' (first | (simp -implicitDefEqProofs only [ite_keep, ite1_keep, ite2_keep, foldl_keep, foldl1_keep, foldl2_keep, ite_self, implies_true, keep_mk, State.fltDone_keep, State.fltWinEnds_keep, State.fltWindow_keep, State.resetStart_keep, State.setBlk_keep, ih, *]; done) | split | (simp -implicitDefEqProofs only [ite_keep, ite1_keep, ite2_keep, foldl_keep, foldl1_keep, foldl2_keep, ite_self, implies_true, keep_mk, State.fltDone_keep, State.fltWinEnds_keep, State.fltWindow_keep, State.resetStart_keep, State.setBlk_keep, ih, *]))
theorem State.fltResume_keep (s : State) (p : Nat) (stands : Bool) : (State.fltResume s p stands).keep = s.keep := by
  unfold State.fltResume
  repeat' (first | (simp -implicitDefEqProofs only [ite_keep, ite1_keep, ite2_keep, foldl_keep, foldl1_keep, foldl2_keep, ite_self, implies_true, keep_mk, State.resumeNext_keep, *]; done) | split | (refine (foldl_keep _ _ _ (fun t a => ?_)).trans ?_) | (refine (foldl1_keep _ _ _ (fun t a => ?_)).trans ?_) | (refine (foldl2_keep _ _ _ (fun t a => ?_)).trans ?_) | (simp -implicitDefEqProofs only [ite_keep, ite1_keep, ite2_keep, foldl_keep, foldl1_keep, foldl2_keep, ite_self, implies_true, keep_mk, State.resumeNext_keep, *]))
theorem State.drainEnd_keep (s : State) (p : Nat) : (State.drainEnd s p).keep = s.keep := by
  unfold State.drainEnd
  repeat' (first | (simp -implicitDefEqProofs only [ite_keep, ite1_keep, ite2_keep, foldl_keep, foldl1_keep, foldl2_keep, ite_self, implies_true, keep_mk, State.chHold_keep, State.fltDone_keep, State.fltResume_keep, State.fltWinEnds_keep, State.irq_keep, State.pgPortsOff_keep, State.setBlk_keep, *]; done) | split | (refine (foldl_keep _ _ _ (fun t a => ?_)).trans ?_) | (refine (foldl1_keep _ _ _ (fun t a => ?_)).trans ?_) | (refine (foldl2_keep _ _ _ (fun t a => ?_)).trans ?_) | (simp -implicitDefEqProofs only [ite_keep, ite1_keep, ite2_keep, foldl_keep, foldl1_keep, foldl2_keep, ite_self, implies_true, keep_mk, State.chHold_keep, State.fltDone_keep, State.fltResume_keep, State.fltWinEnds_keep, State.irq_keep, State.pgPortsOff_keep, State.setBlk_keep, *]))
theorem State.blkStep_keep (s : State) (p : Nat) : (State.blkStep s p).keep = s.keep := by
  unfold State.blkStep
  repeat' (first | (simp -implicitDefEqProofs only [ite_keep, ite1_keep, ite2_keep, foldl_keep, foldl1_keep, foldl2_keep, ite_self, implies_true, keep_mk, State.blkSt_keep, State.blkStarts_keep, State.blkStops_keep, State.drainEnd_keep, State.irq_keep, State.pgPortsOff_keep, State.setBlk_keep, *]; done) | split | (refine (foldl_keep _ _ _ (fun t a => ?_)).trans ?_) | (refine (foldl1_keep _ _ _ (fun t a => ?_)).trans ?_) | (refine (foldl2_keep _ _ _ (fun t a => ?_)).trans ?_) | (simp -implicitDefEqProofs only [ite_keep, ite1_keep, ite2_keep, foldl_keep, foldl1_keep, foldl2_keep, ite_self, implies_true, keep_mk, State.blkSt_keep, State.blkStarts_keep, State.blkStops_keep, State.drainEnd_keep, State.irq_keep, State.pgPortsOff_keep, State.setBlk_keep, *]))
theorem State.blkPoll_keep (s : State) (p : Nat) : (State.blkPoll s p).keep = s.keep := by
  simp -implicitDefEqProofs only [State.blkPoll, ite_keep, ite1_keep, ite2_keep, foldl_keep, foldl1_keep, foldl2_keep, ite_self, implies_true, keep_mk, State.blkStep_keep]
theorem State.softReset_keep (s : State) (p : Nat) : (State.softReset s p).keep = s.keep := by
  simp -implicitDefEqProofs only [State.softReset, ite_keep, ite1_keep, ite2_keep, foldl_keep, foldl1_keep, foldl2_keep, ite_self, implies_true, keep_mk, State.resetStart_keep]
theorem State.blkctlWr_keep (s : State) (who p : Nat) (w : Word) : (State.blkctlWr s who p w).keep = s.keep := by
  simp -implicitDefEqProofs only [State.blkctlWr, ite_keep, ite1_keep, ite2_keep, foldl_keep, foldl1_keep, foldl2_keep, ite_self, implies_true, keep_mk, State.badAcc_keep, State.blkPoll_keep, State.rwsPut_keep, State.setF_keep, State.softReset_keep]
theorem State.roleEnd_keep (s : State) : (State.roleEnd s).keep = s.keep := by
  simp -implicitDefEqProofs only [State.roleEnd, ite_keep, ite1_keep, ite2_keep, foldl_keep, foldl1_keep, foldl2_keep, ite_self, implies_true, keep_mk, State.journal_keep, State.setF_keep, State.setRole_keep]
theorem State.fenced_keep (s : State) : (State.fenced s).keep = s.keep := by
  simp -implicitDefEqProofs only [State.fenced, ite_keep, ite1_keep, ite2_keep, foldl_keep, foldl1_keep, foldl2_keep, ite_self, implies_true, keep_mk, State.irq_keep, State.roleEnd_keep, State.setLanes_keep, State.softReset_keep, State.zeroize_keep]
theorem State.evtSend_keep (s : State) (type count jseq : Nat) (payload : List Byte) : (State.evtSend s type count jseq payload).keep = s.keep := by
  simp -implicitDefEqProofs only [State.evtSend, ite_keep, ite1_keep, ite2_keep, foldl_keep, foldl1_keep, foldl2_keep, ite_self, implies_true, keep_mk, State.emit_keep]
theorem State.sendHello_keep (s : State) : (State.sendHello s).keep = s.keep := by
  simp -implicitDefEqProofs only [State.sendHello, ite_keep, ite1_keep, ite2_keep, foldl_keep, foldl1_keep, foldl2_keep, ite_self, implies_true, keep_mk, State.evtSend_keep]
theorem State.sendRole_keep (s : State) (op reason : Nat) : (State.sendRole s op reason).keep = s.keep := by
  simp -implicitDefEqProofs only [State.sendRole, ite_keep, ite1_keep, ite2_keep, foldl_keep, foldl1_keep, foldl2_keep, ite_self, implies_true, keep_mk, State.evtSend_keep]
theorem State.sendSyncreq_keep (s : State) : (State.sendSyncreq s).keep = s.keep := by
  simp -implicitDefEqProofs only [State.sendSyncreq, ite_keep, ite1_keep, ite2_keep, foldl_keep, foldl1_keep, foldl2_keep, ite_self, implies_true, keep_mk, State.evtSend_keep]
theorem State.dropOpen_keep (s : State) : (State.dropOpen s).keep = s.keep := by
  unfold State.dropOpen
  repeat' (first | (simp -implicitDefEqProofs only [ite_keep, ite1_keep, ite2_keep, foldl_keep, foldl1_keep, foldl2_keep, ite_self, implies_true, keep_mk, State.fixHalf_keep, State.irq_keep, State.setB_keep, State.setF_keep, *]; done) | split | (refine (foldl_keep _ _ _ (fun t a => ?_)).trans ?_) | (refine (foldl1_keep _ _ _ (fun t a => ?_)).trans ?_) | (refine (foldl2_keep _ _ _ (fun t a => ?_)).trans ?_) | (simp -implicitDefEqProofs only [ite_keep, ite1_keep, ite2_keep, foldl_keep, foldl1_keep, foldl2_keep, ite_self, implies_true, keep_mk, State.fixHalf_keep, State.irq_keep, State.setB_keep, State.setF_keep, *]))
theorem State.ackIn_keep (s : State) (a : Nat) : (State.ackIn s a).keep = s.keep := by
  simp -implicitDefEqProofs only [State.ackIn, ite_keep, ite1_keep, ite2_keep, foldl_keep, foldl1_keep, foldl2_keep, ite_self, implies_true, keep_mk, State.journal_keep, State.setPeer_keep, State.wr_keep]
theorem State.jRow_keep (s : State) (h mem row : Nat) (img : BitVec 512) : (State.jRow s h mem row img).keep = s.keep := by
  unfold State.jRow
  repeat' (first | (simp -implicitDefEqProofs only [ite_keep, ite1_keep, ite2_keep, foldl_keep, foldl1_keep, foldl2_keep, ite_self, implies_true, keep_mk, State.rowReplace_keep, State.setHalf_keep, *]; done) | split | (refine (foldl_keep _ _ _ (fun t a => ?_)).trans ?_) | (refine (foldl1_keep _ _ _ (fun t a => ?_)).trans ?_) | (refine (foldl2_keep _ _ _ (fun t a => ?_)).trans ?_) | (simp -implicitDefEqProofs only [ite_keep, ite1_keep, ite2_keep, foldl_keep, foldl1_keep, foldl2_keep, ite_self, implies_true, keep_mk, State.rowReplace_keep, State.setHalf_keep, *]))
theorem State.jSlots_keep (s : State) (pend slots : Nat) : (State.jSlots s pend slots).keep = s.keep := by
  simp -implicitDefEqProofs only [State.jSlots, ite_keep, ite1_keep, ite2_keep, foldl_keep, foldl1_keep, foldl2_keep, ite_self, implies_true, keep_mk, State.setF_keep]
theorem State.jApply_keep (s : State) (e : JEntry) : (State.jApply s e).keep = s.keep := by
  unfold State.jApply
  repeat' (first | (simp -implicitDefEqProofs only [ite_keep, ite1_keep, ite2_keep, foldl_keep, foldl1_keep, foldl2_keep, ite_self, implies_true, keep_mk, State.addF_keep, State.bulkBegin_keep, State.event_keep, State.jRow_keep, State.jSlots_keep, State.pnMark_keep, State.setHalf_keep, State.setSelf_keep, State.zero_keep, *]; done) | split | (refine (foldl_keep _ _ _ (fun t a => ?_)).trans ?_) | (refine (foldl1_keep _ _ _ (fun t a => ?_)).trans ?_) | (refine (foldl2_keep _ _ _ (fun t a => ?_)).trans ?_) | (simp -implicitDefEqProofs only [ite_keep, ite1_keep, ite2_keep, foldl_keep, foldl1_keep, foldl2_keep, ite_self, implies_true, keep_mk, State.addF_keep, State.bulkBegin_keep, State.event_keep, State.jRow_keep, State.jSlots_keep, State.pnMark_keep, State.setHalf_keep, State.setSelf_keep, State.zero_keep, *]))
theorem State.jNext_keep (s : State) (e : JEntry) (fuel : Nat) : (State.jNext s e fuel).keep = s.keep := by
  induction fuel generalizing s e with
  | zero => rfl
  | succ k ih =>
    unfold State.jNext
    simp only
    split
    · simp -implicitDefEqProofs only [ite_keep, ite1_keep, ite2_keep, foldl_keep, foldl1_keep, foldl2_keep, ite_self, implies_true, keep_mk, State.jApply_keep, State.wr_keep]
    · rw [ih]; simp -implicitDefEqProofs only [ite_keep, ite1_keep, ite2_keep, foldl_keep, foldl1_keep, foldl2_keep, ite_self, implies_true, keep_mk, State.jApply_keep, State.wr_keep]
theorem State.jIn_keep (s : State) (seq : Nat) (e : JEntry) : (State.jIn s seq e).keep = s.keep := by
  simp -implicitDefEqProofs only [State.jIn, ite_keep, ite1_keep, ite2_keep, foldl_keep, foldl1_keep, foldl2_keep, ite_self, implies_true, keep_mk, State.bulkBegin_keep, State.jNext_keep, State.wr_keep]
theorem State.journalIn_keep (s : State) (f : List Byte) : (State.journalIn s f).keep = s.keep := by
  simp -implicitDefEqProofs only [State.journalIn, ite_keep, ite1_keep, ite2_keep, foldl_keep, foldl1_keep, foldl2_keep, ite_self, implies_true, keep_mk, State.jIn_keep]
theorem State.handoffFail_keep (s : State) : (State.handoffFail s).keep = s.keep := by
  simp -implicitDefEqProofs only [State.handoffFail, ite_keep, ite1_keep, ite2_keep, foldl_keep, foldl1_keep, foldl2_keep, ite_self, implies_true, keep_mk, State.bump_keep, State.setF_keep]
theorem State.syncIn_keep (s : State) : (State.syncIn s).keep = s.keep := by
  simp -implicitDefEqProofs only [State.syncIn, ite_keep, ite1_keep, ite2_keep, foldl_keep, foldl1_keep, foldl2_keep, ite_self, implies_true, keep_mk, State.startBulk_keep]
theorem State.handoff_keep (s : State) : (State.handoff s).keep = s.keep := by
  simp -implicitDefEqProofs only [State.handoff, ite_keep, ite1_keep, ite2_keep, foldl_keep, foldl1_keep, foldl2_keep, ite_self, implies_true, keep_mk, State.sendRole_keep, State.setB_keep]
theorem State.bulkAt_keep (s : State) (k : Nat) : (State.bulkAt s k).keep = s.keep := by
  simp -implicitDefEqProofs only [State.bulkAt, ite_keep, ite1_keep, ite2_keep, foldl_keep, foldl1_keep, foldl2_keep, ite_self, implies_true, keep_mk]
theorem State.bulkPace_keep (s : State) (bytes : Nat) : (State.bulkPace s bytes).keep = s.keep := by
  simp -implicitDefEqProofs only [State.bulkPace, ite_keep, ite1_keep, ite2_keep, foldl_keep, foldl1_keep, foldl2_keep, ite_self, implies_true, keep_mk, State.until_keep]
theorem State.bulkTail_keep (s : State) (j : Nat) : (State.bulkTail s j).keep = s.keep := by
  unfold State.bulkTail
  generalize State.nextGrp s (j - 65537) = og
  generalize (if j ≤ 65536 then State.nextSa s (j - 1) else none) = oa
  split
  · simp -implicitDefEqProofs only [ite_keep, ite1_keep, ite2_keep, foldl_keep, foldl1_keep, foldl2_keep, ite_self, implies_true, keep_mk, State.bulkAt_keep, State.bulkPace_keep, State.jVer_keep, State.journal_keep, State.pnMark_keep]
  · rcases oa with _ | sa
    · rcases og with _ | g <;> simp -implicitDefEqProofs only [ite_keep, ite1_keep, ite2_keep, foldl_keep, foldl1_keep, foldl2_keep, ite_self, implies_true, keep_mk, State.bulkAt_keep, State.bulkPace_keep, State.jVer_keep, State.journal_keep, State.pnMark_keep]
    · simp -implicitDefEqProofs only [ite_keep, ite1_keep, ite2_keep, foldl_keep, foldl1_keep, foldl2_keep, ite_self, implies_true, keep_mk, State.bulkAt_keep, State.bulkPace_keep, State.jVer_keep, State.journal_keep, State.pnMark_keep]
theorem State.loseLock_keep (s : State) (p : Nat) : (State.loseLock s p).keep = s.keep := by
  simp -implicitDefEqProofs only [State.loseLock, ite_keep, ite1_keep, ite2_keep, foldl_keep, foldl1_keep, foldl2_keep, ite_self, implies_true, keep_mk, State.setPort_keep]
theorem State.bufUnc_keep (s : State) (g loc : Nat) : (State.bufUnc s g loc).keep = s.keep := by
  unfold State.bufUnc
  repeat' (first | (simp -implicitDefEqProofs only [ite_keep, ite1_keep, ite2_keep, foldl_keep, foldl1_keep, foldl2_keep, ite_self, implies_true, keep_mk, State.setPg_keep, State.txRelease_keep, *]; done) | split | (refine (foldl_keep _ _ _ (fun t a => ?_)).trans ?_) | (refine (foldl1_keep _ _ _ (fun t a => ?_)).trans ?_) | (refine (foldl2_keep _ _ _ (fun t a => ?_)).trans ?_) | (simp -implicitDefEqProofs only [ite_keep, ite1_keep, ite2_keep, foldl_keep, foldl1_keep, foldl2_keep, ite_self, implies_true, keep_mk, State.setPg_keep, State.txRelease_keep, *]))
theorem State.fltWait_keep (s : State) (page code seq : Nat) (inj : Bool) : (State.fltWait s page code seq inj).keep = s.keep := by
  simp -implicitDefEqProofs only [State.fltWait, ite_keep, ite1_keep, ite2_keep, foldl_keep, foldl1_keep, foldl2_keep, ite_self, implies_true, keep_mk]
theorem State.fltAbandon_keep (s : State) (page : Nat) : (State.fltAbandon s page).keep = s.keep := by
  simp -implicitDefEqProofs only [State.fltAbandon, ite_keep, ite1_keep, ite2_keep, foldl_keep, foldl1_keep, foldl2_keep, ite_self, implies_true, keep_mk]
theorem State.forceWr_keep (s : State) (page : Nat) (w : Word) : (State.forceWr s page w).keep = s.keep := by
  simp -implicitDefEqProofs only [State.forceWr, ite_keep, ite1_keep, ite2_keep, foldl_keep, foldl1_keep, foldl2_keep, ite_self, implies_true, keep_mk, State.badAcc_keep, State.fire_keep]
theorem State.recLatch_keep (s : State) (frozen : Bool) : (State.recLatch s frozen).keep = s.keep := by
  simp -implicitDefEqProofs only [State.recLatch, ite_keep, ite1_keep, ite2_keep, foldl_keep, foldl1_keep, foldl2_keep, ite_self, implies_true, keep_mk, State.replicate_keep]
theorem State.legClr_keep (s : State) (w : Word) : (State.legClr s w).keep = s.keep := by
  simp -implicitDefEqProofs only [State.legClr, ite_keep, ite1_keep, ite2_keep, foldl_keep, foldl1_keep, foldl2_keep, ite_self, implies_true, keep_mk, State.wr_keep]
theorem State.fltWinGone_keep (s : State) (w : FltWin) : (State.fltWinGone s w).keep = s.keep := by
  simp -implicitDefEqProofs only [State.fltWinGone, ite_keep, ite1_keep, ite2_keep, foldl_keep, foldl1_keep, foldl2_keep, ite_self, implies_true, keep_mk]
theorem State.supplyOne_keep (s : State) (i v : Nat) : (State.supplyOne s i v).keep = s.keep := by
  unfold State.supplyOne
  repeat' (first | (simp -implicitDefEqProofs only [ite_keep, ite1_keep, ite2_keep, foldl_keep, foldl1_keep, foldl2_keep, ite_self, implies_true, keep_mk, State.fault_keep, *]; done) | split | (refine (foldl_keep _ _ _ (fun t a => ?_)).trans ?_) | (refine (foldl1_keep _ _ _ (fun t a => ?_)).trans ?_) | (refine (foldl2_keep _ _ _ (fun t a => ?_)).trans ?_) | (simp -implicitDefEqProofs only [ite_keep, ite1_keep, ite2_keep, foldl_keep, foldl1_keep, foldl2_keep, ite_self, implies_true, keep_mk, State.fault_keep, *]))
theorem State.burstStart_keep (s : State) (g slots : Nat) : (State.burstStart s g slots).keep = s.keep := by
  simp -implicitDefEqProofs only [State.burstStart, ite_keep, ite1_keep, ite2_keep, foldl_keep, foldl1_keep, foldl2_keep, ite_self, implies_true, keep_mk]
theorem State.burstGo_keep (s : State) : (State.burstGo s).keep = s.keep := by
  simp -implicitDefEqProofs only [State.burstGo, ite_keep, ite1_keep, ite2_keep, foldl_keep, foldl1_keep, foldl2_keep, ite_self, implies_true, keep_mk, State.addF_keep, State.event_keep]
theorem State.slowRise_keep (s : State) (v : Nat) : (State.slowRise s v).keep = s.keep := by
  simp -implicitDefEqProofs only [State.slowRise, ite_keep, ite1_keep, ite2_keep, foldl_keep, foldl1_keep, foldl2_keep, ite_self, implies_true, keep_mk, State.bump_keep, State.burstStart_keep]
theorem State.plough_keep (s : State) (act relief spare : Nat) : (State.plough s act relief spare).keep = s.keep := by
  simp -implicitDefEqProofs only [State.plough, ite_keep, ite1_keep, ite2_keep, foldl_keep, foldl1_keep, foldl2_keep, ite_self, implies_true, keep_mk, State.addF_keep, State.bump_keep, State.event_keep, State.fault_keep, State.irq_keep, State.setF_keep]
theorem State.ramp_keep (s : State) (act : Nat) : (State.ramp s act).1.keep = s.keep := by
  simp -implicitDefEqProofs only [State.ramp, ite_keep, ite1_keep, ite2_keep, foldl_keep, foldl1_keep, foldl2_keep, ite_self, implies_true, keep_mk]
theorem State.setPath_keep (s : State) (who : Nat) (a : Access) : (State.setPath s who a).keep = s.keep := by
  simp -implicitDefEqProofs only [State.setPath, ite_keep, ite1_keep, ite2_keep, foldl_keep, foldl1_keep, foldl2_keep, ite_self, implies_true, keep_mk]
theorem State.readLatch_keep (s : State) (p o : Nat) : (State.readLatch s p o).keep = s.keep := by
  unfold State.readLatch
  repeat' (first | (simp -implicitDefEqProofs only [ite_keep, ite1_keep, ite2_keep, foldl_keep, foldl1_keep, foldl2_keep, ite_self, implies_true, keep_mk, State.cmplLatch_keep, State.recLatch_keep, State.tsfLatch_keep, *]; done) | split | (refine (foldl_keep _ _ _ (fun t a => ?_)).trans ?_) | (refine (foldl1_keep _ _ _ (fun t a => ?_)).trans ?_) | (refine (foldl2_keep _ _ _ (fun t a => ?_)).trans ?_) | (simp -implicitDefEqProofs only [ite_keep, ite1_keep, ite2_keep, foldl_keep, foldl1_keep, foldl2_keep, ite_self, implies_true, keep_mk, State.cmplLatch_keep, State.recLatch_keep, State.tsfLatch_keep, *]))
theorem State.latched_keep (s : State) (who key : Nat) (low high : Bool) (v hi : Word) : (State.latched s who key low high v hi).2.keep = s.keep := by
  unfold State.latched
  repeat' (first | (simp -implicitDefEqProofs only [ite_keep, ite1_keep, ite2_keep, foldl_keep, foldl1_keep, foldl2_keep, ite_self, implies_true, keep_mk, State.setPath_keep, *]; done) | split | (refine (foldl_keep _ _ _ (fun t a => ?_)).trans ?_) | (refine (foldl1_keep _ _ _ (fun t a => ?_)).trans ?_) | (refine (foldl2_keep _ _ _ (fun t a => ?_)).trans ?_) | (simp -implicitDefEqProofs only [ite_keep, ite1_keep, ite2_keep, foldl_keep, foldl1_keep, foldl2_keep, ite_self, implies_true, keep_mk, State.setPath_keep, *]))
theorem State.read0_keep (s : State) (who p o : Nat) : (State.read0 s who p o).2.keep = s.keep := by
  simp -implicitDefEqProofs only [State.read0, ite_keep, ite1_keep, ite2_keep, foldl_keep, foldl1_keep, foldl2_keep, ite_self, implies_true, keep_mk, State.latched_keep, State.readLatch_keep]
theorem State.read2_keep (s : State) (u o : Nat) : (State.read2 s u o).2.keep = s.keep := by
  simp -implicitDefEqProofs only [State.read2, ite_keep, ite1_keep, ite2_keep, foldl_keep, foldl1_keep, foldl2_keep, ite_self, implies_true, keep_mk, State.denied_keep, State.latched_keep]
theorem State.read4_keep (s : State) (u o : Nat) : (State.read4 s u o).2.keep = s.keep := by
  unfold State.read4
  repeat' (first | (simp -implicitDefEqProofs only [ite_keep, ite1_keep, ite2_keep, foldl_keep, foldl1_keep, foldl2_keep, ite_self, implies_true, keep_mk, State.denied_keep, *]; done) | split | (refine (foldl_keep _ _ _ (fun t a => ?_)).trans ?_) | (refine (foldl1_keep _ _ _ (fun t a => ?_)).trans ?_) | (refine (foldl2_keep _ _ _ (fun t a => ?_)).trans ?_) | (simp -implicitDefEqProofs only [ite_keep, ite1_keep, ite2_keep, foldl_keep, foldl1_keep, foldl2_keep, ite_self, implies_true, keep_mk, State.denied_keep, *]))
theorem State.malformed_keep (s : State) : (State.malformed s).keep = s.keep := by
  simp -implicitDefEqProofs only [State.malformed, ite_keep, ite1_keep, ite2_keep, foldl_keep, foldl1_keep, foldl2_keep, ite_self, implies_true, keep_mk, State.badAcc_keep, State.irq_keep]
theorem State.pageReset_keep (s : State) (p : Nat) (keep : List Nat) : (State.pageReset s p keep).keep = s.keep := by
  unfold State.pageReset
  repeat' (first | (simp -implicitDefEqProofs only [ite_keep, ite1_keep, ite2_keep, foldl_keep, foldl1_keep, foldl2_keep, ite_self, implies_true, keep_mk, State.wr_keep, *]; done) | split | (refine (foldl_keep _ _ _ (fun t a => ?_)).trans ?_) | (refine (foldl1_keep _ _ _ (fun t a => ?_)).trans ?_) | (refine (foldl2_keep _ _ _ (fun t a => ?_)).trans ?_) | (simp -implicitDefEqProofs only [ite_keep, ite1_keep, ite2_keep, foldl_keep, foldl1_keep, foldl2_keep, ite_self, implies_true, keep_mk, State.wr_keep, *]))
theorem State.rangeReset_keep (s : State) (lo hi : Nat) : (State.rangeReset s lo hi).keep = s.keep := by
  simp -implicitDefEqProofs only [State.rangeReset, ite_keep, ite1_keep, ite2_keep, foldl_keep, foldl1_keep, foldl2_keep, ite_self, implies_true, keep_mk]
theorem State.chanReset_keep (s : State) (c : Nat) : (State.chanReset s c).keep = s.keep := by
  simp -implicitDefEqProofs only [State.chanReset, ite_keep, ite1_keep, ite2_keep, foldl_keep, foldl1_keep, foldl2_keep, ite_self, implies_true, keep_mk, State.dmaAbort_keep, State.rangeReset_keep]
theorem State.fnReset_keep (s : State) (u : Nat) : (State.fnReset s u).keep = s.keep := by
  simp -implicitDefEqProofs only [State.fnReset, ite_keep, ite1_keep, ite2_keep, foldl_keep, foldl1_keep, foldl2_keep, ite_self, implies_true, keep_mk, State.rangeReset_keep]
theorem State.hostSideReset_keep (s : State) : (State.hostSideReset s).keep = s.keep := by
  simp -implicitDefEqProofs only [State.hostSideReset, ite_keep, ite1_keep, ite2_keep, foldl_keep, foldl1_keep, foldl2_keep, ite_self, implies_true, keep_mk, State.blkPoll_keep, State.chanReset_keep, State.clearCounters_keep, State.fnReset_keep, State.pageReset_keep]
theorem State.linkReset_keep (s : State) : (State.linkReset s).keep = s.keep := by
  simp -implicitDefEqProofs only [State.linkReset, ite_keep, ite1_keep, ite2_keep, foldl_keep, foldl1_keep, foldl2_keep, ite_self, implies_true, keep_mk, State.hostSideReset_keep, State.linkUp_keep]
theorem State.i2cRegs_keep (s : State) (n : Nat) : (State.i2cRegs s n).2.keep = s.keep := by
  induction n generalizing s with
  | zero => rfl
  | succ k ih =>
    unfold State.i2cRegs
    simp only
    rw [ih]
    split <;> simp -implicitDefEqProofs only [ite_keep, ite1_keep, ite2_keep, foldl_keep, foldl1_keep, foldl2_keep, ite_self, implies_true, keep_mk, State.malformed_keep, State.read0_keep]
theorem State.loadResult_keep (s : State) (r : Nat) : (State.loadResult s r).keep = s.keep := by
  simp -implicitDefEqProofs only [State.loadResult, ite_keep, ite1_keep, ite2_keep, foldl_keep, foldl1_keep, foldl2_keep, ite_self, implies_true, keep_mk, State.setF_keep]
theorem State.sealRefused_keep (s : State) : (State.sealRefused s).keep = s.keep := by
  unfold State.sealRefused
  repeat' (first | (simp -implicitDefEqProofs only [ite_keep, ite1_keep, ite2_keep, foldl_keep, foldl1_keep, foldl2_keep, ite_self, implies_true, keep_mk, State.setF_keep, *]; done) | split | (refine (foldl_keep _ _ _ (fun t a => ?_)).trans ?_) | (refine (foldl1_keep _ _ _ (fun t a => ?_)).trans ?_) | (refine (foldl2_keep _ _ _ (fun t a => ?_)).trans ?_) | (simp -implicitDefEqProofs only [ite_keep, ite1_keep, ite2_keep, foldl_keep, foldl1_keep, foldl2_keep, ite_self, implies_true, keep_mk, State.setF_keep, *]))
theorem State.perform_keep (s : State) (d : Due) : (State.perform s d).keep = s.keep := by
  cases d <;> simp -implicitDefEqProofs only [State.perform, ite_keep, ite1_keep, ite2_keep, foldl_keep, foldl1_keep, foldl2_keep, ite_self, implies_true, keep_mk, State.capacityApply_keep, State.freezeChange_keep, State.gateChange_keep, State.gateStart_keep, State.snapLatch_keep, State.timerFires_keep]
theorem State.performDue_keep (n : Nat) (s : State) : (State.performDue n s).keep = s.keep := by
  induction n generalizing s with
  | zero => rfl
  | succ k ih =>
    unfold State.performDue
    split
    · rfl
    · rw [ih]; exact State.perform_keep _ _
theorem State.counted_keep (s : State) (step : BitVec 64) : (State.counted s step).keep = s.keep := by
  simp -implicitDefEqProofs only [State.counted, ite_keep, ite1_keep, ite2_keep, foldl_keep, foldl1_keep, foldl2_keep, ite_self, implies_true, keep_mk, State.irq_keep]
theorem State.stepCount_keep (s : State) (step : BitVec 64) : (State.stepCount s step).keep = s.keep := by
  unfold State.stepCount
  split
  · simp -implicitDefEqProofs only [ite_keep, ite1_keep, ite2_keep, foldl_keep, foldl1_keep, foldl2_keep, ite_self, implies_true, keep_mk, State.anchorAll_keep, State.counted_keep, State.performDue_keep, State.settleAll_keep]
  · rw [State.performDue_keep]; simp -implicitDefEqProofs only [ite_keep, ite1_keep, ite2_keep, foldl_keep, foldl1_keep, foldl2_keep, ite_self, implies_true, keep_mk, State.anchorAll_keep, State.counted_keep, State.performDue_keep, State.settleAll_keep]
theorem State.stepGo_keep (s : State) (w : Word) : (State.stepGo s w).keep = s.keep := by
  simp -implicitDefEqProofs only [State.stepGo, ite_keep, ite1_keep, ite2_keep, foldl_keep, foldl1_keep, foldl2_keep, ite_self, implies_true, keep_mk, State.badAcc_keep, State.setB_keep, State.setF_keep, State.stepCount_keep]
theorem State.rwsLim_keep (s : State) (who key hi lo v n : Nat) : (State.rwsLim s who key hi lo v n).keep = s.keep := by
  simp -implicitDefEqProofs only [State.rwsLim, ite_keep, ite1_keep, ite2_keep, foldl_keep, foldl1_keep, foldl2_keep, ite_self, implies_true, keep_mk, State.cfgGen_keep, State.sealReject_keep, State.setF_keep]
theorem State.cntClr_keep (s : State) (k : Kind) (i : Nat) (w : Word) : (State.cntClr s k i w).keep = s.keep := by
  unfold State.cntClr
  repeat' (first | (simp -implicitDefEqProofs only [ite_keep, ite1_keep, ite2_keep, foldl_keep, foldl1_keep, foldl2_keep, ite_self, implies_true, keep_mk, State.setF_keep, State.setTmg_keep, State.zero_keep, *]; done) | split | (refine (foldl_keep _ _ _ (fun t a => ?_)).trans ?_) | (refine (foldl1_keep _ _ _ (fun t a => ?_)).trans ?_) | (refine (foldl2_keep _ _ _ (fun t a => ?_)).trans ?_) | (simp -implicitDefEqProofs only [ite_keep, ite1_keep, ite2_keep, foldl_keep, foldl1_keep, foldl2_keep, ite_self, implies_true, keep_mk, State.setF_keep, State.setTmg_keep, State.zero_keep, *]))
theorem State.hookHdr_keep (s t : State) (p o : Nat) (w : Word) (h : t.keep = s.keep) : (State.hookHdr s t p o w).keep = s.keep := by
  unfold State.hookHdr
  repeat' (first | (simp -implicitDefEqProofs only [ite_keep, ite1_keep, ite2_keep, foldl_keep, foldl1_keep, foldl2_keep, ite_self, implies_true, keep_mk, State.cselWrite_keep, State.forceWr_keep, State.irqEdge_keep, State.wr_keep, *]; done) | split | (refine (foldl_keep _ _ _ (fun t a => ?_)).trans ?_) | (refine (foldl1_keep _ _ _ (fun t a => ?_)).trans ?_) | (refine (foldl2_keep _ _ _ (fun t a => ?_)).trans ?_) | (simp -implicitDefEqProofs only [ite_keep, ite1_keep, ite2_keep, foldl_keep, foldl1_keep, foldl2_keep, ite_self, implies_true, keep_mk, State.cselWrite_keep, State.forceWr_keep, State.irqEdge_keep, State.wr_keep, *]))
theorem State.hookTim_keep (s t : State) (a : Nat) (w : Word) (h : t.keep = s.keep) : (State.hookTim s t a w).keep = s.keep := by
  unfold State.hookTim
  repeat' (first | (simp -implicitDefEqProofs only [ite_keep, ite1_keep, ite2_keep, foldl_keep, foldl1_keep, foldl2_keep, ite_self, implies_true, keep_mk, State.stepGo_keep, State.timerWr_keep, State.writeRate_keep, *]; done) | split | (refine (foldl_keep _ _ _ (fun t a => ?_)).trans ?_) | (refine (foldl1_keep _ _ _ (fun t a => ?_)).trans ?_) | (refine (foldl2_keep _ _ _ (fun t a => ?_)).trans ?_) | (simp -implicitDefEqProofs only [ite_keep, ite1_keep, ite2_keep, foldl_keep, foldl1_keep, foldl2_keep, ite_self, implies_true, keep_mk, State.stepGo_keep, State.timerWr_keep, State.writeRate_keep, *]))
theorem State.hookPg_keep (s t : State) (who g a : Nat) (w : Word) (h : t.keep = s.keep) : (State.hookPg s t who g a w).keep = s.keep := by
  unfold State.hookPg
  repeat' (first | (simp -implicitDefEqProofs only [ite_keep, ite1_keep, ite2_keep, foldl_keep, foldl1_keep, foldl2_keep, ite_self, implies_true, keep_mk, State.mogArm_keep, State.mogParam_keep, State.pgClear_keep, State.tsfPop_keep, State.wr_keep, *]; done) | split | (refine (foldl_keep _ _ _ (fun t a => ?_)).trans ?_) | (refine (foldl1_keep _ _ _ (fun t a => ?_)).trans ?_) | (refine (foldl2_keep _ _ _ (fun t a => ?_)).trans ?_) | (simp -implicitDefEqProofs only [ite_keep, ite1_keep, ite2_keep, foldl_keep, foldl1_keep, foldl2_keep, ite_self, implies_true, keep_mk, State.mogArm_keep, State.mogParam_keep, State.pgClear_keep, State.tsfPop_keep, State.wr_keep, *]))
theorem State.hookTbl_keep (s t : State) (a : Nat) (w : Word) (h : t.keep = s.keep) : (State.hookTbl s t a w).keep = s.keep := by
  unfold State.hookTbl
  repeat' (first | (simp -implicitDefEqProofs only [ite_keep, ite1_keep, ite2_keep, foldl_keep, foldl1_keep, foldl2_keep, ite_self, implies_true, keep_mk, State.cmplPop_keep, State.tblGo_keep, *]; done) | split | (refine (foldl_keep _ _ _ (fun t a => ?_)).trans ?_) | (refine (foldl1_keep _ _ _ (fun t a => ?_)).trans ?_) | (refine (foldl2_keep _ _ _ (fun t a => ?_)).trans ?_) | (simp -implicitDefEqProofs only [ite_keep, ite1_keep, ite2_keep, foldl_keep, foldl1_keep, foldl2_keep, ite_self, implies_true, keep_mk, State.cmplPop_keep, State.tblGo_keep, *]))
theorem State.hookLrn_keep (s t : State) (a : Nat) (w : Word) (h : t.keep = s.keep) : (State.hookLrn s t a w).keep = s.keep := by
  unfold State.hookLrn
  repeat' (first | (simp -implicitDefEqProofs only [ite_keep, ite1_keep, ite2_keep, foldl_keep, foldl1_keep, foldl2_keep, ite_self, implies_true, keep_mk, State.badAcc_keep, State.setF_keep, *]; done) | split | (refine (foldl_keep _ _ _ (fun t a => ?_)).trans ?_) | (refine (foldl1_keep _ _ _ (fun t a => ?_)).trans ?_) | (refine (foldl2_keep _ _ _ (fun t a => ?_)).trans ?_) | (simp -implicitDefEqProofs only [ite_keep, ite1_keep, ite2_keep, foldl_keep, foldl1_keep, foldl2_keep, ite_self, implies_true, keep_mk, State.badAcc_keep, State.setF_keep, *]))
theorem State.hookTmg_keep (s t : State) (a : Nat) (w : Word) (h : t.keep = s.keep) : (State.hookTmg s t a w).keep = s.keep := by
  unfold State.hookTmg
  repeat' (first | (simp -implicitDefEqProofs only [ite_keep, ite1_keep, ite2_keep, foldl_keep, foldl1_keep, foldl2_keep, ite_self, implies_true, keep_mk, State.mcentWr_keep, State.pcidxWr_keep, State.rinkWr_keep, *]; done) | split | (refine (foldl_keep _ _ _ (fun t a => ?_)).trans ?_) | (refine (foldl1_keep _ _ _ (fun t a => ?_)).trans ?_) | (refine (foldl2_keep _ _ _ (fun t a => ?_)).trans ?_) | (simp -implicitDefEqProofs only [ite_keep, ite1_keep, ite2_keep, foldl_keep, foldl1_keep, foldl2_keep, ite_self, implies_true, keep_mk, State.mcentWr_keep, State.pcidxWr_keep, State.rinkWr_keep, *]))
theorem State.hookSch_keep (s t : State) (a : Nat) (w : Word) (h : t.keep = s.keep) : (State.hookSch s t a w).keep = s.keep := by
  unfold State.hookSch
  repeat' (first | (simp -implicitDefEqProofs only [ite_keep, ite1_keep, ite2_keep, foldl_keep, foldl1_keep, foldl2_keep, ite_self, implies_true, keep_mk, State.badAcc_keep, State.capctl_keep, State.gateCtl_keep, State.polctl_keep, State.pshctl_keep, State.setF_keep, State.shctl_keep, *]; done) | split | (refine (foldl_keep _ _ _ (fun t a => ?_)).trans ?_) | (refine (foldl1_keep _ _ _ (fun t a => ?_)).trans ?_) | (refine (foldl2_keep _ _ _ (fun t a => ?_)).trans ?_) | (simp -implicitDefEqProofs only [ite_keep, ite1_keep, ite2_keep, foldl_keep, foldl1_keep, foldl2_keep, ite_self, implies_true, keep_mk, State.badAcc_keep, State.capctl_keep, State.gateCtl_keep, State.polctl_keep, State.pshctl_keep, State.setF_keep, State.shctl_keep, *]))
theorem State.hookBlg_keep (s t : State) (a : Nat) (w : Word) (h : t.keep = s.keep) : (State.hookBlg s t a w).keep = s.keep := by
  unfold State.hookBlg
  repeat' (first | (simp -implicitDefEqProofs only [ite_keep, ite1_keep, ite2_keep, foldl_keep, foldl1_keep, foldl2_keep, ite_self, implies_true, keep_mk, State.hnot2_keep, State.journal_keep, State.memberCfg_keep, State.memberExcl_keep, *]; done) | split | (refine (foldl_keep _ _ _ (fun t a => ?_)).trans ?_) | (refine (foldl1_keep _ _ _ (fun t a => ?_)).trans ?_) | (refine (foldl2_keep _ _ _ (fun t a => ?_)).trans ?_) | (simp -implicitDefEqProofs only [ite_keep, ite1_keep, ite2_keep, foldl_keep, foldl1_keep, foldl2_keep, ite_self, implies_true, keep_mk, State.hnot2_keep, State.journal_keep, State.memberCfg_keep, State.memberExcl_keep, *]))
theorem State.sacfg0_keep (s t : State) (sa : Nat) (w : Word) (h : t.keep = s.keep) : (State.sacfg0 s t sa w).keep = s.keep := by
  unfold State.sacfg0
  repeat' (first | (simp -implicitDefEqProofs only [ite_keep, ite1_keep, ite2_keep, foldl_keep, foldl1_keep, foldl2_keep, ite_self, implies_true, keep_mk, State.badAcc_keep, State.setF_keep, State.setInUse_keep, *]; done) | split | (refine (foldl_keep _ _ _ (fun t a => ?_)).trans ?_) | (refine (foldl1_keep _ _ _ (fun t a => ?_)).trans ?_) | (refine (foldl2_keep _ _ _ (fun t a => ?_)).trans ?_) | (simp -implicitDefEqProofs only [ite_keep, ite1_keep, ite2_keep, foldl_keep, foldl1_keep, foldl2_keep, ite_self, implies_true, keep_mk, State.badAcc_keep, State.setF_keep, State.setInUse_keep, *]))
theorem State.hookMsc_keep (s t : State) (a : Nat) (w : Word) (h : t.keep = s.keep) : (State.hookMsc s t a w).keep = s.keep := by
  unfold State.hookMsc
  repeat' (first | (simp -implicitDefEqProofs only [ite_keep, ite1_keep, ite2_keep, foldl_keep, foldl1_keep, foldl2_keep, ite_self, implies_true, keep_mk, State.badAcc_keep, State.sacfg0_keep, State.wr_keep, *]; done) | split | (refine (foldl_keep _ _ _ (fun t a => ?_)).trans ?_) | (refine (foldl1_keep _ _ _ (fun t a => ?_)).trans ?_) | (refine (foldl2_keep _ _ _ (fun t a => ?_)).trans ?_) | (simp -implicitDefEqProofs only [ite_keep, ite1_keep, ite2_keep, foldl_keep, foldl1_keep, foldl2_keep, ite_self, implies_true, keep_mk, State.badAcc_keep, State.sacfg0_keep, State.wr_keep, *]))
theorem State.hookKey_keep (s t : State) (a : Nat) (w : Word) (h : t.keep = s.keep) : (State.hookKey s t a w).keep = s.keep := by
  unfold State.hookKey
  repeat' (first | (simp -implicitDefEqProofs only [ite_keep, ite1_keep, ite2_keep, foldl_keep, foldl1_keep, foldl2_keep, ite_self, implies_true, keep_mk, State.badAcc_keep, State.eraseWr_keep, State.zeroizeWr_keep, *]; done) | split | (refine (foldl_keep _ _ _ (fun t a => ?_)).trans ?_) | (refine (foldl1_keep _ _ _ (fun t a => ?_)).trans ?_) | (refine (foldl2_keep _ _ _ (fun t a => ?_)).trans ?_) | (simp -implicitDefEqProofs only [ite_keep, ite1_keep, ite2_keep, foldl_keep, foldl1_keep, foldl2_keep, ite_self, implies_true, keep_mk, State.badAcc_keep, State.eraseWr_keep, State.zeroizeWr_keep, *]))
theorem State.hookDrc_keep (s t : State) (a : Nat) (w : Word) (h : t.keep = s.keep) : (State.hookDrc s t a w).keep = s.keep := by
  unfold State.hookDrc
  repeat' (first | (simp -implicitDefEqProofs only [ite_keep, ite1_keep, ite2_keep, foldl_keep, foldl1_keep, foldl2_keep, ite_self, implies_true, keep_mk, State.fctl_keep, State.setF_keep, *]; done) | split | (refine (foldl_keep _ _ _ (fun t a => ?_)).trans ?_) | (refine (foldl1_keep _ _ _ (fun t a => ?_)).trans ?_) | (refine (foldl2_keep _ _ _ (fun t a => ?_)).trans ?_) | (simp -implicitDefEqProofs only [ite_keep, ite1_keep, ite2_keep, foldl_keep, foldl1_keep, foldl2_keep, ite_self, implies_true, keep_mk, State.fctl_keep, State.setF_keep, *]))
theorem State.hookHst_keep (s t : State) (a : Nat) (w : Word) (h : t.keep = s.keep) : (State.hookHst s t a w).keep = s.keep := by
  unfold State.hookHst
  repeat' (first | (simp -implicitDefEqProofs only [ite_keep, ite1_keep, ite2_keep, foldl_keep, foldl1_keep, foldl2_keep, ite_self, implies_true, keep_mk, State.badAcc_keep, State.injCharge_keep, *]; done) | split | (refine (foldl_keep _ _ _ (fun t a => ?_)).trans ?_) | (refine (foldl1_keep _ _ _ (fun t a => ?_)).trans ?_) | (refine (foldl2_keep _ _ _ (fun t a => ?_)).trans ?_) | (simp -implicitDefEqProofs only [ite_keep, ite1_keep, ite2_keep, foldl_keep, foldl1_keep, foldl2_keep, ite_self, implies_true, keep_mk, State.badAcc_keep, State.injCharge_keep, *]))
theorem State.chanWr_keep (s t : State) (c o : Nat) (w : Word) (h : t.keep = s.keep) : (State.chanWr s t c o w).keep = s.keep := by
  unfold State.chanWr
  repeat' (first | (simp -implicitDefEqProofs only [ite_keep, ite1_keep, ite2_keep, foldl_keep, foldl1_keep, foldl2_keep, ite_self, implies_true, keep_mk, State.badAcc_keep, State.dctlWr_keep, State.dmaEdge_keep, State.setF_keep, State.zero_keep, *]; done) | split | (refine (foldl_keep _ _ _ (fun t a => ?_)).trans ?_) | (refine (foldl1_keep _ _ _ (fun t a => ?_)).trans ?_) | (refine (foldl2_keep _ _ _ (fun t a => ?_)).trans ?_) | (simp -implicitDefEqProofs only [ite_keep, ite1_keep, ite2_keep, foldl_keep, foldl1_keep, foldl2_keep, ite_self, implies_true, keep_mk, State.badAcc_keep, State.dctlWr_keep, State.dmaEdge_keep, State.setF_keep, State.zero_keep, *]))
theorem State.hookDma_keep (s t : State) (a : Nat) (w : Word) (h : t.keep = s.keep) : (State.hookDma s t a w).keep = s.keep := by
  unfold State.hookDma
  repeat' (first | (simp -implicitDefEqProofs only [ite_keep, ite1_keep, ite2_keep, foldl_keep, foldl1_keep, foldl2_keep, ite_self, implies_true, keep_mk, State.badAcc_keep, State.chanWr_keep, *]; done) | split | (refine (foldl_keep _ _ _ (fun t a => ?_)).trans ?_) | (refine (foldl1_keep _ _ _ (fun t a => ?_)).trans ?_) | (refine (foldl2_keep _ _ _ (fun t a => ?_)).trans ?_) | (simp -implicitDefEqProofs only [ite_keep, ite1_keep, ite2_keep, foldl_keep, foldl1_keep, foldl2_keep, ite_self, implies_true, keep_mk, State.badAcc_keep, State.chanWr_keep, *]))
theorem State.hookPwr_keep (s t : State) (who a : Nat) (w : Word) (h : t.keep = s.keep) : (State.hookPwr s t who a w).keep = s.keep := by
  unfold State.hookPwr
  repeat' (first | (simp -implicitDefEqProofs only [ite_keep, ite1_keep, ite2_keep, foldl_keep, foldl1_keep, foldl2_keep, ite_self, implies_true, keep_mk, State.rwsLim_keep, State.rwsPut_keep, State.setF_keep, *]; done) | split | (refine (foldl_keep _ _ _ (fun t a => ?_)).trans ?_) | (refine (foldl1_keep _ _ _ (fun t a => ?_)).trans ?_) | (refine (foldl2_keep _ _ _ (fun t a => ?_)).trans ?_) | (simp -implicitDefEqProofs only [ite_keep, ite1_keep, ite2_keep, foldl_keep, foldl1_keep, foldl2_keep, ite_self, implies_true, keep_mk, State.rwsLim_keep, State.rwsPut_keep, State.setF_keep, *]))
theorem State.hookCnt_keep (s t : State) (a : Nat) (w : Word) (h : t.keep = s.keep) : (State.hookCnt s t a w).keep = s.keep := by
  unfold State.hookCnt
  repeat' (first | (simp -implicitDefEqProofs only [ite_keep, ite1_keep, ite2_keep, foldl_keep, foldl1_keep, foldl2_keep, ite_self, implies_true, keep_mk, State.badAcc_keep, State.freezeCtl_keep, State.snapCtl_keep, *]; done) | split | (refine (foldl_keep _ _ _ (fun t a => ?_)).trans ?_) | (refine (foldl1_keep _ _ _ (fun t a => ?_)).trans ?_) | (refine (foldl2_keep _ _ _ (fun t a => ?_)).trans ?_) | (simp -implicitDefEqProofs only [ite_keep, ite1_keep, ite2_keep, foldl_keep, foldl1_keep, foldl2_keep, ite_self, implies_true, keep_mk, State.badAcc_keep, State.freezeCtl_keep, State.snapCtl_keep, *]))
theorem State.busyGate_keep (s : State) (page : Nat) (r : Row) (w : Word) (g : State → Word → State) (hg : ∀ t0 t1, (g t0 t1).keep = t0.keep) : (State.busyGate s page r w g).keep = s.keep := by
  unfold State.busyGate
  repeat' (first | (simp -implicitDefEqProofs only [ite_keep, ite1_keep, ite2_keep, foldl_keep, foldl1_keep, foldl2_keep, ite_self, implies_true, keep_mk, State.badAcc_keep, *]; done) | split | (refine (foldl_keep _ _ _ (fun t a => ?_)).trans ?_) | (refine (foldl1_keep _ _ _ (fun t a => ?_)).trans ?_) | (refine (foldl2_keep _ _ _ (fun t a => ?_)).trans ?_) | (simp -implicitDefEqProofs only [ite_keep, ite1_keep, ite2_keep, foldl_keep, foldl1_keep, foldl2_keep, ite_self, implies_true, keep_mk, State.badAcc_keep, *]))
theorem State.rwsWide_keep (s : State) (who lo v : Nat) (f : Nat × Nat) : (State.rwsWide s who lo v f).keep = s.keep := by
  simp -implicitDefEqProofs only [State.rwsWide, ite_keep, ite1_keep, ite2_keep, foldl_keep, foldl1_keep, foldl2_keep, ite_self, implies_true, keep_mk, State.cfgGen_keep, State.sealReject_keep, State.wr64_keep]
theorem State.commitPair_keep (s : State) (who p o : Nat) (rl rh : Row) (low : Option Word) (high : Word) : (State.commitPair s who p o rl rh low high).keep = s.keep := by
  unfold State.commitPair
  simp only
  refine ite_cases_keep _ _ _ _ (fun _ => ?_) (fun _ => ?_)
  · simp -implicitDefEqProofs only [ite_keep, ite1_keep, ite2_keep, foldl_keep, foldl1_keep, foldl2_keep, ite_self, implies_true, keep_mk, State.badAcc_keep, State.hostRet_keep, State.regPut_keep, State.rwsWide_keep, State.writeNextPn_keep]
  refine ite_cases_keep _ _ _ _ (fun _ => ?_) (fun _ => ?_)
  · refine ite_cases_keep _ _ _ _ (fun _ => ?_) (fun _ => ?_)
    · simp -implicitDefEqProofs only [ite_keep, ite1_keep, ite2_keep, foldl_keep, foldl1_keep, foldl2_keep, ite_self, implies_true, keep_mk, State.badAcc_keep, State.hostRet_keep, State.regPut_keep, State.rwsWide_keep, State.writeNextPn_keep]
    · cases low <;> simp -implicitDefEqProofs only [ite_keep, ite1_keep, ite2_keep, foldl_keep, foldl1_keep, foldl2_keep, ite_self, implies_true, keep_mk, State.badAcc_keep, State.hostRet_keep, State.regPut_keep, State.rwsWide_keep, State.writeNextPn_keep]
  refine ite_cases_keep _ _ _ _ (fun _ => ?_) (fun _ => ?_)
  · simp -implicitDefEqProofs only [ite_keep, ite1_keep, ite2_keep, foldl_keep, foldl1_keep, foldl2_keep, ite_self, implies_true, keep_mk, State.badAcc_keep, State.hostRet_keep, State.regPut_keep, State.rwsWide_keep, State.writeNextPn_keep]
  refine ite_cases_keep _ _ _ _ (fun _ => ?_) (fun _ => ?_)
  · simp -implicitDefEqProofs only [ite_keep, ite1_keep, ite2_keep, foldl_keep, foldl1_keep, foldl2_keep, ite_self, implies_true, keep_mk, State.badAcc_keep, State.hostRet_keep, State.regPut_keep, State.rwsWide_keep, State.writeNextPn_keep]
  generalize wideFields _ = l
  cases l
  · cases low <;> simp -implicitDefEqProofs only [ite_keep, ite1_keep, ite2_keep, foldl_keep, foldl1_keep, foldl2_keep, ite_self, implies_true, keep_mk, State.badAcc_keep, State.hostRet_keep, State.regPut_keep, State.rwsWide_keep, State.writeNextPn_keep]
  · simp -implicitDefEqProofs only [ite_keep, ite1_keep, ite2_keep, foldl_keep, foldl1_keep, foldl2_keep, ite_self, implies_true, keep_mk, State.badAcc_keep, State.hostRet_keep, State.regPut_keep, State.rwsWide_keep, State.writeNextPn_keep]
theorem State.holdLow_keep (s : State) (who key : Nat) (w : Word) : (State.holdLow s who key w).keep = s.keep := by
  simp -implicitDefEqProofs only [State.holdLow, ite_keep, ite1_keep, ite2_keep, foldl_keep, foldl1_keep, foldl2_keep, ite_self, implies_true, keep_mk, State.badAcc_keep, State.setPath_keep]
theorem State.takeHeld_keep (s : State) (who key : Nat) : (State.takeHeld s who key).2.keep = s.keep := by
  unfold State.takeHeld
  repeat' (first | (simp -implicitDefEqProofs only [ite_keep, ite1_keep, ite2_keep, foldl_keep, foldl1_keep, foldl2_keep, ite_self, implies_true, keep_mk, State.setPath_keep, *]; done) | split | (refine (foldl_keep _ _ _ (fun t a => ?_)).trans ?_) | (refine (foldl1_keep _ _ _ (fun t a => ?_)).trans ?_) | (refine (foldl2_keep _ _ _ (fun t a => ?_)).trans ?_) | (simp -implicitDefEqProofs only [ite_keep, ite1_keep, ite2_keep, foldl_keep, foldl1_keep, foldl2_keep, ite_self, implies_true, keep_mk, State.setPath_keep, *]))
theorem State.qpWr_keep (s : State) (u q o : Nat) (r : Row) (w : Word) : (State.qpWr s u q o r w).keep = s.keep := by
  simp -implicitDefEqProofs only [State.qpWr, ite_keep, ite1_keep, ite2_keep, foldl_keep, foldl1_keep, foldl2_keep, ite_self, implies_true, keep_mk, State.badAcc_keep, State.qpPoll_keep, State.regPut_keep, State.txFlush_keep, State.zero_keep]
theorem State.ukeyWr_keep (s : State) (u o : Nat) (r : Row) (w : Word) : (State.ukeyWr s u o r w).keep = s.keep := by
  simp -implicitDefEqProofs only [State.ukeyWr, ite_keep, ite1_keep, ite2_keep, foldl_keep, foldl1_keep, foldl2_keep, ite_self, implies_true, keep_mk, State.importGo_keep, State.regPut_keep, State.userErase_keep, State.wr_keep]
theorem State.uctxWr_keep (s : State) (u o : Nat) (r : Row) (w : Word) : (State.uctxWr s u o r w).keep = s.keep := by
  unfold State.uctxWr
  repeat' (first | (simp -implicitDefEqProofs only [ite_keep, ite1_keep, ite2_keep, foldl_keep, foldl1_keep, foldl2_keep, ite_self, implies_true, keep_mk, State.ctxCfgWr_keep, State.denied_keep, State.regPut_keep, State.wr_keep, *]; done) | split | (refine (foldl_keep _ _ _ (fun t a => ?_)).trans ?_) | (refine (foldl1_keep _ _ _ (fun t a => ?_)).trans ?_) | (refine (foldl2_keep _ _ _ (fun t a => ?_)).trans ?_) | (simp -implicitDefEqProofs only [ite_keep, ite1_keep, ite2_keep, foldl_keep, foldl1_keep, foldl2_keep, ite_self, implies_true, keep_mk, State.ctxCfgWr_keep, State.denied_keep, State.regPut_keep, State.wr_keep, *]))
theorem State.userPair_keep (s : State) (u o : Nat) (rl rh : Row) (low : Option Word) (high : Word) : (State.userPair s u o rl rh low high).keep = s.keep := by
  unfold State.userPair
  repeat' (first | (simp -implicitDefEqProofs only [ite_keep, ite1_keep, ite2_keep, foldl_keep, foldl1_keep, foldl2_keep, ite_self, implies_true, keep_mk, State.badAcc_keep, State.denied_keep, State.regPut_keep, State.writeNextPn_keep, *]; done) | split | (refine (foldl_keep _ _ _ (fun t a => ?_)).trans ?_) | (refine (foldl1_keep _ _ _ (fun t a => ?_)).trans ?_) | (refine (foldl2_keep _ _ _ (fun t a => ?_)).trans ?_) | (simp -implicitDefEqProofs only [ite_keep, ite1_keep, ite2_keep, foldl_keep, foldl1_keep, foldl2_keep, ite_self, implies_true, keep_mk, State.badAcc_keep, State.denied_keep, State.regPut_keep, State.writeNextPn_keep, *]))
set_option maxRecDepth 100000 in
theorem State.userPut_keep (s : State) (u o : Nat) (r : Row) (w : Word) : (State.userPut s u o r w).keep = s.keep := by
  unfold State.userPut
  refine ite_cases_keep _ _ _ _ (fun _ => ?_) (fun _ => ?_)
  · refine ite_cases_keep _ _ _ _ (fun _ => ?_) (fun _ => ?_) <;> simp -implicitDefEqProofs only [ite_keep, ite1_keep, ite2_keep, foldl_keep, foldl1_keep, foldl2_keep, ite_self, implies_true, keep_mk, State.chanWr_keep, State.qpWr_keep, State.regPut_keep, State.uctxWr_keep, State.ukeyWr_keep, State.wr_keep]
  refine ite_cases_keep _ _ _ _ (fun _ => ?_) (fun _ => ?_)
  · generalize s.userCh u = c
    cases c
    · rfl
    · simp -implicitDefEqProofs only [ite_keep, ite1_keep, ite2_keep, foldl_keep, foldl1_keep, foldl2_keep, ite_self, implies_true, keep_mk, State.chanWr_keep, State.qpWr_keep, State.regPut_keep, State.uctxWr_keep, State.ukeyWr_keep, State.wr_keep]
  refine ite_cases_keep _ _ _ _ (fun _ => ?_) (fun _ => ?_)
  · simp -implicitDefEqProofs only [ite_keep, ite1_keep, ite2_keep, foldl_keep, foldl1_keep, foldl2_keep, ite_self, implies_true, keep_mk, State.chanWr_keep, State.qpWr_keep, State.regPut_keep, State.uctxWr_keep, State.ukeyWr_keep, State.wr_keep]
  refine ite_cases_keep _ _ _ _ (fun _ => ?_) (fun _ => ?_)
  · simp -implicitDefEqProofs only [ite_keep, ite1_keep, ite2_keep, foldl_keep, foldl1_keep, foldl2_keep, ite_self, implies_true, keep_mk, State.chanWr_keep, State.qpWr_keep, State.regPut_keep, State.uctxWr_keep, State.ukeyWr_keep, State.wr_keep]
  refine ite_cases_keep _ _ _ _ (fun _ => ?_) (fun _ => ?_)
  · simp -implicitDefEqProofs only [ite_keep, ite1_keep, ite2_keep, foldl_keep, foldl1_keep, foldl2_keep, ite_self, implies_true, keep_mk, State.chanWr_keep, State.qpWr_keep, State.regPut_keep, State.uctxWr_keep, State.ukeyWr_keep, State.wr_keep]
  · rfl
theorem State.write2_keep (s : State) (u o : Nat) (w : Word) : (State.write2 s u o w).keep = s.keep := by
  have hb : ∀ (t : State) (p : Nat) (r : Row), (t.busyGate p r w fun s w => s.userPut u o r w).keep = t.keep :=
    fun t p r => State.busyGate_keep _ _ _ _ _ (fun a b => State.userPut_keep _ _ _ _ _)
  unfold State.write2
  simp only
  split
  · split <;> simp -implicitDefEqProofs only [ite_keep, ite1_keep, ite2_keep, foldl_keep, foldl1_keep, foldl2_keep, ite_self, implies_true, keep_mk, State.absentWrite_keep, State.busyGate_keep, State.denied_keep, State.holdLow_keep, State.takeHeld_keep, State.userPair_keep, State.userPut_keep]
  · split
    · simp -implicitDefEqProofs only [ite_keep, ite1_keep, ite2_keep, foldl_keep, foldl1_keep, foldl2_keep, ite_self, implies_true, keep_mk, State.absentWrite_keep, State.busyGate_keep, State.denied_keep, State.holdLow_keep, State.takeHeld_keep, State.userPair_keep, State.userPut_keep]
    · split
      · simp -implicitDefEqProofs only [ite_keep, ite1_keep, ite2_keep, foldl_keep, foldl1_keep, foldl2_keep, ite_self, implies_true, keep_mk, State.absentWrite_keep, State.busyGate_keep, State.denied_keep, State.holdLow_keep, State.takeHeld_keep, State.userPair_keep, State.userPut_keep]
      · split
        · simp -implicitDefEqProofs only [ite_keep, ite1_keep, ite2_keep, foldl_keep, foldl1_keep, foldl2_keep, ite_self, implies_true, keep_mk, State.absentWrite_keep, State.busyGate_keep, State.denied_keep, State.holdLow_keep, State.takeHeld_keep, State.userPair_keep, State.userPut_keep]
        · split
          · split
            · simp -implicitDefEqProofs only [ite_keep, ite1_keep, ite2_keep, foldl_keep, foldl1_keep, foldl2_keep, ite_self, implies_true, keep_mk, State.absentWrite_keep, State.busyGate_keep, State.denied_keep, State.holdLow_keep, State.takeHeld_keep, State.userPair_keep, State.userPut_keep]
            · exact hb _ _ _
          · exact hb _ _ _
theorem State.write4_keep (s : State) (u o : Nat) (w : Word) : (State.write4 s u o w).keep = s.keep := by
  simp -implicitDefEqProofs only [State.write4, ite_keep, ite1_keep, ite2_keep, foldl_keep, foldl1_keep, foldl2_keep, ite_self, implies_true, keep_mk, State.denied_keep, State.setF_keep]
end Sys2Proof.Machine
end

