-- ==== Sys2Proof/Laws/Memory.lean ====
section
/-! SUPPORT. The list forms of the sparse stores: every operation on a map keeps its addresses rising, and the DRAM's
operations keep Memory.wf. -/

namespace Sys2Proof.Machine

theorem kwf_cons {α : Type} (e : Nat × α) (m : KMap α) : kwf (e :: m) = true ↔ (∀ x ∈ m, e.1 < x.1) ∧ kwf m = true := by
  induction m generalizing e with
  | nil => simp [kwf]
  | cons a t ih =>
    simp only [kwf, Bool.and_eq_true, decide_eq_true_eq, List.mem_cons, forall_eq_or_imp]
    constructor
    · intro ⟨h, g⟩
      exact ⟨⟨h, fun x hx => Nat.lt_trans h (((ih a).1 g).1 x hx)⟩, g⟩
    · intro ⟨⟨h, _⟩, g⟩
      exact ⟨h, g⟩

theorem kwf_filter {α : Type} (m : KMap α) (p : Nat × α → Bool) (h : kwf m = true) : kwf (m.filter p) = true := by
  induction m with
  | nil => rfl
  | cons a t ih =>
    rw [kwf_cons] at h
    rw [List.filter_cons]
    split
    · rw [kwf_cons]
      exact ⟨fun x hx => h.1 x (List.mem_filter.1 hx).1, ih h.2⟩
    · exact ih h.2

theorem kwf_kerase {α : Type} (m : KMap α) (k : Nat) (h : kwf m = true) : kwf (kerase m k) = true := kwf_filter m _ h

theorem mem_kset {α : Type} {m : KMap α} {k : Nat} {v : α} {x : Nat × α} (h : x ∈ kset m k v) : x = (k, v) ∨ x ∈ m := by
  induction m with
  | nil => simpa [kset] using h
  | cons a t ih =>
    obtain ⟨a, b⟩ := a
    simp only [kset] at h
    split at h
    · rcases List.mem_cons.1 h with h | h
      · exact .inl h
      · exact .inr (List.mem_cons_of_mem _ h)
    · split at h
      · exact List.mem_cons.1 h
      · rcases List.mem_cons.1 h with h | h
        · exact .inr (h ▸ List.mem_cons_self ..)
        · exact (ih h).imp id fun h => List.mem_cons_of_mem _ h

theorem kwf_kset {α : Type} (m : KMap α) (k : Nat) (v : α) (h : kwf m = true) : kwf (kset m k v) = true := by
  induction m with
  | nil => rfl
  | cons a t ih =>
    obtain ⟨a, b⟩ := a
    have g := (kwf_cons _ _).1 h
    simp only [kset]
    split
    · next e => subst e; exact (kwf_cons _ _).2 g
    · split
      · next l =>
        refine (kwf_cons _ _).2 ⟨fun x hx => ?_, h⟩
        rcases List.mem_cons.1 hx with hx | hx
        · exact hx ▸ l
        · exact Nat.lt_trans l (g.1 x hx)
      · next e l =>
        refine (kwf_cons _ _).2 ⟨fun x hx => ?_, ih g.2⟩
        rcases mem_kset hx with hx | hx
        · subst hx; show a < k; omega
        · exact g.1 x hx

/-- A register write keeps the register store's form. -/
theorem kwf_regSet (m : KMap Word) (k : Nat) (v : Word) (h : kwf m = true) : kwf (regSet m k v) = true := by
  unfold regSet; split
  · exact kwf_kerase m k h
  · exact kwf_kset m k v h

theorem Memory.wf_iff (d : Drc) :
    Memory.wf d = true ↔ kwf d.bursts = true ∧ ∀ b ∈ d.bursts, b.2 ≠ 0 ∨ d.stale.contains (b.1 / 64) = true := by
  simp only [Memory.wf, Bool.and_eq_true, List.all_eq_true, Bool.or_eq_true, decide_eq_true_eq]

/-- Putting one burst keeps the form. -/
theorem Memory.wf_burstPut (d : Drc) (k : Nat) (v : BitVec 512) (h : Memory.wf d = true) : Memory.wf (d.burstPut k v) = true := by
  rw [Memory.wf_iff] at *
  unfold Drc.burstPut
  simp only
  split
  · next c =>
    refine ⟨kwf_kset _ _ _ h.1, fun b hb => ?_⟩
    rcases mem_kset hb with hb | hb
    · subst hb; simpa only [Bool.or_eq_true, decide_eq_true_eq] using c
    · exact h.2 b hb
  · exact ⟨kwf_kerase _ _ h.1, fun b hb => h.2 b (List.mem_filter.1 hb).1⟩

theorem Memory.wf_foldl {α : Type} (f : Drc → α → Drc) (l : List α) (d : Drc)
    (hf : ∀ d a, Memory.wf d = true → Memory.wf (f d a) = true) (h : Memory.wf d = true) : Memory.wf (l.foldl f d) = true := by
  induction l generalizing d with
  | nil => exact h
  | cons a t ih => exact ih _ (hf _ _ h)

/-- Zeroing a channel keeps the form. -/
theorem Memory.wf_zeroChan (s : State) (n : Nat) (h : Memory.wf s.drc = true) : Memory.wf (s.zeroChan n).drc = true := by
  refine Memory.wf_foldl _ _ _ (fun d k hd => Memory.wf_burstPut d k 0 hd) ?_
  rw [Memory.wf_iff] at *
  exact ⟨kwf_filter _ _ h.1, fun b hb => h.2 b (List.mem_filter.1 hb).1⟩

/-- A read draws free values and changes no memory. -/
theorem State.dramBurst_drc (s : State) (a : Nat) : (s.dramBurst a).2.drc = s.drc := by
  have hd : ∀ (l : List Nat) (x : BitVec 512 × State), (l.foldl (fun (acc : BitVec 512 × State) i =>
      let d := acc.2.drawFree
      (acc.1 ||| (d.1.setWidth 512 <<< (64 * i)), d.2)) x).2.drc = x.2.drc := by
    intro l
    induction l with
    | nil => intro x; rfl
    | cons i t ih => intro x; rw [List.foldl_cons, ih]; rfl
  unfold State.dramBurst
  split
  · rfl
  · split
    · exact hd _ _
    · rfl

/-- Noting a write for the scrub changes no memory. -/
theorem State.scrubSeen_bursts (s : State) (r : DReq) :
    (s.scrubSeen r).drc.bursts = s.drc.bursts ∧ (s.scrubSeen r).drc.stale = s.drc.stale := by
  unfold State.scrubSeen
  generalize r.bursts = l
  induction l generalizing s with
  | nil => exact ⟨rfl, rfl⟩
  | cons a l ih =>
    rw [List.foldl_cons]
    refine ⟨(ih _).1.trans ?_, (ih _).2.trans ?_⟩ <;>
    · simp only
      split
      · split <;> rfl
      · rfl

/-- A write to the DRAM keeps the form. -/
theorem Memory.wf_dramStore (s : State) (r : DReq) (h : Memory.wf s.drc = true) : Memory.wf (s.dramStore r).drc = true := by
  have hf : ∀ (l : List (Nat × Nat)) (t : State), Memory.wf t.drc = true → Memory.wf (l.foldl (fun t ai =>
      let old := t.dramBurst ai.1
      let bytes := ((leBytes 64 old.1.toNat).zip ((r.data.drop (64 * ai.2)).take 64)).map fun e => e.2.getD e.1
      ({ old.2 with drc := old.2.drc.burstPut (ai.1 / 64) (BitVec.ofNat 512 (leNat bytes)) } : State)) t).drc = true := by
    intro l
    induction l with
    | nil => intro t ht; exact ht
    | cons a l ih =>
      intro t ht
      rw [List.foldl_cons]
      refine ih _ ?_
      simp only [State.dramBurst_drc]
      exact Memory.wf_burstPut _ _ _ ht
  have hs := State.scrubSeen_bursts s r
  have h' : Memory.wf (s.scrubSeen r).drc = true := by rw [Memory.wf_iff] at *; rw [hs.1, hs.2]; exact h
  unfold State.dramStore
  simp only
  generalize s.scrubSeen r = t at h'
  split
  · exact hf _ _ h'
  · rw [Memory.wf_iff] at *
    refine ⟨kwf_filter _ _ h'.1, fun b hb => ?_⟩
    refine (h'.2 b (List.mem_filter.1 hb).1).imp id fun c => ?_
    simp only
    split
    · exact c
    · simp only [List.contains_cons, c, Bool.or_true]

/-- The machine after reset has the form. -/
theorem Memory.wf_reset : Memory.wf State.reset.drc = true := rfl

end Sys2Proof.Machine
end

