-- ==== Sys2Proof/Laws/State.lean ====
section
/-! SUPPORT. Frame laws of the shared operations: one lemma for each field of the state that an operation leaves alone. -/

set_option linter.unusedSimpArgs false

namespace Sys2Proof.Machine

theorem foldl_fuses {α : Type} (f : State → α → State) (l : List α) (s : State) (h : ∀ t a, (f t a).fuses = t.fuses) :
    (l.foldl f s).fuses = s.fuses := by
  induction l generalizing s with
  | nil => rfl
  | cons a t ih => rw [List.foldl_cons, ih, h]

theorem ite_fuses (c : Prop) [Decidable c] (a b : State) : (if c then a else b).fuses = if c then a.fuses else b.fuses := by
  split <;> rfl

theorem foldl_dev {α : Type} (f : State → α → State) (l : List α) (s : State) (h : ∀ t a, (f t a).dev = t.dev) :
    (l.foldl f s).dev = s.dev := by
  induction l generalizing s with
  | nil => rfl
  | cons a t ih => rw [List.foldl_cons, ih, h]

theorem ite_dev (c : Prop) [Decidable c] (a b : State) : (if c then a else b).dev = if c then a.dev else b.dev := by
  split <;> rfl

theorem foldl_acc {α : Type} (f : State → α → State) (l : List α) (s : State) (h : ∀ t a, (f t a).acc = t.acc) :
    (l.foldl f s).acc = s.acc := by
  induction l generalizing s with
  | nil => rfl
  | cons a t ih => rw [List.foldl_cons, ih, h]

theorem ite_acc (c : Prop) [Decidable c] (a b : State) : (if c then a else b).acc = if c then a.acc else b.acc := by
  split <;> rfl

theorem foldl_blks {α : Type} (f : State → α → State) (l : List α) (s : State) (h : ∀ t a, (f t a).blks = t.blks) :
    (l.foldl f s).blks = s.blks := by
  induction l generalizing s with
  | nil => rfl
  | cons a t ih => rw [List.foldl_cons, ih, h]

theorem ite_blks (c : Prop) [Decidable c] (a b : State) : (if c then a else b).blks = if c then a.blks else b.blks := by
  split <;> rfl

theorem foldl_regs {α : Type} (f : State → α → State) (l : List α) (s : State) (h : ∀ t a, (f t a).regs = t.regs) :
    (l.foldl f s).regs = s.regs := by
  induction l generalizing s with
  | nil => rfl
  | cons a t ih => rw [List.foldl_cons, ih, h]

theorem ite_regs (c : Prop) [Decidable c] (a b : State) : (if c then a else b).regs = if c then a.regs else b.regs := by
  split <;> rfl

theorem foldl_now {α : Type} (f : State → α → State) (l : List α) (s : State) (h : ∀ t a, (f t a).now = t.now) :
    (l.foldl f s).now = s.now := by
  induction l generalizing s with
  | nil => rfl
  | cons a t ih => rw [List.foldl_cons, ih, h]

theorem ite_now (c : Prop) [Decidable c] (a b : State) : (if c then a else b).now = if c then a.now else b.now := by
  split <;> rfl

theorem foldl_tim {α : Type} (f : State → α → State) (l : List α) (s : State) (h : ∀ t a, (f t a).tim = t.tim) :
    (l.foldl f s).tim = s.tim := by
  induction l generalizing s with
  | nil => rfl
  | cons a t ih => rw [List.foldl_cons, ih, h]

theorem ite_tim (c : Prop) [Decidable c] (a b : State) : (if c then a else b).tim = if c then a.tim else b.tim := by
  split <;> rfl

theorem foldl_ports {α : Type} (f : State → α → State) (l : List α) (s : State) (h : ∀ t a, (f t a).ports = t.ports) :
    (l.foldl f s).ports = s.ports := by
  induction l generalizing s with
  | nil => rfl
  | cons a t ih => rw [List.foldl_cons, ih, h]

theorem ite_ports (c : Prop) [Decidable c] (a b : State) : (if c then a else b).ports = if c then a.ports else b.ports := by
  split <;> rfl

theorem foldl_pgs {α : Type} (f : State → α → State) (l : List α) (s : State) (h : ∀ t a, (f t a).pgs = t.pgs) :
    (l.foldl f s).pgs = s.pgs := by
  induction l generalizing s with
  | nil => rfl
  | cons a t ih => rw [List.foldl_cons, ih, h]

theorem ite_pgs (c : Prop) [Decidable c] (a b : State) : (if c then a else b).pgs = if c then a.pgs else b.pgs := by
  split <;> rfl

theorem foldl_tbl {α : Type} (f : State → α → State) (l : List α) (s : State) (h : ∀ t a, (f t a).tbl = t.tbl) :
    (l.foldl f s).tbl = s.tbl := by
  induction l generalizing s with
  | nil => rfl
  | cons a t ih => rw [List.foldl_cons, ih, h]

theorem ite_tbl (c : Prop) [Decidable c] (a b : State) : (if c then a else b).tbl = if c then a.tbl else b.tbl := by
  split <;> rfl

theorem foldl_ver {α : Type} (f : State → α → State) (l : List α) (s : State) (h : ∀ t a, (f t a).ver = t.ver) :
    (l.foldl f s).ver = s.ver := by
  induction l generalizing s with
  | nil => rfl
  | cons a t ih => rw [List.foldl_cons, ih, h]

theorem ite_ver (c : Prop) [Decidable c] (a b : State) : (if c then a else b).ver = if c then a.ver else b.ver := by
  split <;> rfl

theorem foldl_ips {α : Type} (f : State → α → State) (l : List α) (s : State) (h : ∀ t a, (f t a).ips = t.ips) :
    (l.foldl f s).ips = s.ips := by
  induction l generalizing s with
  | nil => rfl
  | cons a t ih => rw [List.foldl_cons, ih, h]

theorem ite_ips (c : Prop) [Decidable c] (a b : State) : (if c then a else b).ips = if c then a.ips else b.ips := by
  split <;> rfl

theorem foldl_eps {α : Type} (f : State → α → State) (l : List α) (s : State) (h : ∀ t a, (f t a).eps = t.eps) :
    (l.foldl f s).eps = s.eps := by
  induction l generalizing s with
  | nil => rfl
  | cons a t ih => rw [List.foldl_cons, ih, h]

theorem ite_eps (c : Prop) [Decidable c] (a b : State) : (if c then a else b).eps = if c then a.eps else b.eps := by
  split <;> rfl

theorem foldl_tmg {α : Type} (f : State → α → State) (l : List α) (s : State) (h : ∀ t a, (f t a).tmg = t.tmg) :
    (l.foldl f s).tmg = s.tmg := by
  induction l generalizing s with
  | nil => rfl
  | cons a t ih => rw [List.foldl_cons, ih, h]

theorem ite_tmg (c : Prop) [Decidable c] (a b : State) : (if c then a else b).tmg = if c then a.tmg else b.tmg := by
  split <;> rfl

theorem foldl_bpm {α : Type} (f : State → α → State) (l : List α) (s : State) (h : ∀ t a, (f t a).bpm = t.bpm) :
    (l.foldl f s).bpm = s.bpm := by
  induction l generalizing s with
  | nil => rfl
  | cons a t ih => rw [List.foldl_cons, ih, h]

theorem ite_bpm (c : Prop) [Decidable c] (a b : State) : (if c then a else b).bpm = if c then a.bpm else b.bpm := by
  split <;> rfl

theorem foldl_drc {α : Type} (f : State → α → State) (l : List α) (s : State) (h : ∀ t a, (f t a).drc = t.drc) :
    (l.foldl f s).drc = s.drc := by
  induction l generalizing s with
  | nil => rfl
  | cons a t ih => rw [List.foldl_cons, ih, h]

theorem ite_drc (c : Prop) [Decidable c] (a b : State) : (if c then a else b).drc = if c then a.drc else b.drc := by
  split <;> rfl

theorem foldl_sch {α : Type} (f : State → α → State) (l : List α) (s : State) (h : ∀ t a, (f t a).sch = t.sch) :
    (l.foldl f s).sch = s.sch := by
  induction l generalizing s with
  | nil => rfl
  | cons a t ih => rw [List.foldl_cons, ih, h]

theorem ite_sch (c : Prop) [Decidable c] (a b : State) : (if c then a else b).sch = if c then a.sch else b.sch := by
  split <;> rfl

theorem foldl_blg {α : Type} (f : State → α → State) (l : List α) (s : State) (h : ∀ t a, (f t a).blg = t.blg) :
    (l.foldl f s).blg = s.blg := by
  induction l generalizing s with
  | nil => rfl
  | cons a t ih => rw [List.foldl_cons, ih, h]

theorem ite_blg (c : Prop) [Decidable c] (a b : State) : (if c then a else b).blg = if c then a.blg else b.blg := by
  split <;> rfl

theorem foldl_msc {α : Type} (f : State → α → State) (l : List α) (s : State) (h : ∀ t a, (f t a).msc = t.msc) :
    (l.foldl f s).msc = s.msc := by
  induction l generalizing s with
  | nil => rfl
  | cons a t ih => rw [List.foldl_cons, ih, h]

theorem ite_msc (c : Prop) [Decidable c] (a b : State) : (if c then a else b).msc = if c then a.msc else b.msc := by
  split <;> rfl

theorem foldl_key {α : Type} (f : State → α → State) (l : List α) (s : State) (h : ∀ t a, (f t a).key = t.key) :
    (l.foldl f s).key = s.key := by
  induction l generalizing s with
  | nil => rfl
  | cons a t ih => rw [List.foldl_cons, ih, h]

theorem ite_key (c : Prop) [Decidable c] (a b : State) : (if c then a else b).key = if c then a.key else b.key := by
  split <;> rfl

theorem foldl_pci {α : Type} (f : State → α → State) (l : List α) (s : State) (h : ∀ t a, (f t a).pci = t.pci) :
    (l.foldl f s).pci = s.pci := by
  induction l generalizing s with
  | nil => rfl
  | cons a t ih => rw [List.foldl_cons, ih, h]

theorem ite_pci (c : Prop) [Decidable c] (a b : State) : (if c then a else b).pci = if c then a.pci else b.pci := by
  split <;> rfl

theorem foldl_hst {α : Type} (f : State → α → State) (l : List α) (s : State) (h : ∀ t a, (f t a).hst = t.hst) :
    (l.foldl f s).hst = s.hst := by
  induction l generalizing s with
  | nil => rfl
  | cons a t ih => rw [List.foldl_cons, ih, h]

theorem ite_hst (c : Prop) [Decidable c] (a b : State) : (if c then a else b).hst = if c then a.hst else b.hst := by
  split <;> rfl

theorem foldl_dma {α : Type} (f : State → α → State) (l : List α) (s : State) (h : ∀ t a, (f t a).dma = t.dma) :
    (l.foldl f s).dma = s.dma := by
  induction l generalizing s with
  | nil => rfl
  | cons a t ih => rw [List.foldl_cons, ih, h]

theorem ite_dma (c : Prop) [Decidable c] (a b : State) : (if c then a else b).dma = if c then a.dma else b.dma := by
  split <;> rfl

theorem foldl_cnt {α : Type} (f : State → α → State) (l : List α) (s : State) (h : ∀ t a, (f t a).cnt = t.cnt) :
    (l.foldl f s).cnt = s.cnt := by
  induction l generalizing s with
  | nil => rfl
  | cons a t ih => rw [List.foldl_cons, ih, h]

theorem ite_cnt (c : Prop) [Decidable c] (a b : State) : (if c then a else b).cnt = if c then a.cnt else b.cnt := by
  split <;> rfl

theorem foldl_flt {α : Type} (f : State → α → State) (l : List α) (s : State) (h : ∀ t a, (f t a).flt = t.flt) :
    (l.foldl f s).flt = s.flt := by
  induction l generalizing s with
  | nil => rfl
  | cons a t ih => rw [List.foldl_cons, ih, h]

theorem ite_flt (c : Prop) [Decidable c] (a b : State) : (if c then a else b).flt = if c then a.flt else b.flt := by
  split <;> rfl

theorem foldl_evt {α : Type} (f : State → α → State) (l : List α) (s : State) (h : ∀ t a, (f t a).evt = t.evt) :
    (l.foldl f s).evt = s.evt := by
  induction l generalizing s with
  | nil => rfl
  | cons a t ih => rw [List.foldl_cons, ih, h]

theorem ite_evt (c : Prop) [Decidable c] (a b : State) : (if c then a else b).evt = if c then a.evt else b.evt := by
  split <;> rfl

theorem foldl_pwr {α : Type} (f : State → α → State) (l : List α) (s : State) (h : ∀ t a, (f t a).pwr = t.pwr) :
    (l.foldl f s).pwr = s.pwr := by
  induction l generalizing s with
  | nil => rfl
  | cons a t ih => rw [List.foldl_cons, ih, h]

theorem ite_pwr (c : Prop) [Decidable c] (a b : State) : (if c then a else b).pwr = if c then a.pwr else b.pwr := by
  split <;> rfl

theorem foldl_i2c {α : Type} (f : State → α → State) (l : List α) (s : State) (h : ∀ t a, (f t a).i2c = t.i2c) :
    (l.foldl f s).i2c = s.i2c := by
  induction l generalizing s with
  | nil => rfl
  | cons a t ih => rw [List.foldl_cons, ih, h]

theorem ite_i2c (c : Prop) [Decidable c] (a b : State) : (if c then a else b).i2c = if c then a.i2c else b.i2c := by
  split <;> rfl

theorem foldl_jtag {α : Type} (f : State → α → State) (l : List α) (s : State) (h : ∀ t a, (f t a).jtag = t.jtag) :
    (l.foldl f s).jtag = s.jtag := by
  induction l generalizing s with
  | nil => rfl
  | cons a t ih => rw [List.foldl_cons, ih, h]

theorem ite_jtag (c : Prop) [Decidable c] (a b : State) : (if c then a else b).jtag = if c then a.jtag else b.jtag := by
  split <;> rfl

theorem foldl_out {α : Type} (f : State → α → State) (l : List α) (s : State) (h : ∀ t a, (f t a).out = t.out) :
    (l.foldl f s).out = s.out := by
  induction l generalizing s with
  | nil => rfl
  | cons a t ih => rw [List.foldl_cons, ih, h]

theorem ite_out (c : Prop) [Decidable c] (a b : State) : (if c then a else b).out = if c then a.out else b.out := by
  split <;> rfl

theorem foldl_free {α : Type} (f : State → α → State) (l : List α) (s : State) (h : ∀ t a, (f t a).free = t.free) :
    (l.foldl f s).free = s.free := by
  induction l generalizing s with
  | nil => rfl
  | cons a t ih => rw [List.foldl_cons, ih, h]

theorem ite_free (c : Prop) [Decidable c] (a b : State) : (if c then a else b).free = if c then a.free else b.free := by
  split <;> rfl

theorem foldl_pending {α : Type} (f : State → α → State) (l : List α) (s : State) (h : ∀ t a, (f t a).pending = t.pending) :
    (l.foldl f s).pending = s.pending := by
  induction l generalizing s with
  | nil => rfl
  | cons a t ih => rw [List.foldl_cons, ih, h]

theorem ite_pending (c : Prop) [Decidable c] (a b : State) : (if c then a else b).pending = if c then a.pending else b.pending := by
  split <;> rfl

@[simp] theorem State.wr_fuses (s : State) (k : Nat) (v : Word) : (State.wr s k v).fuses = s.fuses := rfl
@[simp] theorem State.wr_dev (s : State) (k : Nat) (v : Word) : (State.wr s k v).dev = s.dev := rfl
@[simp] theorem State.wr_acc (s : State) (k : Nat) (v : Word) : (State.wr s k v).acc = s.acc := rfl
@[simp] theorem State.wr_blks (s : State) (k : Nat) (v : Word) : (State.wr s k v).blks = s.blks := rfl
@[simp] theorem State.wr_now (s : State) (k : Nat) (v : Word) : (State.wr s k v).now = s.now := rfl
@[simp] theorem State.wr_tim (s : State) (k : Nat) (v : Word) : (State.wr s k v).tim = s.tim := rfl
@[simp] theorem State.wr_ports (s : State) (k : Nat) (v : Word) : (State.wr s k v).ports = s.ports := rfl
@[simp] theorem State.wr_pgs (s : State) (k : Nat) (v : Word) : (State.wr s k v).pgs = s.pgs := rfl
@[simp] theorem State.wr_tbl (s : State) (k : Nat) (v : Word) : (State.wr s k v).tbl = s.tbl := rfl
@[simp] theorem State.wr_ver (s : State) (k : Nat) (v : Word) : (State.wr s k v).ver = s.ver := rfl
@[simp] theorem State.wr_ips (s : State) (k : Nat) (v : Word) : (State.wr s k v).ips = s.ips := rfl
@[simp] theorem State.wr_eps (s : State) (k : Nat) (v : Word) : (State.wr s k v).eps = s.eps := rfl
@[simp] theorem State.wr_tmg (s : State) (k : Nat) (v : Word) : (State.wr s k v).tmg = s.tmg := rfl
@[simp] theorem State.wr_bpm (s : State) (k : Nat) (v : Word) : (State.wr s k v).bpm = s.bpm := rfl
@[simp] theorem State.wr_drc (s : State) (k : Nat) (v : Word) : (State.wr s k v).drc = s.drc := rfl
@[simp] theorem State.wr_sch (s : State) (k : Nat) (v : Word) : (State.wr s k v).sch = s.sch := rfl
@[simp] theorem State.wr_blg (s : State) (k : Nat) (v : Word) : (State.wr s k v).blg = s.blg := rfl
@[simp] theorem State.wr_msc (s : State) (k : Nat) (v : Word) : (State.wr s k v).msc = s.msc := rfl
@[simp] theorem State.wr_key (s : State) (k : Nat) (v : Word) : (State.wr s k v).key = s.key := rfl
@[simp] theorem State.wr_pci (s : State) (k : Nat) (v : Word) : (State.wr s k v).pci = s.pci := rfl
@[simp] theorem State.wr_hst (s : State) (k : Nat) (v : Word) : (State.wr s k v).hst = s.hst := rfl
@[simp] theorem State.wr_dma (s : State) (k : Nat) (v : Word) : (State.wr s k v).dma = s.dma := rfl
@[simp] theorem State.wr_cnt (s : State) (k : Nat) (v : Word) : (State.wr s k v).cnt = s.cnt := rfl
@[simp] theorem State.wr_flt (s : State) (k : Nat) (v : Word) : (State.wr s k v).flt = s.flt := rfl
@[simp] theorem State.wr_evt (s : State) (k : Nat) (v : Word) : (State.wr s k v).evt = s.evt := rfl
@[simp] theorem State.wr_pwr (s : State) (k : Nat) (v : Word) : (State.wr s k v).pwr = s.pwr := rfl
@[simp] theorem State.wr_i2c (s : State) (k : Nat) (v : Word) : (State.wr s k v).i2c = s.i2c := rfl
@[simp] theorem State.wr_jtag (s : State) (k : Nat) (v : Word) : (State.wr s k v).jtag = s.jtag := rfl
@[simp] theorem State.wr_out (s : State) (k : Nat) (v : Word) : (State.wr s k v).out = s.out := rfl
@[simp] theorem State.wr_free (s : State) (k : Nat) (v : Word) : (State.wr s k v).free = s.free := rfl
@[simp] theorem State.wr_pending (s : State) (k : Nat) (v : Word) : (State.wr s k v).pending = s.pending := rfl
@[simp] theorem State.setF_fuses (s : State) (k hi lo v : Nat) : (State.setF s k hi lo v).fuses = s.fuses := by
  simp -implicitDefEqProofs only [State.setF, State.wr_fuses]
@[simp] theorem State.setF_dev (s : State) (k hi lo v : Nat) : (State.setF s k hi lo v).dev = s.dev := by
  simp -implicitDefEqProofs only [State.setF, State.wr_dev]
@[simp] theorem State.setF_acc (s : State) (k hi lo v : Nat) : (State.setF s k hi lo v).acc = s.acc := by
  simp -implicitDefEqProofs only [State.setF, State.wr_acc]
@[simp] theorem State.setF_blks (s : State) (k hi lo v : Nat) : (State.setF s k hi lo v).blks = s.blks := by
  simp -implicitDefEqProofs only [State.setF, State.wr_blks]
@[simp] theorem State.setF_now (s : State) (k hi lo v : Nat) : (State.setF s k hi lo v).now = s.now := by
  simp -implicitDefEqProofs only [State.setF, State.wr_now]
@[simp] theorem State.setF_tim (s : State) (k hi lo v : Nat) : (State.setF s k hi lo v).tim = s.tim := by
  simp -implicitDefEqProofs only [State.setF, State.wr_tim]
@[simp] theorem State.setF_ports (s : State) (k hi lo v : Nat) : (State.setF s k hi lo v).ports = s.ports := by
  simp -implicitDefEqProofs only [State.setF, State.wr_ports]
@[simp] theorem State.setF_pgs (s : State) (k hi lo v : Nat) : (State.setF s k hi lo v).pgs = s.pgs := by
  simp -implicitDefEqProofs only [State.setF, State.wr_pgs]
@[simp] theorem State.setF_tbl (s : State) (k hi lo v : Nat) : (State.setF s k hi lo v).tbl = s.tbl := by
  simp -implicitDefEqProofs only [State.setF, State.wr_tbl]
@[simp] theorem State.setF_ver (s : State) (k hi lo v : Nat) : (State.setF s k hi lo v).ver = s.ver := by
  simp -implicitDefEqProofs only [State.setF, State.wr_ver]
@[simp] theorem State.setF_ips (s : State) (k hi lo v : Nat) : (State.setF s k hi lo v).ips = s.ips := by
  simp -implicitDefEqProofs only [State.setF, State.wr_ips]
@[simp] theorem State.setF_eps (s : State) (k hi lo v : Nat) : (State.setF s k hi lo v).eps = s.eps := by
  simp -implicitDefEqProofs only [State.setF, State.wr_eps]
@[simp] theorem State.setF_tmg (s : State) (k hi lo v : Nat) : (State.setF s k hi lo v).tmg = s.tmg := by
  simp -implicitDefEqProofs only [State.setF, State.wr_tmg]
@[simp] theorem State.setF_bpm (s : State) (k hi lo v : Nat) : (State.setF s k hi lo v).bpm = s.bpm := by
  simp -implicitDefEqProofs only [State.setF, State.wr_bpm]
@[simp] theorem State.setF_drc (s : State) (k hi lo v : Nat) : (State.setF s k hi lo v).drc = s.drc := by
  simp -implicitDefEqProofs only [State.setF, State.wr_drc]
@[simp] theorem State.setF_sch (s : State) (k hi lo v : Nat) : (State.setF s k hi lo v).sch = s.sch := by
  simp -implicitDefEqProofs only [State.setF, State.wr_sch]
@[simp] theorem State.setF_blg (s : State) (k hi lo v : Nat) : (State.setF s k hi lo v).blg = s.blg := by
  simp -implicitDefEqProofs only [State.setF, State.wr_blg]
@[simp] theorem State.setF_msc (s : State) (k hi lo v : Nat) : (State.setF s k hi lo v).msc = s.msc := by
  simp -implicitDefEqProofs only [State.setF, State.wr_msc]
@[simp] theorem State.setF_key (s : State) (k hi lo v : Nat) : (State.setF s k hi lo v).key = s.key := by
  simp -implicitDefEqProofs only [State.setF, State.wr_key]
@[simp] theorem State.setF_pci (s : State) (k hi lo v : Nat) : (State.setF s k hi lo v).pci = s.pci := by
  simp -implicitDefEqProofs only [State.setF, State.wr_pci]
@[simp] theorem State.setF_hst (s : State) (k hi lo v : Nat) : (State.setF s k hi lo v).hst = s.hst := by
  simp -implicitDefEqProofs only [State.setF, State.wr_hst]
@[simp] theorem State.setF_dma (s : State) (k hi lo v : Nat) : (State.setF s k hi lo v).dma = s.dma := by
  simp -implicitDefEqProofs only [State.setF, State.wr_dma]
@[simp] theorem State.setF_cnt (s : State) (k hi lo v : Nat) : (State.setF s k hi lo v).cnt = s.cnt := by
  simp -implicitDefEqProofs only [State.setF, State.wr_cnt]
@[simp] theorem State.setF_flt (s : State) (k hi lo v : Nat) : (State.setF s k hi lo v).flt = s.flt := by
  simp -implicitDefEqProofs only [State.setF, State.wr_flt]
@[simp] theorem State.setF_evt (s : State) (k hi lo v : Nat) : (State.setF s k hi lo v).evt = s.evt := by
  simp -implicitDefEqProofs only [State.setF, State.wr_evt]
@[simp] theorem State.setF_pwr (s : State) (k hi lo v : Nat) : (State.setF s k hi lo v).pwr = s.pwr := by
  simp -implicitDefEqProofs only [State.setF, State.wr_pwr]
@[simp] theorem State.setF_i2c (s : State) (k hi lo v : Nat) : (State.setF s k hi lo v).i2c = s.i2c := by
  simp -implicitDefEqProofs only [State.setF, State.wr_i2c]
@[simp] theorem State.setF_jtag (s : State) (k hi lo v : Nat) : (State.setF s k hi lo v).jtag = s.jtag := by
  simp -implicitDefEqProofs only [State.setF, State.wr_jtag]
@[simp] theorem State.setF_out (s : State) (k hi lo v : Nat) : (State.setF s k hi lo v).out = s.out := by
  simp -implicitDefEqProofs only [State.setF, State.wr_out]
@[simp] theorem State.setF_free (s : State) (k hi lo v : Nat) : (State.setF s k hi lo v).free = s.free := by
  simp -implicitDefEqProofs only [State.setF, State.wr_free]
@[simp] theorem State.setF_pending (s : State) (k hi lo v : Nat) : (State.setF s k hi lo v).pending = s.pending := by
  simp -implicitDefEqProofs only [State.setF, State.wr_pending]
@[simp] theorem State.addF_fuses (s : State) (k hi lo n : Nat) : (State.addF s k hi lo n).fuses = s.fuses := by
  simp -implicitDefEqProofs only [State.addF, State.setF_fuses]
@[simp] theorem State.addF_dev (s : State) (k hi lo n : Nat) : (State.addF s k hi lo n).dev = s.dev := by
  simp -implicitDefEqProofs only [State.addF, State.setF_dev]
@[simp] theorem State.addF_acc (s : State) (k hi lo n : Nat) : (State.addF s k hi lo n).acc = s.acc := by
  simp -implicitDefEqProofs only [State.addF, State.setF_acc]
@[simp] theorem State.addF_blks (s : State) (k hi lo n : Nat) : (State.addF s k hi lo n).blks = s.blks := by
  simp -implicitDefEqProofs only [State.addF, State.setF_blks]
@[simp] theorem State.addF_now (s : State) (k hi lo n : Nat) : (State.addF s k hi lo n).now = s.now := by
  simp -implicitDefEqProofs only [State.addF, State.setF_now]
@[simp] theorem State.addF_tim (s : State) (k hi lo n : Nat) : (State.addF s k hi lo n).tim = s.tim := by
  simp -implicitDefEqProofs only [State.addF, State.setF_tim]
@[simp] theorem State.addF_ports (s : State) (k hi lo n : Nat) : (State.addF s k hi lo n).ports = s.ports := by
  simp -implicitDefEqProofs only [State.addF, State.setF_ports]
@[simp] theorem State.addF_pgs (s : State) (k hi lo n : Nat) : (State.addF s k hi lo n).pgs = s.pgs := by
  simp -implicitDefEqProofs only [State.addF, State.setF_pgs]
@[simp] theorem State.addF_tbl (s : State) (k hi lo n : Nat) : (State.addF s k hi lo n).tbl = s.tbl := by
  simp -implicitDefEqProofs only [State.addF, State.setF_tbl]
@[simp] theorem State.addF_ver (s : State) (k hi lo n : Nat) : (State.addF s k hi lo n).ver = s.ver := by
  simp -implicitDefEqProofs only [State.addF, State.setF_ver]
@[simp] theorem State.addF_ips (s : State) (k hi lo n : Nat) : (State.addF s k hi lo n).ips = s.ips := by
  simp -implicitDefEqProofs only [State.addF, State.setF_ips]
@[simp] theorem State.addF_eps (s : State) (k hi lo n : Nat) : (State.addF s k hi lo n).eps = s.eps := by
  simp -implicitDefEqProofs only [State.addF, State.setF_eps]
@[simp] theorem State.addF_tmg (s : State) (k hi lo n : Nat) : (State.addF s k hi lo n).tmg = s.tmg := by
  simp -implicitDefEqProofs only [State.addF, State.setF_tmg]
@[simp] theorem State.addF_bpm (s : State) (k hi lo n : Nat) : (State.addF s k hi lo n).bpm = s.bpm := by
  simp -implicitDefEqProofs only [State.addF, State.setF_bpm]
@[simp] theorem State.addF_drc (s : State) (k hi lo n : Nat) : (State.addF s k hi lo n).drc = s.drc := by
  simp -implicitDefEqProofs only [State.addF, State.setF_drc]
@[simp] theorem State.addF_sch (s : State) (k hi lo n : Nat) : (State.addF s k hi lo n).sch = s.sch := by
  simp -implicitDefEqProofs only [State.addF, State.setF_sch]
@[simp] theorem State.addF_blg (s : State) (k hi lo n : Nat) : (State.addF s k hi lo n).blg = s.blg := by
  simp -implicitDefEqProofs only [State.addF, State.setF_blg]
@[simp] theorem State.addF_msc (s : State) (k hi lo n : Nat) : (State.addF s k hi lo n).msc = s.msc := by
  simp -implicitDefEqProofs only [State.addF, State.setF_msc]
@[simp] theorem State.addF_key (s : State) (k hi lo n : Nat) : (State.addF s k hi lo n).key = s.key := by
  simp -implicitDefEqProofs only [State.addF, State.setF_key]
@[simp] theorem State.addF_pci (s : State) (k hi lo n : Nat) : (State.addF s k hi lo n).pci = s.pci := by
  simp -implicitDefEqProofs only [State.addF, State.setF_pci]
@[simp] theorem State.addF_hst (s : State) (k hi lo n : Nat) : (State.addF s k hi lo n).hst = s.hst := by
  simp -implicitDefEqProofs only [State.addF, State.setF_hst]
@[simp] theorem State.addF_dma (s : State) (k hi lo n : Nat) : (State.addF s k hi lo n).dma = s.dma := by
  simp -implicitDefEqProofs only [State.addF, State.setF_dma]
@[simp] theorem State.addF_cnt (s : State) (k hi lo n : Nat) : (State.addF s k hi lo n).cnt = s.cnt := by
  simp -implicitDefEqProofs only [State.addF, State.setF_cnt]
@[simp] theorem State.addF_flt (s : State) (k hi lo n : Nat) : (State.addF s k hi lo n).flt = s.flt := by
  simp -implicitDefEqProofs only [State.addF, State.setF_flt]
@[simp] theorem State.addF_evt (s : State) (k hi lo n : Nat) : (State.addF s k hi lo n).evt = s.evt := by
  simp -implicitDefEqProofs only [State.addF, State.setF_evt]
@[simp] theorem State.addF_pwr (s : State) (k hi lo n : Nat) : (State.addF s k hi lo n).pwr = s.pwr := by
  simp -implicitDefEqProofs only [State.addF, State.setF_pwr]
@[simp] theorem State.addF_i2c (s : State) (k hi lo n : Nat) : (State.addF s k hi lo n).i2c = s.i2c := by
  simp -implicitDefEqProofs only [State.addF, State.setF_i2c]
@[simp] theorem State.addF_jtag (s : State) (k hi lo n : Nat) : (State.addF s k hi lo n).jtag = s.jtag := by
  simp -implicitDefEqProofs only [State.addF, State.setF_jtag]
@[simp] theorem State.addF_out (s : State) (k hi lo n : Nat) : (State.addF s k hi lo n).out = s.out := by
  simp -implicitDefEqProofs only [State.addF, State.setF_out]
@[simp] theorem State.addF_free (s : State) (k hi lo n : Nat) : (State.addF s k hi lo n).free = s.free := by
  simp -implicitDefEqProofs only [State.addF, State.setF_free]
@[simp] theorem State.addF_pending (s : State) (k hi lo n : Nat) : (State.addF s k hi lo n).pending = s.pending := by
  simp -implicitDefEqProofs only [State.addF, State.setF_pending]
@[simp] theorem State.bump_fuses (s : State) (k : Nat) : (State.bump s k).fuses = s.fuses := by
  simp -implicitDefEqProofs only [State.bump, State.addF_fuses]
@[simp] theorem State.bump_dev (s : State) (k : Nat) : (State.bump s k).dev = s.dev := by
  simp -implicitDefEqProofs only [State.bump, State.addF_dev]
@[simp] theorem State.bump_acc (s : State) (k : Nat) : (State.bump s k).acc = s.acc := by
  simp -implicitDefEqProofs only [State.bump, State.addF_acc]
@[simp] theorem State.bump_blks (s : State) (k : Nat) : (State.bump s k).blks = s.blks := by
  simp -implicitDefEqProofs only [State.bump, State.addF_blks]
@[simp] theorem State.bump_now (s : State) (k : Nat) : (State.bump s k).now = s.now := by
  simp -implicitDefEqProofs only [State.bump, State.addF_now]
@[simp] theorem State.bump_tim (s : State) (k : Nat) : (State.bump s k).tim = s.tim := by
  simp -implicitDefEqProofs only [State.bump, State.addF_tim]
@[simp] theorem State.bump_ports (s : State) (k : Nat) : (State.bump s k).ports = s.ports := by
  simp -implicitDefEqProofs only [State.bump, State.addF_ports]
@[simp] theorem State.bump_pgs (s : State) (k : Nat) : (State.bump s k).pgs = s.pgs := by
  simp -implicitDefEqProofs only [State.bump, State.addF_pgs]
@[simp] theorem State.bump_tbl (s : State) (k : Nat) : (State.bump s k).tbl = s.tbl := by
  simp -implicitDefEqProofs only [State.bump, State.addF_tbl]
@[simp] theorem State.bump_ver (s : State) (k : Nat) : (State.bump s k).ver = s.ver := by
  simp -implicitDefEqProofs only [State.bump, State.addF_ver]
@[simp] theorem State.bump_ips (s : State) (k : Nat) : (State.bump s k).ips = s.ips := by
  simp -implicitDefEqProofs only [State.bump, State.addF_ips]
@[simp] theorem State.bump_eps (s : State) (k : Nat) : (State.bump s k).eps = s.eps := by
  simp -implicitDefEqProofs only [State.bump, State.addF_eps]
@[simp] theorem State.bump_tmg (s : State) (k : Nat) : (State.bump s k).tmg = s.tmg := by
  simp -implicitDefEqProofs only [State.bump, State.addF_tmg]
@[simp] theorem State.bump_bpm (s : State) (k : Nat) : (State.bump s k).bpm = s.bpm := by
  simp -implicitDefEqProofs only [State.bump, State.addF_bpm]
@[simp] theorem State.bump_drc (s : State) (k : Nat) : (State.bump s k).drc = s.drc := by
  simp -implicitDefEqProofs only [State.bump, State.addF_drc]
@[simp] theorem State.bump_sch (s : State) (k : Nat) : (State.bump s k).sch = s.sch := by
  simp -implicitDefEqProofs only [State.bump, State.addF_sch]
@[simp] theorem State.bump_blg (s : State) (k : Nat) : (State.bump s k).blg = s.blg := by
  simp -implicitDefEqProofs only [State.bump, State.addF_blg]
@[simp] theorem State.bump_msc (s : State) (k : Nat) : (State.bump s k).msc = s.msc := by
  simp -implicitDefEqProofs only [State.bump, State.addF_msc]
@[simp] theorem State.bump_key (s : State) (k : Nat) : (State.bump s k).key = s.key := by
  simp -implicitDefEqProofs only [State.bump, State.addF_key]
@[simp] theorem State.bump_pci (s : State) (k : Nat) : (State.bump s k).pci = s.pci := by
  simp -implicitDefEqProofs only [State.bump, State.addF_pci]
@[simp] theorem State.bump_hst (s : State) (k : Nat) : (State.bump s k).hst = s.hst := by
  simp -implicitDefEqProofs only [State.bump, State.addF_hst]
@[simp] theorem State.bump_dma (s : State) (k : Nat) : (State.bump s k).dma = s.dma := by
  simp -implicitDefEqProofs only [State.bump, State.addF_dma]
@[simp] theorem State.bump_cnt (s : State) (k : Nat) : (State.bump s k).cnt = s.cnt := by
  simp -implicitDefEqProofs only [State.bump, State.addF_cnt]
@[simp] theorem State.bump_flt (s : State) (k : Nat) : (State.bump s k).flt = s.flt := by
  simp -implicitDefEqProofs only [State.bump, State.addF_flt]
@[simp] theorem State.bump_evt (s : State) (k : Nat) : (State.bump s k).evt = s.evt := by
  simp -implicitDefEqProofs only [State.bump, State.addF_evt]
@[simp] theorem State.bump_pwr (s : State) (k : Nat) : (State.bump s k).pwr = s.pwr := by
  simp -implicitDefEqProofs only [State.bump, State.addF_pwr]
@[simp] theorem State.bump_i2c (s : State) (k : Nat) : (State.bump s k).i2c = s.i2c := by
  simp -implicitDefEqProofs only [State.bump, State.addF_i2c]
@[simp] theorem State.bump_jtag (s : State) (k : Nat) : (State.bump s k).jtag = s.jtag := by
  simp -implicitDefEqProofs only [State.bump, State.addF_jtag]
@[simp] theorem State.bump_out (s : State) (k : Nat) : (State.bump s k).out = s.out := by
  simp -implicitDefEqProofs only [State.bump, State.addF_out]
@[simp] theorem State.bump_free (s : State) (k : Nat) : (State.bump s k).free = s.free := by
  simp -implicitDefEqProofs only [State.bump, State.addF_free]
@[simp] theorem State.bump_pending (s : State) (k : Nat) : (State.bump s k).pending = s.pending := by
  simp -implicitDefEqProofs only [State.bump, State.addF_pending]
@[simp] theorem State.setB_fuses (s : State) (k n : Nat) : (State.setB s k n).fuses = s.fuses := by
  simp -implicitDefEqProofs only [State.setB, State.setF_fuses]
@[simp] theorem State.setB_dev (s : State) (k n : Nat) : (State.setB s k n).dev = s.dev := by
  simp -implicitDefEqProofs only [State.setB, State.setF_dev]
@[simp] theorem State.setB_acc (s : State) (k n : Nat) : (State.setB s k n).acc = s.acc := by
  simp -implicitDefEqProofs only [State.setB, State.setF_acc]
@[simp] theorem State.setB_blks (s : State) (k n : Nat) : (State.setB s k n).blks = s.blks := by
  simp -implicitDefEqProofs only [State.setB, State.setF_blks]
@[simp] theorem State.setB_now (s : State) (k n : Nat) : (State.setB s k n).now = s.now := by
  simp -implicitDefEqProofs only [State.setB, State.setF_now]
@[simp] theorem State.setB_tim (s : State) (k n : Nat) : (State.setB s k n).tim = s.tim := by
  simp -implicitDefEqProofs only [State.setB, State.setF_tim]
@[simp] theorem State.setB_ports (s : State) (k n : Nat) : (State.setB s k n).ports = s.ports := by
  simp -implicitDefEqProofs only [State.setB, State.setF_ports]
@[simp] theorem State.setB_pgs (s : State) (k n : Nat) : (State.setB s k n).pgs = s.pgs := by
  simp -implicitDefEqProofs only [State.setB, State.setF_pgs]
@[simp] theorem State.setB_tbl (s : State) (k n : Nat) : (State.setB s k n).tbl = s.tbl := by
  simp -implicitDefEqProofs only [State.setB, State.setF_tbl]
@[simp] theorem State.setB_ver (s : State) (k n : Nat) : (State.setB s k n).ver = s.ver := by
  simp -implicitDefEqProofs only [State.setB, State.setF_ver]
@[simp] theorem State.setB_ips (s : State) (k n : Nat) : (State.setB s k n).ips = s.ips := by
  simp -implicitDefEqProofs only [State.setB, State.setF_ips]
@[simp] theorem State.setB_eps (s : State) (k n : Nat) : (State.setB s k n).eps = s.eps := by
  simp -implicitDefEqProofs only [State.setB, State.setF_eps]
@[simp] theorem State.setB_tmg (s : State) (k n : Nat) : (State.setB s k n).tmg = s.tmg := by
  simp -implicitDefEqProofs only [State.setB, State.setF_tmg]
@[simp] theorem State.setB_bpm (s : State) (k n : Nat) : (State.setB s k n).bpm = s.bpm := by
  simp -implicitDefEqProofs only [State.setB, State.setF_bpm]
@[simp] theorem State.setB_drc (s : State) (k n : Nat) : (State.setB s k n).drc = s.drc := by
  simp -implicitDefEqProofs only [State.setB, State.setF_drc]
@[simp] theorem State.setB_sch (s : State) (k n : Nat) : (State.setB s k n).sch = s.sch := by
  simp -implicitDefEqProofs only [State.setB, State.setF_sch]
@[simp] theorem State.setB_blg (s : State) (k n : Nat) : (State.setB s k n).blg = s.blg := by
  simp -implicitDefEqProofs only [State.setB, State.setF_blg]
@[simp] theorem State.setB_msc (s : State) (k n : Nat) : (State.setB s k n).msc = s.msc := by
  simp -implicitDefEqProofs only [State.setB, State.setF_msc]
@[simp] theorem State.setB_key (s : State) (k n : Nat) : (State.setB s k n).key = s.key := by
  simp -implicitDefEqProofs only [State.setB, State.setF_key]
@[simp] theorem State.setB_pci (s : State) (k n : Nat) : (State.setB s k n).pci = s.pci := by
  simp -implicitDefEqProofs only [State.setB, State.setF_pci]
@[simp] theorem State.setB_hst (s : State) (k n : Nat) : (State.setB s k n).hst = s.hst := by
  simp -implicitDefEqProofs only [State.setB, State.setF_hst]
@[simp] theorem State.setB_dma (s : State) (k n : Nat) : (State.setB s k n).dma = s.dma := by
  simp -implicitDefEqProofs only [State.setB, State.setF_dma]
@[simp] theorem State.setB_cnt (s : State) (k n : Nat) : (State.setB s k n).cnt = s.cnt := by
  simp -implicitDefEqProofs only [State.setB, State.setF_cnt]
@[simp] theorem State.setB_flt (s : State) (k n : Nat) : (State.setB s k n).flt = s.flt := by
  simp -implicitDefEqProofs only [State.setB, State.setF_flt]
@[simp] theorem State.setB_evt (s : State) (k n : Nat) : (State.setB s k n).evt = s.evt := by
  simp -implicitDefEqProofs only [State.setB, State.setF_evt]
@[simp] theorem State.setB_pwr (s : State) (k n : Nat) : (State.setB s k n).pwr = s.pwr := by
  simp -implicitDefEqProofs only [State.setB, State.setF_pwr]
@[simp] theorem State.setB_i2c (s : State) (k n : Nat) : (State.setB s k n).i2c = s.i2c := by
  simp -implicitDefEqProofs only [State.setB, State.setF_i2c]
@[simp] theorem State.setB_jtag (s : State) (k n : Nat) : (State.setB s k n).jtag = s.jtag := by
  simp -implicitDefEqProofs only [State.setB, State.setF_jtag]
@[simp] theorem State.setB_out (s : State) (k n : Nat) : (State.setB s k n).out = s.out := by
  simp -implicitDefEqProofs only [State.setB, State.setF_out]
@[simp] theorem State.setB_free (s : State) (k n : Nat) : (State.setB s k n).free = s.free := by
  simp -implicitDefEqProofs only [State.setB, State.setF_free]
@[simp] theorem State.setB_pending (s : State) (k n : Nat) : (State.setB s k n).pending = s.pending := by
  simp -implicitDefEqProofs only [State.setB, State.setF_pending]
@[simp] theorem State.zero_fuses (s : State) (ks : List Nat) : (State.zero s ks).fuses = s.fuses := by
  simp -implicitDefEqProofs only [State.zero, foldl_fuses, implies_true, State.wr_fuses]
@[simp] theorem State.zero_dev (s : State) (ks : List Nat) : (State.zero s ks).dev = s.dev := by
  simp -implicitDefEqProofs only [State.zero, foldl_dev, implies_true, State.wr_dev]
@[simp] theorem State.zero_acc (s : State) (ks : List Nat) : (State.zero s ks).acc = s.acc := by
  simp -implicitDefEqProofs only [State.zero, foldl_acc, implies_true, State.wr_acc]
@[simp] theorem State.zero_blks (s : State) (ks : List Nat) : (State.zero s ks).blks = s.blks := by
  simp -implicitDefEqProofs only [State.zero, foldl_blks, implies_true, State.wr_blks]
@[simp] theorem State.zero_now (s : State) (ks : List Nat) : (State.zero s ks).now = s.now := by
  simp -implicitDefEqProofs only [State.zero, foldl_now, implies_true, State.wr_now]
@[simp] theorem State.zero_tim (s : State) (ks : List Nat) : (State.zero s ks).tim = s.tim := by
  simp -implicitDefEqProofs only [State.zero, foldl_tim, implies_true, State.wr_tim]
@[simp] theorem State.zero_ports (s : State) (ks : List Nat) : (State.zero s ks).ports = s.ports := by
  simp -implicitDefEqProofs only [State.zero, foldl_ports, implies_true, State.wr_ports]
@[simp] theorem State.zero_pgs (s : State) (ks : List Nat) : (State.zero s ks).pgs = s.pgs := by
  simp -implicitDefEqProofs only [State.zero, foldl_pgs, implies_true, State.wr_pgs]
@[simp] theorem State.zero_tbl (s : State) (ks : List Nat) : (State.zero s ks).tbl = s.tbl := by
  simp -implicitDefEqProofs only [State.zero, foldl_tbl, implies_true, State.wr_tbl]
@[simp] theorem State.zero_ver (s : State) (ks : List Nat) : (State.zero s ks).ver = s.ver := by
  simp -implicitDefEqProofs only [State.zero, foldl_ver, implies_true, State.wr_ver]
@[simp] theorem State.zero_ips (s : State) (ks : List Nat) : (State.zero s ks).ips = s.ips := by
  simp -implicitDefEqProofs only [State.zero, foldl_ips, implies_true, State.wr_ips]
@[simp] theorem State.zero_eps (s : State) (ks : List Nat) : (State.zero s ks).eps = s.eps := by
  simp -implicitDefEqProofs only [State.zero, foldl_eps, implies_true, State.wr_eps]
@[simp] theorem State.zero_tmg (s : State) (ks : List Nat) : (State.zero s ks).tmg = s.tmg := by
  simp -implicitDefEqProofs only [State.zero, foldl_tmg, implies_true, State.wr_tmg]
@[simp] theorem State.zero_bpm (s : State) (ks : List Nat) : (State.zero s ks).bpm = s.bpm := by
  simp -implicitDefEqProofs only [State.zero, foldl_bpm, implies_true, State.wr_bpm]
@[simp] theorem State.zero_drc (s : State) (ks : List Nat) : (State.zero s ks).drc = s.drc := by
  simp -implicitDefEqProofs only [State.zero, foldl_drc, implies_true, State.wr_drc]
@[simp] theorem State.zero_sch (s : State) (ks : List Nat) : (State.zero s ks).sch = s.sch := by
  simp -implicitDefEqProofs only [State.zero, foldl_sch, implies_true, State.wr_sch]
@[simp] theorem State.zero_blg (s : State) (ks : List Nat) : (State.zero s ks).blg = s.blg := by
  simp -implicitDefEqProofs only [State.zero, foldl_blg, implies_true, State.wr_blg]
@[simp] theorem State.zero_msc (s : State) (ks : List Nat) : (State.zero s ks).msc = s.msc := by
  simp -implicitDefEqProofs only [State.zero, foldl_msc, implies_true, State.wr_msc]
@[simp] theorem State.zero_key (s : State) (ks : List Nat) : (State.zero s ks).key = s.key := by
  simp -implicitDefEqProofs only [State.zero, foldl_key, implies_true, State.wr_key]
@[simp] theorem State.zero_pci (s : State) (ks : List Nat) : (State.zero s ks).pci = s.pci := by
  simp -implicitDefEqProofs only [State.zero, foldl_pci, implies_true, State.wr_pci]
@[simp] theorem State.zero_hst (s : State) (ks : List Nat) : (State.zero s ks).hst = s.hst := by
  simp -implicitDefEqProofs only [State.zero, foldl_hst, implies_true, State.wr_hst]
@[simp] theorem State.zero_dma (s : State) (ks : List Nat) : (State.zero s ks).dma = s.dma := by
  simp -implicitDefEqProofs only [State.zero, foldl_dma, implies_true, State.wr_dma]
@[simp] theorem State.zero_cnt (s : State) (ks : List Nat) : (State.zero s ks).cnt = s.cnt := by
  simp -implicitDefEqProofs only [State.zero, foldl_cnt, implies_true, State.wr_cnt]
@[simp] theorem State.zero_flt (s : State) (ks : List Nat) : (State.zero s ks).flt = s.flt := by
  simp -implicitDefEqProofs only [State.zero, foldl_flt, implies_true, State.wr_flt]
@[simp] theorem State.zero_evt (s : State) (ks : List Nat) : (State.zero s ks).evt = s.evt := by
  simp -implicitDefEqProofs only [State.zero, foldl_evt, implies_true, State.wr_evt]
@[simp] theorem State.zero_pwr (s : State) (ks : List Nat) : (State.zero s ks).pwr = s.pwr := by
  simp -implicitDefEqProofs only [State.zero, foldl_pwr, implies_true, State.wr_pwr]
@[simp] theorem State.zero_i2c (s : State) (ks : List Nat) : (State.zero s ks).i2c = s.i2c := by
  simp -implicitDefEqProofs only [State.zero, foldl_i2c, implies_true, State.wr_i2c]
@[simp] theorem State.zero_jtag (s : State) (ks : List Nat) : (State.zero s ks).jtag = s.jtag := by
  simp -implicitDefEqProofs only [State.zero, foldl_jtag, implies_true, State.wr_jtag]
@[simp] theorem State.zero_out (s : State) (ks : List Nat) : (State.zero s ks).out = s.out := by
  simp -implicitDefEqProofs only [State.zero, foldl_out, implies_true, State.wr_out]
@[simp] theorem State.zero_free (s : State) (ks : List Nat) : (State.zero s ks).free = s.free := by
  simp -implicitDefEqProofs only [State.zero, foldl_free, implies_true, State.wr_free]
@[simp] theorem State.zero_pending (s : State) (ks : List Nat) : (State.zero s ks).pending = s.pending := by
  simp -implicitDefEqProofs only [State.zero, foldl_pending, implies_true, State.wr_pending]
@[simp] theorem State.wr64_fuses (s : State) (lo hi v : Nat) : (State.wr64 s lo hi v).fuses = s.fuses := by
  simp -implicitDefEqProofs only [State.wr64, State.wr_fuses]
@[simp] theorem State.wr64_dev (s : State) (lo hi v : Nat) : (State.wr64 s lo hi v).dev = s.dev := by
  simp -implicitDefEqProofs only [State.wr64, State.wr_dev]
@[simp] theorem State.wr64_acc (s : State) (lo hi v : Nat) : (State.wr64 s lo hi v).acc = s.acc := by
  simp -implicitDefEqProofs only [State.wr64, State.wr_acc]
@[simp] theorem State.wr64_blks (s : State) (lo hi v : Nat) : (State.wr64 s lo hi v).blks = s.blks := by
  simp -implicitDefEqProofs only [State.wr64, State.wr_blks]
@[simp] theorem State.wr64_now (s : State) (lo hi v : Nat) : (State.wr64 s lo hi v).now = s.now := by
  simp -implicitDefEqProofs only [State.wr64, State.wr_now]
@[simp] theorem State.wr64_tim (s : State) (lo hi v : Nat) : (State.wr64 s lo hi v).tim = s.tim := by
  simp -implicitDefEqProofs only [State.wr64, State.wr_tim]
@[simp] theorem State.wr64_ports (s : State) (lo hi v : Nat) : (State.wr64 s lo hi v).ports = s.ports := by
  simp -implicitDefEqProofs only [State.wr64, State.wr_ports]
@[simp] theorem State.wr64_pgs (s : State) (lo hi v : Nat) : (State.wr64 s lo hi v).pgs = s.pgs := by
  simp -implicitDefEqProofs only [State.wr64, State.wr_pgs]
@[simp] theorem State.wr64_tbl (s : State) (lo hi v : Nat) : (State.wr64 s lo hi v).tbl = s.tbl := by
  simp -implicitDefEqProofs only [State.wr64, State.wr_tbl]
@[simp] theorem State.wr64_ver (s : State) (lo hi v : Nat) : (State.wr64 s lo hi v).ver = s.ver := by
  simp -implicitDefEqProofs only [State.wr64, State.wr_ver]
@[simp] theorem State.wr64_ips (s : State) (lo hi v : Nat) : (State.wr64 s lo hi v).ips = s.ips := by
  simp -implicitDefEqProofs only [State.wr64, State.wr_ips]
@[simp] theorem State.wr64_eps (s : State) (lo hi v : Nat) : (State.wr64 s lo hi v).eps = s.eps := by
  simp -implicitDefEqProofs only [State.wr64, State.wr_eps]
@[simp] theorem State.wr64_tmg (s : State) (lo hi v : Nat) : (State.wr64 s lo hi v).tmg = s.tmg := by
  simp -implicitDefEqProofs only [State.wr64, State.wr_tmg]
@[simp] theorem State.wr64_bpm (s : State) (lo hi v : Nat) : (State.wr64 s lo hi v).bpm = s.bpm := by
  simp -implicitDefEqProofs only [State.wr64, State.wr_bpm]
@[simp] theorem State.wr64_drc (s : State) (lo hi v : Nat) : (State.wr64 s lo hi v).drc = s.drc := by
  simp -implicitDefEqProofs only [State.wr64, State.wr_drc]
@[simp] theorem State.wr64_sch (s : State) (lo hi v : Nat) : (State.wr64 s lo hi v).sch = s.sch := by
  simp -implicitDefEqProofs only [State.wr64, State.wr_sch]
@[simp] theorem State.wr64_blg (s : State) (lo hi v : Nat) : (State.wr64 s lo hi v).blg = s.blg := by
  simp -implicitDefEqProofs only [State.wr64, State.wr_blg]
@[simp] theorem State.wr64_msc (s : State) (lo hi v : Nat) : (State.wr64 s lo hi v).msc = s.msc := by
  simp -implicitDefEqProofs only [State.wr64, State.wr_msc]
@[simp] theorem State.wr64_key (s : State) (lo hi v : Nat) : (State.wr64 s lo hi v).key = s.key := by
  simp -implicitDefEqProofs only [State.wr64, State.wr_key]
@[simp] theorem State.wr64_pci (s : State) (lo hi v : Nat) : (State.wr64 s lo hi v).pci = s.pci := by
  simp -implicitDefEqProofs only [State.wr64, State.wr_pci]
@[simp] theorem State.wr64_hst (s : State) (lo hi v : Nat) : (State.wr64 s lo hi v).hst = s.hst := by
  simp -implicitDefEqProofs only [State.wr64, State.wr_hst]
@[simp] theorem State.wr64_dma (s : State) (lo hi v : Nat) : (State.wr64 s lo hi v).dma = s.dma := by
  simp -implicitDefEqProofs only [State.wr64, State.wr_dma]
@[simp] theorem State.wr64_cnt (s : State) (lo hi v : Nat) : (State.wr64 s lo hi v).cnt = s.cnt := by
  simp -implicitDefEqProofs only [State.wr64, State.wr_cnt]
@[simp] theorem State.wr64_flt (s : State) (lo hi v : Nat) : (State.wr64 s lo hi v).flt = s.flt := by
  simp -implicitDefEqProofs only [State.wr64, State.wr_flt]
@[simp] theorem State.wr64_evt (s : State) (lo hi v : Nat) : (State.wr64 s lo hi v).evt = s.evt := by
  simp -implicitDefEqProofs only [State.wr64, State.wr_evt]
@[simp] theorem State.wr64_pwr (s : State) (lo hi v : Nat) : (State.wr64 s lo hi v).pwr = s.pwr := by
  simp -implicitDefEqProofs only [State.wr64, State.wr_pwr]
@[simp] theorem State.wr64_i2c (s : State) (lo hi v : Nat) : (State.wr64 s lo hi v).i2c = s.i2c := by
  simp -implicitDefEqProofs only [State.wr64, State.wr_i2c]
@[simp] theorem State.wr64_jtag (s : State) (lo hi v : Nat) : (State.wr64 s lo hi v).jtag = s.jtag := by
  simp -implicitDefEqProofs only [State.wr64, State.wr_jtag]
@[simp] theorem State.wr64_out (s : State) (lo hi v : Nat) : (State.wr64 s lo hi v).out = s.out := by
  simp -implicitDefEqProofs only [State.wr64, State.wr_out]
@[simp] theorem State.wr64_free (s : State) (lo hi v : Nat) : (State.wr64 s lo hi v).free = s.free := by
  simp -implicitDefEqProofs only [State.wr64, State.wr_free]
@[simp] theorem State.wr64_pending (s : State) (lo hi v : Nat) : (State.wr64 s lo hi v).pending = s.pending := by
  simp -implicitDefEqProofs only [State.wr64, State.wr_pending]
@[simp] theorem State.setPort_fuses (s : State) (p : Nat) (v : PortSt) : (State.setPort s p v).fuses = s.fuses := rfl
@[simp] theorem State.setPort_dev (s : State) (p : Nat) (v : PortSt) : (State.setPort s p v).dev = s.dev := rfl
@[simp] theorem State.setPort_acc (s : State) (p : Nat) (v : PortSt) : (State.setPort s p v).acc = s.acc := rfl
@[simp] theorem State.setPort_blks (s : State) (p : Nat) (v : PortSt) : (State.setPort s p v).blks = s.blks := rfl
@[simp] theorem State.setPort_regs (s : State) (p : Nat) (v : PortSt) : (State.setPort s p v).regs = s.regs := rfl
@[simp] theorem State.setPort_now (s : State) (p : Nat) (v : PortSt) : (State.setPort s p v).now = s.now := rfl
@[simp] theorem State.setPort_tim (s : State) (p : Nat) (v : PortSt) : (State.setPort s p v).tim = s.tim := rfl
@[simp] theorem State.setPort_pgs (s : State) (p : Nat) (v : PortSt) : (State.setPort s p v).pgs = s.pgs := rfl
@[simp] theorem State.setPort_tbl (s : State) (p : Nat) (v : PortSt) : (State.setPort s p v).tbl = s.tbl := rfl
@[simp] theorem State.setPort_ver (s : State) (p : Nat) (v : PortSt) : (State.setPort s p v).ver = s.ver := rfl
@[simp] theorem State.setPort_ips (s : State) (p : Nat) (v : PortSt) : (State.setPort s p v).ips = s.ips := rfl
@[simp] theorem State.setPort_eps (s : State) (p : Nat) (v : PortSt) : (State.setPort s p v).eps = s.eps := rfl
@[simp] theorem State.setPort_tmg (s : State) (p : Nat) (v : PortSt) : (State.setPort s p v).tmg = s.tmg := rfl
@[simp] theorem State.setPort_bpm (s : State) (p : Nat) (v : PortSt) : (State.setPort s p v).bpm = s.bpm := rfl
@[simp] theorem State.setPort_drc (s : State) (p : Nat) (v : PortSt) : (State.setPort s p v).drc = s.drc := rfl
@[simp] theorem State.setPort_sch (s : State) (p : Nat) (v : PortSt) : (State.setPort s p v).sch = s.sch := rfl
@[simp] theorem State.setPort_blg (s : State) (p : Nat) (v : PortSt) : (State.setPort s p v).blg = s.blg := rfl
@[simp] theorem State.setPort_msc (s : State) (p : Nat) (v : PortSt) : (State.setPort s p v).msc = s.msc := rfl
@[simp] theorem State.setPort_key (s : State) (p : Nat) (v : PortSt) : (State.setPort s p v).key = s.key := rfl
@[simp] theorem State.setPort_pci (s : State) (p : Nat) (v : PortSt) : (State.setPort s p v).pci = s.pci := rfl
@[simp] theorem State.setPort_hst (s : State) (p : Nat) (v : PortSt) : (State.setPort s p v).hst = s.hst := rfl
@[simp] theorem State.setPort_dma (s : State) (p : Nat) (v : PortSt) : (State.setPort s p v).dma = s.dma := rfl
@[simp] theorem State.setPort_cnt (s : State) (p : Nat) (v : PortSt) : (State.setPort s p v).cnt = s.cnt := rfl
@[simp] theorem State.setPort_flt (s : State) (p : Nat) (v : PortSt) : (State.setPort s p v).flt = s.flt := rfl
@[simp] theorem State.setPort_evt (s : State) (p : Nat) (v : PortSt) : (State.setPort s p v).evt = s.evt := rfl
@[simp] theorem State.setPort_pwr (s : State) (p : Nat) (v : PortSt) : (State.setPort s p v).pwr = s.pwr := rfl
@[simp] theorem State.setPort_i2c (s : State) (p : Nat) (v : PortSt) : (State.setPort s p v).i2c = s.i2c := rfl
@[simp] theorem State.setPort_jtag (s : State) (p : Nat) (v : PortSt) : (State.setPort s p v).jtag = s.jtag := rfl
@[simp] theorem State.setPort_out (s : State) (p : Nat) (v : PortSt) : (State.setPort s p v).out = s.out := rfl
@[simp] theorem State.setPort_free (s : State) (p : Nat) (v : PortSt) : (State.setPort s p v).free = s.free := rfl
@[simp] theorem State.setPort_pending (s : State) (p : Nat) (v : PortSt) : (State.setPort s p v).pending = s.pending := rfl
@[simp] theorem State.setPg_fuses (s : State) (g : Nat) (v : PgSt) : (State.setPg s g v).fuses = s.fuses := rfl
@[simp] theorem State.setPg_dev (s : State) (g : Nat) (v : PgSt) : (State.setPg s g v).dev = s.dev := rfl
@[simp] theorem State.setPg_acc (s : State) (g : Nat) (v : PgSt) : (State.setPg s g v).acc = s.acc := rfl
@[simp] theorem State.setPg_blks (s : State) (g : Nat) (v : PgSt) : (State.setPg s g v).blks = s.blks := rfl
@[simp] theorem State.setPg_regs (s : State) (g : Nat) (v : PgSt) : (State.setPg s g v).regs = s.regs := rfl
@[simp] theorem State.setPg_now (s : State) (g : Nat) (v : PgSt) : (State.setPg s g v).now = s.now := rfl
@[simp] theorem State.setPg_tim (s : State) (g : Nat) (v : PgSt) : (State.setPg s g v).tim = s.tim := rfl
@[simp] theorem State.setPg_ports (s : State) (g : Nat) (v : PgSt) : (State.setPg s g v).ports = s.ports := rfl
@[simp] theorem State.setPg_tbl (s : State) (g : Nat) (v : PgSt) : (State.setPg s g v).tbl = s.tbl := rfl
@[simp] theorem State.setPg_ver (s : State) (g : Nat) (v : PgSt) : (State.setPg s g v).ver = s.ver := rfl
@[simp] theorem State.setPg_ips (s : State) (g : Nat) (v : PgSt) : (State.setPg s g v).ips = s.ips := rfl
@[simp] theorem State.setPg_eps (s : State) (g : Nat) (v : PgSt) : (State.setPg s g v).eps = s.eps := rfl
@[simp] theorem State.setPg_tmg (s : State) (g : Nat) (v : PgSt) : (State.setPg s g v).tmg = s.tmg := rfl
@[simp] theorem State.setPg_bpm (s : State) (g : Nat) (v : PgSt) : (State.setPg s g v).bpm = s.bpm := rfl
@[simp] theorem State.setPg_drc (s : State) (g : Nat) (v : PgSt) : (State.setPg s g v).drc = s.drc := rfl
@[simp] theorem State.setPg_sch (s : State) (g : Nat) (v : PgSt) : (State.setPg s g v).sch = s.sch := rfl
@[simp] theorem State.setPg_blg (s : State) (g : Nat) (v : PgSt) : (State.setPg s g v).blg = s.blg := rfl
@[simp] theorem State.setPg_msc (s : State) (g : Nat) (v : PgSt) : (State.setPg s g v).msc = s.msc := rfl
@[simp] theorem State.setPg_key (s : State) (g : Nat) (v : PgSt) : (State.setPg s g v).key = s.key := rfl
@[simp] theorem State.setPg_pci (s : State) (g : Nat) (v : PgSt) : (State.setPg s g v).pci = s.pci := rfl
@[simp] theorem State.setPg_hst (s : State) (g : Nat) (v : PgSt) : (State.setPg s g v).hst = s.hst := rfl
@[simp] theorem State.setPg_dma (s : State) (g : Nat) (v : PgSt) : (State.setPg s g v).dma = s.dma := rfl
@[simp] theorem State.setPg_cnt (s : State) (g : Nat) (v : PgSt) : (State.setPg s g v).cnt = s.cnt := rfl
@[simp] theorem State.setPg_flt (s : State) (g : Nat) (v : PgSt) : (State.setPg s g v).flt = s.flt := rfl
@[simp] theorem State.setPg_evt (s : State) (g : Nat) (v : PgSt) : (State.setPg s g v).evt = s.evt := rfl
@[simp] theorem State.setPg_pwr (s : State) (g : Nat) (v : PgSt) : (State.setPg s g v).pwr = s.pwr := rfl
@[simp] theorem State.setPg_i2c (s : State) (g : Nat) (v : PgSt) : (State.setPg s g v).i2c = s.i2c := rfl
@[simp] theorem State.setPg_jtag (s : State) (g : Nat) (v : PgSt) : (State.setPg s g v).jtag = s.jtag := rfl
@[simp] theorem State.setPg_out (s : State) (g : Nat) (v : PgSt) : (State.setPg s g v).out = s.out := rfl
@[simp] theorem State.setPg_free (s : State) (g : Nat) (v : PgSt) : (State.setPg s g v).free = s.free := rfl
@[simp] theorem State.setPg_pending (s : State) (g : Nat) (v : PgSt) : (State.setPg s g v).pending = s.pending := rfl
@[simp] theorem State.setIp_fuses (s : State) (g : Nat) (v : IpSt) : (State.setIp s g v).fuses = s.fuses := rfl
@[simp] theorem State.setIp_dev (s : State) (g : Nat) (v : IpSt) : (State.setIp s g v).dev = s.dev := rfl
@[simp] theorem State.setIp_acc (s : State) (g : Nat) (v : IpSt) : (State.setIp s g v).acc = s.acc := rfl
@[simp] theorem State.setIp_blks (s : State) (g : Nat) (v : IpSt) : (State.setIp s g v).blks = s.blks := rfl
@[simp] theorem State.setIp_regs (s : State) (g : Nat) (v : IpSt) : (State.setIp s g v).regs = s.regs := rfl
@[simp] theorem State.setIp_now (s : State) (g : Nat) (v : IpSt) : (State.setIp s g v).now = s.now := rfl
@[simp] theorem State.setIp_tim (s : State) (g : Nat) (v : IpSt) : (State.setIp s g v).tim = s.tim := rfl
@[simp] theorem State.setIp_ports (s : State) (g : Nat) (v : IpSt) : (State.setIp s g v).ports = s.ports := rfl
@[simp] theorem State.setIp_pgs (s : State) (g : Nat) (v : IpSt) : (State.setIp s g v).pgs = s.pgs := rfl
@[simp] theorem State.setIp_tbl (s : State) (g : Nat) (v : IpSt) : (State.setIp s g v).tbl = s.tbl := rfl
@[simp] theorem State.setIp_ver (s : State) (g : Nat) (v : IpSt) : (State.setIp s g v).ver = s.ver := rfl
@[simp] theorem State.setIp_eps (s : State) (g : Nat) (v : IpSt) : (State.setIp s g v).eps = s.eps := rfl
@[simp] theorem State.setIp_tmg (s : State) (g : Nat) (v : IpSt) : (State.setIp s g v).tmg = s.tmg := rfl
@[simp] theorem State.setIp_bpm (s : State) (g : Nat) (v : IpSt) : (State.setIp s g v).bpm = s.bpm := rfl
@[simp] theorem State.setIp_drc (s : State) (g : Nat) (v : IpSt) : (State.setIp s g v).drc = s.drc := rfl
@[simp] theorem State.setIp_sch (s : State) (g : Nat) (v : IpSt) : (State.setIp s g v).sch = s.sch := rfl
@[simp] theorem State.setIp_blg (s : State) (g : Nat) (v : IpSt) : (State.setIp s g v).blg = s.blg := rfl
@[simp] theorem State.setIp_msc (s : State) (g : Nat) (v : IpSt) : (State.setIp s g v).msc = s.msc := rfl
@[simp] theorem State.setIp_key (s : State) (g : Nat) (v : IpSt) : (State.setIp s g v).key = s.key := rfl
@[simp] theorem State.setIp_pci (s : State) (g : Nat) (v : IpSt) : (State.setIp s g v).pci = s.pci := rfl
@[simp] theorem State.setIp_hst (s : State) (g : Nat) (v : IpSt) : (State.setIp s g v).hst = s.hst := rfl
@[simp] theorem State.setIp_dma (s : State) (g : Nat) (v : IpSt) : (State.setIp s g v).dma = s.dma := rfl
@[simp] theorem State.setIp_cnt (s : State) (g : Nat) (v : IpSt) : (State.setIp s g v).cnt = s.cnt := rfl
@[simp] theorem State.setIp_flt (s : State) (g : Nat) (v : IpSt) : (State.setIp s g v).flt = s.flt := rfl
@[simp] theorem State.setIp_evt (s : State) (g : Nat) (v : IpSt) : (State.setIp s g v).evt = s.evt := rfl
@[simp] theorem State.setIp_pwr (s : State) (g : Nat) (v : IpSt) : (State.setIp s g v).pwr = s.pwr := rfl
@[simp] theorem State.setIp_i2c (s : State) (g : Nat) (v : IpSt) : (State.setIp s g v).i2c = s.i2c := rfl
@[simp] theorem State.setIp_jtag (s : State) (g : Nat) (v : IpSt) : (State.setIp s g v).jtag = s.jtag := rfl
@[simp] theorem State.setIp_out (s : State) (g : Nat) (v : IpSt) : (State.setIp s g v).out = s.out := rfl
@[simp] theorem State.setIp_free (s : State) (g : Nat) (v : IpSt) : (State.setIp s g v).free = s.free := rfl
@[simp] theorem State.setIp_pending (s : State) (g : Nat) (v : IpSt) : (State.setIp s g v).pending = s.pending := rfl
@[simp] theorem State.setEp_fuses (s : State) (g : Nat) (v : EpSt) : (State.setEp s g v).fuses = s.fuses := rfl
@[simp] theorem State.setEp_dev (s : State) (g : Nat) (v : EpSt) : (State.setEp s g v).dev = s.dev := rfl
@[simp] theorem State.setEp_acc (s : State) (g : Nat) (v : EpSt) : (State.setEp s g v).acc = s.acc := rfl
@[simp] theorem State.setEp_blks (s : State) (g : Nat) (v : EpSt) : (State.setEp s g v).blks = s.blks := rfl
@[simp] theorem State.setEp_regs (s : State) (g : Nat) (v : EpSt) : (State.setEp s g v).regs = s.regs := rfl
@[simp] theorem State.setEp_now (s : State) (g : Nat) (v : EpSt) : (State.setEp s g v).now = s.now := rfl
@[simp] theorem State.setEp_tim (s : State) (g : Nat) (v : EpSt) : (State.setEp s g v).tim = s.tim := rfl
@[simp] theorem State.setEp_ports (s : State) (g : Nat) (v : EpSt) : (State.setEp s g v).ports = s.ports := rfl
@[simp] theorem State.setEp_pgs (s : State) (g : Nat) (v : EpSt) : (State.setEp s g v).pgs = s.pgs := rfl
@[simp] theorem State.setEp_tbl (s : State) (g : Nat) (v : EpSt) : (State.setEp s g v).tbl = s.tbl := rfl
@[simp] theorem State.setEp_ver (s : State) (g : Nat) (v : EpSt) : (State.setEp s g v).ver = s.ver := rfl
@[simp] theorem State.setEp_ips (s : State) (g : Nat) (v : EpSt) : (State.setEp s g v).ips = s.ips := rfl
@[simp] theorem State.setEp_tmg (s : State) (g : Nat) (v : EpSt) : (State.setEp s g v).tmg = s.tmg := rfl
@[simp] theorem State.setEp_bpm (s : State) (g : Nat) (v : EpSt) : (State.setEp s g v).bpm = s.bpm := rfl
@[simp] theorem State.setEp_drc (s : State) (g : Nat) (v : EpSt) : (State.setEp s g v).drc = s.drc := rfl
@[simp] theorem State.setEp_sch (s : State) (g : Nat) (v : EpSt) : (State.setEp s g v).sch = s.sch := rfl
@[simp] theorem State.setEp_blg (s : State) (g : Nat) (v : EpSt) : (State.setEp s g v).blg = s.blg := rfl
@[simp] theorem State.setEp_msc (s : State) (g : Nat) (v : EpSt) : (State.setEp s g v).msc = s.msc := rfl
@[simp] theorem State.setEp_key (s : State) (g : Nat) (v : EpSt) : (State.setEp s g v).key = s.key := rfl
@[simp] theorem State.setEp_pci (s : State) (g : Nat) (v : EpSt) : (State.setEp s g v).pci = s.pci := rfl
@[simp] theorem State.setEp_hst (s : State) (g : Nat) (v : EpSt) : (State.setEp s g v).hst = s.hst := rfl
@[simp] theorem State.setEp_dma (s : State) (g : Nat) (v : EpSt) : (State.setEp s g v).dma = s.dma := rfl
@[simp] theorem State.setEp_cnt (s : State) (g : Nat) (v : EpSt) : (State.setEp s g v).cnt = s.cnt := rfl
@[simp] theorem State.setEp_flt (s : State) (g : Nat) (v : EpSt) : (State.setEp s g v).flt = s.flt := rfl
@[simp] theorem State.setEp_evt (s : State) (g : Nat) (v : EpSt) : (State.setEp s g v).evt = s.evt := rfl
@[simp] theorem State.setEp_pwr (s : State) (g : Nat) (v : EpSt) : (State.setEp s g v).pwr = s.pwr := rfl
@[simp] theorem State.setEp_i2c (s : State) (g : Nat) (v : EpSt) : (State.setEp s g v).i2c = s.i2c := rfl
@[simp] theorem State.setEp_jtag (s : State) (g : Nat) (v : EpSt) : (State.setEp s g v).jtag = s.jtag := rfl
@[simp] theorem State.setEp_out (s : State) (g : Nat) (v : EpSt) : (State.setEp s g v).out = s.out := rfl
@[simp] theorem State.setEp_free (s : State) (g : Nat) (v : EpSt) : (State.setEp s g v).free = s.free := rfl
@[simp] theorem State.setEp_pending (s : State) (g : Nat) (v : EpSt) : (State.setEp s g v).pending = s.pending := rfl
@[simp] theorem State.setBlk_fuses (s : State) (p : Nat) (b : Blk) : (State.setBlk s p b).fuses = s.fuses := rfl
@[simp] theorem State.setBlk_dev (s : State) (p : Nat) (b : Blk) : (State.setBlk s p b).dev = s.dev := rfl
@[simp] theorem State.setBlk_acc (s : State) (p : Nat) (b : Blk) : (State.setBlk s p b).acc = s.acc := rfl
@[simp] theorem State.setBlk_regs (s : State) (p : Nat) (b : Blk) : (State.setBlk s p b).regs = s.regs := rfl
@[simp] theorem State.setBlk_now (s : State) (p : Nat) (b : Blk) : (State.setBlk s p b).now = s.now := rfl
@[simp] theorem State.setBlk_tim (s : State) (p : Nat) (b : Blk) : (State.setBlk s p b).tim = s.tim := rfl
@[simp] theorem State.setBlk_ports (s : State) (p : Nat) (b : Blk) : (State.setBlk s p b).ports = s.ports := rfl
@[simp] theorem State.setBlk_pgs (s : State) (p : Nat) (b : Blk) : (State.setBlk s p b).pgs = s.pgs := rfl
@[simp] theorem State.setBlk_tbl (s : State) (p : Nat) (b : Blk) : (State.setBlk s p b).tbl = s.tbl := rfl
@[simp] theorem State.setBlk_ver (s : State) (p : Nat) (b : Blk) : (State.setBlk s p b).ver = s.ver := rfl
@[simp] theorem State.setBlk_ips (s : State) (p : Nat) (b : Blk) : (State.setBlk s p b).ips = s.ips := rfl
@[simp] theorem State.setBlk_eps (s : State) (p : Nat) (b : Blk) : (State.setBlk s p b).eps = s.eps := rfl
@[simp] theorem State.setBlk_tmg (s : State) (p : Nat) (b : Blk) : (State.setBlk s p b).tmg = s.tmg := rfl
@[simp] theorem State.setBlk_bpm (s : State) (p : Nat) (b : Blk) : (State.setBlk s p b).bpm = s.bpm := rfl
@[simp] theorem State.setBlk_drc (s : State) (p : Nat) (b : Blk) : (State.setBlk s p b).drc = s.drc := rfl
@[simp] theorem State.setBlk_sch (s : State) (p : Nat) (b : Blk) : (State.setBlk s p b).sch = s.sch := rfl
@[simp] theorem State.setBlk_blg (s : State) (p : Nat) (b : Blk) : (State.setBlk s p b).blg = s.blg := rfl
@[simp] theorem State.setBlk_msc (s : State) (p : Nat) (b : Blk) : (State.setBlk s p b).msc = s.msc := rfl
@[simp] theorem State.setBlk_key (s : State) (p : Nat) (b : Blk) : (State.setBlk s p b).key = s.key := rfl
@[simp] theorem State.setBlk_pci (s : State) (p : Nat) (b : Blk) : (State.setBlk s p b).pci = s.pci := rfl
@[simp] theorem State.setBlk_hst (s : State) (p : Nat) (b : Blk) : (State.setBlk s p b).hst = s.hst := rfl
@[simp] theorem State.setBlk_dma (s : State) (p : Nat) (b : Blk) : (State.setBlk s p b).dma = s.dma := rfl
@[simp] theorem State.setBlk_cnt (s : State) (p : Nat) (b : Blk) : (State.setBlk s p b).cnt = s.cnt := rfl
@[simp] theorem State.setBlk_flt (s : State) (p : Nat) (b : Blk) : (State.setBlk s p b).flt = s.flt := rfl
@[simp] theorem State.setBlk_evt (s : State) (p : Nat) (b : Blk) : (State.setBlk s p b).evt = s.evt := rfl
@[simp] theorem State.setBlk_pwr (s : State) (p : Nat) (b : Blk) : (State.setBlk s p b).pwr = s.pwr := rfl
@[simp] theorem State.setBlk_i2c (s : State) (p : Nat) (b : Blk) : (State.setBlk s p b).i2c = s.i2c := rfl
@[simp] theorem State.setBlk_jtag (s : State) (p : Nat) (b : Blk) : (State.setBlk s p b).jtag = s.jtag := rfl
@[simp] theorem State.setBlk_out (s : State) (p : Nat) (b : Blk) : (State.setBlk s p b).out = s.out := rfl
@[simp] theorem State.setBlk_free (s : State) (p : Nat) (b : Blk) : (State.setBlk s p b).free = s.free := rfl
@[simp] theorem State.setBlk_pending (s : State) (p : Nat) (b : Blk) : (State.setBlk s p b).pending = s.pending := rfl
@[simp] theorem State.setHalf_fuses (s : State) (h : Nat) (v : HalfTbl) : (State.setHalf s h v).fuses = s.fuses := by
  simp -implicitDefEqProofs only [State.setHalf, ite_fuses, ite_self]
@[simp] theorem State.setHalf_dev (s : State) (h : Nat) (v : HalfTbl) : (State.setHalf s h v).dev = s.dev := by
  simp -implicitDefEqProofs only [State.setHalf, ite_dev, ite_self]
@[simp] theorem State.setHalf_acc (s : State) (h : Nat) (v : HalfTbl) : (State.setHalf s h v).acc = s.acc := by
  simp -implicitDefEqProofs only [State.setHalf, ite_acc, ite_self]
@[simp] theorem State.setHalf_blks (s : State) (h : Nat) (v : HalfTbl) : (State.setHalf s h v).blks = s.blks := by
  simp -implicitDefEqProofs only [State.setHalf, ite_blks, ite_self]
@[simp] theorem State.setHalf_regs (s : State) (h : Nat) (v : HalfTbl) : (State.setHalf s h v).regs = s.regs := by
  simp -implicitDefEqProofs only [State.setHalf, ite_regs, ite_self]
@[simp] theorem State.setHalf_now (s : State) (h : Nat) (v : HalfTbl) : (State.setHalf s h v).now = s.now := by
  simp -implicitDefEqProofs only [State.setHalf, ite_now, ite_self]
@[simp] theorem State.setHalf_tim (s : State) (h : Nat) (v : HalfTbl) : (State.setHalf s h v).tim = s.tim := by
  simp -implicitDefEqProofs only [State.setHalf, ite_tim, ite_self]
@[simp] theorem State.setHalf_ports (s : State) (h : Nat) (v : HalfTbl) : (State.setHalf s h v).ports = s.ports := by
  simp -implicitDefEqProofs only [State.setHalf, ite_ports, ite_self]
@[simp] theorem State.setHalf_pgs (s : State) (h : Nat) (v : HalfTbl) : (State.setHalf s h v).pgs = s.pgs := by
  simp -implicitDefEqProofs only [State.setHalf, ite_pgs, ite_self]
@[simp] theorem State.setHalf_ver (s : State) (h : Nat) (v : HalfTbl) : (State.setHalf s h v).ver = s.ver := by
  simp -implicitDefEqProofs only [State.setHalf, ite_ver, ite_self]
@[simp] theorem State.setHalf_ips (s : State) (h : Nat) (v : HalfTbl) : (State.setHalf s h v).ips = s.ips := by
  simp -implicitDefEqProofs only [State.setHalf, ite_ips, ite_self]
@[simp] theorem State.setHalf_eps (s : State) (h : Nat) (v : HalfTbl) : (State.setHalf s h v).eps = s.eps := by
  simp -implicitDefEqProofs only [State.setHalf, ite_eps, ite_self]
@[simp] theorem State.setHalf_tmg (s : State) (h : Nat) (v : HalfTbl) : (State.setHalf s h v).tmg = s.tmg := by
  simp -implicitDefEqProofs only [State.setHalf, ite_tmg, ite_self]
@[simp] theorem State.setHalf_bpm (s : State) (h : Nat) (v : HalfTbl) : (State.setHalf s h v).bpm = s.bpm := by
  simp -implicitDefEqProofs only [State.setHalf, ite_bpm, ite_self]
@[simp] theorem State.setHalf_drc (s : State) (h : Nat) (v : HalfTbl) : (State.setHalf s h v).drc = s.drc := by
  simp -implicitDefEqProofs only [State.setHalf, ite_drc, ite_self]
@[simp] theorem State.setHalf_sch (s : State) (h : Nat) (v : HalfTbl) : (State.setHalf s h v).sch = s.sch := by
  simp -implicitDefEqProofs only [State.setHalf, ite_sch, ite_self]
@[simp] theorem State.setHalf_blg (s : State) (h : Nat) (v : HalfTbl) : (State.setHalf s h v).blg = s.blg := by
  simp -implicitDefEqProofs only [State.setHalf, ite_blg, ite_self]
@[simp] theorem State.setHalf_msc (s : State) (h : Nat) (v : HalfTbl) : (State.setHalf s h v).msc = s.msc := by
  simp -implicitDefEqProofs only [State.setHalf, ite_msc, ite_self]
@[simp] theorem State.setHalf_key (s : State) (h : Nat) (v : HalfTbl) : (State.setHalf s h v).key = s.key := by
  simp -implicitDefEqProofs only [State.setHalf, ite_key, ite_self]
@[simp] theorem State.setHalf_pci (s : State) (h : Nat) (v : HalfTbl) : (State.setHalf s h v).pci = s.pci := by
  simp -implicitDefEqProofs only [State.setHalf, ite_pci, ite_self]
@[simp] theorem State.setHalf_hst (s : State) (h : Nat) (v : HalfTbl) : (State.setHalf s h v).hst = s.hst := by
  simp -implicitDefEqProofs only [State.setHalf, ite_hst, ite_self]
@[simp] theorem State.setHalf_dma (s : State) (h : Nat) (v : HalfTbl) : (State.setHalf s h v).dma = s.dma := by
  simp -implicitDefEqProofs only [State.setHalf, ite_dma, ite_self]
@[simp] theorem State.setHalf_cnt (s : State) (h : Nat) (v : HalfTbl) : (State.setHalf s h v).cnt = s.cnt := by
  simp -implicitDefEqProofs only [State.setHalf, ite_cnt, ite_self]
@[simp] theorem State.setHalf_flt (s : State) (h : Nat) (v : HalfTbl) : (State.setHalf s h v).flt = s.flt := by
  simp -implicitDefEqProofs only [State.setHalf, ite_flt, ite_self]
@[simp] theorem State.setHalf_evt (s : State) (h : Nat) (v : HalfTbl) : (State.setHalf s h v).evt = s.evt := by
  simp -implicitDefEqProofs only [State.setHalf, ite_evt, ite_self]
@[simp] theorem State.setHalf_pwr (s : State) (h : Nat) (v : HalfTbl) : (State.setHalf s h v).pwr = s.pwr := by
  simp -implicitDefEqProofs only [State.setHalf, ite_pwr, ite_self]
@[simp] theorem State.setHalf_i2c (s : State) (h : Nat) (v : HalfTbl) : (State.setHalf s h v).i2c = s.i2c := by
  simp -implicitDefEqProofs only [State.setHalf, ite_i2c, ite_self]
@[simp] theorem State.setHalf_jtag (s : State) (h : Nat) (v : HalfTbl) : (State.setHalf s h v).jtag = s.jtag := by
  simp -implicitDefEqProofs only [State.setHalf, ite_jtag, ite_self]
@[simp] theorem State.setHalf_out (s : State) (h : Nat) (v : HalfTbl) : (State.setHalf s h v).out = s.out := by
  simp -implicitDefEqProofs only [State.setHalf, ite_out, ite_self]
@[simp] theorem State.setHalf_free (s : State) (h : Nat) (v : HalfTbl) : (State.setHalf s h v).free = s.free := by
  simp -implicitDefEqProofs only [State.setHalf, ite_free, ite_self]
@[simp] theorem State.setHalf_pending (s : State) (h : Nat) (v : HalfTbl) : (State.setHalf s h v).pending = s.pending := by
  simp -implicitDefEqProofs only [State.setHalf, ite_pending, ite_self]
@[simp] theorem State.emit_fuses (s : State) (o : Out) : (State.emit s o).fuses = s.fuses := rfl
@[simp] theorem State.emit_dev (s : State) (o : Out) : (State.emit s o).dev = s.dev := rfl
@[simp] theorem State.emit_acc (s : State) (o : Out) : (State.emit s o).acc = s.acc := rfl
@[simp] theorem State.emit_blks (s : State) (o : Out) : (State.emit s o).blks = s.blks := rfl
@[simp] theorem State.emit_regs (s : State) (o : Out) : (State.emit s o).regs = s.regs := rfl
@[simp] theorem State.emit_now (s : State) (o : Out) : (State.emit s o).now = s.now := rfl
@[simp] theorem State.emit_tim (s : State) (o : Out) : (State.emit s o).tim = s.tim := rfl
@[simp] theorem State.emit_ports (s : State) (o : Out) : (State.emit s o).ports = s.ports := rfl
@[simp] theorem State.emit_pgs (s : State) (o : Out) : (State.emit s o).pgs = s.pgs := rfl
@[simp] theorem State.emit_tbl (s : State) (o : Out) : (State.emit s o).tbl = s.tbl := rfl
@[simp] theorem State.emit_ver (s : State) (o : Out) : (State.emit s o).ver = s.ver := rfl
@[simp] theorem State.emit_ips (s : State) (o : Out) : (State.emit s o).ips = s.ips := rfl
@[simp] theorem State.emit_eps (s : State) (o : Out) : (State.emit s o).eps = s.eps := rfl
@[simp] theorem State.emit_tmg (s : State) (o : Out) : (State.emit s o).tmg = s.tmg := rfl
@[simp] theorem State.emit_bpm (s : State) (o : Out) : (State.emit s o).bpm = s.bpm := rfl
@[simp] theorem State.emit_drc (s : State) (o : Out) : (State.emit s o).drc = s.drc := rfl
@[simp] theorem State.emit_sch (s : State) (o : Out) : (State.emit s o).sch = s.sch := rfl
@[simp] theorem State.emit_blg (s : State) (o : Out) : (State.emit s o).blg = s.blg := rfl
@[simp] theorem State.emit_msc (s : State) (o : Out) : (State.emit s o).msc = s.msc := rfl
@[simp] theorem State.emit_key (s : State) (o : Out) : (State.emit s o).key = s.key := rfl
@[simp] theorem State.emit_pci (s : State) (o : Out) : (State.emit s o).pci = s.pci := rfl
@[simp] theorem State.emit_hst (s : State) (o : Out) : (State.emit s o).hst = s.hst := rfl
@[simp] theorem State.emit_dma (s : State) (o : Out) : (State.emit s o).dma = s.dma := rfl
@[simp] theorem State.emit_cnt (s : State) (o : Out) : (State.emit s o).cnt = s.cnt := rfl
@[simp] theorem State.emit_flt (s : State) (o : Out) : (State.emit s o).flt = s.flt := rfl
@[simp] theorem State.emit_evt (s : State) (o : Out) : (State.emit s o).evt = s.evt := rfl
@[simp] theorem State.emit_pwr (s : State) (o : Out) : (State.emit s o).pwr = s.pwr := rfl
@[simp] theorem State.emit_i2c (s : State) (o : Out) : (State.emit s o).i2c = s.i2c := rfl
@[simp] theorem State.emit_jtag (s : State) (o : Out) : (State.emit s o).jtag = s.jtag := rfl
@[simp] theorem State.emit_free (s : State) (o : Out) : (State.emit s o).free = s.free := rfl
@[simp] theorem State.emit_pending (s : State) (o : Out) : (State.emit s o).pending = s.pending := rfl
@[simp] theorem State.cntAdd_fuses (s : State) (page n amt : Nat) : (State.cntAdd s page n amt).fuses = s.fuses := by
  simp -implicitDefEqProofs only [State.cntAdd, State.wr64_fuses]
@[simp] theorem State.cntAdd_dev (s : State) (page n amt : Nat) : (State.cntAdd s page n amt).dev = s.dev := by
  simp -implicitDefEqProofs only [State.cntAdd, State.wr64_dev]
@[simp] theorem State.cntAdd_acc (s : State) (page n amt : Nat) : (State.cntAdd s page n amt).acc = s.acc := by
  simp -implicitDefEqProofs only [State.cntAdd, State.wr64_acc]
@[simp] theorem State.cntAdd_blks (s : State) (page n amt : Nat) : (State.cntAdd s page n amt).blks = s.blks := by
  simp -implicitDefEqProofs only [State.cntAdd, State.wr64_blks]
@[simp] theorem State.cntAdd_now (s : State) (page n amt : Nat) : (State.cntAdd s page n amt).now = s.now := by
  simp -implicitDefEqProofs only [State.cntAdd, State.wr64_now]
@[simp] theorem State.cntAdd_tim (s : State) (page n amt : Nat) : (State.cntAdd s page n amt).tim = s.tim := by
  simp -implicitDefEqProofs only [State.cntAdd, State.wr64_tim]
@[simp] theorem State.cntAdd_ports (s : State) (page n amt : Nat) : (State.cntAdd s page n amt).ports = s.ports := by
  simp -implicitDefEqProofs only [State.cntAdd, State.wr64_ports]
@[simp] theorem State.cntAdd_pgs (s : State) (page n amt : Nat) : (State.cntAdd s page n amt).pgs = s.pgs := by
  simp -implicitDefEqProofs only [State.cntAdd, State.wr64_pgs]
@[simp] theorem State.cntAdd_tbl (s : State) (page n amt : Nat) : (State.cntAdd s page n amt).tbl = s.tbl := by
  simp -implicitDefEqProofs only [State.cntAdd, State.wr64_tbl]
@[simp] theorem State.cntAdd_ver (s : State) (page n amt : Nat) : (State.cntAdd s page n amt).ver = s.ver := by
  simp -implicitDefEqProofs only [State.cntAdd, State.wr64_ver]
@[simp] theorem State.cntAdd_ips (s : State) (page n amt : Nat) : (State.cntAdd s page n amt).ips = s.ips := by
  simp -implicitDefEqProofs only [State.cntAdd, State.wr64_ips]
@[simp] theorem State.cntAdd_eps (s : State) (page n amt : Nat) : (State.cntAdd s page n amt).eps = s.eps := by
  simp -implicitDefEqProofs only [State.cntAdd, State.wr64_eps]
@[simp] theorem State.cntAdd_tmg (s : State) (page n amt : Nat) : (State.cntAdd s page n amt).tmg = s.tmg := by
  simp -implicitDefEqProofs only [State.cntAdd, State.wr64_tmg]
@[simp] theorem State.cntAdd_bpm (s : State) (page n amt : Nat) : (State.cntAdd s page n amt).bpm = s.bpm := by
  simp -implicitDefEqProofs only [State.cntAdd, State.wr64_bpm]
@[simp] theorem State.cntAdd_drc (s : State) (page n amt : Nat) : (State.cntAdd s page n amt).drc = s.drc := by
  simp -implicitDefEqProofs only [State.cntAdd, State.wr64_drc]
@[simp] theorem State.cntAdd_sch (s : State) (page n amt : Nat) : (State.cntAdd s page n amt).sch = s.sch := by
  simp -implicitDefEqProofs only [State.cntAdd, State.wr64_sch]
@[simp] theorem State.cntAdd_blg (s : State) (page n amt : Nat) : (State.cntAdd s page n amt).blg = s.blg := by
  simp -implicitDefEqProofs only [State.cntAdd, State.wr64_blg]
@[simp] theorem State.cntAdd_msc (s : State) (page n amt : Nat) : (State.cntAdd s page n amt).msc = s.msc := by
  simp -implicitDefEqProofs only [State.cntAdd, State.wr64_msc]
@[simp] theorem State.cntAdd_key (s : State) (page n amt : Nat) : (State.cntAdd s page n amt).key = s.key := by
  simp -implicitDefEqProofs only [State.cntAdd, State.wr64_key]
@[simp] theorem State.cntAdd_pci (s : State) (page n amt : Nat) : (State.cntAdd s page n amt).pci = s.pci := by
  simp -implicitDefEqProofs only [State.cntAdd, State.wr64_pci]
@[simp] theorem State.cntAdd_hst (s : State) (page n amt : Nat) : (State.cntAdd s page n amt).hst = s.hst := by
  simp -implicitDefEqProofs only [State.cntAdd, State.wr64_hst]
@[simp] theorem State.cntAdd_dma (s : State) (page n amt : Nat) : (State.cntAdd s page n amt).dma = s.dma := by
  simp -implicitDefEqProofs only [State.cntAdd, State.wr64_dma]
@[simp] theorem State.cntAdd_cnt (s : State) (page n amt : Nat) : (State.cntAdd s page n amt).cnt = s.cnt := by
  simp -implicitDefEqProofs only [State.cntAdd, State.wr64_cnt]
@[simp] theorem State.cntAdd_flt (s : State) (page n amt : Nat) : (State.cntAdd s page n amt).flt = s.flt := by
  simp -implicitDefEqProofs only [State.cntAdd, State.wr64_flt]
@[simp] theorem State.cntAdd_evt (s : State) (page n amt : Nat) : (State.cntAdd s page n amt).evt = s.evt := by
  simp -implicitDefEqProofs only [State.cntAdd, State.wr64_evt]
@[simp] theorem State.cntAdd_pwr (s : State) (page n amt : Nat) : (State.cntAdd s page n amt).pwr = s.pwr := by
  simp -implicitDefEqProofs only [State.cntAdd, State.wr64_pwr]
@[simp] theorem State.cntAdd_i2c (s : State) (page n amt : Nat) : (State.cntAdd s page n amt).i2c = s.i2c := by
  simp -implicitDefEqProofs only [State.cntAdd, State.wr64_i2c]
@[simp] theorem State.cntAdd_jtag (s : State) (page n amt : Nat) : (State.cntAdd s page n amt).jtag = s.jtag := by
  simp -implicitDefEqProofs only [State.cntAdd, State.wr64_jtag]
@[simp] theorem State.cntAdd_out (s : State) (page n amt : Nat) : (State.cntAdd s page n amt).out = s.out := by
  simp -implicitDefEqProofs only [State.cntAdd, State.wr64_out]
@[simp] theorem State.cntAdd_free (s : State) (page n amt : Nat) : (State.cntAdd s page n amt).free = s.free := by
  simp -implicitDefEqProofs only [State.cntAdd, State.wr64_free]
@[simp] theorem State.cntAdd_pending (s : State) (page n amt : Nat) : (State.cntAdd s page n amt).pending = s.pending := by
  simp -implicitDefEqProofs only [State.cntAdd, State.wr64_pending]
@[simp] theorem State.event_fuses (s : State) (page code amt : Nat) (q : Nat → Bool) : (State.event s page code amt q).fuses = s.fuses := by
  simp -implicitDefEqProofs only [State.event, foldl_fuses, implies_true, ite_fuses, ite_self, State.cntAdd_fuses]
@[simp] theorem State.event_dev (s : State) (page code amt : Nat) (q : Nat → Bool) : (State.event s page code amt q).dev = s.dev := by
  simp -implicitDefEqProofs only [State.event, foldl_dev, implies_true, ite_dev, ite_self, State.cntAdd_dev]
@[simp] theorem State.event_acc (s : State) (page code amt : Nat) (q : Nat → Bool) : (State.event s page code amt q).acc = s.acc := by
  simp -implicitDefEqProofs only [State.event, foldl_acc, implies_true, ite_acc, ite_self, State.cntAdd_acc]
@[simp] theorem State.event_blks (s : State) (page code amt : Nat) (q : Nat → Bool) : (State.event s page code amt q).blks = s.blks := by
  simp -implicitDefEqProofs only [State.event, foldl_blks, implies_true, ite_blks, ite_self, State.cntAdd_blks]
@[simp] theorem State.event_now (s : State) (page code amt : Nat) (q : Nat → Bool) : (State.event s page code amt q).now = s.now := by
  simp -implicitDefEqProofs only [State.event, foldl_now, implies_true, ite_now, ite_self, State.cntAdd_now]
@[simp] theorem State.event_tim (s : State) (page code amt : Nat) (q : Nat → Bool) : (State.event s page code amt q).tim = s.tim := by
  simp -implicitDefEqProofs only [State.event, foldl_tim, implies_true, ite_tim, ite_self, State.cntAdd_tim]
@[simp] theorem State.event_ports (s : State) (page code amt : Nat) (q : Nat → Bool) : (State.event s page code amt q).ports = s.ports := by
  simp -implicitDefEqProofs only [State.event, foldl_ports, implies_true, ite_ports, ite_self, State.cntAdd_ports]
@[simp] theorem State.event_pgs (s : State) (page code amt : Nat) (q : Nat → Bool) : (State.event s page code amt q).pgs = s.pgs := by
  simp -implicitDefEqProofs only [State.event, foldl_pgs, implies_true, ite_pgs, ite_self, State.cntAdd_pgs]
@[simp] theorem State.event_tbl (s : State) (page code amt : Nat) (q : Nat → Bool) : (State.event s page code amt q).tbl = s.tbl := by
  simp -implicitDefEqProofs only [State.event, foldl_tbl, implies_true, ite_tbl, ite_self, State.cntAdd_tbl]
@[simp] theorem State.event_ver (s : State) (page code amt : Nat) (q : Nat → Bool) : (State.event s page code amt q).ver = s.ver := by
  simp -implicitDefEqProofs only [State.event, foldl_ver, implies_true, ite_ver, ite_self, State.cntAdd_ver]
@[simp] theorem State.event_ips (s : State) (page code amt : Nat) (q : Nat → Bool) : (State.event s page code amt q).ips = s.ips := by
  simp -implicitDefEqProofs only [State.event, foldl_ips, implies_true, ite_ips, ite_self, State.cntAdd_ips]
@[simp] theorem State.event_eps (s : State) (page code amt : Nat) (q : Nat → Bool) : (State.event s page code amt q).eps = s.eps := by
  simp -implicitDefEqProofs only [State.event, foldl_eps, implies_true, ite_eps, ite_self, State.cntAdd_eps]
@[simp] theorem State.event_tmg (s : State) (page code amt : Nat) (q : Nat → Bool) : (State.event s page code amt q).tmg = s.tmg := by
  simp -implicitDefEqProofs only [State.event, foldl_tmg, implies_true, ite_tmg, ite_self, State.cntAdd_tmg]
@[simp] theorem State.event_bpm (s : State) (page code amt : Nat) (q : Nat → Bool) : (State.event s page code amt q).bpm = s.bpm := by
  simp -implicitDefEqProofs only [State.event, foldl_bpm, implies_true, ite_bpm, ite_self, State.cntAdd_bpm]
@[simp] theorem State.event_drc (s : State) (page code amt : Nat) (q : Nat → Bool) : (State.event s page code amt q).drc = s.drc := by
  simp -implicitDefEqProofs only [State.event, foldl_drc, implies_true, ite_drc, ite_self, State.cntAdd_drc]
@[simp] theorem State.event_sch (s : State) (page code amt : Nat) (q : Nat → Bool) : (State.event s page code amt q).sch = s.sch := by
  simp -implicitDefEqProofs only [State.event, foldl_sch, implies_true, ite_sch, ite_self, State.cntAdd_sch]
@[simp] theorem State.event_blg (s : State) (page code amt : Nat) (q : Nat → Bool) : (State.event s page code amt q).blg = s.blg := by
  simp -implicitDefEqProofs only [State.event, foldl_blg, implies_true, ite_blg, ite_self, State.cntAdd_blg]
@[simp] theorem State.event_msc (s : State) (page code amt : Nat) (q : Nat → Bool) : (State.event s page code amt q).msc = s.msc := by
  simp -implicitDefEqProofs only [State.event, foldl_msc, implies_true, ite_msc, ite_self, State.cntAdd_msc]
@[simp] theorem State.event_key (s : State) (page code amt : Nat) (q : Nat → Bool) : (State.event s page code amt q).key = s.key := by
  simp -implicitDefEqProofs only [State.event, foldl_key, implies_true, ite_key, ite_self, State.cntAdd_key]
@[simp] theorem State.event_pci (s : State) (page code amt : Nat) (q : Nat → Bool) : (State.event s page code amt q).pci = s.pci := by
  simp -implicitDefEqProofs only [State.event, foldl_pci, implies_true, ite_pci, ite_self, State.cntAdd_pci]
@[simp] theorem State.event_hst (s : State) (page code amt : Nat) (q : Nat → Bool) : (State.event s page code amt q).hst = s.hst := by
  simp -implicitDefEqProofs only [State.event, foldl_hst, implies_true, ite_hst, ite_self, State.cntAdd_hst]
@[simp] theorem State.event_dma (s : State) (page code amt : Nat) (q : Nat → Bool) : (State.event s page code amt q).dma = s.dma := by
  simp -implicitDefEqProofs only [State.event, foldl_dma, implies_true, ite_dma, ite_self, State.cntAdd_dma]
@[simp] theorem State.event_cnt (s : State) (page code amt : Nat) (q : Nat → Bool) : (State.event s page code amt q).cnt = s.cnt := by
  simp -implicitDefEqProofs only [State.event, foldl_cnt, implies_true, ite_cnt, ite_self, State.cntAdd_cnt]
@[simp] theorem State.event_flt (s : State) (page code amt : Nat) (q : Nat → Bool) : (State.event s page code amt q).flt = s.flt := by
  simp -implicitDefEqProofs only [State.event, foldl_flt, implies_true, ite_flt, ite_self, State.cntAdd_flt]
@[simp] theorem State.event_evt (s : State) (page code amt : Nat) (q : Nat → Bool) : (State.event s page code amt q).evt = s.evt := by
  simp -implicitDefEqProofs only [State.event, foldl_evt, implies_true, ite_evt, ite_self, State.cntAdd_evt]
@[simp] theorem State.event_pwr (s : State) (page code amt : Nat) (q : Nat → Bool) : (State.event s page code amt q).pwr = s.pwr := by
  simp -implicitDefEqProofs only [State.event, foldl_pwr, implies_true, ite_pwr, ite_self, State.cntAdd_pwr]
@[simp] theorem State.event_i2c (s : State) (page code amt : Nat) (q : Nat → Bool) : (State.event s page code amt q).i2c = s.i2c := by
  simp -implicitDefEqProofs only [State.event, foldl_i2c, implies_true, ite_i2c, ite_self, State.cntAdd_i2c]
@[simp] theorem State.event_jtag (s : State) (page code amt : Nat) (q : Nat → Bool) : (State.event s page code amt q).jtag = s.jtag := by
  simp -implicitDefEqProofs only [State.event, foldl_jtag, implies_true, ite_jtag, ite_self, State.cntAdd_jtag]
@[simp] theorem State.event_out (s : State) (page code amt : Nat) (q : Nat → Bool) : (State.event s page code amt q).out = s.out := by
  simp -implicitDefEqProofs only [State.event, foldl_out, implies_true, ite_out, ite_self, State.cntAdd_out]
@[simp] theorem State.event_free (s : State) (page code amt : Nat) (q : Nat → Bool) : (State.event s page code amt q).free = s.free := by
  simp -implicitDefEqProofs only [State.event, foldl_free, implies_true, ite_free, ite_self, State.cntAdd_free]
@[simp] theorem State.event_pending (s : State) (page code amt : Nat) (q : Nat → Bool) : (State.event s page code amt q).pending = s.pending := by
  simp -implicitDefEqProofs only [State.event, foldl_pending, implies_true, ite_pending, ite_self, State.cntAdd_pending]
@[simp] theorem State.sendMsix_fuses (s : State) (u v : Nat) : (State.sendMsix s u v).fuses = s.fuses := rfl
@[simp] theorem State.sendMsix_dev (s : State) (u v : Nat) : (State.sendMsix s u v).dev = s.dev := rfl
@[simp] theorem State.sendMsix_acc (s : State) (u v : Nat) : (State.sendMsix s u v).acc = s.acc := rfl
@[simp] theorem State.sendMsix_blks (s : State) (u v : Nat) : (State.sendMsix s u v).blks = s.blks := rfl
@[simp] theorem State.sendMsix_regs (s : State) (u v : Nat) : (State.sendMsix s u v).regs = s.regs := rfl
@[simp] theorem State.sendMsix_now (s : State) (u v : Nat) : (State.sendMsix s u v).now = s.now := rfl
@[simp] theorem State.sendMsix_tim (s : State) (u v : Nat) : (State.sendMsix s u v).tim = s.tim := rfl
@[simp] theorem State.sendMsix_ports (s : State) (u v : Nat) : (State.sendMsix s u v).ports = s.ports := rfl
@[simp] theorem State.sendMsix_pgs (s : State) (u v : Nat) : (State.sendMsix s u v).pgs = s.pgs := rfl
@[simp] theorem State.sendMsix_tbl (s : State) (u v : Nat) : (State.sendMsix s u v).tbl = s.tbl := rfl
@[simp] theorem State.sendMsix_ver (s : State) (u v : Nat) : (State.sendMsix s u v).ver = s.ver := rfl
@[simp] theorem State.sendMsix_ips (s : State) (u v : Nat) : (State.sendMsix s u v).ips = s.ips := rfl
@[simp] theorem State.sendMsix_eps (s : State) (u v : Nat) : (State.sendMsix s u v).eps = s.eps := rfl
@[simp] theorem State.sendMsix_tmg (s : State) (u v : Nat) : (State.sendMsix s u v).tmg = s.tmg := rfl
@[simp] theorem State.sendMsix_bpm (s : State) (u v : Nat) : (State.sendMsix s u v).bpm = s.bpm := rfl
@[simp] theorem State.sendMsix_drc (s : State) (u v : Nat) : (State.sendMsix s u v).drc = s.drc := rfl
@[simp] theorem State.sendMsix_sch (s : State) (u v : Nat) : (State.sendMsix s u v).sch = s.sch := rfl
@[simp] theorem State.sendMsix_blg (s : State) (u v : Nat) : (State.sendMsix s u v).blg = s.blg := rfl
@[simp] theorem State.sendMsix_msc (s : State) (u v : Nat) : (State.sendMsix s u v).msc = s.msc := rfl
@[simp] theorem State.sendMsix_key (s : State) (u v : Nat) : (State.sendMsix s u v).key = s.key := rfl
@[simp] theorem State.sendMsix_hst (s : State) (u v : Nat) : (State.sendMsix s u v).hst = s.hst := rfl
@[simp] theorem State.sendMsix_dma (s : State) (u v : Nat) : (State.sendMsix s u v).dma = s.dma := rfl
@[simp] theorem State.sendMsix_cnt (s : State) (u v : Nat) : (State.sendMsix s u v).cnt = s.cnt := rfl
@[simp] theorem State.sendMsix_flt (s : State) (u v : Nat) : (State.sendMsix s u v).flt = s.flt := rfl
@[simp] theorem State.sendMsix_evt (s : State) (u v : Nat) : (State.sendMsix s u v).evt = s.evt := rfl
@[simp] theorem State.sendMsix_pwr (s : State) (u v : Nat) : (State.sendMsix s u v).pwr = s.pwr := rfl
@[simp] theorem State.sendMsix_i2c (s : State) (u v : Nat) : (State.sendMsix s u v).i2c = s.i2c := rfl
@[simp] theorem State.sendMsix_jtag (s : State) (u v : Nat) : (State.sendMsix s u v).jtag = s.jtag := rfl
@[simp] theorem State.sendMsix_free (s : State) (u v : Nat) : (State.sendMsix s u v).free = s.free := rfl
@[simp] theorem State.sendMsix_pending (s : State) (u v : Nat) : (State.sendMsix s u v).pending = s.pending := rfl
@[simp] theorem State.irqEdge_fuses (s : State) (page : Nat) (before : Bool) : (State.irqEdge s page before).fuses = s.fuses := by
  simp -implicitDefEqProofs only [State.irqEdge, ite_fuses, ite_self, State.sendMsix_fuses]
@[simp] theorem State.irqEdge_dev (s : State) (page : Nat) (before : Bool) : (State.irqEdge s page before).dev = s.dev := by
  simp -implicitDefEqProofs only [State.irqEdge, ite_dev, ite_self, State.sendMsix_dev]
@[simp] theorem State.irqEdge_acc (s : State) (page : Nat) (before : Bool) : (State.irqEdge s page before).acc = s.acc := by
  simp -implicitDefEqProofs only [State.irqEdge, ite_acc, ite_self, State.sendMsix_acc]
@[simp] theorem State.irqEdge_blks (s : State) (page : Nat) (before : Bool) : (State.irqEdge s page before).blks = s.blks := by
  simp -implicitDefEqProofs only [State.irqEdge, ite_blks, ite_self, State.sendMsix_blks]
@[simp] theorem State.irqEdge_regs (s : State) (page : Nat) (before : Bool) : (State.irqEdge s page before).regs = s.regs := by
  simp -implicitDefEqProofs only [State.irqEdge, ite_regs, ite_self, State.sendMsix_regs]
@[simp] theorem State.irqEdge_now (s : State) (page : Nat) (before : Bool) : (State.irqEdge s page before).now = s.now := by
  simp -implicitDefEqProofs only [State.irqEdge, ite_now, ite_self, State.sendMsix_now]
@[simp] theorem State.irqEdge_tim (s : State) (page : Nat) (before : Bool) : (State.irqEdge s page before).tim = s.tim := by
  simp -implicitDefEqProofs only [State.irqEdge, ite_tim, ite_self, State.sendMsix_tim]
@[simp] theorem State.irqEdge_ports (s : State) (page : Nat) (before : Bool) : (State.irqEdge s page before).ports = s.ports := by
  simp -implicitDefEqProofs only [State.irqEdge, ite_ports, ite_self, State.sendMsix_ports]
@[simp] theorem State.irqEdge_pgs (s : State) (page : Nat) (before : Bool) : (State.irqEdge s page before).pgs = s.pgs := by
  simp -implicitDefEqProofs only [State.irqEdge, ite_pgs, ite_self, State.sendMsix_pgs]
@[simp] theorem State.irqEdge_tbl (s : State) (page : Nat) (before : Bool) : (State.irqEdge s page before).tbl = s.tbl := by
  simp -implicitDefEqProofs only [State.irqEdge, ite_tbl, ite_self, State.sendMsix_tbl]
@[simp] theorem State.irqEdge_ver (s : State) (page : Nat) (before : Bool) : (State.irqEdge s page before).ver = s.ver := by
  simp -implicitDefEqProofs only [State.irqEdge, ite_ver, ite_self, State.sendMsix_ver]
@[simp] theorem State.irqEdge_ips (s : State) (page : Nat) (before : Bool) : (State.irqEdge s page before).ips = s.ips := by
  simp -implicitDefEqProofs only [State.irqEdge, ite_ips, ite_self, State.sendMsix_ips]
@[simp] theorem State.irqEdge_eps (s : State) (page : Nat) (before : Bool) : (State.irqEdge s page before).eps = s.eps := by
  simp -implicitDefEqProofs only [State.irqEdge, ite_eps, ite_self, State.sendMsix_eps]
@[simp] theorem State.irqEdge_tmg (s : State) (page : Nat) (before : Bool) : (State.irqEdge s page before).tmg = s.tmg := by
  simp -implicitDefEqProofs only [State.irqEdge, ite_tmg, ite_self, State.sendMsix_tmg]
@[simp] theorem State.irqEdge_bpm (s : State) (page : Nat) (before : Bool) : (State.irqEdge s page before).bpm = s.bpm := by
  simp -implicitDefEqProofs only [State.irqEdge, ite_bpm, ite_self, State.sendMsix_bpm]
@[simp] theorem State.irqEdge_drc (s : State) (page : Nat) (before : Bool) : (State.irqEdge s page before).drc = s.drc := by
  simp -implicitDefEqProofs only [State.irqEdge, ite_drc, ite_self, State.sendMsix_drc]
@[simp] theorem State.irqEdge_sch (s : State) (page : Nat) (before : Bool) : (State.irqEdge s page before).sch = s.sch := by
  simp -implicitDefEqProofs only [State.irqEdge, ite_sch, ite_self, State.sendMsix_sch]
@[simp] theorem State.irqEdge_blg (s : State) (page : Nat) (before : Bool) : (State.irqEdge s page before).blg = s.blg := by
  simp -implicitDefEqProofs only [State.irqEdge, ite_blg, ite_self, State.sendMsix_blg]
@[simp] theorem State.irqEdge_msc (s : State) (page : Nat) (before : Bool) : (State.irqEdge s page before).msc = s.msc := by
  simp -implicitDefEqProofs only [State.irqEdge, ite_msc, ite_self, State.sendMsix_msc]
@[simp] theorem State.irqEdge_key (s : State) (page : Nat) (before : Bool) : (State.irqEdge s page before).key = s.key := by
  simp -implicitDefEqProofs only [State.irqEdge, ite_key, ite_self, State.sendMsix_key]
@[simp] theorem State.irqEdge_hst (s : State) (page : Nat) (before : Bool) : (State.irqEdge s page before).hst = s.hst := by
  simp -implicitDefEqProofs only [State.irqEdge, ite_hst, ite_self, State.sendMsix_hst]
@[simp] theorem State.irqEdge_dma (s : State) (page : Nat) (before : Bool) : (State.irqEdge s page before).dma = s.dma := by
  simp -implicitDefEqProofs only [State.irqEdge, ite_dma, ite_self, State.sendMsix_dma]
@[simp] theorem State.irqEdge_cnt (s : State) (page : Nat) (before : Bool) : (State.irqEdge s page before).cnt = s.cnt := by
  simp -implicitDefEqProofs only [State.irqEdge, ite_cnt, ite_self, State.sendMsix_cnt]
@[simp] theorem State.irqEdge_flt (s : State) (page : Nat) (before : Bool) : (State.irqEdge s page before).flt = s.flt := by
  simp -implicitDefEqProofs only [State.irqEdge, ite_flt, ite_self, State.sendMsix_flt]
@[simp] theorem State.irqEdge_evt (s : State) (page : Nat) (before : Bool) : (State.irqEdge s page before).evt = s.evt := by
  simp -implicitDefEqProofs only [State.irqEdge, ite_evt, ite_self, State.sendMsix_evt]
@[simp] theorem State.irqEdge_pwr (s : State) (page : Nat) (before : Bool) : (State.irqEdge s page before).pwr = s.pwr := by
  simp -implicitDefEqProofs only [State.irqEdge, ite_pwr, ite_self, State.sendMsix_pwr]
@[simp] theorem State.irqEdge_i2c (s : State) (page : Nat) (before : Bool) : (State.irqEdge s page before).i2c = s.i2c := by
  simp -implicitDefEqProofs only [State.irqEdge, ite_i2c, ite_self, State.sendMsix_i2c]
@[simp] theorem State.irqEdge_jtag (s : State) (page : Nat) (before : Bool) : (State.irqEdge s page before).jtag = s.jtag := by
  simp -implicitDefEqProofs only [State.irqEdge, ite_jtag, ite_self, State.sendMsix_jtag]
@[simp] theorem State.irqEdge_free (s : State) (page : Nat) (before : Bool) : (State.irqEdge s page before).free = s.free := by
  simp -implicitDefEqProofs only [State.irqEdge, ite_free, ite_self, State.sendMsix_free]
@[simp] theorem State.irqEdge_pending (s : State) (page : Nat) (before : Bool) : (State.irqEdge s page before).pending = s.pending := by
  simp -implicitDefEqProofs only [State.irqEdge, ite_pending, ite_self, State.sendMsix_pending]
@[simp] theorem State.irq_fuses (s : State) (page n : Nat) : (State.irq s page n).fuses = s.fuses := by
  simp -implicitDefEqProofs only [State.irq, State.irqEdge_fuses, State.setB_fuses]
@[simp] theorem State.irq_dev (s : State) (page n : Nat) : (State.irq s page n).dev = s.dev := by
  simp -implicitDefEqProofs only [State.irq, State.irqEdge_dev, State.setB_dev]
@[simp] theorem State.irq_acc (s : State) (page n : Nat) : (State.irq s page n).acc = s.acc := by
  simp -implicitDefEqProofs only [State.irq, State.irqEdge_acc, State.setB_acc]
@[simp] theorem State.irq_blks (s : State) (page n : Nat) : (State.irq s page n).blks = s.blks := by
  simp -implicitDefEqProofs only [State.irq, State.irqEdge_blks, State.setB_blks]
@[simp] theorem State.irq_now (s : State) (page n : Nat) : (State.irq s page n).now = s.now := by
  simp -implicitDefEqProofs only [State.irq, State.irqEdge_now, State.setB_now]
@[simp] theorem State.irq_tim (s : State) (page n : Nat) : (State.irq s page n).tim = s.tim := by
  simp -implicitDefEqProofs only [State.irq, State.irqEdge_tim, State.setB_tim]
@[simp] theorem State.irq_ports (s : State) (page n : Nat) : (State.irq s page n).ports = s.ports := by
  simp -implicitDefEqProofs only [State.irq, State.irqEdge_ports, State.setB_ports]
@[simp] theorem State.irq_pgs (s : State) (page n : Nat) : (State.irq s page n).pgs = s.pgs := by
  simp -implicitDefEqProofs only [State.irq, State.irqEdge_pgs, State.setB_pgs]
@[simp] theorem State.irq_tbl (s : State) (page n : Nat) : (State.irq s page n).tbl = s.tbl := by
  simp -implicitDefEqProofs only [State.irq, State.irqEdge_tbl, State.setB_tbl]
@[simp] theorem State.irq_ver (s : State) (page n : Nat) : (State.irq s page n).ver = s.ver := by
  simp -implicitDefEqProofs only [State.irq, State.irqEdge_ver, State.setB_ver]
@[simp] theorem State.irq_ips (s : State) (page n : Nat) : (State.irq s page n).ips = s.ips := by
  simp -implicitDefEqProofs only [State.irq, State.irqEdge_ips, State.setB_ips]
@[simp] theorem State.irq_eps (s : State) (page n : Nat) : (State.irq s page n).eps = s.eps := by
  simp -implicitDefEqProofs only [State.irq, State.irqEdge_eps, State.setB_eps]
@[simp] theorem State.irq_tmg (s : State) (page n : Nat) : (State.irq s page n).tmg = s.tmg := by
  simp -implicitDefEqProofs only [State.irq, State.irqEdge_tmg, State.setB_tmg]
@[simp] theorem State.irq_bpm (s : State) (page n : Nat) : (State.irq s page n).bpm = s.bpm := by
  simp -implicitDefEqProofs only [State.irq, State.irqEdge_bpm, State.setB_bpm]
@[simp] theorem State.irq_drc (s : State) (page n : Nat) : (State.irq s page n).drc = s.drc := by
  simp -implicitDefEqProofs only [State.irq, State.irqEdge_drc, State.setB_drc]
@[simp] theorem State.irq_sch (s : State) (page n : Nat) : (State.irq s page n).sch = s.sch := by
  simp -implicitDefEqProofs only [State.irq, State.irqEdge_sch, State.setB_sch]
@[simp] theorem State.irq_blg (s : State) (page n : Nat) : (State.irq s page n).blg = s.blg := by
  simp -implicitDefEqProofs only [State.irq, State.irqEdge_blg, State.setB_blg]
@[simp] theorem State.irq_msc (s : State) (page n : Nat) : (State.irq s page n).msc = s.msc := by
  simp -implicitDefEqProofs only [State.irq, State.irqEdge_msc, State.setB_msc]
@[simp] theorem State.irq_key (s : State) (page n : Nat) : (State.irq s page n).key = s.key := by
  simp -implicitDefEqProofs only [State.irq, State.irqEdge_key, State.setB_key]
@[simp] theorem State.irq_hst (s : State) (page n : Nat) : (State.irq s page n).hst = s.hst := by
  simp -implicitDefEqProofs only [State.irq, State.irqEdge_hst, State.setB_hst]
@[simp] theorem State.irq_dma (s : State) (page n : Nat) : (State.irq s page n).dma = s.dma := by
  simp -implicitDefEqProofs only [State.irq, State.irqEdge_dma, State.setB_dma]
@[simp] theorem State.irq_cnt (s : State) (page n : Nat) : (State.irq s page n).cnt = s.cnt := by
  simp -implicitDefEqProofs only [State.irq, State.irqEdge_cnt, State.setB_cnt]
@[simp] theorem State.irq_flt (s : State) (page n : Nat) : (State.irq s page n).flt = s.flt := by
  simp -implicitDefEqProofs only [State.irq, State.irqEdge_flt, State.setB_flt]
@[simp] theorem State.irq_evt (s : State) (page n : Nat) : (State.irq s page n).evt = s.evt := by
  simp -implicitDefEqProofs only [State.irq, State.irqEdge_evt, State.setB_evt]
@[simp] theorem State.irq_pwr (s : State) (page n : Nat) : (State.irq s page n).pwr = s.pwr := by
  simp -implicitDefEqProofs only [State.irq, State.irqEdge_pwr, State.setB_pwr]
@[simp] theorem State.irq_i2c (s : State) (page n : Nat) : (State.irq s page n).i2c = s.i2c := by
  simp -implicitDefEqProofs only [State.irq, State.irqEdge_i2c, State.setB_i2c]
@[simp] theorem State.irq_jtag (s : State) (page n : Nat) : (State.irq s page n).jtag = s.jtag := by
  simp -implicitDefEqProofs only [State.irq, State.irqEdge_jtag, State.setB_jtag]
@[simp] theorem State.irq_free (s : State) (page n : Nat) : (State.irq s page n).free = s.free := by
  simp -implicitDefEqProofs only [State.irq, State.irqEdge_free, State.setB_free]
@[simp] theorem State.irq_pending (s : State) (page n : Nat) : (State.irq s page n).pending = s.pending := by
  simp -implicitDefEqProofs only [State.irq, State.irqEdge_pending, State.setB_pending]
@[simp] theorem State.badAcc_fuses (s : State) : (State.badAcc s).fuses = s.fuses := by
  simp -implicitDefEqProofs only [State.badAcc, State.bump_fuses]
@[simp] theorem State.badAcc_dev (s : State) : (State.badAcc s).dev = s.dev := by
  simp -implicitDefEqProofs only [State.badAcc, State.bump_dev]
@[simp] theorem State.badAcc_acc (s : State) : (State.badAcc s).acc = s.acc := by
  simp -implicitDefEqProofs only [State.badAcc, State.bump_acc]
@[simp] theorem State.badAcc_blks (s : State) : (State.badAcc s).blks = s.blks := by
  simp -implicitDefEqProofs only [State.badAcc, State.bump_blks]
@[simp] theorem State.badAcc_now (s : State) : (State.badAcc s).now = s.now := by
  simp -implicitDefEqProofs only [State.badAcc, State.bump_now]
@[simp] theorem State.badAcc_tim (s : State) : (State.badAcc s).tim = s.tim := by
  simp -implicitDefEqProofs only [State.badAcc, State.bump_tim]
@[simp] theorem State.badAcc_ports (s : State) : (State.badAcc s).ports = s.ports := by
  simp -implicitDefEqProofs only [State.badAcc, State.bump_ports]
@[simp] theorem State.badAcc_pgs (s : State) : (State.badAcc s).pgs = s.pgs := by
  simp -implicitDefEqProofs only [State.badAcc, State.bump_pgs]
@[simp] theorem State.badAcc_tbl (s : State) : (State.badAcc s).tbl = s.tbl := by
  simp -implicitDefEqProofs only [State.badAcc, State.bump_tbl]
@[simp] theorem State.badAcc_ver (s : State) : (State.badAcc s).ver = s.ver := by
  simp -implicitDefEqProofs only [State.badAcc, State.bump_ver]
@[simp] theorem State.badAcc_ips (s : State) : (State.badAcc s).ips = s.ips := by
  simp -implicitDefEqProofs only [State.badAcc, State.bump_ips]
@[simp] theorem State.badAcc_eps (s : State) : (State.badAcc s).eps = s.eps := by
  simp -implicitDefEqProofs only [State.badAcc, State.bump_eps]
@[simp] theorem State.badAcc_tmg (s : State) : (State.badAcc s).tmg = s.tmg := by
  simp -implicitDefEqProofs only [State.badAcc, State.bump_tmg]
@[simp] theorem State.badAcc_bpm (s : State) : (State.badAcc s).bpm = s.bpm := by
  simp -implicitDefEqProofs only [State.badAcc, State.bump_bpm]
@[simp] theorem State.badAcc_drc (s : State) : (State.badAcc s).drc = s.drc := by
  simp -implicitDefEqProofs only [State.badAcc, State.bump_drc]
@[simp] theorem State.badAcc_sch (s : State) : (State.badAcc s).sch = s.sch := by
  simp -implicitDefEqProofs only [State.badAcc, State.bump_sch]
@[simp] theorem State.badAcc_blg (s : State) : (State.badAcc s).blg = s.blg := by
  simp -implicitDefEqProofs only [State.badAcc, State.bump_blg]
@[simp] theorem State.badAcc_msc (s : State) : (State.badAcc s).msc = s.msc := by
  simp -implicitDefEqProofs only [State.badAcc, State.bump_msc]
@[simp] theorem State.badAcc_key (s : State) : (State.badAcc s).key = s.key := by
  simp -implicitDefEqProofs only [State.badAcc, State.bump_key]
@[simp] theorem State.badAcc_pci (s : State) : (State.badAcc s).pci = s.pci := by
  simp -implicitDefEqProofs only [State.badAcc, State.bump_pci]
@[simp] theorem State.badAcc_hst (s : State) : (State.badAcc s).hst = s.hst := by
  simp -implicitDefEqProofs only [State.badAcc, State.bump_hst]
@[simp] theorem State.badAcc_dma (s : State) : (State.badAcc s).dma = s.dma := by
  simp -implicitDefEqProofs only [State.badAcc, State.bump_dma]
@[simp] theorem State.badAcc_cnt (s : State) : (State.badAcc s).cnt = s.cnt := by
  simp -implicitDefEqProofs only [State.badAcc, State.bump_cnt]
@[simp] theorem State.badAcc_flt (s : State) : (State.badAcc s).flt = s.flt := by
  simp -implicitDefEqProofs only [State.badAcc, State.bump_flt]
@[simp] theorem State.badAcc_evt (s : State) : (State.badAcc s).evt = s.evt := by
  simp -implicitDefEqProofs only [State.badAcc, State.bump_evt]
@[simp] theorem State.badAcc_pwr (s : State) : (State.badAcc s).pwr = s.pwr := by
  simp -implicitDefEqProofs only [State.badAcc, State.bump_pwr]
@[simp] theorem State.badAcc_i2c (s : State) : (State.badAcc s).i2c = s.i2c := by
  simp -implicitDefEqProofs only [State.badAcc, State.bump_i2c]
@[simp] theorem State.badAcc_jtag (s : State) : (State.badAcc s).jtag = s.jtag := by
  simp -implicitDefEqProofs only [State.badAcc, State.bump_jtag]
@[simp] theorem State.badAcc_out (s : State) : (State.badAcc s).out = s.out := by
  simp -implicitDefEqProofs only [State.badAcc, State.bump_out]
@[simp] theorem State.badAcc_free (s : State) : (State.badAcc s).free = s.free := by
  simp -implicitDefEqProofs only [State.badAcc, State.bump_free]
@[simp] theorem State.badAcc_pending (s : State) : (State.badAcc s).pending = s.pending := by
  simp -implicitDefEqProofs only [State.badAcc, State.bump_pending]
@[simp] theorem State.absentWrite_fuses (s : State) (bar user off : Nat) : (State.absentWrite s bar user off).fuses = s.fuses := by
  simp -implicitDefEqProofs only [State.absentWrite, State.bump_fuses, State.irq_fuses, State.wr_fuses]
@[simp] theorem State.absentWrite_dev (s : State) (bar user off : Nat) : (State.absentWrite s bar user off).dev = s.dev := by
  simp -implicitDefEqProofs only [State.absentWrite, State.bump_dev, State.irq_dev, State.wr_dev]
@[simp] theorem State.absentWrite_acc (s : State) (bar user off : Nat) : (State.absentWrite s bar user off).acc = s.acc := by
  simp -implicitDefEqProofs only [State.absentWrite, State.bump_acc, State.irq_acc, State.wr_acc]
@[simp] theorem State.absentWrite_blks (s : State) (bar user off : Nat) : (State.absentWrite s bar user off).blks = s.blks := by
  simp -implicitDefEqProofs only [State.absentWrite, State.bump_blks, State.irq_blks, State.wr_blks]
@[simp] theorem State.absentWrite_now (s : State) (bar user off : Nat) : (State.absentWrite s bar user off).now = s.now := by
  simp -implicitDefEqProofs only [State.absentWrite, State.bump_now, State.irq_now, State.wr_now]
@[simp] theorem State.absentWrite_tim (s : State) (bar user off : Nat) : (State.absentWrite s bar user off).tim = s.tim := by
  simp -implicitDefEqProofs only [State.absentWrite, State.bump_tim, State.irq_tim, State.wr_tim]
@[simp] theorem State.absentWrite_ports (s : State) (bar user off : Nat) : (State.absentWrite s bar user off).ports = s.ports := by
  simp -implicitDefEqProofs only [State.absentWrite, State.bump_ports, State.irq_ports, State.wr_ports]
@[simp] theorem State.absentWrite_pgs (s : State) (bar user off : Nat) : (State.absentWrite s bar user off).pgs = s.pgs := by
  simp -implicitDefEqProofs only [State.absentWrite, State.bump_pgs, State.irq_pgs, State.wr_pgs]
@[simp] theorem State.absentWrite_tbl (s : State) (bar user off : Nat) : (State.absentWrite s bar user off).tbl = s.tbl := by
  simp -implicitDefEqProofs only [State.absentWrite, State.bump_tbl, State.irq_tbl, State.wr_tbl]
@[simp] theorem State.absentWrite_ver (s : State) (bar user off : Nat) : (State.absentWrite s bar user off).ver = s.ver := by
  simp -implicitDefEqProofs only [State.absentWrite, State.bump_ver, State.irq_ver, State.wr_ver]
@[simp] theorem State.absentWrite_ips (s : State) (bar user off : Nat) : (State.absentWrite s bar user off).ips = s.ips := by
  simp -implicitDefEqProofs only [State.absentWrite, State.bump_ips, State.irq_ips, State.wr_ips]
@[simp] theorem State.absentWrite_eps (s : State) (bar user off : Nat) : (State.absentWrite s bar user off).eps = s.eps := by
  simp -implicitDefEqProofs only [State.absentWrite, State.bump_eps, State.irq_eps, State.wr_eps]
@[simp] theorem State.absentWrite_tmg (s : State) (bar user off : Nat) : (State.absentWrite s bar user off).tmg = s.tmg := by
  simp -implicitDefEqProofs only [State.absentWrite, State.bump_tmg, State.irq_tmg, State.wr_tmg]
@[simp] theorem State.absentWrite_bpm (s : State) (bar user off : Nat) : (State.absentWrite s bar user off).bpm = s.bpm := by
  simp -implicitDefEqProofs only [State.absentWrite, State.bump_bpm, State.irq_bpm, State.wr_bpm]
@[simp] theorem State.absentWrite_drc (s : State) (bar user off : Nat) : (State.absentWrite s bar user off).drc = s.drc := by
  simp -implicitDefEqProofs only [State.absentWrite, State.bump_drc, State.irq_drc, State.wr_drc]
@[simp] theorem State.absentWrite_sch (s : State) (bar user off : Nat) : (State.absentWrite s bar user off).sch = s.sch := by
  simp -implicitDefEqProofs only [State.absentWrite, State.bump_sch, State.irq_sch, State.wr_sch]
@[simp] theorem State.absentWrite_blg (s : State) (bar user off : Nat) : (State.absentWrite s bar user off).blg = s.blg := by
  simp -implicitDefEqProofs only [State.absentWrite, State.bump_blg, State.irq_blg, State.wr_blg]
@[simp] theorem State.absentWrite_msc (s : State) (bar user off : Nat) : (State.absentWrite s bar user off).msc = s.msc := by
  simp -implicitDefEqProofs only [State.absentWrite, State.bump_msc, State.irq_msc, State.wr_msc]
@[simp] theorem State.absentWrite_key (s : State) (bar user off : Nat) : (State.absentWrite s bar user off).key = s.key := by
  simp -implicitDefEqProofs only [State.absentWrite, State.bump_key, State.irq_key, State.wr_key]
@[simp] theorem State.absentWrite_hst (s : State) (bar user off : Nat) : (State.absentWrite s bar user off).hst = s.hst := by
  simp -implicitDefEqProofs only [State.absentWrite, State.bump_hst, State.irq_hst, State.wr_hst]
@[simp] theorem State.absentWrite_dma (s : State) (bar user off : Nat) : (State.absentWrite s bar user off).dma = s.dma := by
  simp -implicitDefEqProofs only [State.absentWrite, State.bump_dma, State.irq_dma, State.wr_dma]
@[simp] theorem State.absentWrite_cnt (s : State) (bar user off : Nat) : (State.absentWrite s bar user off).cnt = s.cnt := by
  simp -implicitDefEqProofs only [State.absentWrite, State.bump_cnt, State.irq_cnt, State.wr_cnt]
@[simp] theorem State.absentWrite_flt (s : State) (bar user off : Nat) : (State.absentWrite s bar user off).flt = s.flt := by
  simp -implicitDefEqProofs only [State.absentWrite, State.bump_flt, State.irq_flt, State.wr_flt]
@[simp] theorem State.absentWrite_evt (s : State) (bar user off : Nat) : (State.absentWrite s bar user off).evt = s.evt := by
  simp -implicitDefEqProofs only [State.absentWrite, State.bump_evt, State.irq_evt, State.wr_evt]
@[simp] theorem State.absentWrite_pwr (s : State) (bar user off : Nat) : (State.absentWrite s bar user off).pwr = s.pwr := by
  simp -implicitDefEqProofs only [State.absentWrite, State.bump_pwr, State.irq_pwr, State.wr_pwr]
@[simp] theorem State.absentWrite_i2c (s : State) (bar user off : Nat) : (State.absentWrite s bar user off).i2c = s.i2c := by
  simp -implicitDefEqProofs only [State.absentWrite, State.bump_i2c, State.irq_i2c, State.wr_i2c]
@[simp] theorem State.absentWrite_jtag (s : State) (bar user off : Nat) : (State.absentWrite s bar user off).jtag = s.jtag := by
  simp -implicitDefEqProofs only [State.absentWrite, State.bump_jtag, State.irq_jtag, State.wr_jtag]
@[simp] theorem State.absentWrite_free (s : State) (bar user off : Nat) : (State.absentWrite s bar user off).free = s.free := by
  simp -implicitDefEqProofs only [State.absentWrite, State.bump_free, State.irq_free, State.wr_free]
@[simp] theorem State.absentWrite_pending (s : State) (bar user off : Nat) : (State.absentWrite s bar user off).pending = s.pending := by
  simp -implicitDefEqProofs only [State.absentWrite, State.bump_pending, State.irq_pending, State.wr_pending]
@[simp] theorem State.fire_fuses (s : State) (page src : Nat) (inj : Bool) (info : Word) : (State.fire s page src inj info).fuses = s.fuses := by
  simp -implicitDefEqProofs only [State.fire, ite_fuses, ite_self, State.addF_fuses, State.event_fuses, State.setB_fuses]
@[simp] theorem State.fire_dev (s : State) (page src : Nat) (inj : Bool) (info : Word) : (State.fire s page src inj info).dev = s.dev := by
  simp -implicitDefEqProofs only [State.fire, ite_dev, ite_self, State.addF_dev, State.event_dev, State.setB_dev]
@[simp] theorem State.fire_acc (s : State) (page src : Nat) (inj : Bool) (info : Word) : (State.fire s page src inj info).acc = s.acc := by
  simp -implicitDefEqProofs only [State.fire, ite_acc, ite_self, State.addF_acc, State.event_acc, State.setB_acc]
@[simp] theorem State.fire_blks (s : State) (page src : Nat) (inj : Bool) (info : Word) : (State.fire s page src inj info).blks = s.blks := by
  simp -implicitDefEqProofs only [State.fire, ite_blks, ite_self, State.addF_blks, State.event_blks, State.setB_blks]
@[simp] theorem State.fire_now (s : State) (page src : Nat) (inj : Bool) (info : Word) : (State.fire s page src inj info).now = s.now := by
  simp -implicitDefEqProofs only [State.fire, ite_now, ite_self, State.addF_now, State.event_now, State.setB_now]
@[simp] theorem State.fire_tim (s : State) (page src : Nat) (inj : Bool) (info : Word) : (State.fire s page src inj info).tim = s.tim := by
  simp -implicitDefEqProofs only [State.fire, ite_tim, ite_self, State.addF_tim, State.event_tim, State.setB_tim]
@[simp] theorem State.fire_ports (s : State) (page src : Nat) (inj : Bool) (info : Word) : (State.fire s page src inj info).ports = s.ports := by
  simp -implicitDefEqProofs only [State.fire, ite_ports, ite_self, State.addF_ports, State.event_ports, State.setB_ports]
@[simp] theorem State.fire_pgs (s : State) (page src : Nat) (inj : Bool) (info : Word) : (State.fire s page src inj info).pgs = s.pgs := by
  simp -implicitDefEqProofs only [State.fire, ite_pgs, ite_self, State.addF_pgs, State.event_pgs, State.setB_pgs]
@[simp] theorem State.fire_tbl (s : State) (page src : Nat) (inj : Bool) (info : Word) : (State.fire s page src inj info).tbl = s.tbl := by
  simp -implicitDefEqProofs only [State.fire, ite_tbl, ite_self, State.addF_tbl, State.event_tbl, State.setB_tbl]
@[simp] theorem State.fire_ver (s : State) (page src : Nat) (inj : Bool) (info : Word) : (State.fire s page src inj info).ver = s.ver := by
  simp -implicitDefEqProofs only [State.fire, ite_ver, ite_self, State.addF_ver, State.event_ver, State.setB_ver]
@[simp] theorem State.fire_ips (s : State) (page src : Nat) (inj : Bool) (info : Word) : (State.fire s page src inj info).ips = s.ips := by
  simp -implicitDefEqProofs only [State.fire, ite_ips, ite_self, State.addF_ips, State.event_ips, State.setB_ips]
@[simp] theorem State.fire_eps (s : State) (page src : Nat) (inj : Bool) (info : Word) : (State.fire s page src inj info).eps = s.eps := by
  simp -implicitDefEqProofs only [State.fire, ite_eps, ite_self, State.addF_eps, State.event_eps, State.setB_eps]
@[simp] theorem State.fire_tmg (s : State) (page src : Nat) (inj : Bool) (info : Word) : (State.fire s page src inj info).tmg = s.tmg := by
  simp -implicitDefEqProofs only [State.fire, ite_tmg, ite_self, State.addF_tmg, State.event_tmg, State.setB_tmg]
@[simp] theorem State.fire_bpm (s : State) (page src : Nat) (inj : Bool) (info : Word) : (State.fire s page src inj info).bpm = s.bpm := by
  simp -implicitDefEqProofs only [State.fire, ite_bpm, ite_self, State.addF_bpm, State.event_bpm, State.setB_bpm]
@[simp] theorem State.fire_drc (s : State) (page src : Nat) (inj : Bool) (info : Word) : (State.fire s page src inj info).drc = s.drc := by
  simp -implicitDefEqProofs only [State.fire, ite_drc, ite_self, State.addF_drc, State.event_drc, State.setB_drc]
@[simp] theorem State.fire_sch (s : State) (page src : Nat) (inj : Bool) (info : Word) : (State.fire s page src inj info).sch = s.sch := by
  simp -implicitDefEqProofs only [State.fire, ite_sch, ite_self, State.addF_sch, State.event_sch, State.setB_sch]
@[simp] theorem State.fire_blg (s : State) (page src : Nat) (inj : Bool) (info : Word) : (State.fire s page src inj info).blg = s.blg := by
  simp -implicitDefEqProofs only [State.fire, ite_blg, ite_self, State.addF_blg, State.event_blg, State.setB_blg]
@[simp] theorem State.fire_msc (s : State) (page src : Nat) (inj : Bool) (info : Word) : (State.fire s page src inj info).msc = s.msc := by
  simp -implicitDefEqProofs only [State.fire, ite_msc, ite_self, State.addF_msc, State.event_msc, State.setB_msc]
@[simp] theorem State.fire_key (s : State) (page src : Nat) (inj : Bool) (info : Word) : (State.fire s page src inj info).key = s.key := by
  simp -implicitDefEqProofs only [State.fire, ite_key, ite_self, State.addF_key, State.event_key, State.setB_key]
@[simp] theorem State.fire_pci (s : State) (page src : Nat) (inj : Bool) (info : Word) : (State.fire s page src inj info).pci = s.pci := by
  simp -implicitDefEqProofs only [State.fire, ite_pci, ite_self, State.addF_pci, State.event_pci, State.setB_pci]
@[simp] theorem State.fire_hst (s : State) (page src : Nat) (inj : Bool) (info : Word) : (State.fire s page src inj info).hst = s.hst := by
  simp -implicitDefEqProofs only [State.fire, ite_hst, ite_self, State.addF_hst, State.event_hst, State.setB_hst]
@[simp] theorem State.fire_dma (s : State) (page src : Nat) (inj : Bool) (info : Word) : (State.fire s page src inj info).dma = s.dma := by
  simp -implicitDefEqProofs only [State.fire, ite_dma, ite_self, State.addF_dma, State.event_dma, State.setB_dma]
@[simp] theorem State.fire_cnt (s : State) (page src : Nat) (inj : Bool) (info : Word) : (State.fire s page src inj info).cnt = s.cnt := by
  simp -implicitDefEqProofs only [State.fire, ite_cnt, ite_self, State.addF_cnt, State.event_cnt, State.setB_cnt]
@[simp] theorem State.fire_evt (s : State) (page src : Nat) (inj : Bool) (info : Word) : (State.fire s page src inj info).evt = s.evt := by
  simp -implicitDefEqProofs only [State.fire, ite_evt, ite_self, State.addF_evt, State.event_evt, State.setB_evt]
@[simp] theorem State.fire_pwr (s : State) (page src : Nat) (inj : Bool) (info : Word) : (State.fire s page src inj info).pwr = s.pwr := by
  simp -implicitDefEqProofs only [State.fire, ite_pwr, ite_self, State.addF_pwr, State.event_pwr, State.setB_pwr]
@[simp] theorem State.fire_i2c (s : State) (page src : Nat) (inj : Bool) (info : Word) : (State.fire s page src inj info).i2c = s.i2c := by
  simp -implicitDefEqProofs only [State.fire, ite_i2c, ite_self, State.addF_i2c, State.event_i2c, State.setB_i2c]
@[simp] theorem State.fire_jtag (s : State) (page src : Nat) (inj : Bool) (info : Word) : (State.fire s page src inj info).jtag = s.jtag := by
  simp -implicitDefEqProofs only [State.fire, ite_jtag, ite_self, State.addF_jtag, State.event_jtag, State.setB_jtag]
@[simp] theorem State.fire_out (s : State) (page src : Nat) (inj : Bool) (info : Word) : (State.fire s page src inj info).out = s.out := by
  simp -implicitDefEqProofs only [State.fire, ite_out, ite_self, State.addF_out, State.event_out, State.setB_out]
@[simp] theorem State.fire_free (s : State) (page src : Nat) (inj : Bool) (info : Word) : (State.fire s page src inj info).free = s.free := by
  simp -implicitDefEqProofs only [State.fire, ite_free, ite_self, State.addF_free, State.event_free, State.setB_free]
@[simp] theorem State.fire_pending (s : State) (page src : Nat) (inj : Bool) (info : Word) : (State.fire s page src inj info).pending = s.pending := by
  simp -implicitDefEqProofs only [State.fire, ite_pending, ite_self, State.addF_pending, State.event_pending, State.setB_pending]
@[simp] theorem State.fault_fuses (s : State) (page src : Nat) : (State.fault s page src).fuses = s.fuses := by
  simp -implicitDefEqProofs only [State.fault, State.fire_fuses]
@[simp] theorem State.fault_dev (s : State) (page src : Nat) : (State.fault s page src).dev = s.dev := by
  simp -implicitDefEqProofs only [State.fault, State.fire_dev]
@[simp] theorem State.fault_acc (s : State) (page src : Nat) : (State.fault s page src).acc = s.acc := by
  simp -implicitDefEqProofs only [State.fault, State.fire_acc]
@[simp] theorem State.fault_blks (s : State) (page src : Nat) : (State.fault s page src).blks = s.blks := by
  simp -implicitDefEqProofs only [State.fault, State.fire_blks]
@[simp] theorem State.fault_now (s : State) (page src : Nat) : (State.fault s page src).now = s.now := by
  simp -implicitDefEqProofs only [State.fault, State.fire_now]
@[simp] theorem State.fault_tim (s : State) (page src : Nat) : (State.fault s page src).tim = s.tim := by
  simp -implicitDefEqProofs only [State.fault, State.fire_tim]
@[simp] theorem State.fault_ports (s : State) (page src : Nat) : (State.fault s page src).ports = s.ports := by
  simp -implicitDefEqProofs only [State.fault, State.fire_ports]
@[simp] theorem State.fault_pgs (s : State) (page src : Nat) : (State.fault s page src).pgs = s.pgs := by
  simp -implicitDefEqProofs only [State.fault, State.fire_pgs]
@[simp] theorem State.fault_tbl (s : State) (page src : Nat) : (State.fault s page src).tbl = s.tbl := by
  simp -implicitDefEqProofs only [State.fault, State.fire_tbl]
@[simp] theorem State.fault_ver (s : State) (page src : Nat) : (State.fault s page src).ver = s.ver := by
  simp -implicitDefEqProofs only [State.fault, State.fire_ver]
@[simp] theorem State.fault_ips (s : State) (page src : Nat) : (State.fault s page src).ips = s.ips := by
  simp -implicitDefEqProofs only [State.fault, State.fire_ips]
@[simp] theorem State.fault_eps (s : State) (page src : Nat) : (State.fault s page src).eps = s.eps := by
  simp -implicitDefEqProofs only [State.fault, State.fire_eps]
@[simp] theorem State.fault_tmg (s : State) (page src : Nat) : (State.fault s page src).tmg = s.tmg := by
  simp -implicitDefEqProofs only [State.fault, State.fire_tmg]
@[simp] theorem State.fault_bpm (s : State) (page src : Nat) : (State.fault s page src).bpm = s.bpm := by
  simp -implicitDefEqProofs only [State.fault, State.fire_bpm]
@[simp] theorem State.fault_drc (s : State) (page src : Nat) : (State.fault s page src).drc = s.drc := by
  simp -implicitDefEqProofs only [State.fault, State.fire_drc]
@[simp] theorem State.fault_sch (s : State) (page src : Nat) : (State.fault s page src).sch = s.sch := by
  simp -implicitDefEqProofs only [State.fault, State.fire_sch]
@[simp] theorem State.fault_blg (s : State) (page src : Nat) : (State.fault s page src).blg = s.blg := by
  simp -implicitDefEqProofs only [State.fault, State.fire_blg]
@[simp] theorem State.fault_msc (s : State) (page src : Nat) : (State.fault s page src).msc = s.msc := by
  simp -implicitDefEqProofs only [State.fault, State.fire_msc]
@[simp] theorem State.fault_key (s : State) (page src : Nat) : (State.fault s page src).key = s.key := by
  simp -implicitDefEqProofs only [State.fault, State.fire_key]
@[simp] theorem State.fault_pci (s : State) (page src : Nat) : (State.fault s page src).pci = s.pci := by
  simp -implicitDefEqProofs only [State.fault, State.fire_pci]
@[simp] theorem State.fault_hst (s : State) (page src : Nat) : (State.fault s page src).hst = s.hst := by
  simp -implicitDefEqProofs only [State.fault, State.fire_hst]
@[simp] theorem State.fault_dma (s : State) (page src : Nat) : (State.fault s page src).dma = s.dma := by
  simp -implicitDefEqProofs only [State.fault, State.fire_dma]
@[simp] theorem State.fault_cnt (s : State) (page src : Nat) : (State.fault s page src).cnt = s.cnt := by
  simp -implicitDefEqProofs only [State.fault, State.fire_cnt]
@[simp] theorem State.fault_evt (s : State) (page src : Nat) : (State.fault s page src).evt = s.evt := by
  simp -implicitDefEqProofs only [State.fault, State.fire_evt]
@[simp] theorem State.fault_pwr (s : State) (page src : Nat) : (State.fault s page src).pwr = s.pwr := by
  simp -implicitDefEqProofs only [State.fault, State.fire_pwr]
@[simp] theorem State.fault_i2c (s : State) (page src : Nat) : (State.fault s page src).i2c = s.i2c := by
  simp -implicitDefEqProofs only [State.fault, State.fire_i2c]
@[simp] theorem State.fault_jtag (s : State) (page src : Nat) : (State.fault s page src).jtag = s.jtag := by
  simp -implicitDefEqProofs only [State.fault, State.fire_jtag]
@[simp] theorem State.fault_out (s : State) (page src : Nat) : (State.fault s page src).out = s.out := by
  simp -implicitDefEqProofs only [State.fault, State.fire_out]
@[simp] theorem State.fault_free (s : State) (page src : Nat) : (State.fault s page src).free = s.free := by
  simp -implicitDefEqProofs only [State.fault, State.fire_free]
@[simp] theorem State.fault_pending (s : State) (page src : Nat) : (State.fault s page src).pending = s.pending := by
  simp -implicitDefEqProofs only [State.fault, State.fire_pending]
@[simp] theorem State.cycles_fuses (s : State) (t0 t1 : Nat) : (State.cycles s t0 t1).fuses = s.fuses := by
  unfold State.cycles
  repeat' (first | (simp -implicitDefEqProofs only [foldl_fuses, ite_fuses, ite_self, implies_true, State.cntAdd_fuses, *]; done) | split | (refine (foldl_fuses _ _ _ (fun t a => ?_)).trans ?_) | (simp -implicitDefEqProofs only [foldl_fuses, ite_fuses, ite_self, implies_true, State.cntAdd_fuses, *]))
@[simp] theorem State.cycles_dev (s : State) (t0 t1 : Nat) : (State.cycles s t0 t1).dev = s.dev := by
  unfold State.cycles
  repeat' (first | (simp -implicitDefEqProofs only [foldl_dev, ite_dev, ite_self, implies_true, State.cntAdd_dev, *]; done) | split | (refine (foldl_dev _ _ _ (fun t a => ?_)).trans ?_) | (simp -implicitDefEqProofs only [foldl_dev, ite_dev, ite_self, implies_true, State.cntAdd_dev, *]))
@[simp] theorem State.cycles_acc (s : State) (t0 t1 : Nat) : (State.cycles s t0 t1).acc = s.acc := by
  unfold State.cycles
  repeat' (first | (simp -implicitDefEqProofs only [foldl_acc, ite_acc, ite_self, implies_true, State.cntAdd_acc, *]; done) | split | (refine (foldl_acc _ _ _ (fun t a => ?_)).trans ?_) | (simp -implicitDefEqProofs only [foldl_acc, ite_acc, ite_self, implies_true, State.cntAdd_acc, *]))
@[simp] theorem State.cycles_blks (s : State) (t0 t1 : Nat) : (State.cycles s t0 t1).blks = s.blks := by
  unfold State.cycles
  repeat' (first | (simp -implicitDefEqProofs only [foldl_blks, ite_blks, ite_self, implies_true, State.cntAdd_blks, *]; done) | split | (refine (foldl_blks _ _ _ (fun t a => ?_)).trans ?_) | (simp -implicitDefEqProofs only [foldl_blks, ite_blks, ite_self, implies_true, State.cntAdd_blks, *]))
@[simp] theorem State.cycles_now (s : State) (t0 t1 : Nat) : (State.cycles s t0 t1).now = s.now := by
  unfold State.cycles
  repeat' (first | (simp -implicitDefEqProofs only [foldl_now, ite_now, ite_self, implies_true, State.cntAdd_now, *]; done) | split | (refine (foldl_now _ _ _ (fun t a => ?_)).trans ?_) | (simp -implicitDefEqProofs only [foldl_now, ite_now, ite_self, implies_true, State.cntAdd_now, *]))
@[simp] theorem State.cycles_tim (s : State) (t0 t1 : Nat) : (State.cycles s t0 t1).tim = s.tim := by
  unfold State.cycles
  repeat' (first | (simp -implicitDefEqProofs only [foldl_tim, ite_tim, ite_self, implies_true, State.cntAdd_tim, *]; done) | split | (refine (foldl_tim _ _ _ (fun t a => ?_)).trans ?_) | (simp -implicitDefEqProofs only [foldl_tim, ite_tim, ite_self, implies_true, State.cntAdd_tim, *]))
@[simp] theorem State.cycles_ports (s : State) (t0 t1 : Nat) : (State.cycles s t0 t1).ports = s.ports := by
  unfold State.cycles
  repeat' (first | (simp -implicitDefEqProofs only [foldl_ports, ite_ports, ite_self, implies_true, State.cntAdd_ports, *]; done) | split | (refine (foldl_ports _ _ _ (fun t a => ?_)).trans ?_) | (simp -implicitDefEqProofs only [foldl_ports, ite_ports, ite_self, implies_true, State.cntAdd_ports, *]))
@[simp] theorem State.cycles_pgs (s : State) (t0 t1 : Nat) : (State.cycles s t0 t1).pgs = s.pgs := by
  unfold State.cycles
  repeat' (first | (simp -implicitDefEqProofs only [foldl_pgs, ite_pgs, ite_self, implies_true, State.cntAdd_pgs, *]; done) | split | (refine (foldl_pgs _ _ _ (fun t a => ?_)).trans ?_) | (simp -implicitDefEqProofs only [foldl_pgs, ite_pgs, ite_self, implies_true, State.cntAdd_pgs, *]))
@[simp] theorem State.cycles_tbl (s : State) (t0 t1 : Nat) : (State.cycles s t0 t1).tbl = s.tbl := by
  unfold State.cycles
  repeat' (first | (simp -implicitDefEqProofs only [foldl_tbl, ite_tbl, ite_self, implies_true, State.cntAdd_tbl, *]; done) | split | (refine (foldl_tbl _ _ _ (fun t a => ?_)).trans ?_) | (simp -implicitDefEqProofs only [foldl_tbl, ite_tbl, ite_self, implies_true, State.cntAdd_tbl, *]))
@[simp] theorem State.cycles_ver (s : State) (t0 t1 : Nat) : (State.cycles s t0 t1).ver = s.ver := by
  unfold State.cycles
  repeat' (first | (simp -implicitDefEqProofs only [foldl_ver, ite_ver, ite_self, implies_true, State.cntAdd_ver, *]; done) | split | (refine (foldl_ver _ _ _ (fun t a => ?_)).trans ?_) | (simp -implicitDefEqProofs only [foldl_ver, ite_ver, ite_self, implies_true, State.cntAdd_ver, *]))
@[simp] theorem State.cycles_ips (s : State) (t0 t1 : Nat) : (State.cycles s t0 t1).ips = s.ips := by
  unfold State.cycles
  repeat' (first | (simp -implicitDefEqProofs only [foldl_ips, ite_ips, ite_self, implies_true, State.cntAdd_ips, *]; done) | split | (refine (foldl_ips _ _ _ (fun t a => ?_)).trans ?_) | (simp -implicitDefEqProofs only [foldl_ips, ite_ips, ite_self, implies_true, State.cntAdd_ips, *]))
@[simp] theorem State.cycles_eps (s : State) (t0 t1 : Nat) : (State.cycles s t0 t1).eps = s.eps := by
  unfold State.cycles
  repeat' (first | (simp -implicitDefEqProofs only [foldl_eps, ite_eps, ite_self, implies_true, State.cntAdd_eps, *]; done) | split | (refine (foldl_eps _ _ _ (fun t a => ?_)).trans ?_) | (simp -implicitDefEqProofs only [foldl_eps, ite_eps, ite_self, implies_true, State.cntAdd_eps, *]))
@[simp] theorem State.cycles_tmg (s : State) (t0 t1 : Nat) : (State.cycles s t0 t1).tmg = s.tmg := by
  unfold State.cycles
  repeat' (first | (simp -implicitDefEqProofs only [foldl_tmg, ite_tmg, ite_self, implies_true, State.cntAdd_tmg, *]; done) | split | (refine (foldl_tmg _ _ _ (fun t a => ?_)).trans ?_) | (simp -implicitDefEqProofs only [foldl_tmg, ite_tmg, ite_self, implies_true, State.cntAdd_tmg, *]))
@[simp] theorem State.cycles_bpm (s : State) (t0 t1 : Nat) : (State.cycles s t0 t1).bpm = s.bpm := by
  unfold State.cycles
  repeat' (first | (simp -implicitDefEqProofs only [foldl_bpm, ite_bpm, ite_self, implies_true, State.cntAdd_bpm, *]; done) | split | (refine (foldl_bpm _ _ _ (fun t a => ?_)).trans ?_) | (simp -implicitDefEqProofs only [foldl_bpm, ite_bpm, ite_self, implies_true, State.cntAdd_bpm, *]))
@[simp] theorem State.cycles_drc (s : State) (t0 t1 : Nat) : (State.cycles s t0 t1).drc = s.drc := by
  unfold State.cycles
  repeat' (first | (simp -implicitDefEqProofs only [foldl_drc, ite_drc, ite_self, implies_true, State.cntAdd_drc, *]; done) | split | (refine (foldl_drc _ _ _ (fun t a => ?_)).trans ?_) | (simp -implicitDefEqProofs only [foldl_drc, ite_drc, ite_self, implies_true, State.cntAdd_drc, *]))
@[simp] theorem State.cycles_sch (s : State) (t0 t1 : Nat) : (State.cycles s t0 t1).sch = s.sch := by
  unfold State.cycles
  repeat' (first | (simp -implicitDefEqProofs only [foldl_sch, ite_sch, ite_self, implies_true, State.cntAdd_sch, *]; done) | split | (refine (foldl_sch _ _ _ (fun t a => ?_)).trans ?_) | (simp -implicitDefEqProofs only [foldl_sch, ite_sch, ite_self, implies_true, State.cntAdd_sch, *]))
@[simp] theorem State.cycles_blg (s : State) (t0 t1 : Nat) : (State.cycles s t0 t1).blg = s.blg := by
  unfold State.cycles
  repeat' (first | (simp -implicitDefEqProofs only [foldl_blg, ite_blg, ite_self, implies_true, State.cntAdd_blg, *]; done) | split | (refine (foldl_blg _ _ _ (fun t a => ?_)).trans ?_) | (simp -implicitDefEqProofs only [foldl_blg, ite_blg, ite_self, implies_true, State.cntAdd_blg, *]))
@[simp] theorem State.cycles_msc (s : State) (t0 t1 : Nat) : (State.cycles s t0 t1).msc = s.msc := by
  unfold State.cycles
  repeat' (first | (simp -implicitDefEqProofs only [foldl_msc, ite_msc, ite_self, implies_true, State.cntAdd_msc, *]; done) | split | (refine (foldl_msc _ _ _ (fun t a => ?_)).trans ?_) | (simp -implicitDefEqProofs only [foldl_msc, ite_msc, ite_self, implies_true, State.cntAdd_msc, *]))
@[simp] theorem State.cycles_key (s : State) (t0 t1 : Nat) : (State.cycles s t0 t1).key = s.key := by
  unfold State.cycles
  repeat' (first | (simp -implicitDefEqProofs only [foldl_key, ite_key, ite_self, implies_true, State.cntAdd_key, *]; done) | split | (refine (foldl_key _ _ _ (fun t a => ?_)).trans ?_) | (simp -implicitDefEqProofs only [foldl_key, ite_key, ite_self, implies_true, State.cntAdd_key, *]))
@[simp] theorem State.cycles_pci (s : State) (t0 t1 : Nat) : (State.cycles s t0 t1).pci = s.pci := by
  unfold State.cycles
  repeat' (first | (simp -implicitDefEqProofs only [foldl_pci, ite_pci, ite_self, implies_true, State.cntAdd_pci, *]; done) | split | (refine (foldl_pci _ _ _ (fun t a => ?_)).trans ?_) | (simp -implicitDefEqProofs only [foldl_pci, ite_pci, ite_self, implies_true, State.cntAdd_pci, *]))
@[simp] theorem State.cycles_hst (s : State) (t0 t1 : Nat) : (State.cycles s t0 t1).hst = s.hst := by
  unfold State.cycles
  repeat' (first | (simp -implicitDefEqProofs only [foldl_hst, ite_hst, ite_self, implies_true, State.cntAdd_hst, *]; done) | split | (refine (foldl_hst _ _ _ (fun t a => ?_)).trans ?_) | (simp -implicitDefEqProofs only [foldl_hst, ite_hst, ite_self, implies_true, State.cntAdd_hst, *]))
@[simp] theorem State.cycles_dma (s : State) (t0 t1 : Nat) : (State.cycles s t0 t1).dma = s.dma := by
  unfold State.cycles
  repeat' (first | (simp -implicitDefEqProofs only [foldl_dma, ite_dma, ite_self, implies_true, State.cntAdd_dma, *]; done) | split | (refine (foldl_dma _ _ _ (fun t a => ?_)).trans ?_) | (simp -implicitDefEqProofs only [foldl_dma, ite_dma, ite_self, implies_true, State.cntAdd_dma, *]))
@[simp] theorem State.cycles_cnt (s : State) (t0 t1 : Nat) : (State.cycles s t0 t1).cnt = s.cnt := by
  unfold State.cycles
  repeat' (first | (simp -implicitDefEqProofs only [foldl_cnt, ite_cnt, ite_self, implies_true, State.cntAdd_cnt, *]; done) | split | (refine (foldl_cnt _ _ _ (fun t a => ?_)).trans ?_) | (simp -implicitDefEqProofs only [foldl_cnt, ite_cnt, ite_self, implies_true, State.cntAdd_cnt, *]))
@[simp] theorem State.cycles_flt (s : State) (t0 t1 : Nat) : (State.cycles s t0 t1).flt = s.flt := by
  unfold State.cycles
  repeat' (first | (simp -implicitDefEqProofs only [foldl_flt, ite_flt, ite_self, implies_true, State.cntAdd_flt, *]; done) | split | (refine (foldl_flt _ _ _ (fun t a => ?_)).trans ?_) | (simp -implicitDefEqProofs only [foldl_flt, ite_flt, ite_self, implies_true, State.cntAdd_flt, *]))
@[simp] theorem State.cycles_evt (s : State) (t0 t1 : Nat) : (State.cycles s t0 t1).evt = s.evt := by
  unfold State.cycles
  repeat' (first | (simp -implicitDefEqProofs only [foldl_evt, ite_evt, ite_self, implies_true, State.cntAdd_evt, *]; done) | split | (refine (foldl_evt _ _ _ (fun t a => ?_)).trans ?_) | (simp -implicitDefEqProofs only [foldl_evt, ite_evt, ite_self, implies_true, State.cntAdd_evt, *]))
@[simp] theorem State.cycles_pwr (s : State) (t0 t1 : Nat) : (State.cycles s t0 t1).pwr = s.pwr := by
  unfold State.cycles
  repeat' (first | (simp -implicitDefEqProofs only [foldl_pwr, ite_pwr, ite_self, implies_true, State.cntAdd_pwr, *]; done) | split | (refine (foldl_pwr _ _ _ (fun t a => ?_)).trans ?_) | (simp -implicitDefEqProofs only [foldl_pwr, ite_pwr, ite_self, implies_true, State.cntAdd_pwr, *]))
@[simp] theorem State.cycles_i2c (s : State) (t0 t1 : Nat) : (State.cycles s t0 t1).i2c = s.i2c := by
  unfold State.cycles
  repeat' (first | (simp -implicitDefEqProofs only [foldl_i2c, ite_i2c, ite_self, implies_true, State.cntAdd_i2c, *]; done) | split | (refine (foldl_i2c _ _ _ (fun t a => ?_)).trans ?_) | (simp -implicitDefEqProofs only [foldl_i2c, ite_i2c, ite_self, implies_true, State.cntAdd_i2c, *]))
@[simp] theorem State.cycles_jtag (s : State) (t0 t1 : Nat) : (State.cycles s t0 t1).jtag = s.jtag := by
  unfold State.cycles
  repeat' (first | (simp -implicitDefEqProofs only [foldl_jtag, ite_jtag, ite_self, implies_true, State.cntAdd_jtag, *]; done) | split | (refine (foldl_jtag _ _ _ (fun t a => ?_)).trans ?_) | (simp -implicitDefEqProofs only [foldl_jtag, ite_jtag, ite_self, implies_true, State.cntAdd_jtag, *]))
@[simp] theorem State.cycles_out (s : State) (t0 t1 : Nat) : (State.cycles s t0 t1).out = s.out := by
  unfold State.cycles
  repeat' (first | (simp -implicitDefEqProofs only [foldl_out, ite_out, ite_self, implies_true, State.cntAdd_out, *]; done) | split | (refine (foldl_out _ _ _ (fun t a => ?_)).trans ?_) | (simp -implicitDefEqProofs only [foldl_out, ite_out, ite_self, implies_true, State.cntAdd_out, *]))
@[simp] theorem State.cycles_free (s : State) (t0 t1 : Nat) : (State.cycles s t0 t1).free = s.free := by
  unfold State.cycles
  repeat' (first | (simp -implicitDefEqProofs only [foldl_free, ite_free, ite_self, implies_true, State.cntAdd_free, *]; done) | split | (refine (foldl_free _ _ _ (fun t a => ?_)).trans ?_) | (simp -implicitDefEqProofs only [foldl_free, ite_free, ite_self, implies_true, State.cntAdd_free, *]))
@[simp] theorem State.cycles_pending (s : State) (t0 t1 : Nat) : (State.cycles s t0 t1).pending = s.pending := by
  unfold State.cycles
  repeat' (first | (simp -implicitDefEqProofs only [foldl_pending, ite_pending, ite_self, implies_true, State.cntAdd_pending, *]; done) | split | (refine (foldl_pending _ _ _ (fun t a => ?_)).trans ?_) | (simp -implicitDefEqProofs only [foldl_pending, ite_pending, ite_self, implies_true, State.cntAdd_pending, *]))
@[simp] theorem State.advance_fuses (s : State) (d : Nat) : (State.advance s d).fuses = s.fuses := by
  simp -implicitDefEqProofs only [State.advance, State.cycles_fuses]
@[simp] theorem State.advance_dev (s : State) (d : Nat) : (State.advance s d).dev = s.dev := by
  simp -implicitDefEqProofs only [State.advance, State.cycles_dev]
@[simp] theorem State.advance_acc (s : State) (d : Nat) : (State.advance s d).acc = s.acc := by
  simp -implicitDefEqProofs only [State.advance, State.cycles_acc]
@[simp] theorem State.advance_blks (s : State) (d : Nat) : (State.advance s d).blks = s.blks := by
  simp -implicitDefEqProofs only [State.advance, State.cycles_blks]
@[simp] theorem State.advance_ports (s : State) (d : Nat) : (State.advance s d).ports = s.ports := by
  simp -implicitDefEqProofs only [State.advance, State.cycles_ports]
@[simp] theorem State.advance_pgs (s : State) (d : Nat) : (State.advance s d).pgs = s.pgs := by
  simp -implicitDefEqProofs only [State.advance, State.cycles_pgs]
@[simp] theorem State.advance_tbl (s : State) (d : Nat) : (State.advance s d).tbl = s.tbl := by
  simp -implicitDefEqProofs only [State.advance, State.cycles_tbl]
@[simp] theorem State.advance_ver (s : State) (d : Nat) : (State.advance s d).ver = s.ver := by
  simp -implicitDefEqProofs only [State.advance, State.cycles_ver]
@[simp] theorem State.advance_ips (s : State) (d : Nat) : (State.advance s d).ips = s.ips := by
  simp -implicitDefEqProofs only [State.advance, State.cycles_ips]
@[simp] theorem State.advance_eps (s : State) (d : Nat) : (State.advance s d).eps = s.eps := by
  simp -implicitDefEqProofs only [State.advance, State.cycles_eps]
@[simp] theorem State.advance_tmg (s : State) (d : Nat) : (State.advance s d).tmg = s.tmg := by
  simp -implicitDefEqProofs only [State.advance, State.cycles_tmg]
@[simp] theorem State.advance_bpm (s : State) (d : Nat) : (State.advance s d).bpm = s.bpm := by
  simp -implicitDefEqProofs only [State.advance, State.cycles_bpm]
@[simp] theorem State.advance_drc (s : State) (d : Nat) : (State.advance s d).drc = s.drc := by
  simp -implicitDefEqProofs only [State.advance, State.cycles_drc]
@[simp] theorem State.advance_sch (s : State) (d : Nat) : (State.advance s d).sch = s.sch := by
  simp -implicitDefEqProofs only [State.advance, State.cycles_sch]
@[simp] theorem State.advance_blg (s : State) (d : Nat) : (State.advance s d).blg = s.blg := by
  simp -implicitDefEqProofs only [State.advance, State.cycles_blg]
@[simp] theorem State.advance_msc (s : State) (d : Nat) : (State.advance s d).msc = s.msc := by
  simp -implicitDefEqProofs only [State.advance, State.cycles_msc]
@[simp] theorem State.advance_key (s : State) (d : Nat) : (State.advance s d).key = s.key := by
  simp -implicitDefEqProofs only [State.advance, State.cycles_key]
@[simp] theorem State.advance_pci (s : State) (d : Nat) : (State.advance s d).pci = s.pci := by
  simp -implicitDefEqProofs only [State.advance, State.cycles_pci]
@[simp] theorem State.advance_hst (s : State) (d : Nat) : (State.advance s d).hst = s.hst := by
  simp -implicitDefEqProofs only [State.advance, State.cycles_hst]
@[simp] theorem State.advance_dma (s : State) (d : Nat) : (State.advance s d).dma = s.dma := by
  simp -implicitDefEqProofs only [State.advance, State.cycles_dma]
@[simp] theorem State.advance_cnt (s : State) (d : Nat) : (State.advance s d).cnt = s.cnt := by
  simp -implicitDefEqProofs only [State.advance, State.cycles_cnt]
@[simp] theorem State.advance_flt (s : State) (d : Nat) : (State.advance s d).flt = s.flt := by
  simp -implicitDefEqProofs only [State.advance, State.cycles_flt]
@[simp] theorem State.advance_evt (s : State) (d : Nat) : (State.advance s d).evt = s.evt := by
  simp -implicitDefEqProofs only [State.advance, State.cycles_evt]
@[simp] theorem State.advance_pwr (s : State) (d : Nat) : (State.advance s d).pwr = s.pwr := by
  simp -implicitDefEqProofs only [State.advance, State.cycles_pwr]
@[simp] theorem State.advance_i2c (s : State) (d : Nat) : (State.advance s d).i2c = s.i2c := by
  simp -implicitDefEqProofs only [State.advance, State.cycles_i2c]
@[simp] theorem State.advance_jtag (s : State) (d : Nat) : (State.advance s d).jtag = s.jtag := by
  simp -implicitDefEqProofs only [State.advance, State.cycles_jtag]
@[simp] theorem State.advance_out (s : State) (d : Nat) : (State.advance s d).out = s.out := by
  simp -implicitDefEqProofs only [State.advance, State.cycles_out]
@[simp] theorem State.advance_free (s : State) (d : Nat) : (State.advance s d).free = s.free := by
  simp -implicitDefEqProofs only [State.advance, State.cycles_free]
@[simp] theorem State.advance_pending (s : State) (d : Nat) : (State.advance s d).pending = s.pending := by
  simp -implicitDefEqProofs only [State.advance, State.cycles_pending]
@[simp] theorem State.until_fuses (s : State) (t : Nat) : (State.until s t).fuses = s.fuses := by
  simp -implicitDefEqProofs only [State.until, State.advance_fuses]
@[simp] theorem State.until_dev (s : State) (t : Nat) : (State.until s t).dev = s.dev := by
  simp -implicitDefEqProofs only [State.until, State.advance_dev]
@[simp] theorem State.until_acc (s : State) (t : Nat) : (State.until s t).acc = s.acc := by
  simp -implicitDefEqProofs only [State.until, State.advance_acc]
@[simp] theorem State.until_blks (s : State) (t : Nat) : (State.until s t).blks = s.blks := by
  simp -implicitDefEqProofs only [State.until, State.advance_blks]
@[simp] theorem State.until_ports (s : State) (t : Nat) : (State.until s t).ports = s.ports := by
  simp -implicitDefEqProofs only [State.until, State.advance_ports]
@[simp] theorem State.until_pgs (s : State) (t : Nat) : (State.until s t).pgs = s.pgs := by
  simp -implicitDefEqProofs only [State.until, State.advance_pgs]
@[simp] theorem State.until_tbl (s : State) (t : Nat) : (State.until s t).tbl = s.tbl := by
  simp -implicitDefEqProofs only [State.until, State.advance_tbl]
@[simp] theorem State.until_ver (s : State) (t : Nat) : (State.until s t).ver = s.ver := by
  simp -implicitDefEqProofs only [State.until, State.advance_ver]
@[simp] theorem State.until_ips (s : State) (t : Nat) : (State.until s t).ips = s.ips := by
  simp -implicitDefEqProofs only [State.until, State.advance_ips]
@[simp] theorem State.until_eps (s : State) (t : Nat) : (State.until s t).eps = s.eps := by
  simp -implicitDefEqProofs only [State.until, State.advance_eps]
@[simp] theorem State.until_tmg (s : State) (t : Nat) : (State.until s t).tmg = s.tmg := by
  simp -implicitDefEqProofs only [State.until, State.advance_tmg]
@[simp] theorem State.until_bpm (s : State) (t : Nat) : (State.until s t).bpm = s.bpm := by
  simp -implicitDefEqProofs only [State.until, State.advance_bpm]
@[simp] theorem State.until_drc (s : State) (t : Nat) : (State.until s t).drc = s.drc := by
  simp -implicitDefEqProofs only [State.until, State.advance_drc]
@[simp] theorem State.until_sch (s : State) (t : Nat) : (State.until s t).sch = s.sch := by
  simp -implicitDefEqProofs only [State.until, State.advance_sch]
@[simp] theorem State.until_blg (s : State) (t : Nat) : (State.until s t).blg = s.blg := by
  simp -implicitDefEqProofs only [State.until, State.advance_blg]
@[simp] theorem State.until_msc (s : State) (t : Nat) : (State.until s t).msc = s.msc := by
  simp -implicitDefEqProofs only [State.until, State.advance_msc]
@[simp] theorem State.until_key (s : State) (t : Nat) : (State.until s t).key = s.key := by
  simp -implicitDefEqProofs only [State.until, State.advance_key]
@[simp] theorem State.until_pci (s : State) (t : Nat) : (State.until s t).pci = s.pci := by
  simp -implicitDefEqProofs only [State.until, State.advance_pci]
@[simp] theorem State.until_hst (s : State) (t : Nat) : (State.until s t).hst = s.hst := by
  simp -implicitDefEqProofs only [State.until, State.advance_hst]
@[simp] theorem State.until_dma (s : State) (t : Nat) : (State.until s t).dma = s.dma := by
  simp -implicitDefEqProofs only [State.until, State.advance_dma]
@[simp] theorem State.until_cnt (s : State) (t : Nat) : (State.until s t).cnt = s.cnt := by
  simp -implicitDefEqProofs only [State.until, State.advance_cnt]
@[simp] theorem State.until_flt (s : State) (t : Nat) : (State.until s t).flt = s.flt := by
  simp -implicitDefEqProofs only [State.until, State.advance_flt]
@[simp] theorem State.until_evt (s : State) (t : Nat) : (State.until s t).evt = s.evt := by
  simp -implicitDefEqProofs only [State.until, State.advance_evt]
@[simp] theorem State.until_pwr (s : State) (t : Nat) : (State.until s t).pwr = s.pwr := by
  simp -implicitDefEqProofs only [State.until, State.advance_pwr]
@[simp] theorem State.until_i2c (s : State) (t : Nat) : (State.until s t).i2c = s.i2c := by
  simp -implicitDefEqProofs only [State.until, State.advance_i2c]
@[simp] theorem State.until_jtag (s : State) (t : Nat) : (State.until s t).jtag = s.jtag := by
  simp -implicitDefEqProofs only [State.until, State.advance_jtag]
@[simp] theorem State.until_out (s : State) (t : Nat) : (State.until s t).out = s.out := by
  simp -implicitDefEqProofs only [State.until, State.advance_out]
@[simp] theorem State.until_free (s : State) (t : Nat) : (State.until s t).free = s.free := by
  simp -implicitDefEqProofs only [State.until, State.advance_free]
@[simp] theorem State.until_pending (s : State) (t : Nat) : (State.until s t).pending = s.pending := by
  simp -implicitDefEqProofs only [State.until, State.advance_pending]
@[simp] theorem State.nextTick_fuses (s : State) (period : Nat) : (State.nextTick s period).fuses = s.fuses := by
  simp -implicitDefEqProofs only [State.nextTick, State.until_fuses]
@[simp] theorem State.nextTick_dev (s : State) (period : Nat) : (State.nextTick s period).dev = s.dev := by
  simp -implicitDefEqProofs only [State.nextTick, State.until_dev]
@[simp] theorem State.nextTick_acc (s : State) (period : Nat) : (State.nextTick s period).acc = s.acc := by
  simp -implicitDefEqProofs only [State.nextTick, State.until_acc]
@[simp] theorem State.nextTick_blks (s : State) (period : Nat) : (State.nextTick s period).blks = s.blks := by
  simp -implicitDefEqProofs only [State.nextTick, State.until_blks]
@[simp] theorem State.nextTick_ports (s : State) (period : Nat) : (State.nextTick s period).ports = s.ports := by
  simp -implicitDefEqProofs only [State.nextTick, State.until_ports]
@[simp] theorem State.nextTick_pgs (s : State) (period : Nat) : (State.nextTick s period).pgs = s.pgs := by
  simp -implicitDefEqProofs only [State.nextTick, State.until_pgs]
@[simp] theorem State.nextTick_tbl (s : State) (period : Nat) : (State.nextTick s period).tbl = s.tbl := by
  simp -implicitDefEqProofs only [State.nextTick, State.until_tbl]
@[simp] theorem State.nextTick_ver (s : State) (period : Nat) : (State.nextTick s period).ver = s.ver := by
  simp -implicitDefEqProofs only [State.nextTick, State.until_ver]
@[simp] theorem State.nextTick_ips (s : State) (period : Nat) : (State.nextTick s period).ips = s.ips := by
  simp -implicitDefEqProofs only [State.nextTick, State.until_ips]
@[simp] theorem State.nextTick_eps (s : State) (period : Nat) : (State.nextTick s period).eps = s.eps := by
  simp -implicitDefEqProofs only [State.nextTick, State.until_eps]
@[simp] theorem State.nextTick_tmg (s : State) (period : Nat) : (State.nextTick s period).tmg = s.tmg := by
  simp -implicitDefEqProofs only [State.nextTick, State.until_tmg]
@[simp] theorem State.nextTick_bpm (s : State) (period : Nat) : (State.nextTick s period).bpm = s.bpm := by
  simp -implicitDefEqProofs only [State.nextTick, State.until_bpm]
@[simp] theorem State.nextTick_drc (s : State) (period : Nat) : (State.nextTick s period).drc = s.drc := by
  simp -implicitDefEqProofs only [State.nextTick, State.until_drc]
@[simp] theorem State.nextTick_sch (s : State) (period : Nat) : (State.nextTick s period).sch = s.sch := by
  simp -implicitDefEqProofs only [State.nextTick, State.until_sch]
@[simp] theorem State.nextTick_blg (s : State) (period : Nat) : (State.nextTick s period).blg = s.blg := by
  simp -implicitDefEqProofs only [State.nextTick, State.until_blg]
@[simp] theorem State.nextTick_msc (s : State) (period : Nat) : (State.nextTick s period).msc = s.msc := by
  simp -implicitDefEqProofs only [State.nextTick, State.until_msc]
@[simp] theorem State.nextTick_key (s : State) (period : Nat) : (State.nextTick s period).key = s.key := by
  simp -implicitDefEqProofs only [State.nextTick, State.until_key]
@[simp] theorem State.nextTick_pci (s : State) (period : Nat) : (State.nextTick s period).pci = s.pci := by
  simp -implicitDefEqProofs only [State.nextTick, State.until_pci]
@[simp] theorem State.nextTick_hst (s : State) (period : Nat) : (State.nextTick s period).hst = s.hst := by
  simp -implicitDefEqProofs only [State.nextTick, State.until_hst]
@[simp] theorem State.nextTick_dma (s : State) (period : Nat) : (State.nextTick s period).dma = s.dma := by
  simp -implicitDefEqProofs only [State.nextTick, State.until_dma]
@[simp] theorem State.nextTick_cnt (s : State) (period : Nat) : (State.nextTick s period).cnt = s.cnt := by
  simp -implicitDefEqProofs only [State.nextTick, State.until_cnt]
@[simp] theorem State.nextTick_flt (s : State) (period : Nat) : (State.nextTick s period).flt = s.flt := by
  simp -implicitDefEqProofs only [State.nextTick, State.until_flt]
@[simp] theorem State.nextTick_evt (s : State) (period : Nat) : (State.nextTick s period).evt = s.evt := by
  simp -implicitDefEqProofs only [State.nextTick, State.until_evt]
@[simp] theorem State.nextTick_pwr (s : State) (period : Nat) : (State.nextTick s period).pwr = s.pwr := by
  simp -implicitDefEqProofs only [State.nextTick, State.until_pwr]
@[simp] theorem State.nextTick_i2c (s : State) (period : Nat) : (State.nextTick s period).i2c = s.i2c := by
  simp -implicitDefEqProofs only [State.nextTick, State.until_i2c]
@[simp] theorem State.nextTick_jtag (s : State) (period : Nat) : (State.nextTick s period).jtag = s.jtag := by
  simp -implicitDefEqProofs only [State.nextTick, State.until_jtag]
@[simp] theorem State.nextTick_out (s : State) (period : Nat) : (State.nextTick s period).out = s.out := by
  simp -implicitDefEqProofs only [State.nextTick, State.until_out]
@[simp] theorem State.nextTick_free (s : State) (period : Nat) : (State.nextTick s period).free = s.free := by
  simp -implicitDefEqProofs only [State.nextTick, State.until_free]
@[simp] theorem State.nextTick_pending (s : State) (period : Nat) : (State.nextTick s period).pending = s.pending := by
  simp -implicitDefEqProofs only [State.nextTick, State.until_pending]
@[simp] theorem State.untilInstant_fuses (s : State) (i : Nat) : (State.untilInstant s i).fuses = s.fuses := by
  simp -implicitDefEqProofs only [State.untilInstant, ite_fuses, ite_self, State.advance_fuses]
@[simp] theorem State.untilInstant_dev (s : State) (i : Nat) : (State.untilInstant s i).dev = s.dev := by
  simp -implicitDefEqProofs only [State.untilInstant, ite_dev, ite_self, State.advance_dev]
@[simp] theorem State.untilInstant_acc (s : State) (i : Nat) : (State.untilInstant s i).acc = s.acc := by
  simp -implicitDefEqProofs only [State.untilInstant, ite_acc, ite_self, State.advance_acc]
@[simp] theorem State.untilInstant_blks (s : State) (i : Nat) : (State.untilInstant s i).blks = s.blks := by
  simp -implicitDefEqProofs only [State.untilInstant, ite_blks, ite_self, State.advance_blks]
@[simp] theorem State.untilInstant_ports (s : State) (i : Nat) : (State.untilInstant s i).ports = s.ports := by
  simp -implicitDefEqProofs only [State.untilInstant, ite_ports, ite_self, State.advance_ports]
@[simp] theorem State.untilInstant_pgs (s : State) (i : Nat) : (State.untilInstant s i).pgs = s.pgs := by
  simp -implicitDefEqProofs only [State.untilInstant, ite_pgs, ite_self, State.advance_pgs]
@[simp] theorem State.untilInstant_tbl (s : State) (i : Nat) : (State.untilInstant s i).tbl = s.tbl := by
  simp -implicitDefEqProofs only [State.untilInstant, ite_tbl, ite_self, State.advance_tbl]
@[simp] theorem State.untilInstant_ver (s : State) (i : Nat) : (State.untilInstant s i).ver = s.ver := by
  simp -implicitDefEqProofs only [State.untilInstant, ite_ver, ite_self, State.advance_ver]
@[simp] theorem State.untilInstant_ips (s : State) (i : Nat) : (State.untilInstant s i).ips = s.ips := by
  simp -implicitDefEqProofs only [State.untilInstant, ite_ips, ite_self, State.advance_ips]
@[simp] theorem State.untilInstant_eps (s : State) (i : Nat) : (State.untilInstant s i).eps = s.eps := by
  simp -implicitDefEqProofs only [State.untilInstant, ite_eps, ite_self, State.advance_eps]
@[simp] theorem State.untilInstant_tmg (s : State) (i : Nat) : (State.untilInstant s i).tmg = s.tmg := by
  simp -implicitDefEqProofs only [State.untilInstant, ite_tmg, ite_self, State.advance_tmg]
@[simp] theorem State.untilInstant_bpm (s : State) (i : Nat) : (State.untilInstant s i).bpm = s.bpm := by
  simp -implicitDefEqProofs only [State.untilInstant, ite_bpm, ite_self, State.advance_bpm]
@[simp] theorem State.untilInstant_drc (s : State) (i : Nat) : (State.untilInstant s i).drc = s.drc := by
  simp -implicitDefEqProofs only [State.untilInstant, ite_drc, ite_self, State.advance_drc]
@[simp] theorem State.untilInstant_sch (s : State) (i : Nat) : (State.untilInstant s i).sch = s.sch := by
  simp -implicitDefEqProofs only [State.untilInstant, ite_sch, ite_self, State.advance_sch]
@[simp] theorem State.untilInstant_blg (s : State) (i : Nat) : (State.untilInstant s i).blg = s.blg := by
  simp -implicitDefEqProofs only [State.untilInstant, ite_blg, ite_self, State.advance_blg]
@[simp] theorem State.untilInstant_msc (s : State) (i : Nat) : (State.untilInstant s i).msc = s.msc := by
  simp -implicitDefEqProofs only [State.untilInstant, ite_msc, ite_self, State.advance_msc]
@[simp] theorem State.untilInstant_key (s : State) (i : Nat) : (State.untilInstant s i).key = s.key := by
  simp -implicitDefEqProofs only [State.untilInstant, ite_key, ite_self, State.advance_key]
@[simp] theorem State.untilInstant_pci (s : State) (i : Nat) : (State.untilInstant s i).pci = s.pci := by
  simp -implicitDefEqProofs only [State.untilInstant, ite_pci, ite_self, State.advance_pci]
@[simp] theorem State.untilInstant_hst (s : State) (i : Nat) : (State.untilInstant s i).hst = s.hst := by
  simp -implicitDefEqProofs only [State.untilInstant, ite_hst, ite_self, State.advance_hst]
@[simp] theorem State.untilInstant_dma (s : State) (i : Nat) : (State.untilInstant s i).dma = s.dma := by
  simp -implicitDefEqProofs only [State.untilInstant, ite_dma, ite_self, State.advance_dma]
@[simp] theorem State.untilInstant_cnt (s : State) (i : Nat) : (State.untilInstant s i).cnt = s.cnt := by
  simp -implicitDefEqProofs only [State.untilInstant, ite_cnt, ite_self, State.advance_cnt]
@[simp] theorem State.untilInstant_flt (s : State) (i : Nat) : (State.untilInstant s i).flt = s.flt := by
  simp -implicitDefEqProofs only [State.untilInstant, ite_flt, ite_self, State.advance_flt]
@[simp] theorem State.untilInstant_evt (s : State) (i : Nat) : (State.untilInstant s i).evt = s.evt := by
  simp -implicitDefEqProofs only [State.untilInstant, ite_evt, ite_self, State.advance_evt]
@[simp] theorem State.untilInstant_pwr (s : State) (i : Nat) : (State.untilInstant s i).pwr = s.pwr := by
  simp -implicitDefEqProofs only [State.untilInstant, ite_pwr, ite_self, State.advance_pwr]
@[simp] theorem State.untilInstant_i2c (s : State) (i : Nat) : (State.untilInstant s i).i2c = s.i2c := by
  simp -implicitDefEqProofs only [State.untilInstant, ite_i2c, ite_self, State.advance_i2c]
@[simp] theorem State.untilInstant_jtag (s : State) (i : Nat) : (State.untilInstant s i).jtag = s.jtag := by
  simp -implicitDefEqProofs only [State.untilInstant, ite_jtag, ite_self, State.advance_jtag]
@[simp] theorem State.untilInstant_out (s : State) (i : Nat) : (State.untilInstant s i).out = s.out := by
  simp -implicitDefEqProofs only [State.untilInstant, ite_out, ite_self, State.advance_out]
@[simp] theorem State.untilInstant_free (s : State) (i : Nat) : (State.untilInstant s i).free = s.free := by
  simp -implicitDefEqProofs only [State.untilInstant, ite_free, ite_self, State.advance_free]
@[simp] theorem State.untilInstant_pending (s : State) (i : Nat) : (State.untilInstant s i).pending = s.pending := by
  simp -implicitDefEqProofs only [State.untilInstant, ite_pending, ite_self, State.advance_pending]
@[simp] theorem State.setGacc_fuses (s : State) (k : Nat) (a : GAcc) : (State.setGacc s k a).fuses = s.fuses := rfl
@[simp] theorem State.setGacc_dev (s : State) (k : Nat) (a : GAcc) : (State.setGacc s k a).dev = s.dev := rfl
@[simp] theorem State.setGacc_acc (s : State) (k : Nat) (a : GAcc) : (State.setGacc s k a).acc = s.acc := rfl
@[simp] theorem State.setGacc_blks (s : State) (k : Nat) (a : GAcc) : (State.setGacc s k a).blks = s.blks := rfl
@[simp] theorem State.setGacc_regs (s : State) (k : Nat) (a : GAcc) : (State.setGacc s k a).regs = s.regs := rfl
@[simp] theorem State.setGacc_now (s : State) (k : Nat) (a : GAcc) : (State.setGacc s k a).now = s.now := rfl
@[simp] theorem State.setGacc_tim (s : State) (k : Nat) (a : GAcc) : (State.setGacc s k a).tim = s.tim := rfl
@[simp] theorem State.setGacc_ports (s : State) (k : Nat) (a : GAcc) : (State.setGacc s k a).ports = s.ports := rfl
@[simp] theorem State.setGacc_pgs (s : State) (k : Nat) (a : GAcc) : (State.setGacc s k a).pgs = s.pgs := rfl
@[simp] theorem State.setGacc_tbl (s : State) (k : Nat) (a : GAcc) : (State.setGacc s k a).tbl = s.tbl := rfl
@[simp] theorem State.setGacc_ver (s : State) (k : Nat) (a : GAcc) : (State.setGacc s k a).ver = s.ver := rfl
@[simp] theorem State.setGacc_ips (s : State) (k : Nat) (a : GAcc) : (State.setGacc s k a).ips = s.ips := rfl
@[simp] theorem State.setGacc_eps (s : State) (k : Nat) (a : GAcc) : (State.setGacc s k a).eps = s.eps := rfl
@[simp] theorem State.setGacc_tmg (s : State) (k : Nat) (a : GAcc) : (State.setGacc s k a).tmg = s.tmg := rfl
@[simp] theorem State.setGacc_bpm (s : State) (k : Nat) (a : GAcc) : (State.setGacc s k a).bpm = s.bpm := rfl
@[simp] theorem State.setGacc_drc (s : State) (k : Nat) (a : GAcc) : (State.setGacc s k a).drc = s.drc := rfl
@[simp] theorem State.setGacc_sch (s : State) (k : Nat) (a : GAcc) : (State.setGacc s k a).sch = s.sch := rfl
@[simp] theorem State.setGacc_blg (s : State) (k : Nat) (a : GAcc) : (State.setGacc s k a).blg = s.blg := rfl
@[simp] theorem State.setGacc_msc (s : State) (k : Nat) (a : GAcc) : (State.setGacc s k a).msc = s.msc := rfl
@[simp] theorem State.setGacc_key (s : State) (k : Nat) (a : GAcc) : (State.setGacc s k a).key = s.key := rfl
@[simp] theorem State.setGacc_pci (s : State) (k : Nat) (a : GAcc) : (State.setGacc s k a).pci = s.pci := rfl
@[simp] theorem State.setGacc_hst (s : State) (k : Nat) (a : GAcc) : (State.setGacc s k a).hst = s.hst := rfl
@[simp] theorem State.setGacc_dma (s : State) (k : Nat) (a : GAcc) : (State.setGacc s k a).dma = s.dma := rfl
@[simp] theorem State.setGacc_flt (s : State) (k : Nat) (a : GAcc) : (State.setGacc s k a).flt = s.flt := rfl
@[simp] theorem State.setGacc_evt (s : State) (k : Nat) (a : GAcc) : (State.setGacc s k a).evt = s.evt := rfl
@[simp] theorem State.setGacc_pwr (s : State) (k : Nat) (a : GAcc) : (State.setGacc s k a).pwr = s.pwr := rfl
@[simp] theorem State.setGacc_i2c (s : State) (k : Nat) (a : GAcc) : (State.setGacc s k a).i2c = s.i2c := rfl
@[simp] theorem State.setGacc_jtag (s : State) (k : Nat) (a : GAcc) : (State.setGacc s k a).jtag = s.jtag := rfl
@[simp] theorem State.setGacc_out (s : State) (k : Nat) (a : GAcc) : (State.setGacc s k a).out = s.out := rfl
@[simp] theorem State.setGacc_free (s : State) (k : Nat) (a : GAcc) : (State.setGacc s k a).free = s.free := rfl
@[simp] theorem State.setGacc_pending (s : State) (k : Nat) (a : GAcc) : (State.setGacc s k a).pending = s.pending := rfl
@[simp] theorem State.linkChg_fuses (s : State) (p : Nat) : (State.linkChg s p).fuses = s.fuses := by
  simp -implicitDefEqProofs only [State.linkChg, State.irq_fuses]
@[simp] theorem State.linkChg_dev (s : State) (p : Nat) : (State.linkChg s p).dev = s.dev := by
  simp -implicitDefEqProofs only [State.linkChg, State.irq_dev]
@[simp] theorem State.linkChg_acc (s : State) (p : Nat) : (State.linkChg s p).acc = s.acc := by
  simp -implicitDefEqProofs only [State.linkChg, State.irq_acc]
@[simp] theorem State.linkChg_blks (s : State) (p : Nat) : (State.linkChg s p).blks = s.blks := by
  simp -implicitDefEqProofs only [State.linkChg, State.irq_blks]
@[simp] theorem State.linkChg_now (s : State) (p : Nat) : (State.linkChg s p).now = s.now := by
  simp -implicitDefEqProofs only [State.linkChg, State.irq_now]
@[simp] theorem State.linkChg_tim (s : State) (p : Nat) : (State.linkChg s p).tim = s.tim := by
  simp -implicitDefEqProofs only [State.linkChg, State.irq_tim]
@[simp] theorem State.linkChg_ports (s : State) (p : Nat) : (State.linkChg s p).ports = s.ports := by
  simp -implicitDefEqProofs only [State.linkChg, State.irq_ports]
@[simp] theorem State.linkChg_pgs (s : State) (p : Nat) : (State.linkChg s p).pgs = s.pgs := by
  simp -implicitDefEqProofs only [State.linkChg, State.irq_pgs]
@[simp] theorem State.linkChg_tbl (s : State) (p : Nat) : (State.linkChg s p).tbl = s.tbl := by
  simp -implicitDefEqProofs only [State.linkChg, State.irq_tbl]
@[simp] theorem State.linkChg_ver (s : State) (p : Nat) : (State.linkChg s p).ver = s.ver := by
  simp -implicitDefEqProofs only [State.linkChg, State.irq_ver]
@[simp] theorem State.linkChg_ips (s : State) (p : Nat) : (State.linkChg s p).ips = s.ips := by
  simp -implicitDefEqProofs only [State.linkChg, State.irq_ips]
@[simp] theorem State.linkChg_eps (s : State) (p : Nat) : (State.linkChg s p).eps = s.eps := by
  simp -implicitDefEqProofs only [State.linkChg, State.irq_eps]
@[simp] theorem State.linkChg_tmg (s : State) (p : Nat) : (State.linkChg s p).tmg = s.tmg := by
  simp -implicitDefEqProofs only [State.linkChg, State.irq_tmg]
@[simp] theorem State.linkChg_bpm (s : State) (p : Nat) : (State.linkChg s p).bpm = s.bpm := by
  simp -implicitDefEqProofs only [State.linkChg, State.irq_bpm]
@[simp] theorem State.linkChg_drc (s : State) (p : Nat) : (State.linkChg s p).drc = s.drc := by
  simp -implicitDefEqProofs only [State.linkChg, State.irq_drc]
@[simp] theorem State.linkChg_sch (s : State) (p : Nat) : (State.linkChg s p).sch = s.sch := by
  simp -implicitDefEqProofs only [State.linkChg, State.irq_sch]
@[simp] theorem State.linkChg_blg (s : State) (p : Nat) : (State.linkChg s p).blg = s.blg := by
  simp -implicitDefEqProofs only [State.linkChg, State.irq_blg]
@[simp] theorem State.linkChg_msc (s : State) (p : Nat) : (State.linkChg s p).msc = s.msc := by
  simp -implicitDefEqProofs only [State.linkChg, State.irq_msc]
@[simp] theorem State.linkChg_key (s : State) (p : Nat) : (State.linkChg s p).key = s.key := by
  simp -implicitDefEqProofs only [State.linkChg, State.irq_key]
@[simp] theorem State.linkChg_hst (s : State) (p : Nat) : (State.linkChg s p).hst = s.hst := by
  simp -implicitDefEqProofs only [State.linkChg, State.irq_hst]
@[simp] theorem State.linkChg_dma (s : State) (p : Nat) : (State.linkChg s p).dma = s.dma := by
  simp -implicitDefEqProofs only [State.linkChg, State.irq_dma]
@[simp] theorem State.linkChg_cnt (s : State) (p : Nat) : (State.linkChg s p).cnt = s.cnt := by
  simp -implicitDefEqProofs only [State.linkChg, State.irq_cnt]
@[simp] theorem State.linkChg_flt (s : State) (p : Nat) : (State.linkChg s p).flt = s.flt := by
  simp -implicitDefEqProofs only [State.linkChg, State.irq_flt]
@[simp] theorem State.linkChg_evt (s : State) (p : Nat) : (State.linkChg s p).evt = s.evt := by
  simp -implicitDefEqProofs only [State.linkChg, State.irq_evt]
@[simp] theorem State.linkChg_pwr (s : State) (p : Nat) : (State.linkChg s p).pwr = s.pwr := by
  simp -implicitDefEqProofs only [State.linkChg, State.irq_pwr]
@[simp] theorem State.linkChg_i2c (s : State) (p : Nat) : (State.linkChg s p).i2c = s.i2c := by
  simp -implicitDefEqProofs only [State.linkChg, State.irq_i2c]
@[simp] theorem State.linkChg_jtag (s : State) (p : Nat) : (State.linkChg s p).jtag = s.jtag := by
  simp -implicitDefEqProofs only [State.linkChg, State.irq_jtag]
@[simp] theorem State.linkChg_free (s : State) (p : Nat) : (State.linkChg s p).free = s.free := by
  simp -implicitDefEqProofs only [State.linkChg, State.irq_free]
@[simp] theorem State.linkChg_pending (s : State) (p : Nat) : (State.linkChg s p).pending = s.pending := by
  simp -implicitDefEqProofs only [State.linkChg, State.irq_pending]
@[simp] theorem State.pcount_fuses (s : State) (key : Nat → Nat → Nat) (p : Nat) : (State.pcount s key p).fuses = s.fuses := by
  simp -implicitDefEqProofs only [State.pcount, State.bump_fuses]
@[simp] theorem State.pcount_dev (s : State) (key : Nat → Nat → Nat) (p : Nat) : (State.pcount s key p).dev = s.dev := by
  simp -implicitDefEqProofs only [State.pcount, State.bump_dev]
@[simp] theorem State.pcount_acc (s : State) (key : Nat → Nat → Nat) (p : Nat) : (State.pcount s key p).acc = s.acc := by
  simp -implicitDefEqProofs only [State.pcount, State.bump_acc]
@[simp] theorem State.pcount_blks (s : State) (key : Nat → Nat → Nat) (p : Nat) : (State.pcount s key p).blks = s.blks := by
  simp -implicitDefEqProofs only [State.pcount, State.bump_blks]
@[simp] theorem State.pcount_now (s : State) (key : Nat → Nat → Nat) (p : Nat) : (State.pcount s key p).now = s.now := by
  simp -implicitDefEqProofs only [State.pcount, State.bump_now]
@[simp] theorem State.pcount_tim (s : State) (key : Nat → Nat → Nat) (p : Nat) : (State.pcount s key p).tim = s.tim := by
  simp -implicitDefEqProofs only [State.pcount, State.bump_tim]
@[simp] theorem State.pcount_ports (s : State) (key : Nat → Nat → Nat) (p : Nat) : (State.pcount s key p).ports = s.ports := by
  simp -implicitDefEqProofs only [State.pcount, State.bump_ports]
@[simp] theorem State.pcount_pgs (s : State) (key : Nat → Nat → Nat) (p : Nat) : (State.pcount s key p).pgs = s.pgs := by
  simp -implicitDefEqProofs only [State.pcount, State.bump_pgs]
@[simp] theorem State.pcount_tbl (s : State) (key : Nat → Nat → Nat) (p : Nat) : (State.pcount s key p).tbl = s.tbl := by
  simp -implicitDefEqProofs only [State.pcount, State.bump_tbl]
@[simp] theorem State.pcount_ver (s : State) (key : Nat → Nat → Nat) (p : Nat) : (State.pcount s key p).ver = s.ver := by
  simp -implicitDefEqProofs only [State.pcount, State.bump_ver]
@[simp] theorem State.pcount_ips (s : State) (key : Nat → Nat → Nat) (p : Nat) : (State.pcount s key p).ips = s.ips := by
  simp -implicitDefEqProofs only [State.pcount, State.bump_ips]
@[simp] theorem State.pcount_eps (s : State) (key : Nat → Nat → Nat) (p : Nat) : (State.pcount s key p).eps = s.eps := by
  simp -implicitDefEqProofs only [State.pcount, State.bump_eps]
@[simp] theorem State.pcount_tmg (s : State) (key : Nat → Nat → Nat) (p : Nat) : (State.pcount s key p).tmg = s.tmg := by
  simp -implicitDefEqProofs only [State.pcount, State.bump_tmg]
@[simp] theorem State.pcount_bpm (s : State) (key : Nat → Nat → Nat) (p : Nat) : (State.pcount s key p).bpm = s.bpm := by
  simp -implicitDefEqProofs only [State.pcount, State.bump_bpm]
@[simp] theorem State.pcount_drc (s : State) (key : Nat → Nat → Nat) (p : Nat) : (State.pcount s key p).drc = s.drc := by
  simp -implicitDefEqProofs only [State.pcount, State.bump_drc]
@[simp] theorem State.pcount_sch (s : State) (key : Nat → Nat → Nat) (p : Nat) : (State.pcount s key p).sch = s.sch := by
  simp -implicitDefEqProofs only [State.pcount, State.bump_sch]
@[simp] theorem State.pcount_blg (s : State) (key : Nat → Nat → Nat) (p : Nat) : (State.pcount s key p).blg = s.blg := by
  simp -implicitDefEqProofs only [State.pcount, State.bump_blg]
@[simp] theorem State.pcount_msc (s : State) (key : Nat → Nat → Nat) (p : Nat) : (State.pcount s key p).msc = s.msc := by
  simp -implicitDefEqProofs only [State.pcount, State.bump_msc]
@[simp] theorem State.pcount_key (s : State) (key : Nat → Nat → Nat) (p : Nat) : (State.pcount s key p).key = s.key := by
  simp -implicitDefEqProofs only [State.pcount, State.bump_key]
@[simp] theorem State.pcount_pci (s : State) (key : Nat → Nat → Nat) (p : Nat) : (State.pcount s key p).pci = s.pci := by
  simp -implicitDefEqProofs only [State.pcount, State.bump_pci]
@[simp] theorem State.pcount_hst (s : State) (key : Nat → Nat → Nat) (p : Nat) : (State.pcount s key p).hst = s.hst := by
  simp -implicitDefEqProofs only [State.pcount, State.bump_hst]
@[simp] theorem State.pcount_dma (s : State) (key : Nat → Nat → Nat) (p : Nat) : (State.pcount s key p).dma = s.dma := by
  simp -implicitDefEqProofs only [State.pcount, State.bump_dma]
@[simp] theorem State.pcount_cnt (s : State) (key : Nat → Nat → Nat) (p : Nat) : (State.pcount s key p).cnt = s.cnt := by
  simp -implicitDefEqProofs only [State.pcount, State.bump_cnt]
@[simp] theorem State.pcount_flt (s : State) (key : Nat → Nat → Nat) (p : Nat) : (State.pcount s key p).flt = s.flt := by
  simp -implicitDefEqProofs only [State.pcount, State.bump_flt]
@[simp] theorem State.pcount_evt (s : State) (key : Nat → Nat → Nat) (p : Nat) : (State.pcount s key p).evt = s.evt := by
  simp -implicitDefEqProofs only [State.pcount, State.bump_evt]
@[simp] theorem State.pcount_pwr (s : State) (key : Nat → Nat → Nat) (p : Nat) : (State.pcount s key p).pwr = s.pwr := by
  simp -implicitDefEqProofs only [State.pcount, State.bump_pwr]
@[simp] theorem State.pcount_i2c (s : State) (key : Nat → Nat → Nat) (p : Nat) : (State.pcount s key p).i2c = s.i2c := by
  simp -implicitDefEqProofs only [State.pcount, State.bump_i2c]
@[simp] theorem State.pcount_jtag (s : State) (key : Nat → Nat → Nat) (p : Nat) : (State.pcount s key p).jtag = s.jtag := by
  simp -implicitDefEqProofs only [State.pcount, State.bump_jtag]
@[simp] theorem State.pcount_out (s : State) (key : Nat → Nat → Nat) (p : Nat) : (State.pcount s key p).out = s.out := by
  simp -implicitDefEqProofs only [State.pcount, State.bump_out]
@[simp] theorem State.pcount_free (s : State) (key : Nat → Nat → Nat) (p : Nat) : (State.pcount s key p).free = s.free := by
  simp -implicitDefEqProofs only [State.pcount, State.bump_free]
@[simp] theorem State.pcount_pending (s : State) (key : Nat → Nat → Nat) (p : Nat) : (State.pcount s key p).pending = s.pending := by
  simp -implicitDefEqProofs only [State.pcount, State.bump_pending]
@[simp] theorem State.putCh_fuses (s : State) (n : Nat) (c : ChanSt) : (State.putCh s n c).fuses = s.fuses := rfl
@[simp] theorem State.putCh_dev (s : State) (n : Nat) (c : ChanSt) : (State.putCh s n c).dev = s.dev := rfl
@[simp] theorem State.putCh_acc (s : State) (n : Nat) (c : ChanSt) : (State.putCh s n c).acc = s.acc := rfl
@[simp] theorem State.putCh_blks (s : State) (n : Nat) (c : ChanSt) : (State.putCh s n c).blks = s.blks := rfl
@[simp] theorem State.putCh_regs (s : State) (n : Nat) (c : ChanSt) : (State.putCh s n c).regs = s.regs := rfl
@[simp] theorem State.putCh_now (s : State) (n : Nat) (c : ChanSt) : (State.putCh s n c).now = s.now := rfl
@[simp] theorem State.putCh_tim (s : State) (n : Nat) (c : ChanSt) : (State.putCh s n c).tim = s.tim := rfl
@[simp] theorem State.putCh_ports (s : State) (n : Nat) (c : ChanSt) : (State.putCh s n c).ports = s.ports := rfl
@[simp] theorem State.putCh_pgs (s : State) (n : Nat) (c : ChanSt) : (State.putCh s n c).pgs = s.pgs := rfl
@[simp] theorem State.putCh_tbl (s : State) (n : Nat) (c : ChanSt) : (State.putCh s n c).tbl = s.tbl := rfl
@[simp] theorem State.putCh_ver (s : State) (n : Nat) (c : ChanSt) : (State.putCh s n c).ver = s.ver := rfl
@[simp] theorem State.putCh_ips (s : State) (n : Nat) (c : ChanSt) : (State.putCh s n c).ips = s.ips := rfl
@[simp] theorem State.putCh_eps (s : State) (n : Nat) (c : ChanSt) : (State.putCh s n c).eps = s.eps := rfl
@[simp] theorem State.putCh_tmg (s : State) (n : Nat) (c : ChanSt) : (State.putCh s n c).tmg = s.tmg := rfl
@[simp] theorem State.putCh_bpm (s : State) (n : Nat) (c : ChanSt) : (State.putCh s n c).bpm = s.bpm := rfl
@[simp] theorem State.putCh_sch (s : State) (n : Nat) (c : ChanSt) : (State.putCh s n c).sch = s.sch := rfl
@[simp] theorem State.putCh_blg (s : State) (n : Nat) (c : ChanSt) : (State.putCh s n c).blg = s.blg := rfl
@[simp] theorem State.putCh_msc (s : State) (n : Nat) (c : ChanSt) : (State.putCh s n c).msc = s.msc := rfl
@[simp] theorem State.putCh_key (s : State) (n : Nat) (c : ChanSt) : (State.putCh s n c).key = s.key := rfl
@[simp] theorem State.putCh_pci (s : State) (n : Nat) (c : ChanSt) : (State.putCh s n c).pci = s.pci := rfl
@[simp] theorem State.putCh_hst (s : State) (n : Nat) (c : ChanSt) : (State.putCh s n c).hst = s.hst := rfl
@[simp] theorem State.putCh_dma (s : State) (n : Nat) (c : ChanSt) : (State.putCh s n c).dma = s.dma := rfl
@[simp] theorem State.putCh_cnt (s : State) (n : Nat) (c : ChanSt) : (State.putCh s n c).cnt = s.cnt := rfl
@[simp] theorem State.putCh_flt (s : State) (n : Nat) (c : ChanSt) : (State.putCh s n c).flt = s.flt := rfl
@[simp] theorem State.putCh_evt (s : State) (n : Nat) (c : ChanSt) : (State.putCh s n c).evt = s.evt := rfl
@[simp] theorem State.putCh_pwr (s : State) (n : Nat) (c : ChanSt) : (State.putCh s n c).pwr = s.pwr := rfl
@[simp] theorem State.putCh_i2c (s : State) (n : Nat) (c : ChanSt) : (State.putCh s n c).i2c = s.i2c := rfl
@[simp] theorem State.putCh_jtag (s : State) (n : Nat) (c : ChanSt) : (State.putCh s n c).jtag = s.jtag := rfl
@[simp] theorem State.putCh_out (s : State) (n : Nat) (c : ChanSt) : (State.putCh s n c).out = s.out := rfl
@[simp] theorem State.putCh_free (s : State) (n : Nat) (c : ChanSt) : (State.putCh s n c).free = s.free := rfl
@[simp] theorem State.putCh_pending (s : State) (n : Nat) (c : ChanSt) : (State.putCh s n c).pending = s.pending := rfl
@[simp] theorem State.setBpm_fuses (s : State) (b : Bpm) : (State.setBpm s b).fuses = s.fuses := rfl
@[simp] theorem State.setBpm_dev (s : State) (b : Bpm) : (State.setBpm s b).dev = s.dev := rfl
@[simp] theorem State.setBpm_acc (s : State) (b : Bpm) : (State.setBpm s b).acc = s.acc := rfl
@[simp] theorem State.setBpm_blks (s : State) (b : Bpm) : (State.setBpm s b).blks = s.blks := rfl
@[simp] theorem State.setBpm_regs (s : State) (b : Bpm) : (State.setBpm s b).regs = s.regs := rfl
@[simp] theorem State.setBpm_now (s : State) (b : Bpm) : (State.setBpm s b).now = s.now := rfl
@[simp] theorem State.setBpm_tim (s : State) (b : Bpm) : (State.setBpm s b).tim = s.tim := rfl
@[simp] theorem State.setBpm_ports (s : State) (b : Bpm) : (State.setBpm s b).ports = s.ports := rfl
@[simp] theorem State.setBpm_pgs (s : State) (b : Bpm) : (State.setBpm s b).pgs = s.pgs := rfl
@[simp] theorem State.setBpm_tbl (s : State) (b : Bpm) : (State.setBpm s b).tbl = s.tbl := rfl
@[simp] theorem State.setBpm_ver (s : State) (b : Bpm) : (State.setBpm s b).ver = s.ver := rfl
@[simp] theorem State.setBpm_ips (s : State) (b : Bpm) : (State.setBpm s b).ips = s.ips := rfl
@[simp] theorem State.setBpm_eps (s : State) (b : Bpm) : (State.setBpm s b).eps = s.eps := rfl
@[simp] theorem State.setBpm_tmg (s : State) (b : Bpm) : (State.setBpm s b).tmg = s.tmg := rfl
@[simp] theorem State.setBpm_drc (s : State) (b : Bpm) : (State.setBpm s b).drc = s.drc := rfl
@[simp] theorem State.setBpm_sch (s : State) (b : Bpm) : (State.setBpm s b).sch = s.sch := rfl
@[simp] theorem State.setBpm_blg (s : State) (b : Bpm) : (State.setBpm s b).blg = s.blg := rfl
@[simp] theorem State.setBpm_msc (s : State) (b : Bpm) : (State.setBpm s b).msc = s.msc := rfl
@[simp] theorem State.setBpm_key (s : State) (b : Bpm) : (State.setBpm s b).key = s.key := rfl
@[simp] theorem State.setBpm_pci (s : State) (b : Bpm) : (State.setBpm s b).pci = s.pci := rfl
@[simp] theorem State.setBpm_hst (s : State) (b : Bpm) : (State.setBpm s b).hst = s.hst := rfl
@[simp] theorem State.setBpm_dma (s : State) (b : Bpm) : (State.setBpm s b).dma = s.dma := rfl
@[simp] theorem State.setBpm_cnt (s : State) (b : Bpm) : (State.setBpm s b).cnt = s.cnt := rfl
@[simp] theorem State.setBpm_flt (s : State) (b : Bpm) : (State.setBpm s b).flt = s.flt := rfl
@[simp] theorem State.setBpm_evt (s : State) (b : Bpm) : (State.setBpm s b).evt = s.evt := rfl
@[simp] theorem State.setBpm_pwr (s : State) (b : Bpm) : (State.setBpm s b).pwr = s.pwr := rfl
@[simp] theorem State.setBpm_i2c (s : State) (b : Bpm) : (State.setBpm s b).i2c = s.i2c := rfl
@[simp] theorem State.setBpm_jtag (s : State) (b : Bpm) : (State.setBpm s b).jtag = s.jtag := rfl
@[simp] theorem State.setBpm_out (s : State) (b : Bpm) : (State.setBpm s b).out = s.out := rfl
@[simp] theorem State.setBpm_free (s : State) (b : Bpm) : (State.setBpm s b).free = s.free := rfl
@[simp] theorem State.setBpm_pending (s : State) (b : Bpm) : (State.setBpm s b).pending = s.pending := rfl
@[simp] theorem State.setTmg_fuses (s : State) (t : Tmg) : (State.setTmg s t).fuses = s.fuses := rfl
@[simp] theorem State.setTmg_dev (s : State) (t : Tmg) : (State.setTmg s t).dev = s.dev := rfl
@[simp] theorem State.setTmg_acc (s : State) (t : Tmg) : (State.setTmg s t).acc = s.acc := rfl
@[simp] theorem State.setTmg_blks (s : State) (t : Tmg) : (State.setTmg s t).blks = s.blks := rfl
@[simp] theorem State.setTmg_regs (s : State) (t : Tmg) : (State.setTmg s t).regs = s.regs := rfl
@[simp] theorem State.setTmg_now (s : State) (t : Tmg) : (State.setTmg s t).now = s.now := rfl
@[simp] theorem State.setTmg_tim (s : State) (t : Tmg) : (State.setTmg s t).tim = s.tim := rfl
@[simp] theorem State.setTmg_ports (s : State) (t : Tmg) : (State.setTmg s t).ports = s.ports := rfl
@[simp] theorem State.setTmg_pgs (s : State) (t : Tmg) : (State.setTmg s t).pgs = s.pgs := rfl
@[simp] theorem State.setTmg_tbl (s : State) (t : Tmg) : (State.setTmg s t).tbl = s.tbl := rfl
@[simp] theorem State.setTmg_ver (s : State) (t : Tmg) : (State.setTmg s t).ver = s.ver := rfl
@[simp] theorem State.setTmg_ips (s : State) (t : Tmg) : (State.setTmg s t).ips = s.ips := rfl
@[simp] theorem State.setTmg_eps (s : State) (t : Tmg) : (State.setTmg s t).eps = s.eps := rfl
@[simp] theorem State.setTmg_bpm (s : State) (t : Tmg) : (State.setTmg s t).bpm = s.bpm := rfl
@[simp] theorem State.setTmg_drc (s : State) (t : Tmg) : (State.setTmg s t).drc = s.drc := rfl
@[simp] theorem State.setTmg_sch (s : State) (t : Tmg) : (State.setTmg s t).sch = s.sch := rfl
@[simp] theorem State.setTmg_blg (s : State) (t : Tmg) : (State.setTmg s t).blg = s.blg := rfl
@[simp] theorem State.setTmg_msc (s : State) (t : Tmg) : (State.setTmg s t).msc = s.msc := rfl
@[simp] theorem State.setTmg_key (s : State) (t : Tmg) : (State.setTmg s t).key = s.key := rfl
@[simp] theorem State.setTmg_pci (s : State) (t : Tmg) : (State.setTmg s t).pci = s.pci := rfl
@[simp] theorem State.setTmg_hst (s : State) (t : Tmg) : (State.setTmg s t).hst = s.hst := rfl
@[simp] theorem State.setTmg_dma (s : State) (t : Tmg) : (State.setTmg s t).dma = s.dma := rfl
@[simp] theorem State.setTmg_cnt (s : State) (t : Tmg) : (State.setTmg s t).cnt = s.cnt := rfl
@[simp] theorem State.setTmg_flt (s : State) (t : Tmg) : (State.setTmg s t).flt = s.flt := rfl
@[simp] theorem State.setTmg_evt (s : State) (t : Tmg) : (State.setTmg s t).evt = s.evt := rfl
@[simp] theorem State.setTmg_pwr (s : State) (t : Tmg) : (State.setTmg s t).pwr = s.pwr := rfl
@[simp] theorem State.setTmg_i2c (s : State) (t : Tmg) : (State.setTmg s t).i2c = s.i2c := rfl
@[simp] theorem State.setTmg_jtag (s : State) (t : Tmg) : (State.setTmg s t).jtag = s.jtag := rfl
@[simp] theorem State.setTmg_out (s : State) (t : Tmg) : (State.setTmg s t).out = s.out := rfl
@[simp] theorem State.setTmg_free (s : State) (t : Tmg) : (State.setTmg s t).free = s.free := rfl
@[simp] theorem State.setTmg_pending (s : State) (t : Tmg) : (State.setTmg s t).pending = s.pending := rfl
@[simp] theorem State.setTq_fuses (s : State) (q : Nat) (v : Queue) : (State.setTq s q v).fuses = s.fuses := by
  simp -implicitDefEqProofs only [State.setTq, ite_fuses, ite_self, State.setTmg_fuses]
@[simp] theorem State.setTq_dev (s : State) (q : Nat) (v : Queue) : (State.setTq s q v).dev = s.dev := by
  simp -implicitDefEqProofs only [State.setTq, ite_dev, ite_self, State.setTmg_dev]
@[simp] theorem State.setTq_acc (s : State) (q : Nat) (v : Queue) : (State.setTq s q v).acc = s.acc := by
  simp -implicitDefEqProofs only [State.setTq, ite_acc, ite_self, State.setTmg_acc]
@[simp] theorem State.setTq_blks (s : State) (q : Nat) (v : Queue) : (State.setTq s q v).blks = s.blks := by
  simp -implicitDefEqProofs only [State.setTq, ite_blks, ite_self, State.setTmg_blks]
@[simp] theorem State.setTq_regs (s : State) (q : Nat) (v : Queue) : (State.setTq s q v).regs = s.regs := by
  simp -implicitDefEqProofs only [State.setTq, ite_regs, ite_self, State.setTmg_regs]
@[simp] theorem State.setTq_now (s : State) (q : Nat) (v : Queue) : (State.setTq s q v).now = s.now := by
  simp -implicitDefEqProofs only [State.setTq, ite_now, ite_self, State.setTmg_now]
@[simp] theorem State.setTq_tim (s : State) (q : Nat) (v : Queue) : (State.setTq s q v).tim = s.tim := by
  simp -implicitDefEqProofs only [State.setTq, ite_tim, ite_self, State.setTmg_tim]
@[simp] theorem State.setTq_ports (s : State) (q : Nat) (v : Queue) : (State.setTq s q v).ports = s.ports := by
  simp -implicitDefEqProofs only [State.setTq, ite_ports, ite_self, State.setTmg_ports]
@[simp] theorem State.setTq_pgs (s : State) (q : Nat) (v : Queue) : (State.setTq s q v).pgs = s.pgs := by
  simp -implicitDefEqProofs only [State.setTq, ite_pgs, ite_self, State.setTmg_pgs]
@[simp] theorem State.setTq_tbl (s : State) (q : Nat) (v : Queue) : (State.setTq s q v).tbl = s.tbl := by
  simp -implicitDefEqProofs only [State.setTq, ite_tbl, ite_self, State.setTmg_tbl]
@[simp] theorem State.setTq_ver (s : State) (q : Nat) (v : Queue) : (State.setTq s q v).ver = s.ver := by
  simp -implicitDefEqProofs only [State.setTq, ite_ver, ite_self, State.setTmg_ver]
@[simp] theorem State.setTq_ips (s : State) (q : Nat) (v : Queue) : (State.setTq s q v).ips = s.ips := by
  simp -implicitDefEqProofs only [State.setTq, ite_ips, ite_self, State.setTmg_ips]
@[simp] theorem State.setTq_eps (s : State) (q : Nat) (v : Queue) : (State.setTq s q v).eps = s.eps := by
  simp -implicitDefEqProofs only [State.setTq, ite_eps, ite_self, State.setTmg_eps]
@[simp] theorem State.setTq_bpm (s : State) (q : Nat) (v : Queue) : (State.setTq s q v).bpm = s.bpm := by
  simp -implicitDefEqProofs only [State.setTq, ite_bpm, ite_self, State.setTmg_bpm]
@[simp] theorem State.setTq_drc (s : State) (q : Nat) (v : Queue) : (State.setTq s q v).drc = s.drc := by
  simp -implicitDefEqProofs only [State.setTq, ite_drc, ite_self, State.setTmg_drc]
@[simp] theorem State.setTq_sch (s : State) (q : Nat) (v : Queue) : (State.setTq s q v).sch = s.sch := by
  simp -implicitDefEqProofs only [State.setTq, ite_sch, ite_self, State.setTmg_sch]
@[simp] theorem State.setTq_blg (s : State) (q : Nat) (v : Queue) : (State.setTq s q v).blg = s.blg := by
  simp -implicitDefEqProofs only [State.setTq, ite_blg, ite_self, State.setTmg_blg]
@[simp] theorem State.setTq_msc (s : State) (q : Nat) (v : Queue) : (State.setTq s q v).msc = s.msc := by
  simp -implicitDefEqProofs only [State.setTq, ite_msc, ite_self, State.setTmg_msc]
@[simp] theorem State.setTq_key (s : State) (q : Nat) (v : Queue) : (State.setTq s q v).key = s.key := by
  simp -implicitDefEqProofs only [State.setTq, ite_key, ite_self, State.setTmg_key]
@[simp] theorem State.setTq_pci (s : State) (q : Nat) (v : Queue) : (State.setTq s q v).pci = s.pci := by
  simp -implicitDefEqProofs only [State.setTq, ite_pci, ite_self, State.setTmg_pci]
@[simp] theorem State.setTq_hst (s : State) (q : Nat) (v : Queue) : (State.setTq s q v).hst = s.hst := by
  simp -implicitDefEqProofs only [State.setTq, ite_hst, ite_self, State.setTmg_hst]
@[simp] theorem State.setTq_dma (s : State) (q : Nat) (v : Queue) : (State.setTq s q v).dma = s.dma := by
  simp -implicitDefEqProofs only [State.setTq, ite_dma, ite_self, State.setTmg_dma]
@[simp] theorem State.setTq_cnt (s : State) (q : Nat) (v : Queue) : (State.setTq s q v).cnt = s.cnt := by
  simp -implicitDefEqProofs only [State.setTq, ite_cnt, ite_self, State.setTmg_cnt]
@[simp] theorem State.setTq_flt (s : State) (q : Nat) (v : Queue) : (State.setTq s q v).flt = s.flt := by
  simp -implicitDefEqProofs only [State.setTq, ite_flt, ite_self, State.setTmg_flt]
@[simp] theorem State.setTq_evt (s : State) (q : Nat) (v : Queue) : (State.setTq s q v).evt = s.evt := by
  simp -implicitDefEqProofs only [State.setTq, ite_evt, ite_self, State.setTmg_evt]
@[simp] theorem State.setTq_pwr (s : State) (q : Nat) (v : Queue) : (State.setTq s q v).pwr = s.pwr := by
  simp -implicitDefEqProofs only [State.setTq, ite_pwr, ite_self, State.setTmg_pwr]
@[simp] theorem State.setTq_i2c (s : State) (q : Nat) (v : Queue) : (State.setTq s q v).i2c = s.i2c := by
  simp -implicitDefEqProofs only [State.setTq, ite_i2c, ite_self, State.setTmg_i2c]
@[simp] theorem State.setTq_jtag (s : State) (q : Nat) (v : Queue) : (State.setTq s q v).jtag = s.jtag := by
  simp -implicitDefEqProofs only [State.setTq, ite_jtag, ite_self, State.setTmg_jtag]
@[simp] theorem State.setTq_out (s : State) (q : Nat) (v : Queue) : (State.setTq s q v).out = s.out := by
  simp -implicitDefEqProofs only [State.setTq, ite_out, ite_self, State.setTmg_out]
@[simp] theorem State.setTq_free (s : State) (q : Nat) (v : Queue) : (State.setTq s q v).free = s.free := by
  simp -implicitDefEqProofs only [State.setTq, ite_free, ite_self, State.setTmg_free]
@[simp] theorem State.setTq_pending (s : State) (q : Nat) (v : Queue) : (State.setTq s q v).pending = s.pending := by
  simp -implicitDefEqProofs only [State.setTq, ite_pending, ite_self, State.setTmg_pending]
@[simp] theorem State.setBlg_fuses (s : State) (b : Blg) : (State.setBlg s b).fuses = s.fuses := rfl
@[simp] theorem State.setBlg_dev (s : State) (b : Blg) : (State.setBlg s b).dev = s.dev := rfl
@[simp] theorem State.setBlg_acc (s : State) (b : Blg) : (State.setBlg s b).acc = s.acc := rfl
@[simp] theorem State.setBlg_blks (s : State) (b : Blg) : (State.setBlg s b).blks = s.blks := rfl
@[simp] theorem State.setBlg_regs (s : State) (b : Blg) : (State.setBlg s b).regs = s.regs := rfl
@[simp] theorem State.setBlg_now (s : State) (b : Blg) : (State.setBlg s b).now = s.now := rfl
@[simp] theorem State.setBlg_tim (s : State) (b : Blg) : (State.setBlg s b).tim = s.tim := rfl
@[simp] theorem State.setBlg_ports (s : State) (b : Blg) : (State.setBlg s b).ports = s.ports := rfl
@[simp] theorem State.setBlg_pgs (s : State) (b : Blg) : (State.setBlg s b).pgs = s.pgs := rfl
@[simp] theorem State.setBlg_tbl (s : State) (b : Blg) : (State.setBlg s b).tbl = s.tbl := rfl
@[simp] theorem State.setBlg_ver (s : State) (b : Blg) : (State.setBlg s b).ver = s.ver := rfl
@[simp] theorem State.setBlg_ips (s : State) (b : Blg) : (State.setBlg s b).ips = s.ips := rfl
@[simp] theorem State.setBlg_eps (s : State) (b : Blg) : (State.setBlg s b).eps = s.eps := rfl
@[simp] theorem State.setBlg_tmg (s : State) (b : Blg) : (State.setBlg s b).tmg = s.tmg := rfl
@[simp] theorem State.setBlg_bpm (s : State) (b : Blg) : (State.setBlg s b).bpm = s.bpm := rfl
@[simp] theorem State.setBlg_drc (s : State) (b : Blg) : (State.setBlg s b).drc = s.drc := rfl
@[simp] theorem State.setBlg_sch (s : State) (b : Blg) : (State.setBlg s b).sch = s.sch := rfl
@[simp] theorem State.setBlg_msc (s : State) (b : Blg) : (State.setBlg s b).msc = s.msc := rfl
@[simp] theorem State.setBlg_key (s : State) (b : Blg) : (State.setBlg s b).key = s.key := rfl
@[simp] theorem State.setBlg_pci (s : State) (b : Blg) : (State.setBlg s b).pci = s.pci := rfl
@[simp] theorem State.setBlg_hst (s : State) (b : Blg) : (State.setBlg s b).hst = s.hst := rfl
@[simp] theorem State.setBlg_dma (s : State) (b : Blg) : (State.setBlg s b).dma = s.dma := rfl
@[simp] theorem State.setBlg_cnt (s : State) (b : Blg) : (State.setBlg s b).cnt = s.cnt := rfl
@[simp] theorem State.setBlg_flt (s : State) (b : Blg) : (State.setBlg s b).flt = s.flt := rfl
@[simp] theorem State.setBlg_evt (s : State) (b : Blg) : (State.setBlg s b).evt = s.evt := rfl
@[simp] theorem State.setBlg_pwr (s : State) (b : Blg) : (State.setBlg s b).pwr = s.pwr := rfl
@[simp] theorem State.setBlg_i2c (s : State) (b : Blg) : (State.setBlg s b).i2c = s.i2c := rfl
@[simp] theorem State.setBlg_jtag (s : State) (b : Blg) : (State.setBlg s b).jtag = s.jtag := rfl
@[simp] theorem State.setBlg_out (s : State) (b : Blg) : (State.setBlg s b).out = s.out := rfl
@[simp] theorem State.setBlg_free (s : State) (b : Blg) : (State.setBlg s b).free = s.free := rfl
@[simp] theorem State.setBlg_pending (s : State) (b : Blg) : (State.setBlg s b).pending = s.pending := rfl
@[simp] theorem State.setMem_fuses (s : State) (g m : Nat) (v : Member) : (State.setMem s g m v).fuses = s.fuses := by
  simp -implicitDefEqProofs only [State.setMem, State.setBlg_fuses]
@[simp] theorem State.setMem_dev (s : State) (g m : Nat) (v : Member) : (State.setMem s g m v).dev = s.dev := by
  simp -implicitDefEqProofs only [State.setMem, State.setBlg_dev]
@[simp] theorem State.setMem_acc (s : State) (g m : Nat) (v : Member) : (State.setMem s g m v).acc = s.acc := by
  simp -implicitDefEqProofs only [State.setMem, State.setBlg_acc]
@[simp] theorem State.setMem_blks (s : State) (g m : Nat) (v : Member) : (State.setMem s g m v).blks = s.blks := by
  simp -implicitDefEqProofs only [State.setMem, State.setBlg_blks]
@[simp] theorem State.setMem_regs (s : State) (g m : Nat) (v : Member) : (State.setMem s g m v).regs = s.regs := by
  simp -implicitDefEqProofs only [State.setMem, State.setBlg_regs]
@[simp] theorem State.setMem_now (s : State) (g m : Nat) (v : Member) : (State.setMem s g m v).now = s.now := by
  simp -implicitDefEqProofs only [State.setMem, State.setBlg_now]
@[simp] theorem State.setMem_tim (s : State) (g m : Nat) (v : Member) : (State.setMem s g m v).tim = s.tim := by
  simp -implicitDefEqProofs only [State.setMem, State.setBlg_tim]
@[simp] theorem State.setMem_ports (s : State) (g m : Nat) (v : Member) : (State.setMem s g m v).ports = s.ports := by
  simp -implicitDefEqProofs only [State.setMem, State.setBlg_ports]
@[simp] theorem State.setMem_pgs (s : State) (g m : Nat) (v : Member) : (State.setMem s g m v).pgs = s.pgs := by
  simp -implicitDefEqProofs only [State.setMem, State.setBlg_pgs]
@[simp] theorem State.setMem_tbl (s : State) (g m : Nat) (v : Member) : (State.setMem s g m v).tbl = s.tbl := by
  simp -implicitDefEqProofs only [State.setMem, State.setBlg_tbl]
@[simp] theorem State.setMem_ver (s : State) (g m : Nat) (v : Member) : (State.setMem s g m v).ver = s.ver := by
  simp -implicitDefEqProofs only [State.setMem, State.setBlg_ver]
@[simp] theorem State.setMem_ips (s : State) (g m : Nat) (v : Member) : (State.setMem s g m v).ips = s.ips := by
  simp -implicitDefEqProofs only [State.setMem, State.setBlg_ips]
@[simp] theorem State.setMem_eps (s : State) (g m : Nat) (v : Member) : (State.setMem s g m v).eps = s.eps := by
  simp -implicitDefEqProofs only [State.setMem, State.setBlg_eps]
@[simp] theorem State.setMem_tmg (s : State) (g m : Nat) (v : Member) : (State.setMem s g m v).tmg = s.tmg := by
  simp -implicitDefEqProofs only [State.setMem, State.setBlg_tmg]
@[simp] theorem State.setMem_bpm (s : State) (g m : Nat) (v : Member) : (State.setMem s g m v).bpm = s.bpm := by
  simp -implicitDefEqProofs only [State.setMem, State.setBlg_bpm]
@[simp] theorem State.setMem_drc (s : State) (g m : Nat) (v : Member) : (State.setMem s g m v).drc = s.drc := by
  simp -implicitDefEqProofs only [State.setMem, State.setBlg_drc]
@[simp] theorem State.setMem_sch (s : State) (g m : Nat) (v : Member) : (State.setMem s g m v).sch = s.sch := by
  simp -implicitDefEqProofs only [State.setMem, State.setBlg_sch]
@[simp] theorem State.setMem_msc (s : State) (g m : Nat) (v : Member) : (State.setMem s g m v).msc = s.msc := by
  simp -implicitDefEqProofs only [State.setMem, State.setBlg_msc]
@[simp] theorem State.setMem_key (s : State) (g m : Nat) (v : Member) : (State.setMem s g m v).key = s.key := by
  simp -implicitDefEqProofs only [State.setMem, State.setBlg_key]
@[simp] theorem State.setMem_pci (s : State) (g m : Nat) (v : Member) : (State.setMem s g m v).pci = s.pci := by
  simp -implicitDefEqProofs only [State.setMem, State.setBlg_pci]
@[simp] theorem State.setMem_hst (s : State) (g m : Nat) (v : Member) : (State.setMem s g m v).hst = s.hst := by
  simp -implicitDefEqProofs only [State.setMem, State.setBlg_hst]
@[simp] theorem State.setMem_dma (s : State) (g m : Nat) (v : Member) : (State.setMem s g m v).dma = s.dma := by
  simp -implicitDefEqProofs only [State.setMem, State.setBlg_dma]
@[simp] theorem State.setMem_cnt (s : State) (g m : Nat) (v : Member) : (State.setMem s g m v).cnt = s.cnt := by
  simp -implicitDefEqProofs only [State.setMem, State.setBlg_cnt]
@[simp] theorem State.setMem_flt (s : State) (g m : Nat) (v : Member) : (State.setMem s g m v).flt = s.flt := by
  simp -implicitDefEqProofs only [State.setMem, State.setBlg_flt]
@[simp] theorem State.setMem_evt (s : State) (g m : Nat) (v : Member) : (State.setMem s g m v).evt = s.evt := by
  simp -implicitDefEqProofs only [State.setMem, State.setBlg_evt]
@[simp] theorem State.setMem_pwr (s : State) (g m : Nat) (v : Member) : (State.setMem s g m v).pwr = s.pwr := by
  simp -implicitDefEqProofs only [State.setMem, State.setBlg_pwr]
@[simp] theorem State.setMem_i2c (s : State) (g m : Nat) (v : Member) : (State.setMem s g m v).i2c = s.i2c := by
  simp -implicitDefEqProofs only [State.setMem, State.setBlg_i2c]
@[simp] theorem State.setMem_jtag (s : State) (g m : Nat) (v : Member) : (State.setMem s g m v).jtag = s.jtag := by
  simp -implicitDefEqProofs only [State.setMem, State.setBlg_jtag]
@[simp] theorem State.setMem_out (s : State) (g m : Nat) (v : Member) : (State.setMem s g m v).out = s.out := by
  simp -implicitDefEqProofs only [State.setMem, State.setBlg_out]
@[simp] theorem State.setMem_free (s : State) (g m : Nat) (v : Member) : (State.setMem s g m v).free = s.free := by
  simp -implicitDefEqProofs only [State.setMem, State.setBlg_free]
@[simp] theorem State.setMem_pending (s : State) (g m : Nat) (v : Member) : (State.setMem s g m v).pending = s.pending := by
  simp -implicitDefEqProofs only [State.setMem, State.setBlg_pending]
@[simp] theorem State.setGrp_fuses (s : State) (g : Nat) (v : Group) : (State.setGrp s g v).fuses = s.fuses := by
  simp -implicitDefEqProofs only [State.setGrp, State.setBlg_fuses]
@[simp] theorem State.setGrp_dev (s : State) (g : Nat) (v : Group) : (State.setGrp s g v).dev = s.dev := by
  simp -implicitDefEqProofs only [State.setGrp, State.setBlg_dev]
@[simp] theorem State.setGrp_acc (s : State) (g : Nat) (v : Group) : (State.setGrp s g v).acc = s.acc := by
  simp -implicitDefEqProofs only [State.setGrp, State.setBlg_acc]
@[simp] theorem State.setGrp_blks (s : State) (g : Nat) (v : Group) : (State.setGrp s g v).blks = s.blks := by
  simp -implicitDefEqProofs only [State.setGrp, State.setBlg_blks]
@[simp] theorem State.setGrp_regs (s : State) (g : Nat) (v : Group) : (State.setGrp s g v).regs = s.regs := by
  simp -implicitDefEqProofs only [State.setGrp, State.setBlg_regs]
@[simp] theorem State.setGrp_now (s : State) (g : Nat) (v : Group) : (State.setGrp s g v).now = s.now := by
  simp -implicitDefEqProofs only [State.setGrp, State.setBlg_now]
@[simp] theorem State.setGrp_tim (s : State) (g : Nat) (v : Group) : (State.setGrp s g v).tim = s.tim := by
  simp -implicitDefEqProofs only [State.setGrp, State.setBlg_tim]
@[simp] theorem State.setGrp_ports (s : State) (g : Nat) (v : Group) : (State.setGrp s g v).ports = s.ports := by
  simp -implicitDefEqProofs only [State.setGrp, State.setBlg_ports]
@[simp] theorem State.setGrp_pgs (s : State) (g : Nat) (v : Group) : (State.setGrp s g v).pgs = s.pgs := by
  simp -implicitDefEqProofs only [State.setGrp, State.setBlg_pgs]
@[simp] theorem State.setGrp_tbl (s : State) (g : Nat) (v : Group) : (State.setGrp s g v).tbl = s.tbl := by
  simp -implicitDefEqProofs only [State.setGrp, State.setBlg_tbl]
@[simp] theorem State.setGrp_ver (s : State) (g : Nat) (v : Group) : (State.setGrp s g v).ver = s.ver := by
  simp -implicitDefEqProofs only [State.setGrp, State.setBlg_ver]
@[simp] theorem State.setGrp_ips (s : State) (g : Nat) (v : Group) : (State.setGrp s g v).ips = s.ips := by
  simp -implicitDefEqProofs only [State.setGrp, State.setBlg_ips]
@[simp] theorem State.setGrp_eps (s : State) (g : Nat) (v : Group) : (State.setGrp s g v).eps = s.eps := by
  simp -implicitDefEqProofs only [State.setGrp, State.setBlg_eps]
@[simp] theorem State.setGrp_tmg (s : State) (g : Nat) (v : Group) : (State.setGrp s g v).tmg = s.tmg := by
  simp -implicitDefEqProofs only [State.setGrp, State.setBlg_tmg]
@[simp] theorem State.setGrp_bpm (s : State) (g : Nat) (v : Group) : (State.setGrp s g v).bpm = s.bpm := by
  simp -implicitDefEqProofs only [State.setGrp, State.setBlg_bpm]
@[simp] theorem State.setGrp_drc (s : State) (g : Nat) (v : Group) : (State.setGrp s g v).drc = s.drc := by
  simp -implicitDefEqProofs only [State.setGrp, State.setBlg_drc]
@[simp] theorem State.setGrp_sch (s : State) (g : Nat) (v : Group) : (State.setGrp s g v).sch = s.sch := by
  simp -implicitDefEqProofs only [State.setGrp, State.setBlg_sch]
@[simp] theorem State.setGrp_msc (s : State) (g : Nat) (v : Group) : (State.setGrp s g v).msc = s.msc := by
  simp -implicitDefEqProofs only [State.setGrp, State.setBlg_msc]
@[simp] theorem State.setGrp_key (s : State) (g : Nat) (v : Group) : (State.setGrp s g v).key = s.key := by
  simp -implicitDefEqProofs only [State.setGrp, State.setBlg_key]
@[simp] theorem State.setGrp_pci (s : State) (g : Nat) (v : Group) : (State.setGrp s g v).pci = s.pci := by
  simp -implicitDefEqProofs only [State.setGrp, State.setBlg_pci]
@[simp] theorem State.setGrp_hst (s : State) (g : Nat) (v : Group) : (State.setGrp s g v).hst = s.hst := by
  simp -implicitDefEqProofs only [State.setGrp, State.setBlg_hst]
@[simp] theorem State.setGrp_dma (s : State) (g : Nat) (v : Group) : (State.setGrp s g v).dma = s.dma := by
  simp -implicitDefEqProofs only [State.setGrp, State.setBlg_dma]
@[simp] theorem State.setGrp_cnt (s : State) (g : Nat) (v : Group) : (State.setGrp s g v).cnt = s.cnt := by
  simp -implicitDefEqProofs only [State.setGrp, State.setBlg_cnt]
@[simp] theorem State.setGrp_flt (s : State) (g : Nat) (v : Group) : (State.setGrp s g v).flt = s.flt := by
  simp -implicitDefEqProofs only [State.setGrp, State.setBlg_flt]
@[simp] theorem State.setGrp_evt (s : State) (g : Nat) (v : Group) : (State.setGrp s g v).evt = s.evt := by
  simp -implicitDefEqProofs only [State.setGrp, State.setBlg_evt]
@[simp] theorem State.setGrp_pwr (s : State) (g : Nat) (v : Group) : (State.setGrp s g v).pwr = s.pwr := by
  simp -implicitDefEqProofs only [State.setGrp, State.setBlg_pwr]
@[simp] theorem State.setGrp_i2c (s : State) (g : Nat) (v : Group) : (State.setGrp s g v).i2c = s.i2c := by
  simp -implicitDefEqProofs only [State.setGrp, State.setBlg_i2c]
@[simp] theorem State.setGrp_jtag (s : State) (g : Nat) (v : Group) : (State.setGrp s g v).jtag = s.jtag := by
  simp -implicitDefEqProofs only [State.setGrp, State.setBlg_jtag]
@[simp] theorem State.setGrp_out (s : State) (g : Nat) (v : Group) : (State.setGrp s g v).out = s.out := by
  simp -implicitDefEqProofs only [State.setGrp, State.setBlg_out]
@[simp] theorem State.setGrp_free (s : State) (g : Nat) (v : Group) : (State.setGrp s g v).free = s.free := by
  simp -implicitDefEqProofs only [State.setGrp, State.setBlg_free]
@[simp] theorem State.setGrp_pending (s : State) (g : Nat) (v : Group) : (State.setGrp s g v).pending = s.pending := by
  simp -implicitDefEqProofs only [State.setGrp, State.setBlg_pending]
@[simp] theorem State.setKslot_fuses (s : State) (n : Nat) (v : KeySlot) : (State.setKslot s n v).fuses = s.fuses := rfl
@[simp] theorem State.setKslot_dev (s : State) (n : Nat) (v : KeySlot) : (State.setKslot s n v).dev = s.dev := rfl
@[simp] theorem State.setKslot_acc (s : State) (n : Nat) (v : KeySlot) : (State.setKslot s n v).acc = s.acc := rfl
@[simp] theorem State.setKslot_blks (s : State) (n : Nat) (v : KeySlot) : (State.setKslot s n v).blks = s.blks := rfl
@[simp] theorem State.setKslot_regs (s : State) (n : Nat) (v : KeySlot) : (State.setKslot s n v).regs = s.regs := rfl
@[simp] theorem State.setKslot_now (s : State) (n : Nat) (v : KeySlot) : (State.setKslot s n v).now = s.now := rfl
@[simp] theorem State.setKslot_tim (s : State) (n : Nat) (v : KeySlot) : (State.setKslot s n v).tim = s.tim := rfl
@[simp] theorem State.setKslot_ports (s : State) (n : Nat) (v : KeySlot) : (State.setKslot s n v).ports = s.ports := rfl
@[simp] theorem State.setKslot_pgs (s : State) (n : Nat) (v : KeySlot) : (State.setKslot s n v).pgs = s.pgs := rfl
@[simp] theorem State.setKslot_tbl (s : State) (n : Nat) (v : KeySlot) : (State.setKslot s n v).tbl = s.tbl := rfl
@[simp] theorem State.setKslot_ver (s : State) (n : Nat) (v : KeySlot) : (State.setKslot s n v).ver = s.ver := rfl
@[simp] theorem State.setKslot_ips (s : State) (n : Nat) (v : KeySlot) : (State.setKslot s n v).ips = s.ips := rfl
@[simp] theorem State.setKslot_eps (s : State) (n : Nat) (v : KeySlot) : (State.setKslot s n v).eps = s.eps := rfl
@[simp] theorem State.setKslot_tmg (s : State) (n : Nat) (v : KeySlot) : (State.setKslot s n v).tmg = s.tmg := rfl
@[simp] theorem State.setKslot_bpm (s : State) (n : Nat) (v : KeySlot) : (State.setKslot s n v).bpm = s.bpm := rfl
@[simp] theorem State.setKslot_drc (s : State) (n : Nat) (v : KeySlot) : (State.setKslot s n v).drc = s.drc := rfl
@[simp] theorem State.setKslot_sch (s : State) (n : Nat) (v : KeySlot) : (State.setKslot s n v).sch = s.sch := rfl
@[simp] theorem State.setKslot_blg (s : State) (n : Nat) (v : KeySlot) : (State.setKslot s n v).blg = s.blg := rfl
@[simp] theorem State.setKslot_msc (s : State) (n : Nat) (v : KeySlot) : (State.setKslot s n v).msc = s.msc := rfl
@[simp] theorem State.setKslot_pci (s : State) (n : Nat) (v : KeySlot) : (State.setKslot s n v).pci = s.pci := rfl
@[simp] theorem State.setKslot_hst (s : State) (n : Nat) (v : KeySlot) : (State.setKslot s n v).hst = s.hst := rfl
@[simp] theorem State.setKslot_dma (s : State) (n : Nat) (v : KeySlot) : (State.setKslot s n v).dma = s.dma := rfl
@[simp] theorem State.setKslot_cnt (s : State) (n : Nat) (v : KeySlot) : (State.setKslot s n v).cnt = s.cnt := rfl
@[simp] theorem State.setKslot_flt (s : State) (n : Nat) (v : KeySlot) : (State.setKslot s n v).flt = s.flt := rfl
@[simp] theorem State.setKslot_evt (s : State) (n : Nat) (v : KeySlot) : (State.setKslot s n v).evt = s.evt := rfl
@[simp] theorem State.setKslot_pwr (s : State) (n : Nat) (v : KeySlot) : (State.setKslot s n v).pwr = s.pwr := rfl
@[simp] theorem State.setKslot_i2c (s : State) (n : Nat) (v : KeySlot) : (State.setKslot s n v).i2c = s.i2c := rfl
@[simp] theorem State.setKslot_jtag (s : State) (n : Nat) (v : KeySlot) : (State.setKslot s n v).jtag = s.jtag := rfl
@[simp] theorem State.setKslot_out (s : State) (n : Nat) (v : KeySlot) : (State.setKslot s n v).out = s.out := rfl
@[simp] theorem State.setKslot_free (s : State) (n : Nat) (v : KeySlot) : (State.setKslot s n v).free = s.free := rfl
@[simp] theorem State.setKslot_pending (s : State) (n : Nat) (v : KeySlot) : (State.setKslot s n v).pending = s.pending := rfl
@[simp] theorem State.setDch_fuses (s : State) (c : Nat) (v : DmaCh) : (State.setDch s c v).fuses = s.fuses := rfl
@[simp] theorem State.setDch_dev (s : State) (c : Nat) (v : DmaCh) : (State.setDch s c v).dev = s.dev := rfl
@[simp] theorem State.setDch_acc (s : State) (c : Nat) (v : DmaCh) : (State.setDch s c v).acc = s.acc := rfl
@[simp] theorem State.setDch_blks (s : State) (c : Nat) (v : DmaCh) : (State.setDch s c v).blks = s.blks := rfl
@[simp] theorem State.setDch_regs (s : State) (c : Nat) (v : DmaCh) : (State.setDch s c v).regs = s.regs := rfl
@[simp] theorem State.setDch_now (s : State) (c : Nat) (v : DmaCh) : (State.setDch s c v).now = s.now := rfl
@[simp] theorem State.setDch_tim (s : State) (c : Nat) (v : DmaCh) : (State.setDch s c v).tim = s.tim := rfl
@[simp] theorem State.setDch_ports (s : State) (c : Nat) (v : DmaCh) : (State.setDch s c v).ports = s.ports := rfl
@[simp] theorem State.setDch_pgs (s : State) (c : Nat) (v : DmaCh) : (State.setDch s c v).pgs = s.pgs := rfl
@[simp] theorem State.setDch_tbl (s : State) (c : Nat) (v : DmaCh) : (State.setDch s c v).tbl = s.tbl := rfl
@[simp] theorem State.setDch_ver (s : State) (c : Nat) (v : DmaCh) : (State.setDch s c v).ver = s.ver := rfl
@[simp] theorem State.setDch_ips (s : State) (c : Nat) (v : DmaCh) : (State.setDch s c v).ips = s.ips := rfl
@[simp] theorem State.setDch_eps (s : State) (c : Nat) (v : DmaCh) : (State.setDch s c v).eps = s.eps := rfl
@[simp] theorem State.setDch_tmg (s : State) (c : Nat) (v : DmaCh) : (State.setDch s c v).tmg = s.tmg := rfl
@[simp] theorem State.setDch_bpm (s : State) (c : Nat) (v : DmaCh) : (State.setDch s c v).bpm = s.bpm := rfl
@[simp] theorem State.setDch_drc (s : State) (c : Nat) (v : DmaCh) : (State.setDch s c v).drc = s.drc := rfl
@[simp] theorem State.setDch_sch (s : State) (c : Nat) (v : DmaCh) : (State.setDch s c v).sch = s.sch := rfl
@[simp] theorem State.setDch_blg (s : State) (c : Nat) (v : DmaCh) : (State.setDch s c v).blg = s.blg := rfl
@[simp] theorem State.setDch_msc (s : State) (c : Nat) (v : DmaCh) : (State.setDch s c v).msc = s.msc := rfl
@[simp] theorem State.setDch_key (s : State) (c : Nat) (v : DmaCh) : (State.setDch s c v).key = s.key := rfl
@[simp] theorem State.setDch_pci (s : State) (c : Nat) (v : DmaCh) : (State.setDch s c v).pci = s.pci := rfl
@[simp] theorem State.setDch_hst (s : State) (c : Nat) (v : DmaCh) : (State.setDch s c v).hst = s.hst := rfl
@[simp] theorem State.setDch_cnt (s : State) (c : Nat) (v : DmaCh) : (State.setDch s c v).cnt = s.cnt := rfl
@[simp] theorem State.setDch_flt (s : State) (c : Nat) (v : DmaCh) : (State.setDch s c v).flt = s.flt := rfl
@[simp] theorem State.setDch_evt (s : State) (c : Nat) (v : DmaCh) : (State.setDch s c v).evt = s.evt := rfl
@[simp] theorem State.setDch_pwr (s : State) (c : Nat) (v : DmaCh) : (State.setDch s c v).pwr = s.pwr := rfl
@[simp] theorem State.setDch_i2c (s : State) (c : Nat) (v : DmaCh) : (State.setDch s c v).i2c = s.i2c := rfl
@[simp] theorem State.setDch_jtag (s : State) (c : Nat) (v : DmaCh) : (State.setDch s c v).jtag = s.jtag := rfl
@[simp] theorem State.setDch_out (s : State) (c : Nat) (v : DmaCh) : (State.setDch s c v).out = s.out := rfl
@[simp] theorem State.setDch_free (s : State) (c : Nat) (v : DmaCh) : (State.setDch s c v).free = s.free := rfl
@[simp] theorem State.setDch_pending (s : State) (c : Nat) (v : DmaCh) : (State.setDch s c v).pending = s.pending := rfl
@[simp] theorem State.setPath_fuses (s : State) (who : Nat) (a : Access) : (State.setPath s who a).fuses = s.fuses := rfl
@[simp] theorem State.setPath_dev (s : State) (who : Nat) (a : Access) : (State.setPath s who a).dev = s.dev := rfl
@[simp] theorem State.setPath_blks (s : State) (who : Nat) (a : Access) : (State.setPath s who a).blks = s.blks := rfl
@[simp] theorem State.setPath_regs (s : State) (who : Nat) (a : Access) : (State.setPath s who a).regs = s.regs := rfl
@[simp] theorem State.setPath_now (s : State) (who : Nat) (a : Access) : (State.setPath s who a).now = s.now := rfl
@[simp] theorem State.setPath_tim (s : State) (who : Nat) (a : Access) : (State.setPath s who a).tim = s.tim := rfl
@[simp] theorem State.setPath_ports (s : State) (who : Nat) (a : Access) : (State.setPath s who a).ports = s.ports := rfl
@[simp] theorem State.setPath_pgs (s : State) (who : Nat) (a : Access) : (State.setPath s who a).pgs = s.pgs := rfl
@[simp] theorem State.setPath_tbl (s : State) (who : Nat) (a : Access) : (State.setPath s who a).tbl = s.tbl := rfl
@[simp] theorem State.setPath_ver (s : State) (who : Nat) (a : Access) : (State.setPath s who a).ver = s.ver := rfl
@[simp] theorem State.setPath_ips (s : State) (who : Nat) (a : Access) : (State.setPath s who a).ips = s.ips := rfl
@[simp] theorem State.setPath_eps (s : State) (who : Nat) (a : Access) : (State.setPath s who a).eps = s.eps := rfl
@[simp] theorem State.setPath_tmg (s : State) (who : Nat) (a : Access) : (State.setPath s who a).tmg = s.tmg := rfl
@[simp] theorem State.setPath_bpm (s : State) (who : Nat) (a : Access) : (State.setPath s who a).bpm = s.bpm := rfl
@[simp] theorem State.setPath_drc (s : State) (who : Nat) (a : Access) : (State.setPath s who a).drc = s.drc := rfl
@[simp] theorem State.setPath_sch (s : State) (who : Nat) (a : Access) : (State.setPath s who a).sch = s.sch := rfl
@[simp] theorem State.setPath_blg (s : State) (who : Nat) (a : Access) : (State.setPath s who a).blg = s.blg := rfl
@[simp] theorem State.setPath_msc (s : State) (who : Nat) (a : Access) : (State.setPath s who a).msc = s.msc := rfl
@[simp] theorem State.setPath_key (s : State) (who : Nat) (a : Access) : (State.setPath s who a).key = s.key := rfl
@[simp] theorem State.setPath_pci (s : State) (who : Nat) (a : Access) : (State.setPath s who a).pci = s.pci := rfl
@[simp] theorem State.setPath_hst (s : State) (who : Nat) (a : Access) : (State.setPath s who a).hst = s.hst := rfl
@[simp] theorem State.setPath_dma (s : State) (who : Nat) (a : Access) : (State.setPath s who a).dma = s.dma := rfl
@[simp] theorem State.setPath_cnt (s : State) (who : Nat) (a : Access) : (State.setPath s who a).cnt = s.cnt := rfl
@[simp] theorem State.setPath_flt (s : State) (who : Nat) (a : Access) : (State.setPath s who a).flt = s.flt := rfl
@[simp] theorem State.setPath_evt (s : State) (who : Nat) (a : Access) : (State.setPath s who a).evt = s.evt := rfl
@[simp] theorem State.setPath_pwr (s : State) (who : Nat) (a : Access) : (State.setPath s who a).pwr = s.pwr := rfl
@[simp] theorem State.setPath_i2c (s : State) (who : Nat) (a : Access) : (State.setPath s who a).i2c = s.i2c := rfl
@[simp] theorem State.setPath_jtag (s : State) (who : Nat) (a : Access) : (State.setPath s who a).jtag = s.jtag := rfl
@[simp] theorem State.setPath_out (s : State) (who : Nat) (a : Access) : (State.setPath s who a).out = s.out := rfl
@[simp] theorem State.setPath_free (s : State) (who : Nat) (a : Access) : (State.setPath s who a).free = s.free := rfl
@[simp] theorem State.setPath_pending (s : State) (who : Nat) (a : Access) : (State.setPath s who a).pending = s.pending := rfl

end Sys2Proof.Machine
end

