-- ==== Sys2Proof/Laws/Ops.lean ====
section
/-! SUPPORT. Laws of the shared operations: what each does to registers and what it leaves, in the words of Safety, and
what an accessor reads after its setter. -/

namespace Sys2Proof.Machine

/-! ## Accessors after setters -/

@[simp] theorem State.port_setPort (s : State) (p q : Nat) (v : PortSt) :
    (s.setPort p v).port q = if q = p then v else s.port q := by simp [State.port, State.setPort]
@[simp] theorem State.pg_setPg (s : State) (p q : Nat) (v : PgSt) :
    (s.setPg p v).pg q = if q = p then v else s.pg q := by simp [State.pg, State.setPg]
@[simp] theorem State.ip_setIp (s : State) (p q : Nat) (v : IpSt) :
    (s.setIp p v).ip q = if q = p then v else s.ip q := by simp [State.ip, State.setIp]
@[simp] theorem State.ep_setEp (s : State) (p q : Nat) (v : EpSt) :
    (s.setEp p v).ep q = if q = p then v else s.ep q := by simp [State.ep, State.setEp]
@[simp] theorem State.blk_setBlk (s : State) (p q : Nat) (v : Blk) :
    (s.setBlk p v).blk q = if q = p then v else s.blk q := by simp [State.blk, State.setBlk]

/-! ## Registers kept -/

theorem State.rd_of_regs {s t : State} (h : t.regs = s.regs) (k : Nat) : t.rd k = s.rd k := by unfold State.rd; rw [h]

theorem regsKept_refl (s : State) (ks : List Nat) : regsKept s s ks := fun _ _ => rfl

theorem regsKept_of_regs {s t : State} (h : t.regs = s.regs) (ks : List Nat) : regsKept s t ks :=
  fun k _ => State.rd_of_regs h k

theorem regsKept_trans {s t u : State} {ks : List Nat} (h : regsKept s t ks) (g : regsKept t u ks) : regsKept s u ks :=
  fun k hk => (g k hk).trans (h k hk)

theorem regsKept_mono {s t : State} {ks js : List Nat} (h : regsKept s t ks) (m : ∀ k ∈ ks, k ∈ js) : regsKept s t js :=
  fun k hk => h k fun i => hk (m k i)

theorem regsKept_wr (s : State) (k : Nat) (v : Word) : regsKept s (s.wr k v) [k] := by
  intro j hj; rw [State.rd_wr, if_neg]; simpa using hj

theorem regsKept_setF (s : State) (k hi lo v : Nat) : regsKept s (s.setF k hi lo v) [k] := by
  intro j hj; rw [State.rd_setF, if_neg]; simpa using hj

theorem regsKept_addF (s : State) (k hi lo v : Nat) : regsKept s (s.addF k hi lo v) [k] := regsKept_setF _ _ _ _ _

theorem regsKept_bump (s : State) (k : Nat) : regsKept s (s.bump k) [k] := regsKept_setF _ _ _ _ _

theorem State.wr_eq (s : State) (k : Nat) (v : Word) : s.wr k v = { s with regs := (s.wr k v).regs } := rfl
theorem State.setF_eq (s : State) (k hi lo v : Nat) : s.setF k hi lo v = { s with regs := (s.setF k hi lo v).regs } := rfl
theorem State.addF_eq (s : State) (k hi lo v : Nat) : s.addF k hi lo v = { s with regs := (s.addF k hi lo v).regs } := rfl
theorem State.bump_eq (s : State) (k : Nat) : s.bump k = { s with regs := (s.bump k).regs } := rfl

theorem onlyRegs_wr (s : State) (k : Nat) (v : Word) : onlyRegs s (s.wr k v) [k] := ⟨rfl, regsKept_wr _ _ _⟩
theorem onlyRegs_setF (s : State) (k hi lo v : Nat) : onlyRegs s (s.setF k hi lo v) [k] := ⟨rfl, regsKept_setF _ _ _ _ _⟩

theorem onlyRegsOut_refl (s : State) (ks : List Nat) : onlyRegsOut s s ks := ⟨rfl, regsKept_refl _ _⟩

theorem onlyRegsOut_trans {s t u : State} {ks : List Nat} (h : onlyRegsOut s t ks) (g : onlyRegsOut t u ks) :
    onlyRegsOut s u ks := ⟨by rw [g.1, h.1]; rfl, regsKept_trans h.2 g.2⟩

theorem onlyRegsOut_mono {s t : State} {ks js : List Nat} (h : onlyRegsOut s t ks) (m : ∀ k ∈ ks, k ∈ js) :
    onlyRegsOut s t js := ⟨h.1, regsKept_mono h.2 m⟩

theorem onlyRegs.out {s t : State} {ks : List Nat} (h : onlyRegs s t ks) : onlyRegsOut s t ks :=
  ⟨by have := h.1; rw [this]; rfl, h.2⟩

/-! ## Interrupts -/

theorem ins_bit (w : Word) (n : Nat) (h : n < 32) : ins w n n 1 = w ||| BitVec.ofNat 32 (2 ^ n) := by
  have e : n + 1 - n = 1 := by omega
  have hf : fld w n n = (w.getLsbD n).toNat := by
    unfold fld; rw [e, BitVec.getLsbD, Nat.testBit_eq_decide_div_mod_eq]
    have := Nat.mod_lt (w.toNat / 2 ^ n) (show 0 < 2 ^ 1 by omega)
    by_cases hh : w.toNat / 2 ^ n % 2 = 1
    · simp [hh]
    · have h0 : w.toNat / 2 ^ n % 2 = 0 := by omega
      simp [h0]
  have ht : BitVec.ofNat 32 (2 ^ n) = BitVec.twoPow 32 n := by
    rw [BitVec.twoPow]; apply BitVec.eq_of_toNat_eq
    rw [BitVec.toNat_shiftLeft, BitVec.toNat_ofNat, Nat.shiftLeft_eq]; simp
  unfold ins
  rw [hf, e, show (1 % 2 ^ 1) = 1 from rfl, Nat.one_mul]
  cases hb : w.getLsbD n with
  | true =>
    have hge : 2 ^ n ≤ w.toNat := Nat.ge_two_pow_of_testBit (by simpa [BitVec.getLsbD] using hb)
    rw [Bool.toNat_true, Nat.one_mul, Nat.sub_add_cancel hge, BitVec.ofNat_toNat, BitVec.setWidth_eq, ht]
    ext i hi
    simp only [BitVec.getElem_or, BitVec.getElem_twoPow]
    by_cases hc : i = n
    · subst hc; rw [← BitVec.getLsbD_eq_getElem]; simp [hb]
    · simp [hc]
  | false =>
    rw [Bool.toNat_false, Nat.zero_mul, Nat.sub_zero, BitVec.ofNat_add, BitVec.ofNat_toNat, BitVec.setWidth_eq]
    apply BitVec.add_eq_or_of_and_eq_zero
    rw [ht]
    ext i hi
    simp only [BitVec.getElem_and, BitVec.getElem_twoPow]
    by_cases hc : i = n
    · subst hc; rw [← BitVec.getLsbD_eq_getElem]; simp [hb]
    · simp [hc]

theorem State.rd_irqEdge (s : State) (p : Nat) (b : Bool) (k : Nat) : (s.irqEdge p b).rd k = s.rd k :=
  State.rd_of_regs (by simp) k

theorem State.rd_irq (s : State) (p n k : Nat) :
    (s.irq p n).rd k = if k = HDR.IRQSTAT p then ins (s.rd (HDR.IRQSTAT p)) n n 1 else s.rd k := by
  unfold State.irq; rw [State.rd_irqEdge, State.setB, State.rd_setF]

theorem State.irqEdge_eq (s : State) (p : Nat) (b : Bool) :
    s.irqEdge p b = { s with out := (s.irqEdge p b).out, pci := { s.pci with vecPend := (s.irqEdge p b).pci.vecPend } } := by
  unfold State.irqEdge; split <;> rfl

theorem State.irq_eq (s : State) (p n : Nat) :
    s.irq p n = { s with
      regs := (s.irq p n).regs, out := (s.irq p n).out,
      pci := { s.pci with vecPend := (s.irq p n).pci.vecPend } } := by
  unfold State.irq; rw [State.irqEdge_eq]; rfl

theorem onlyRegsOut_irq (s : State) (p n : Nat) : onlyRegsOut s (s.irq p n) [HDR.IRQSTAT p] :=
  ⟨State.irq_eq _ _ _, fun k hk => by rw [State.rd_irq, if_neg]; simpa using hk⟩

theorem State.irqReq_of_regs {s t : State} (h : t.regs = s.regs) (p : Nat) : t.irqReq p = s.irqReq p := by
  unfold State.irqReq; rw [State.rd_of_regs h, State.rd_of_regs h]

theorem raised_irq (s : State) (p n : Nat) (h : n < 32) : raised s (s.irq p n) p n := by
  refine ⟨by rw [State.rd_irq, if_pos rfl, ins_bit _ _ h], ?_⟩
  have hr : (s.irq p n).irqReq p = (s.setB (HDR.IRQSTAT p) n).irqReq p := State.irqReq_of_regs (by simp [State.irq]) p
  have hv : (s.setB (HDR.IRQSTAT p) n).irqVec p = s.irqVec p := by
    unfold State.irqVec State.setB
    exact State.f_setF_ne _ _ _ _ _ _ _ _ (by simp only [HST.BVEC, HDR.IRQSTAT]; omega)
  unfold edgeOut edgePend
  rw [hr]
  have ht : s.irq p n = if !s.irqReq p && (s.setB (HDR.IRQSTAT p) n).irqReq p then
      (s.setB (HDR.IRQSTAT p) n).sendMsix 0 (s.irqVec p) else s.setB (HDR.IRQSTAT p) n := by
    unfold State.irq State.irqEdge; rw [hv]
  rw [ht]
  refine ⟨?_, ?_⟩ <;> split
  · rfl
  · exact (List.append_nil _).symm
  · rfl
  · rfl

end Sys2Proof.Machine
end

