-- ==== Sys2Proof/Laws/Own.lean ====
section
/-! SUPPORT. One lemma per shared operation that moves the device state machine but leaves the fuses and the queue of
commands alone, and the same of the operations those call. -/

namespace Sys2Proof.Machine

set_option linter.unusedSimpArgs false

/-- What every operation but the programming of the device secret leaves alone: the fuses and the queue. -/
def State.own (s : State) : Fuses × List Instr := (s.fuses, s.pending)
theorem own_of_keep {s t : State} (h : t.keep = s.keep) : t.own = s.own := by
  simp only [State.keep, Prod.mk.injEq] at h
  simp only [State.own, h.1, h.2.2]
theorem own_mk (t : State) (dev_ : Dev) (acc_ : KMap Access) (blks_ : KMap Blk) (regs_ : KMap Word) (now_ : Nat) (tim_ : Tim) (ports_ : KMap PortSt) (pgs_ : KMap PgSt) (tbl_ : Tbl) (ver_ : Ver) (ips_ : KMap IpSt) (eps_ : KMap EpSt) (tmg_ : Tmg) (bpm_ : Bpm) (drc_ : Drc) (sch_ : Sch) (blg_ : Blg) (msc_ : Msc) (key_ : KeySt) (pci_ : Pci) (hst_ : Hst) (dma_ : Dma) (cnt_ : Cnt) (flt_ : Flt) (evt_ : Evt) (pwr_ : Pwr) (i2c_ : Offset) (jtag_ : JtagInstr) (out_ : List Out) (free_ : Nat) :
    State.own ⟨t.fuses, dev_, acc_, blks_, regs_, now_, tim_, ports_, pgs_, tbl_, ver_, ips_, eps_, tmg_, bpm_, drc_, sch_, blg_, msc_, key_, pci_, hst_, dma_, cnt_, flt_, evt_, pwr_, i2c_, jtag_, out_, free_, t.pending⟩ = t.own := rfl
theorem foldl_own {α : Type} (f : State → α → State) (l : List α) (s : State) (h : ∀ t a, (f t a).own = t.own) : (l.foldl f s).own = s.own := by
  induction l generalizing s with
  | nil => rfl
  | cons a t ih => rw [List.foldl_cons, ih, h]
theorem foldl1_own {α β : Type} (f : State × β → α → State × β) (l : List α) (s : State × β) (h : ∀ t a, (f t a).1.own = t.1.own) :
    (l.foldl f s).1.own = s.1.own := by
  induction l generalizing s with
  | nil => rfl
  | cons a t ih => rw [List.foldl_cons, ih, h]
theorem foldl2_own {α β : Type} (f : β × State → α → β × State) (l : List α) (s : β × State) (h : ∀ t a, (f t a).2.own = t.2.own) :
    (l.foldl f s).2.own = s.2.own := by
  induction l generalizing s with
  | nil => rfl
  | cons a t ih => rw [List.foldl_cons, ih, h]
theorem ite_cases_own (c : Prop) [Decidable c] (a b s : State) (ha : c → a.own = s.own) (hb : ¬c → b.own = s.own) : (if c then a else b).own = s.own := by
  split
  · exact ha ‹_›
  · exact hb ‹_›
theorem ite1_own {β : Type} (c : Prop) [Decidable c] (a b : State × β) : (if c then a else b).1.own = if c then a.1.own else b.1.own := by split <;> rfl
theorem ite2_own {β : Type} (c : Prop) [Decidable c] (a b : β × State) : (if c then a else b).2.own = if c then a.2.own else b.2.own := by split <;> rfl
theorem ite_own (c : Prop) [Decidable c] (a b : State) : (if c then a else b).own = if c then a.own else b.own := by split <;> rfl
theorem State.wr_own (s : State) (k : Nat) (v : Word) : (State.wr s k v).own = s.own := own_of_keep (by rw [State.wr_keep])
theorem State.setF_own (s : State) (k hi lo v : Nat) : (State.setF s k hi lo v).own = s.own := own_of_keep (by rw [State.setF_keep])
theorem State.bump_own (s : State) (k : Nat) : (State.bump s k).own = s.own := own_of_keep (by rw [State.bump_keep])
theorem State.setB_own (s : State) (k n : Nat) : (State.setB s k n).own = s.own := own_of_keep (by rw [State.setB_keep])
theorem State.zero_own (s : State) (ks : List Nat) : (State.zero s ks).own = s.own := own_of_keep (by rw [State.zero_keep])
theorem State.wr64_own (s : State) (lo hi v : Nat) : (State.wr64 s lo hi v).own = s.own := own_of_keep (by rw [State.wr64_keep])
theorem State.setPg_own (s : State) (g : Nat) (v : PgSt) : (State.setPg s g v).own = s.own := own_of_keep (by rw [State.setPg_keep])
theorem State.setIp_own (s : State) (g : Nat) (v : IpSt) : (State.setIp s g v).own = s.own := own_of_keep (by rw [State.setIp_keep])
theorem State.setEp_own (s : State) (g : Nat) (v : EpSt) : (State.setEp s g v).own = s.own := own_of_keep (by rw [State.setEp_keep])
theorem State.setBlk_own (s : State) (p : Nat) (b : Blk) : (State.setBlk s p b).own = s.own := own_of_keep (by rw [State.setBlk_keep])
theorem State.emit_own (s : State) (o : Out) : (State.emit s o).own = s.own := own_of_keep (by rw [State.emit_keep])
theorem State.irqEdge_own (s : State) (page : Nat) (before : Bool) : (State.irqEdge s page before).own = s.own := own_of_keep (by rw [State.irqEdge_keep])
theorem State.irq_own (s : State) (page n : Nat) : (State.irq s page n).own = s.own := own_of_keep (by rw [State.irq_keep])
theorem State.badAcc_own (s : State) : (State.badAcc s).own = s.own := own_of_keep (by rw [State.badAcc_keep])
theorem State.absentWrite_own (s : State) (bar user off : Nat) : (State.absentWrite s bar user off).own = s.own := own_of_keep (by rw [State.absentWrite_keep])
theorem State.fire_own (s : State) (page src : Nat) (inj : Bool) (info : Word) : (State.fire s page src inj info).own = s.own := own_of_keep (by rw [State.fire_keep])
theorem State.fault_own (s : State) (page src : Nat) : (State.fault s page src).own = s.own := own_of_keep (by rw [State.fault_keep])
theorem State.advance_own (s : State) (d : Nat) : (State.advance s d).own = s.own := own_of_keep (by rw [State.advance_keep])
theorem State.until_own (s : State) (t : Nat) : (State.until s t).own = s.own := own_of_keep (by rw [State.until_keep])
theorem State.nextTick_own (s : State) (period : Nat) : (State.nextTick s period).own = s.own := own_of_keep (by rw [State.nextTick_keep])
theorem State.sealReject_own (s : State) (key : Nat) : (State.sealReject s key).own = s.own := own_of_keep (by rw [State.sealReject_keep])
theorem State.cfgGen_own (s : State) : (State.cfgGen s).own = s.own := own_of_keep (by rw [State.cfgGen_keep])
theorem State.rwsPut_own (s : State) (who key : Nat) (f : Field) (v : Nat) : (State.rwsPut s who key f v).own = s.own := own_of_keep (by rw [State.rwsPut_keep])
theorem State.regPut_own (s : State) (who key : Nat) (r : Row) (w : Word) : (State.regPut s who key r w).own = s.own := own_of_keep (by rw [State.regPut_keep])
theorem State.setSelf_own (s : State) (v : Nat) : (State.setSelf s v).own = s.own := own_of_keep (by rw [State.setSelf_keep])
theorem State.setRole_own (s : State) (r : Nat) : (State.setRole s r).own = s.own := own_of_keep (by rw [State.setRole_keep])
theorem State.resyncPoll_own (s : State) : (State.resyncPoll s).own = s.own := own_of_keep (by rw [State.resyncPoll_keep])
theorem State.peerStale_own (s : State) : (State.peerStale s).own = s.own := own_of_keep (by rw [State.peerStale_keep])
theorem State.journal_own (s : State) (e : JEntry) : (State.journal s e).own = s.own := own_of_keep (by rw [State.journal_keep])
theorem State.startBulk_own (s : State) : (State.startBulk s).own = s.own := own_of_keep (by rw [State.startBulk_keep])
theorem State.hold_own (s : State) (v : Nat) : (State.hold s v).own = s.own := own_of_keep (by rw [State.hold_keep])
theorem State.release_own (s : State) (v : Nat) : (State.release s v).own = s.own := own_of_keep (by rw [State.release_keep])
theorem State.commitPoll_own (s : State) : (State.commitPoll s).own = s.own := own_of_keep (by rw [State.commitPoll_keep])
theorem State.commitHold_own (s : State) (hold : Bool) : (State.commitHold s hold).own = s.own := own_of_keep (by rw [State.commitHold_keep])
theorem State.verCtl_own (s : State) (w : Word) : (State.verCtl s w).own = s.own := own_of_keep (by rw [State.verCtl_keep])
theorem State.tblGo_own (s : State) (words : List Word) : (State.tblGo s words).own = s.own := own_of_keep (by rw [State.tblGo_keep])
theorem State.cmplPop_own (s : State) : (State.cmplPop s).own = s.own := own_of_keep (by rw [State.cmplPop_keep])
theorem State.cselWrite_own (s : State) (page n : Nat) (w : Word) : (State.cselWrite s page n w).own = s.own := own_of_keep (by rw [State.cselWrite_keep])
theorem State.snapCtl_own (s : State) (w : Word) : (State.snapCtl s w).own = s.own := own_of_keep (by rw [State.snapCtl_keep])
theorem State.freezeCtl_own (s : State) (w : Word) : (State.freezeCtl s w).own = s.own := own_of_keep (by rw [State.freezeCtl_keep])
theorem State.gaugeUnc_own (s : State) (page n : Nat) : (State.gaugeUnc s page n).own = s.own := own_of_keep (by rw [State.gaugeUnc_keep])
theorem State.tsfPop_own (s : State) (g : Nat) : (State.tsfPop s g).own = s.own := own_of_keep (by rw [State.tsfPop_keep])
theorem State.mogArm_own (s : State) (who g : Nat) (w : Word) : (State.mogArm s who g w).own = s.own := own_of_keep (by rw [State.mogArm_keep])
theorem State.mogParam_own (s : State) (g r : Nat) : (State.mogParam s g r).own = s.own := own_of_keep (by rw [State.mogParam_keep])
theorem State.pgClear_own (s : State) (g : Nat) (w : Word) : (State.pgClear s g w).own = s.own := own_of_keep (by rw [State.pgClear_keep])
theorem State.resetLevels_own (s : State) (e : Nat) : (State.resetLevels s e).own = s.own := own_of_keep (by rw [State.resetLevels_keep])
theorem State.resetAllLevels_own (s : State) : (State.resetAllLevels s).own = s.own := own_of_keep (by rw [State.resetAllLevels_keep])
theorem State.shctl_own (s : State) (n : Nat) (w : Word) : (State.shctl s n w).own = s.own := own_of_keep (by rw [State.shctl_keep])
theorem State.pshctl_own (s : State) (p : Nat) (w : Word) : (State.pshctl s p w).own = s.own := own_of_keep (by rw [State.pshctl_keep])
theorem State.capctl_own (s : State) (c : Nat) (w : Word) : (State.capctl s c w).own = s.own := own_of_keep (by rw [State.capctl_keep])
theorem State.polctl_own (s : State) (ix : Nat) (w : Word) : (State.polctl s ix w).own = s.own := own_of_keep (by rw [State.polctl_keep])
theorem State.gateCtl_own (s : State) (p : Nat) (w : Word) : (State.gateCtl s p w).own = s.own := own_of_keep (by rw [State.gateCtl_keep])
theorem State.gateUnc_own (s : State) (p : Nat) : (State.gateUnc s p).own = s.own := own_of_keep (by rw [State.gateUnc_keep])
theorem State.xokAll_own (s : State) : (State.xokAll s).own = s.own := own_of_keep (by rw [State.xokAll_keep])
theorem State.pllUnlocked_own (s : State) (k : Nat) : (State.pllUnlocked s k).own = s.own := own_of_keep (by rw [State.pllUnlocked_keep])
theorem State.fctl_own (s : State) (w : Word) : (State.fctl s w).own = s.own := own_of_keep (by rw [State.fctl_keep])
theorem State.ringLoss_own (s : State) (before n : Nat) : (State.ringLoss s before n).own = s.own := own_of_keep (by rw [State.ringLoss_keep])
theorem State.ringPop_own (s : State) : (State.ringPop s).own = s.own := own_of_keep (by rw [State.ringPop_keep])
theorem State.hostRet_own (s : State) (addr : Nat) : (State.hostRet s addr).own = s.own := own_of_keep (by rw [State.hostRet_keep])
theorem State.reclaimWr_own (s : State) (w : Word) : (State.reclaimWr s w).own = s.own := own_of_keep (by rw [State.reclaimWr_keep])
theorem State.discard_own (s : State) (code port : Nat) (p : Pkt) : (State.discard s code port p).own = s.own := own_of_keep (by rw [State.discard_keep])
theorem State.mcentWr_own (s : State) (w : Word) : (State.mcentWr s w).own = s.own := own_of_keep (by rw [State.mcentWr_keep])
theorem State.rinkWr_own (s : State) (k : Nat) (w : Word) : (State.rinkWr s k w).own = s.own := own_of_keep (by rw [State.rinkWr_keep])
theorem State.pcidxWr_own (s : State) (w : Word) : (State.pcidxWr s w).own = s.own := own_of_keep (by rw [State.pcidxWr_keep])
theorem State.tmgReset_own (s : State) : (State.tmgReset s).own = s.own := own_of_keep (by rw [State.tmgReset_keep])
theorem State.cellLost_own (s : State) (d : Nat) : (State.cellLost s d).own = s.own := own_of_keep (by rw [State.cellLost_keep])
theorem State.pageLost_own (s : State) (page : Nat) : (State.pageLost s page).own = s.own := own_of_keep (by rw [State.pageLost_keep])
theorem State.setGrp_own (s : State) (g : Nat) (v : Group) : (State.setGrp s g v).own = s.own := own_of_keep (by rw [State.setGrp_keep])
theorem State.memberExcl_own (s : State) (g m : Nat) : (State.memberExcl s g m).own = s.own := own_of_keep (by rw [State.memberExcl_keep])
theorem State.hnot2_own (s : State) (w : Word) : (State.hnot2 s w).own = s.own := own_of_keep (by rw [State.hnot2_keep])
theorem State.memberCfg_own (s : State) (g m : Nat) : (State.memberCfg s g m).own = s.own := own_of_keep (by rw [State.memberCfg_keep])
theorem State.setEq_own (s : State) (g m : Nat) (v : Queue) : (State.setEq s g m v).own = s.own := own_of_keep (by rw [State.setEq_keep])
theorem State.gapPoll_own (s : State) (g : Nat) : (State.gapPoll s g).own = s.own := own_of_keep (by rw [State.gapPoll_keep])
theorem State.rxStates_own (s : State) : (State.rxStates s).own = s.own := own_of_keep (by rw [State.rxStates_keep])
theorem State.kslotErase_own (s : State) (n : Nat) : (State.kslotErase s n).1.own = s.own := own_of_keep (by rw [State.kslotErase_keep])
theorem State.eraseWr_own (s : State) (w : Word) : (State.eraseWr s w).own = s.own := own_of_keep (by rw [State.eraseWr_keep])
theorem State.zeroizeWr_own (s : State) (w : Word) : (State.zeroizeWr s w).own = s.own := own_of_keep (by rw [State.zeroizeWr_keep])
theorem State.setInUse_own (s : State) (sa : Nat) (v : Bool) : (State.setInUse s sa v).own = s.own := own_of_keep (by rw [State.setInUse_keep])
theorem State.writeNextPn_own (s : State) (sa pn : Nat) : (State.writeNextPn s sa pn).own = s.own := own_of_keep (by rw [State.writeNextPn_keep])
theorem State.egrDrop_own (s : State) (p : Pkt) : (State.egrDrop s p).own = s.own := own_of_keep (by rw [State.egrDrop_keep])
theorem State.mogLeave_own (s : State) : (State.mogLeave s).own = s.own := own_of_keep (by rw [State.mogLeave_keep])
theorem State.injCharge_own (s : State) (u bytes : Nat) : (State.injCharge s u bytes).own = s.own := own_of_keep (by rw [State.injCharge_keep])
theorem State.qpUnc_own (s : State) (u q : Nat) : (State.qpUnc s u q).own = s.own := own_of_keep (by rw [State.qpUnc_keep])
theorem State.linkCorr_own (s : State) (k : Nat) : (State.linkCorr s k).own = s.own := own_of_keep (by rw [State.linkCorr_keep])
theorem State.dmaEdge_own (s : State) (c : Nat) (before : Bool) : (State.dmaEdge s c before).own = s.own := own_of_keep (by rw [State.dmaEdge_keep])
theorem State.dctlWr_own (s : State) (c : Nat) (w : Word) : (State.dctlWr s c w).own = s.own := own_of_keep (by rw [State.dctlWr_keep])
theorem State.dmaGoOn_own (s : State) : (State.dmaGoOn s).own = s.own := own_of_keep (by rw [State.dmaGoOn_keep])
theorem State.writeRate_own (s : State) (w : Word) : (State.writeRate s w).own = s.own := own_of_keep (by rw [State.writeRate_keep])
theorem State.timerWr_own (s : State) (n : Nat) (w : Word) : (State.timerWr s n w).own = s.own := own_of_keep (by rw [State.timerWr_keep])
theorem State.fltDone_own (s : State) (p : Nat) (reacts : List Nat) : (State.fltDone s p reacts).own = s.own := own_of_keep (by rw [State.fltDone_keep])
theorem State.fltWindow_own (s : State) (p seq : Nat) (inj : Bool) : (State.fltWindow s p seq inj).own = s.own := own_of_keep (by rw [State.fltWindow_keep])
theorem State.fltWinEnds_own (s : State) (p : Nat) : (State.fltWinEnds s p).own = s.own := own_of_keep (by rw [State.fltWinEnds_keep])
theorem State.blkPoll_own (s : State) (p : Nat) : (State.blkPoll s p).own = s.own := own_of_keep (by rw [State.blkPoll_keep])
theorem State.softReset_own (s : State) (p : Nat) : (State.softReset s p).own = s.own := own_of_keep (by rw [State.softReset_keep])
theorem State.blkctlWr_own (s : State) (who p : Nat) (w : Word) : (State.blkctlWr s who p w).own = s.own := own_of_keep (by rw [State.blkctlWr_keep])
theorem State.fenced_own (s : State) : (State.fenced s).own = s.own := own_of_keep (by rw [State.fenced_keep])
theorem State.enterDev_own (s : State) (st : DevState) : (State.enterDev s st).own = s.own := by
  simp -implicitDefEqProofs only [State.enterDev, ite_own, ite1_own, ite2_own, foldl_own, foldl1_own, foldl2_own, ite_self, implies_true, own_mk, State.commitHold_own, State.dmaGoOn_own, State.fenced_own, State.hold_own, State.irq_own, State.mogLeave_own, State.rxStates_own, State.setF_own, State.xokAll_own]
theorem State.fence_own (s : State) (reason : Nat) : (State.fence s reason).own = s.own := by
  simp -implicitDefEqProofs only [State.fence, ite_own, ite1_own, ite2_own, foldl_own, foldl1_own, foldl2_own, ite_self, implies_true, own_mk, State.enterDev_own, State.fenced_own, State.setF_own]
theorem State.holdIn_own (s : State) : (State.holdIn s).own = s.own := by
  simp -implicitDefEqProofs only [State.holdIn, ite_own, ite1_own, ite2_own, foldl_own, foldl1_own, foldl2_own, ite_self, implies_true, own_mk, State.enterDev_own, State.hold_own]
theorem State.holdOut_own (s : State) : (State.holdOut s).own = s.own := by
  simp -implicitDefEqProofs only [State.holdOut, ite_own, ite1_own, ite2_own, foldl_own, foldl1_own, foldl2_own, ite_self, implies_true, own_mk, State.enterDev_own, State.hold_own]
theorem State.roleState_own (s : State) (st : DevState) : (State.roleState s st).own = s.own := by
  simp -implicitDefEqProofs only [State.roleState, ite_own, ite1_own, ite2_own, foldl_own, foldl1_own, foldl2_own, ite_self, implies_true, own_mk, State.enterDev_own, State.hold_own]
theorem State.goEvent_own (s : State) : (State.goEvent s).own = s.own := by
  simp -implicitDefEqProofs only [State.goEvent, ite_own, ite1_own, ite2_own, foldl_own, foldl1_own, foldl2_own, ite_self, implies_true, own_mk, State.enterDev_own]
theorem State.runGo_own (s : State) : (State.runGo s).own = s.own := by
  simp -implicitDefEqProofs only [State.runGo, ite_own, ite1_own, ite2_own, foldl_own, foldl1_own, foldl2_own, ite_self, implies_true, own_mk, State.badAcc_own, State.goEvent_own]
theorem State.runctl_own (s : State) (who : Nat) (w : Word) : (State.runctl s who w).own = s.own := by
  simp -implicitDefEqProofs only [State.runctl, ite_own, ite1_own, ite2_own, foldl_own, foldl1_own, foldl2_own, ite_self, implies_true, own_mk, State.runGo_own, State.rwsPut_own]
theorem State.sendHello_own (s : State) : (State.sendHello s).own = s.own := own_of_keep (by rw [State.sendHello_keep])
theorem State.sendRole_own (s : State) (op reason : Nat) : (State.sendRole s op reason).own = s.own := own_of_keep (by rw [State.sendRole_keep])
theorem State.sendSyncreq_own (s : State) : (State.sendSyncreq s).own = s.own := own_of_keep (by rw [State.sendSyncreq_keep])
theorem State.becomeActive_own (s : State) : (State.becomeActive s).own = s.own := by
  simp -implicitDefEqProofs only [State.becomeActive, ite_own, ite1_own, ite2_own, foldl_own, foldl1_own, foldl2_own, ite_self, implies_true, own_mk, State.journal_own, State.peerStale_own, State.roleState_own, State.setF_own, State.setRole_own, State.wr_own]
theorem State.dropOpen_own (s : State) : (State.dropOpen s).own = s.own := own_of_keep (by rw [State.dropOpen_keep])
theorem State.takeoverDo_own (s : State) : (State.takeoverDo s).own = s.own := by
  simp -implicitDefEqProofs only [State.takeoverDo, ite_own, ite1_own, ite2_own, foldl_own, foldl1_own, foldl2_own, ite_self, implies_true, own_mk, State.becomeActive_own, State.bump_own, State.dropOpen_own, State.resetAllLevels_own, State.setF_own, State.setGrp_own, State.wr64_own, State.wr_own]
theorem State.becomeStandby_own (s : State) (self : Nat) : (State.becomeStandby s self).own = s.own := by
  simp -implicitDefEqProofs only [State.becomeStandby, ite_own, ite1_own, ite2_own, foldl_own, foldl1_own, foldl2_own, ite_self, implies_true, own_mk, State.journal_own, State.roleState_own, State.setF_own, State.setRole_own, State.setSelf_own]
theorem State.leaveActive_own (s : State) : (State.leaveActive s).own = s.own := by
  simp -implicitDefEqProofs only [State.leaveActive, ite_own, ite1_own, ite2_own, foldl_own, foldl1_own, foldl2_own, ite_self, implies_true, own_mk, State.becomeStandby_own, State.discard_own, State.setF_own, State.tmgReset_own]
theorem State.ackIn_own (s : State) (a : Nat) : (State.ackIn s a).own = s.own := own_of_keep (by rw [State.ackIn_keep])
theorem State.helloIn_own (s : State) (f : List Byte) : (State.helloIn s f).own = s.own := by
  simp -implicitDefEqProofs only [State.helloIn, ite_own, ite1_own, ite2_own, foldl_own, foldl1_own, foldl2_own, ite_self, implies_true, own_mk, State.becomeStandby_own, State.bump_own, State.irq_own, State.leaveActive_own, State.sendSyncreq_own, State.setF_own, State.setSelf_own, State.wr_own]
theorem State.journalIn_own (s : State) (f : List Byte) : (State.journalIn s f).own = s.own := own_of_keep (by rw [State.journalIn_keep])
theorem State.handoffFail_own (s : State) : (State.handoffFail s).own = s.own := own_of_keep (by rw [State.handoffFail_keep])
theorem State.roleIn_own (s : State) (f : List Byte) : (State.roleIn s f).own = s.own := by
  unfold State.roleIn; (repeat' split) <;> simp -implicitDefEqProofs only [ite_own, ite1_own, ite2_own, foldl_own, foldl1_own, foldl2_own, ite_self, implies_true, own_mk, State.handoffFail_own, State.leaveActive_own, State.sendHello_own, State.sendRole_own]
theorem State.syncIn_own (s : State) : (State.syncIn s).own = s.own := own_of_keep (by rw [State.syncIn_keep])
theorem State.evtRx_own (s : State) (f : List Byte) : (State.evtRx s f).own = s.own := by
  unfold State.evtRx; (repeat' split) <;> simp -implicitDefEqProofs only [ite_own, ite1_own, ite2_own, foldl_own, foldl1_own, foldl2_own, ite_self, implies_true, own_mk, State.ackIn_own, State.bump_own, State.helloIn_own, State.journalIn_own, State.roleIn_own, State.syncIn_own, State.wr64_own]
theorem State.pinTake_own (s : State) (level : Bool) : (State.pinTake s level).own = s.own := by
  unfold State.pinTake
  repeat' (first | (simp -implicitDefEqProofs only [ite_own, ite1_own, ite2_own, foldl_own, foldl1_own, foldl2_own, ite_self, implies_true, own_mk, State.becomeStandby_own, State.setF_own, State.takeoverDo_own, *]; done) | split | (refine (foldl_own _ _ _ (fun t a => ?_)).trans ?_) | (refine (foldl1_own _ _ _ (fun t a => ?_)).trans ?_) | (refine (foldl2_own _ _ _ (fun t a => ?_)).trans ?_) | (simp -implicitDefEqProofs only [ite_own, ite1_own, ite2_own, foldl_own, foldl1_own, foldl2_own, ite_self, implies_true, own_mk, State.becomeStandby_own, State.setF_own, State.takeoverDo_own, *]))
theorem State.pinSample_own (s : State) (level : Bool) : (State.pinSample s level).own = s.own := by
  simp -implicitDefEqProofs only [State.pinSample, ite_own, ite1_own, ite2_own, foldl_own, foldl1_own, foldl2_own, ite_self, implies_true, own_mk, State.nextTick_own, State.pinTake_own]
theorem State.handoff_own (s : State) : (State.handoff s).own = s.own := own_of_keep (by rw [State.handoff_keep])
theorem State.evtCtl_own (s : State) (w : Word) : (State.evtCtl s w).own = s.own := by
  simp -implicitDefEqProofs only [State.evtCtl, ite_own, ite1_own, ite2_own, foldl_own, foldl1_own, foldl2_own, ite_self, implies_true, own_mk, State.badAcc_own, State.handoff_own, State.startBulk_own, State.takeoverDo_own]
theorem State.loseLock_own (s : State) (p : Nat) : (State.loseLock s p).own = s.own := own_of_keep (by rw [State.loseLock_keep])
theorem State.pllLoss_own (s : State) (timebase : Bool) : (State.pllLoss s timebase).own = s.own := by
  simp -implicitDefEqProofs only [State.pllLoss, ite_own, ite1_own, ite2_own, foldl_own, foldl1_own, foldl2_own, ite_self, implies_true, own_mk, State.setF_own]
theorem State.bufUnc_own (s : State) (g loc : Nat) : (State.bufUnc s g loc).own = s.own := own_of_keep (by rw [State.bufUnc_keep])
theorem State.fltEffect_own (s : State) (k : Kind) (inst src loc : Nat) : (State.fltEffect s k inst src loc).own = s.own := by
  unfold State.fltEffect; (repeat' split) <;> simp -implicitDefEqProofs only [ite_own, ite1_own, ite2_own, foldl_own, foldl1_own, foldl2_own, ite_self, implies_true, own_mk, State.bufUnc_own, State.bump_own, State.cellLost_own, State.egrDrop_own, State.gapPoll_own, State.gateUnc_own, State.gaugeUnc_own, State.kslotErase_own, State.linkCorr_own, State.loseLock_own, State.pageLost_own, State.pllLoss_own, State.pllUnlocked_own, State.qpUnc_own, State.release_own, State.resetLevels_own, State.ringLoss_own, State.ringPop_own, State.setB_own, State.setEp_own, State.setEq_own, State.setInUse_own, State.setIp_own, State.setPg_own]
theorem State.detect_own (s : State) (page src : Nat) (loc : Word) : (State.detect s page src loc).own = s.own := by
  unfold State.detect; (repeat' split) <;> simp -implicitDefEqProofs only [ite_own, ite1_own, ite2_own, foldl_own, foldl1_own, foldl2_own, ite_self, implies_true, own_mk, State.fire_own, State.fltEffect_own]
theorem State.fltWait_own (s : State) (page code seq : Nat) (inj : Bool) : (State.fltWait s page code seq inj).own = s.own := own_of_keep (by rw [State.fltWait_keep])
theorem State.fltAbandon_own (s : State) (page : Nat) : (State.fltAbandon s page).own = s.own := own_of_keep (by rw [State.fltAbandon_keep])
theorem State.react_own (s : State) (page code seq : Nat) (inj handoff : Bool) : (State.react s page code seq inj handoff).own = s.own := by
  unfold State.react; (repeat' split) <;> simp -implicitDefEqProofs only [ite_own, ite1_own, ite2_own, foldl_own, foldl1_own, foldl2_own, ite_self, implies_true, own_mk, State.blkPoll_own, State.fence_own, State.fltDone_own, State.fltWait_own, State.fltWinEnds_own, State.fltWindow_own, State.handoff_own, State.setBlk_own, State.softReset_own]
theorem State.fcountUp_own (s : State) (page : Nat) : (State.fcountUp s page).1.own = s.own := by
  simp -implicitDefEqProofs only [State.fcountUp, ite_own, ite1_own, ite2_own, foldl_own, foldl1_own, foldl2_own, ite_self, implies_true, own_mk, State.fence_own]
theorem State.record_own (s : State) (r : FltRec) : (State.record s r).own = s.own := by
  simp -implicitDefEqProofs only [State.record, ite_own, ite1_own, ite2_own, foldl_own, foldl1_own, foldl2_own, ite_self, implies_true, own_mk, State.bump_own, State.irq_own, State.react_own]
theorem State.fltTake_own (s : State) (e : FltEv) : (State.fltTake s e).own = s.own := by
  unfold State.fltTake; (repeat' split) <;> simp -implicitDefEqProofs only [ite_own, ite1_own, ite2_own, foldl_own, foldl1_own, foldl2_own, ite_self, implies_true, own_mk, State.fcountUp_own, State.fltAbandon_own, State.react_own, State.record_own]
theorem State.forceWr_own (s : State) (page : Nat) (w : Word) : (State.forceWr s page w).own = s.own := own_of_keep (by rw [State.forceWr_keep])
theorem State.fltAck_own (s : State) (w : Word) : (State.fltAck s w).own = s.own := by
  unfold State.fltAck
  repeat' (first | (simp -implicitDefEqProofs only [ite_own, ite1_own, ite2_own, foldl_own, foldl1_own, foldl2_own, ite_self, implies_true, own_mk, State.badAcc_own, State.blkPoll_own, State.react_own, State.setBlk_own, *]; done) | split | (refine (foldl_own _ _ _ (fun t a => ?_)).trans ?_) | (refine (foldl1_own _ _ _ (fun t a => ?_)).trans ?_) | (refine (foldl2_own _ _ _ (fun t a => ?_)).trans ?_) | (simp -implicitDefEqProofs only [ite_own, ite1_own, ite2_own, foldl_own, foldl1_own, foldl2_own, ite_self, implies_true, own_mk, State.badAcc_own, State.blkPoll_own, State.react_own, State.setBlk_own, *]))
theorem State.rxvalWr_own (s : State) (who : Nat) (w : Word) : (State.rxvalWr s who w).own = s.own := by
  unfold State.rxvalWr
  repeat' (first | (simp -implicitDefEqProofs only [ite_own, ite1_own, ite2_own, foldl_own, foldl1_own, foldl2_own, ite_self, implies_true, own_mk, State.badAcc_own, State.cfgGen_own, State.react_own, State.sealReject_own, State.setF_own, *]; done) | split | (refine (foldl_own _ _ _ (fun t a => ?_)).trans ?_) | (refine (foldl1_own _ _ _ (fun t a => ?_)).trans ?_) | (refine (foldl2_own _ _ _ (fun t a => ?_)).trans ?_) | (simp -implicitDefEqProofs only [ite_own, ite1_own, ite2_own, foldl_own, foldl1_own, foldl2_own, ite_self, implies_true, own_mk, State.badAcc_own, State.cfgGen_own, State.react_own, State.sealReject_own, State.setF_own, *]))
theorem State.legClr_own (s : State) (w : Word) : (State.legClr s w).own = s.own := own_of_keep (by rw [State.legClr_keep])
theorem State.supplyState_own (s : State) (was allOk : Bool) : (State.supplyState s was allOk).own = s.own := by
  simp -implicitDefEqProofs only [State.supplyState, ite_own, ite1_own, ite2_own, foldl_own, foldl1_own, foldl2_own, ite_self, implies_true, own_mk, State.bump_own, State.fault_own, State.holdIn_own, State.irq_own]
theorem State.malformed_own (s : State) : (State.malformed s).own = s.own := own_of_keep (by rw [State.malformed_keep])
theorem State.cleared_own (s : State) (internal : Option Nat) : (State.cleared s internal).own = s.own := by
  simp -implicitDefEqProofs only [State.cleared, ite_own, ite1_own, ite2_own, foldl_own, foldl1_own, foldl2_own, ite_self, implies_true, own_mk, State.setF_own]
theorem State.leaveReset_own (s : State) : (State.leaveReset s).own = s.own := by
  simp -implicitDefEqProofs only [State.leaveReset, ite_own, ite1_own, ite2_own, foldl_own, foldl1_own, foldl2_own, ite_self, implies_true, own_mk, State.enterDev_own]
theorem State.rstctlWr_own (s : State) (w : Word) : (State.rstctlWr s w).own = s.own := by
  simp -implicitDefEqProofs only [State.rstctlWr, ite_own, ite1_own, ite2_own, foldl_own, foldl1_own, foldl2_own, ite_self, implies_true, own_mk, State.badAcc_own, State.cleared_own]
theorem State.loadResult_own (s : State) (r : Nat) : (State.loadResult s r).own = s.own := own_of_keep (by rw [State.loadResult_keep])
theorem State.loadEnds_own (s : State) (r : Nat) : (State.loadEnds s r).own = s.own := by
  simp -implicitDefEqProofs only [State.loadEnds, ite_own, ite1_own, ite2_own, foldl_own, foldl1_own, foldl2_own, ite_self, implies_true, own_mk, State.enterDev_own, State.loadResult_own]
theorem State.loadFails_own (s : State) (r : Nat) : (State.loadFails s r).own = s.own := by
  simp -implicitDefEqProofs only [State.loadFails, ite_own, ite1_own, ite2_own, foldl_own, foldl1_own, foldl2_own, ite_self, implies_true, own_mk, State.fence_own, State.irq_own, State.loadEnds_own, State.loadResult_own]
theorem State.loadctlWr_own (s : State) (w : Word) : (State.loadctlWr s w).own = s.own := by
  simp -implicitDefEqProofs only [State.loadctlWr, ite_own, ite1_own, ite2_own, foldl_own, foldl1_own, foldl2_own, ite_self, implies_true, own_mk, State.badAcc_own, State.loadEnds_own]
theorem State.sealRefused_own (s : State) : (State.sealRefused s).own = s.own := own_of_keep (by rw [State.sealRefused_keep])
theorem State.sealAccepted_own (s : State) : (State.sealAccepted s).own = s.own := by
  simp -implicitDefEqProofs only [State.sealAccepted, ite_own, ite1_own, ite2_own, foldl_own, foldl1_own, foldl2_own, ite_self, implies_true, own_mk, State.enterDev_own, State.goEvent_own]
theorem State.loaderSeal_own (s : State) : (State.loaderSeal s).own = s.own := by
  simp -implicitDefEqProofs only [State.loaderSeal, ite_own, ite1_own, ite2_own, foldl_own, foldl1_own, foldl2_own, ite_self, implies_true, own_mk, State.goEvent_own, State.irq_own, State.loadEnds_own, State.loadResult_own, State.sealAccepted_own, State.sealRefused_own]
theorem State.sealWr_own (s : State) (who : Nat) (w : Word) : (State.sealWr s who w).own = s.own := by
  simp -implicitDefEqProofs only [State.sealWr, ite_own, ite1_own, ite2_own, foldl_own, foldl1_own, foldl2_own, ite_self, implies_true, own_mk, State.badAcc_own, State.loaderSeal_own, State.sealAccepted_own, State.sealRefused_own]
theorem State.valBegin_own (s : State) : (State.valBegin s).own = s.own := by
  simp -implicitDefEqProofs only [State.valBegin, ite_own, ite1_own, ite2_own, foldl_own, foldl1_own, foldl2_own, ite_self, implies_true, own_mk, State.setF_own]
theorem State.validateWr_own (s : State) (w : Word) : (State.validateWr s w).own = s.own := by
  simp -implicitDefEqProofs only [State.validateWr, ite_own, ite1_own, ite2_own, foldl_own, foldl1_own, foldl2_own, ite_self, implies_true, own_mk, State.badAcc_own, State.valBegin_own]
theorem State.valReport_own (s : State) : (State.valReport s).own = s.own := by
  unfold State.valReport
  repeat' (first | (simp -implicitDefEqProofs only [ite_own, ite1_own, ite2_own, foldl_own, foldl1_own, foldl2_own, ite_self, implies_true, own_mk, State.irq_own, State.wr_own, *]; done) | split | (refine (foldl_own _ _ _ (fun t a => ?_)).trans ?_) | (refine (foldl1_own _ _ _ (fun t a => ?_)).trans ?_) | (refine (foldl2_own _ _ _ (fun t a => ?_)).trans ?_) | (simp -implicitDefEqProofs only [ite_own, ite1_own, ite2_own, foldl_own, foldl1_own, foldl2_own, ite_self, implies_true, own_mk, State.irq_own, State.wr_own, *]))
theorem State.valEnd_own (s : State) : (State.valEnd s).own = s.own := by
  simp -implicitDefEqProofs only [State.valEnd, ite_own, ite1_own, ite2_own, foldl_own, foldl1_own, foldl2_own, ite_self, implies_true, own_mk, State.irq_own, State.loadEnds_own, State.sealWr_own, State.valReport_own]
theorem State.stepGo_own (s : State) (w : Word) : (State.stepGo s w).own = s.own := own_of_keep (by rw [State.stepGo_keep])
theorem State.rwsLim_own (s : State) (who key hi lo v n : Nat) : (State.rwsLim s who key hi lo v n).own = s.own := own_of_keep (by rw [State.rwsLim_keep])
theorem State.cntClr_own (s : State) (k : Kind) (i : Nat) (w : Word) : (State.cntClr s k i w).own = s.own := own_of_keep (by rw [State.cntClr_keep])
theorem State.hookHdr_own (s t : State) (p o : Nat) (w : Word) (h : t.own = s.own) : (State.hookHdr s t p o w).own = s.own := by
  unfold State.hookHdr
  repeat' (first | (simp -implicitDefEqProofs only [ite_own, ite1_own, ite2_own, foldl_own, foldl1_own, foldl2_own, ite_self, implies_true, own_mk, State.cselWrite_own, State.forceWr_own, State.irqEdge_own, State.wr_own, *]; done) | split | (refine (foldl_own _ _ _ (fun t a => ?_)).trans ?_) | (refine (foldl1_own _ _ _ (fun t a => ?_)).trans ?_) | (refine (foldl2_own _ _ _ (fun t a => ?_)).trans ?_) | (simp -implicitDefEqProofs only [ite_own, ite1_own, ite2_own, foldl_own, foldl1_own, foldl2_own, ite_self, implies_true, own_mk, State.cselWrite_own, State.forceWr_own, State.irqEdge_own, State.wr_own, *]))
theorem State.hookDev_own (s t : State) (who a : Nat) (w : Word) (h : t.own = s.own) : (State.hookDev s t who a w).own = s.own := by
  unfold State.hookDev
  repeat' (first | (simp -implicitDefEqProofs only [ite_own, ite1_own, ite2_own, foldl_own, foldl1_own, foldl2_own, ite_self, implies_true, own_mk, State.loadctlWr_own, State.rstctlWr_own, State.runctl_own, State.sealWr_own, State.validateWr_own, State.wr_own, *]; done) | split | (refine (foldl_own _ _ _ (fun t a => ?_)).trans ?_) | (refine (foldl1_own _ _ _ (fun t a => ?_)).trans ?_) | (refine (foldl2_own _ _ _ (fun t a => ?_)).trans ?_) | (simp -implicitDefEqProofs only [ite_own, ite1_own, ite2_own, foldl_own, foldl1_own, foldl2_own, ite_self, implies_true, own_mk, State.loadctlWr_own, State.rstctlWr_own, State.runctl_own, State.sealWr_own, State.validateWr_own, State.wr_own, *]))
theorem State.hookFlt_own (s t : State) (who a : Nat) (w : Word) (h : t.own = s.own) : (State.hookFlt s t who a w).own = s.own := by
  unfold State.hookFlt
  repeat' (first | (simp -implicitDefEqProofs only [ite_own, ite1_own, ite2_own, foldl_own, foldl1_own, foldl2_own, ite_self, implies_true, own_mk, State.fltAck_own, State.legClr_own, State.rxvalWr_own, *]; done) | split | (refine (foldl_own _ _ _ (fun t a => ?_)).trans ?_) | (refine (foldl1_own _ _ _ (fun t a => ?_)).trans ?_) | (refine (foldl2_own _ _ _ (fun t a => ?_)).trans ?_) | (simp -implicitDefEqProofs only [ite_own, ite1_own, ite2_own, foldl_own, foldl1_own, foldl2_own, ite_self, implies_true, own_mk, State.fltAck_own, State.legClr_own, State.rxvalWr_own, *]))
theorem State.hookTim_own (s t : State) (a : Nat) (w : Word) (h : t.own = s.own) : (State.hookTim s t a w).own = s.own := by
  unfold State.hookTim
  repeat' (first | (simp -implicitDefEqProofs only [ite_own, ite1_own, ite2_own, foldl_own, foldl1_own, foldl2_own, ite_self, implies_true, own_mk, State.stepGo_own, State.timerWr_own, State.writeRate_own, *]; done) | split | (refine (foldl_own _ _ _ (fun t a => ?_)).trans ?_) | (refine (foldl1_own _ _ _ (fun t a => ?_)).trans ?_) | (refine (foldl2_own _ _ _ (fun t a => ?_)).trans ?_) | (simp -implicitDefEqProofs only [ite_own, ite1_own, ite2_own, foldl_own, foldl1_own, foldl2_own, ite_self, implies_true, own_mk, State.stepGo_own, State.timerWr_own, State.writeRate_own, *]))
theorem State.hookPg_own (s t : State) (who g a : Nat) (w : Word) (h : t.own = s.own) : (State.hookPg s t who g a w).own = s.own := by
  unfold State.hookPg
  repeat' (first | (simp -implicitDefEqProofs only [ite_own, ite1_own, ite2_own, foldl_own, foldl1_own, foldl2_own, ite_self, implies_true, own_mk, State.mogArm_own, State.mogParam_own, State.pgClear_own, State.tsfPop_own, State.wr_own, *]; done) | split | (refine (foldl_own _ _ _ (fun t a => ?_)).trans ?_) | (refine (foldl1_own _ _ _ (fun t a => ?_)).trans ?_) | (refine (foldl2_own _ _ _ (fun t a => ?_)).trans ?_) | (simp -implicitDefEqProofs only [ite_own, ite1_own, ite2_own, foldl_own, foldl1_own, foldl2_own, ite_self, implies_true, own_mk, State.mogArm_own, State.mogParam_own, State.pgClear_own, State.tsfPop_own, State.wr_own, *]))
theorem State.hookTbl_own (s t : State) (a : Nat) (w : Word) (h : t.own = s.own) : (State.hookTbl s t a w).own = s.own := by
  unfold State.hookTbl
  repeat' (first | (simp -implicitDefEqProofs only [ite_own, ite1_own, ite2_own, foldl_own, foldl1_own, foldl2_own, ite_self, implies_true, own_mk, State.cmplPop_own, State.tblGo_own, *]; done) | split | (refine (foldl_own _ _ _ (fun t a => ?_)).trans ?_) | (refine (foldl1_own _ _ _ (fun t a => ?_)).trans ?_) | (refine (foldl2_own _ _ _ (fun t a => ?_)).trans ?_) | (simp -implicitDefEqProofs only [ite_own, ite1_own, ite2_own, foldl_own, foldl1_own, foldl2_own, ite_self, implies_true, own_mk, State.cmplPop_own, State.tblGo_own, *]))
theorem State.hookLrn_own (s t : State) (a : Nat) (w : Word) (h : t.own = s.own) : (State.hookLrn s t a w).own = s.own := by
  unfold State.hookLrn
  repeat' (first | (simp -implicitDefEqProofs only [ite_own, ite1_own, ite2_own, foldl_own, foldl1_own, foldl2_own, ite_self, implies_true, own_mk, State.badAcc_own, State.setF_own, *]; done) | split | (refine (foldl_own _ _ _ (fun t a => ?_)).trans ?_) | (refine (foldl1_own _ _ _ (fun t a => ?_)).trans ?_) | (refine (foldl2_own _ _ _ (fun t a => ?_)).trans ?_) | (simp -implicitDefEqProofs only [ite_own, ite1_own, ite2_own, foldl_own, foldl1_own, foldl2_own, ite_self, implies_true, own_mk, State.badAcc_own, State.setF_own, *]))
theorem State.hookTmg_own (s t : State) (a : Nat) (w : Word) (h : t.own = s.own) : (State.hookTmg s t a w).own = s.own := by
  unfold State.hookTmg
  repeat' (first | (simp -implicitDefEqProofs only [ite_own, ite1_own, ite2_own, foldl_own, foldl1_own, foldl2_own, ite_self, implies_true, own_mk, State.mcentWr_own, State.pcidxWr_own, State.rinkWr_own, *]; done) | split | (refine (foldl_own _ _ _ (fun t a => ?_)).trans ?_) | (refine (foldl1_own _ _ _ (fun t a => ?_)).trans ?_) | (refine (foldl2_own _ _ _ (fun t a => ?_)).trans ?_) | (simp -implicitDefEqProofs only [ite_own, ite1_own, ite2_own, foldl_own, foldl1_own, foldl2_own, ite_self, implies_true, own_mk, State.mcentWr_own, State.pcidxWr_own, State.rinkWr_own, *]))
theorem State.hookSch_own (s t : State) (a : Nat) (w : Word) (h : t.own = s.own) : (State.hookSch s t a w).own = s.own := by
  unfold State.hookSch
  repeat' (first | (simp -implicitDefEqProofs only [ite_own, ite1_own, ite2_own, foldl_own, foldl1_own, foldl2_own, ite_self, implies_true, own_mk, State.badAcc_own, State.capctl_own, State.gateCtl_own, State.polctl_own, State.pshctl_own, State.setF_own, State.shctl_own, *]; done) | split | (refine (foldl_own _ _ _ (fun t a => ?_)).trans ?_) | (refine (foldl1_own _ _ _ (fun t a => ?_)).trans ?_) | (refine (foldl2_own _ _ _ (fun t a => ?_)).trans ?_) | (simp -implicitDefEqProofs only [ite_own, ite1_own, ite2_own, foldl_own, foldl1_own, foldl2_own, ite_self, implies_true, own_mk, State.badAcc_own, State.capctl_own, State.gateCtl_own, State.polctl_own, State.pshctl_own, State.setF_own, State.shctl_own, *]))
theorem State.hookBlg_own (s t : State) (a : Nat) (w : Word) (h : t.own = s.own) : (State.hookBlg s t a w).own = s.own := by
  unfold State.hookBlg
  repeat' (first | (simp -implicitDefEqProofs only [ite_own, ite1_own, ite2_own, foldl_own, foldl1_own, foldl2_own, ite_self, implies_true, own_mk, State.hnot2_own, State.journal_own, State.memberCfg_own, State.memberExcl_own, *]; done) | split | (refine (foldl_own _ _ _ (fun t a => ?_)).trans ?_) | (refine (foldl1_own _ _ _ (fun t a => ?_)).trans ?_) | (refine (foldl2_own _ _ _ (fun t a => ?_)).trans ?_) | (simp -implicitDefEqProofs only [ite_own, ite1_own, ite2_own, foldl_own, foldl1_own, foldl2_own, ite_self, implies_true, own_mk, State.hnot2_own, State.journal_own, State.memberCfg_own, State.memberExcl_own, *]))
theorem State.sacfg0_own (s t : State) (sa : Nat) (w : Word) (h : t.own = s.own) : (State.sacfg0 s t sa w).own = s.own := by
  unfold State.sacfg0
  repeat' (first | (simp -implicitDefEqProofs only [ite_own, ite1_own, ite2_own, foldl_own, foldl1_own, foldl2_own, ite_self, implies_true, own_mk, State.badAcc_own, State.setF_own, State.setInUse_own, *]; done) | split | (refine (foldl_own _ _ _ (fun t a => ?_)).trans ?_) | (refine (foldl1_own _ _ _ (fun t a => ?_)).trans ?_) | (refine (foldl2_own _ _ _ (fun t a => ?_)).trans ?_) | (simp -implicitDefEqProofs only [ite_own, ite1_own, ite2_own, foldl_own, foldl1_own, foldl2_own, ite_self, implies_true, own_mk, State.badAcc_own, State.setF_own, State.setInUse_own, *]))
theorem State.hookMsc_own (s t : State) (a : Nat) (w : Word) (h : t.own = s.own) : (State.hookMsc s t a w).own = s.own := by
  unfold State.hookMsc
  repeat' (first | (simp -implicitDefEqProofs only [ite_own, ite1_own, ite2_own, foldl_own, foldl1_own, foldl2_own, ite_self, implies_true, own_mk, State.badAcc_own, State.sacfg0_own, State.wr_own, *]; done) | split | (refine (foldl_own _ _ _ (fun t a => ?_)).trans ?_) | (refine (foldl1_own _ _ _ (fun t a => ?_)).trans ?_) | (refine (foldl2_own _ _ _ (fun t a => ?_)).trans ?_) | (simp -implicitDefEqProofs only [ite_own, ite1_own, ite2_own, foldl_own, foldl1_own, foldl2_own, ite_self, implies_true, own_mk, State.badAcc_own, State.sacfg0_own, State.wr_own, *]))
theorem State.hookKey_own (s t : State) (a : Nat) (w : Word) (h : t.own = s.own) : (State.hookKey s t a w).own = s.own := by
  unfold State.hookKey
  repeat' (first | (simp -implicitDefEqProofs only [ite_own, ite1_own, ite2_own, foldl_own, foldl1_own, foldl2_own, ite_self, implies_true, own_mk, State.badAcc_own, State.eraseWr_own, State.zeroizeWr_own, *]; done) | split | (refine (foldl_own _ _ _ (fun t a => ?_)).trans ?_) | (refine (foldl1_own _ _ _ (fun t a => ?_)).trans ?_) | (refine (foldl2_own _ _ _ (fun t a => ?_)).trans ?_) | (simp -implicitDefEqProofs only [ite_own, ite1_own, ite2_own, foldl_own, foldl1_own, foldl2_own, ite_self, implies_true, own_mk, State.badAcc_own, State.eraseWr_own, State.zeroizeWr_own, *]))
theorem State.hookDrc_own (s t : State) (a : Nat) (w : Word) (h : t.own = s.own) : (State.hookDrc s t a w).own = s.own := by
  unfold State.hookDrc
  repeat' (first | (simp -implicitDefEqProofs only [ite_own, ite1_own, ite2_own, foldl_own, foldl1_own, foldl2_own, ite_self, implies_true, own_mk, State.fctl_own, State.setF_own, *]; done) | split | (refine (foldl_own _ _ _ (fun t a => ?_)).trans ?_) | (refine (foldl1_own _ _ _ (fun t a => ?_)).trans ?_) | (refine (foldl2_own _ _ _ (fun t a => ?_)).trans ?_) | (simp -implicitDefEqProofs only [ite_own, ite1_own, ite2_own, foldl_own, foldl1_own, foldl2_own, ite_self, implies_true, own_mk, State.fctl_own, State.setF_own, *]))
theorem State.hookHst_own (s t : State) (a : Nat) (w : Word) (h : t.own = s.own) : (State.hookHst s t a w).own = s.own := by
  unfold State.hookHst
  repeat' (first | (simp -implicitDefEqProofs only [ite_own, ite1_own, ite2_own, foldl_own, foldl1_own, foldl2_own, ite_self, implies_true, own_mk, State.badAcc_own, State.injCharge_own, *]; done) | split | (refine (foldl_own _ _ _ (fun t a => ?_)).trans ?_) | (refine (foldl1_own _ _ _ (fun t a => ?_)).trans ?_) | (refine (foldl2_own _ _ _ (fun t a => ?_)).trans ?_) | (simp -implicitDefEqProofs only [ite_own, ite1_own, ite2_own, foldl_own, foldl1_own, foldl2_own, ite_self, implies_true, own_mk, State.badAcc_own, State.injCharge_own, *]))
theorem State.chanWr_own (s t : State) (c o : Nat) (w : Word) (h : t.own = s.own) : (State.chanWr s t c o w).own = s.own := by
  unfold State.chanWr
  repeat' (first | (simp -implicitDefEqProofs only [ite_own, ite1_own, ite2_own, foldl_own, foldl1_own, foldl2_own, ite_self, implies_true, own_mk, State.badAcc_own, State.dctlWr_own, State.dmaEdge_own, State.setF_own, State.zero_own, *]; done) | split | (refine (foldl_own _ _ _ (fun t a => ?_)).trans ?_) | (refine (foldl1_own _ _ _ (fun t a => ?_)).trans ?_) | (refine (foldl2_own _ _ _ (fun t a => ?_)).trans ?_) | (simp -implicitDefEqProofs only [ite_own, ite1_own, ite2_own, foldl_own, foldl1_own, foldl2_own, ite_self, implies_true, own_mk, State.badAcc_own, State.dctlWr_own, State.dmaEdge_own, State.setF_own, State.zero_own, *]))
theorem State.hookDma_own (s t : State) (a : Nat) (w : Word) (h : t.own = s.own) : (State.hookDma s t a w).own = s.own := by
  unfold State.hookDma
  repeat' (first | (simp -implicitDefEqProofs only [ite_own, ite1_own, ite2_own, foldl_own, foldl1_own, foldl2_own, ite_self, implies_true, own_mk, State.badAcc_own, State.chanWr_own, *]; done) | split | (refine (foldl_own _ _ _ (fun t a => ?_)).trans ?_) | (refine (foldl1_own _ _ _ (fun t a => ?_)).trans ?_) | (refine (foldl2_own _ _ _ (fun t a => ?_)).trans ?_) | (simp -implicitDefEqProofs only [ite_own, ite1_own, ite2_own, foldl_own, foldl1_own, foldl2_own, ite_self, implies_true, own_mk, State.badAcc_own, State.chanWr_own, *]))
theorem State.hookPwr_own (s t : State) (who a : Nat) (w : Word) (h : t.own = s.own) : (State.hookPwr s t who a w).own = s.own := by
  unfold State.hookPwr
  repeat' (first | (simp -implicitDefEqProofs only [ite_own, ite1_own, ite2_own, foldl_own, foldl1_own, foldl2_own, ite_self, implies_true, own_mk, State.rwsLim_own, State.rwsPut_own, State.setF_own, *]; done) | split | (refine (foldl_own _ _ _ (fun t a => ?_)).trans ?_) | (refine (foldl1_own _ _ _ (fun t a => ?_)).trans ?_) | (refine (foldl2_own _ _ _ (fun t a => ?_)).trans ?_) | (simp -implicitDefEqProofs only [ite_own, ite1_own, ite2_own, foldl_own, foldl1_own, foldl2_own, ite_self, implies_true, own_mk, State.rwsLim_own, State.rwsPut_own, State.setF_own, *]))
theorem State.hookCnt_own (s t : State) (a : Nat) (w : Word) (h : t.own = s.own) : (State.hookCnt s t a w).own = s.own := by
  unfold State.hookCnt
  repeat' (first | (simp -implicitDefEqProofs only [ite_own, ite1_own, ite2_own, foldl_own, foldl1_own, foldl2_own, ite_self, implies_true, own_mk, State.badAcc_own, State.freezeCtl_own, State.snapCtl_own, *]; done) | split | (refine (foldl_own _ _ _ (fun t a => ?_)).trans ?_) | (refine (foldl1_own _ _ _ (fun t a => ?_)).trans ?_) | (refine (foldl2_own _ _ _ (fun t a => ?_)).trans ?_) | (simp -implicitDefEqProofs only [ite_own, ite1_own, ite2_own, foldl_own, foldl1_own, foldl2_own, ite_self, implies_true, own_mk, State.badAcc_own, State.freezeCtl_own, State.snapCtl_own, *]))
theorem State.put_own (s : State) (who p o : Nat) (r : Row) (w : Word) : (State.put s who p o r w).own = s.own := by
  unfold State.put; (repeat' split) <;> simp -implicitDefEqProofs only [ite_own, ite1_own, ite2_own, foldl_own, foldl1_own, foldl2_own, ite_self, implies_true, own_mk, State.cntClr_own, State.evtCtl_own, State.hookBlg_own, State.hookCnt_own, State.hookDev_own, State.hookDma_own, State.hookDrc_own, State.hookFlt_own, State.hookHdr_own, State.hookHst_own, State.hookKey_own, State.hookLrn_own, State.hookMsc_own, State.hookPg_own, State.hookPwr_own, State.hookSch_own, State.hookTbl_own, State.hookTim_own, State.hookTmg_own, State.reclaimWr_own, State.regPut_own, State.resyncPoll_own, State.rxStates_own, State.verCtl_own, State.xokAll_own, State.zero_own]
theorem State.busyGate_own (s : State) (page : Nat) (r : Row) (w : Word) (g : State → Word → State) (hg : ∀ t0 t1, (g t0 t1).own = t0.own) : (State.busyGate s page r w g).own = s.own := by
  unfold State.busyGate
  repeat' (first | (simp -implicitDefEqProofs only [ite_own, ite1_own, ite2_own, foldl_own, foldl1_own, foldl2_own, ite_self, implies_true, own_mk, State.badAcc_own, *]; done) | split | (refine (foldl_own _ _ _ (fun t a => ?_)).trans ?_) | (refine (foldl1_own _ _ _ (fun t a => ?_)).trans ?_) | (refine (foldl2_own _ _ _ (fun t a => ?_)).trans ?_) | (simp -implicitDefEqProofs only [ite_own, ite1_own, ite2_own, foldl_own, foldl1_own, foldl2_own, ite_self, implies_true, own_mk, State.badAcc_own, *]))
theorem State.rwsWide_own (s : State) (who lo v : Nat) (f : Nat × Nat) : (State.rwsWide s who lo v f).own = s.own := own_of_keep (by rw [State.rwsWide_keep])
theorem State.commitPair_own (s : State) (who p o : Nat) (rl rh : Row) (low : Option Word) (high : Word) : (State.commitPair s who p o rl rh low high).own = s.own := own_of_keep (by rw [State.commitPair_keep])
theorem State.holdLow_own (s : State) (who key : Nat) (w : Word) : (State.holdLow s who key w).own = s.own := own_of_keep (by rw [State.holdLow_keep])
theorem State.takeHeld_own (s : State) (who key : Nat) : (State.takeHeld s who key).2.own = s.own := own_of_keep (by rw [State.takeHeld_keep])
theorem State.write0_own (s : State) (who p o : Nat) (w : Word) : (State.write0 s who p o w).own = s.own := by
  unfold State.write0; (repeat' split) <;> simp -implicitDefEqProofs only [ite_own, ite1_own, ite2_own, foldl_own, foldl1_own, foldl2_own, ite_self, implies_true, own_mk, State.absentWrite_own, State.blkctlWr_own, State.busyGate_own, State.commitPair_own, State.holdLow_own, State.put_own, State.takeHeld_own]
theorem State.write2_own (s : State) (u o : Nat) (w : Word) : (State.write2 s u o w).own = s.own := own_of_keep (by rw [State.write2_keep])
theorem State.write4_own (s : State) (u o : Nat) (w : Word) : (State.write4 s u o w).own = s.own := own_of_keep (by rw [State.write4_keep])
theorem State.recError_own (s : State) (code : Nat) : (State.recError s code).own = s.own := by
  simp -implicitDefEqProofs only [State.recError, ite_own, ite1_own, ite2_own, foldl_own, foldl1_own, foldl2_own, ite_self, implies_true, own_mk, State.loadFails_own, State.setF_own]
theorem State.recDone_own (s : State) (n : Nat) : (State.recDone s n).own = s.own := by
  simp -implicitDefEqProofs only [State.recDone, ite_own, ite1_own, ite2_own, foldl_own, foldl1_own, foldl2_own, ite_self, implies_true, own_mk]
theorem State.recWrite_own (s : State) (opt : Bool) (a : Nat) (w : Nat) : (State.recWrite s opt a w).1.own = s.own := by
  simp -implicitDefEqProofs only [State.recWrite, ite_own, ite1_own, ite2_own, foldl_own, foldl1_own, foldl2_own, ite_self, implies_true, own_mk, State.write0_own]
theorem State.recWrites_own (s : State) (opt : Bool) (a : Nat) (ws : List Nat) : (State.recWrites s opt a ws).1.own = s.own := by
  induction ws generalizing s a with
  | nil => rfl
  | cons w t ih =>
    unfold State.recWrites
    simp only
    split
    · rw [ih]; simp -implicitDefEqProofs only [ite_own, ite1_own, ite2_own, foldl_own, foldl1_own, foldl2_own, ite_self, implies_true, own_mk, State.recWrite_own]
    · simp -implicitDefEqProofs only [ite_own, ite1_own, ite2_own, foldl_own, foldl1_own, foldl2_own, ite_self, implies_true, own_mk, State.recWrite_own]
theorem State.recStore_own (s : State) (r : Rec) (a lines : Nat) (ws : List Nat) : (State.recStore s r a lines ws).own = s.own := by
  simp -implicitDefEqProofs only [State.recStore, ite_own, ite1_own, ite2_own, foldl_own, foldl1_own, foldl2_own, ite_self, implies_true, own_mk, State.recDone_own, State.recError_own, State.recWrites_own]
theorem State.onRecord_own (s : State) (op : Nat) (polling : Bool) (g : State → Rec → State) (hg : ∀ t0 t1, (g t0 t1).own = t0.own) : (State.onRecord s op polling g).own = s.own := by
  unfold State.onRecord
  repeat' (first | (simp -implicitDefEqProofs only [ite_own, ite1_own, ite2_own, foldl_own, foldl1_own, foldl2_own, ite_self, implies_true, own_mk, State.recError_own, *]; done) | split | (refine (foldl_own _ _ _ (fun t a => ?_)).trans ?_) | (refine (foldl1_own _ _ _ (fun t a => ?_)).trans ?_) | (refine (foldl2_own _ _ _ (fun t a => ?_)).trans ?_) | (simp -implicitDefEqProofs only [ite_own, ite1_own, ite2_own, foldl_own, foldl1_own, foldl2_own, ite_self, implies_true, own_mk, State.recError_own, *]))
theorem State.applied_own (s : State) : (State.applied s).own = s.own := by
  simp -implicitDefEqProofs only [State.applied, ite_own, ite1_own, ite2_own, foldl_own, foldl1_own, foldl2_own, ite_self, implies_true, own_mk, State.irq_own, State.loadEnds_own, State.setF_own, State.valBegin_own, State.wr_own]
end Sys2Proof.Machine
end

