-- ==== Sys2Proof/WellFormed.lean ====
section
/-! DEFINITION. Which commands name something the hardware has: operands whose types do not already say so. -/

namespace Sys2Proof

/-- A BAR2 or BAR4 offset lies in the function's 64 KiB (R30). -/
def Bar.holds (b : Bar) (off : Offset) : Bool :=
  match b with
  | .bar0 => true
  | .bar2 | .bar4 => decide (off.toNat < 65536)

/-- An offset is word aligned (R31) and in its BAR. -/
def offsetOk (b : Bar) (off : Offset) : Bool := off.toNat % 4 == 0 && b.holds off

/-- A frame as it arrives at a MAC: not empty, and no longer than the 16,383 B that MAXLEN can name plus its 4 B
FCS and a doubling for an errored frame that does not end. -/
def frameOk (l : List Byte) : Bool := !l.isEmpty && decide (l.length ≤ 32768)

/-- The operands of a command name something the hardware has. -/
def Instr.wellFormed : Instr → Bool
  | .regWrite _ b o _ => offsetOk b o
  | .pairLowRead _ b o => offsetOk b o
  | .pairLowWrite _ b o _ => offsetOk b o
  | .pairHighWrite _ b o _ => offsetOk b o
  | .counterClear _ b o _ => offsetOk b o
  | .keyErase _ b _ => decide (b ≠ .bar4)
  | .frameReceived _ l _ => frameOk l
  | .pfcReceived _ l _ => frameOk l
  | .pauseReceived _ l _ => frameOk l
  | .imageReadDone l => decide (l.length ≤ 8388608)
  | .tableScrub _ r fl => decide (r < 8388608) && fl.all fun b => decide (b < 512)
  | .supplySample c v => decide (c ≤ 2047) && decide (v.length = 8) && v.all fun x => decide (x ≤ 4095)
  | .thermalRead t => decide (t.length = 16) && t.all fun x => decide (x ≤ 255)
  | .avsCurrentRead a _ => decide (a ≤ 1023)
  | _ => true

end Sys2Proof
end

