-- ==== Sys2Proof/Tests/Slice0.lean ====
section
/-! SUPPORT. The package's own tests: states that meet the statements' hypotheses, terms the checks refuse, and single
commands on small states. -/

namespace Sys2Proof.Tests
open Sys2Proof Sys2Proof.Machine

-- One theorem at a time: each is evaluated by the kernel, and side by side their threads' stacks fill the memory.
set_option Elab.async false

/-! ## Small states -/

/-- A record's sixteen bytes (R62). -/
def recB (op fl cnt addr a b : Nat) : List Byte :=
  leBytes 1 op ++ leBytes 1 fl ++ leBytes 2 cnt ++ leBytes 4 addr ++ leBytes 4 a ++ leBytes 4 b
/-- LOAD with a section's bytes at hand. -/
def ldS (l : List Byte) : State :=
  { State.reset with dev := { state := .load, loader := { phase := .applying, sections := [l], serial := 77 } } }
/-- The loader polls until d. -/
def polls (s : State) (d : Nat) : State := { s with dev := { s.dev with loader := { s.dev.loader with phase := .polling d } } }
/-- A state in which the device is in `st`. -/
def inSt (st : DevState) : State :=
  ({ State.reset with dev := { state := st, plls := true, fused := true, detect := true, cfgReady := true } } : State).setB TIM.STAT 0
/-- A block page made RUNNING. -/
def runs (s : State) (p : Nat) : State := (s.wr (HDR.BLKCTL p) 1).setBlk p { st := .running }
/-- An image with one CONFIG section that holds END alone. -/
def emptyImage : List Byte := beBytes 160 0x5354524c01004000a00000000032020100000000000000004d00000000000000000000000000000000000000000000000000000000000000000000003b0da7fe0100000010000000d579691e000000000f0000000000000000000000000000000200000030000000a673f2840000000028668d0abf8211c45a45b11c16dd3232a1a2ce178ec8ffce7a66cacef88d2b23047976a2f282849004a5ec5979e55214
/-- RUN with port group g RUNNING in mode 5 (one lane of 100 Gb/s a port) and port p enabled, UP and locked. -/
def upS (p : Nat) : State :=
  let s := (runs (inSt .run) (pgPG (pgOf p))).wr (PG.MODE (pgOf p)) 5
  (s.setF (PG.PORTCFG (pgOf p) (slotOf p)) 0 0 1).setPort p { link := .up, lock := true, lockAt := some 0 }
/-- A frame of n + 14 bytes and its FCS. -/
def frameB (ty n : Nat) : List Byte :=
  let b := List.replicate 6 0x22 ++ List.replicate 6 0x33 ++ beBytes 2 ty ++ List.replicate n 0x44
  b ++ fcsOf b
/-- A MAC control frame with its FCS. -/
def ctlB (body : List Byte) : List Byte :=
  let b := pauseDa ++ List.replicate 6 0x33 ++ [0x88, 0x08] ++ body
  let b := b ++ List.replicate (60 - b.length) 0
  b ++ fcsOf b
/-- Staged command words. -/
def cmdS (s : State) (ws : List Word) : State := ws.zipIdx.foldl (fun t e => t.wr (TBL.CMDW e.2) e.1) s
/-- HELD with TBL RUNNING and partition 2 of the East half enabled with five 2-word keys a row and 1,024 rows. -/
def tblS (ws : List Word) : State := cmdS ((runs (inSt .held) pgTBL).wr (TBL.H_CFG0 0 2) 0x51) ws
/-- The same with partition 2 of the West half enabled too. -/
def tblW (ws : List Word) : State := (tblS ws).wr (TBL.H_CFG0 1 2) 0x51
/-- A state with one hash entry written in a half. -/
def entH (h : Nat) (s : State) (mem row i ctl key : Nat) : State := s.rowPut h mem row (entPut ((s.half h).row mem row) 0 i ctl key)
/-- A state with one hash entry written. -/
def entS (s : State) (mem row i ctl key : Nat) : State := s.rowPut 0 mem row (entPut (s.tbl.east.row mem row) 0 i ctl key)
/-- The first row of the key 0x11223344_00005566 in partition 2 of tblS. -/
def keyRow0 : Nat := (((tblS []).partn 0 2).rowsOf [0x11223344, 0x5566]).1
/-- A capacity notice (R247). -/
def noticeB (port cap at_ seq : Nat) : List Byte :=
  let l := beBytes 11 (port * 2 ^ 80 + cap * 2 ^ 69 + 8 * 2 ^ 64 + at_ * 2 ^ 16 + seq)
  l ++ [BitVec.ofNat 8 (crc8 l)]
/-- A shimmed frame of group 5, member 3, without its FCS. -/
def shimW (seq : Nat) (hb eob : Bool) : List Byte :=
  let et : List Byte := [0x88, 0xB5]
  List.replicate 12 0x22 ++ et ++ shimBytes et 5 3 0 1 seq hb hb eob ++ List.replicate 46 0x77
/-- Port 9 as member 3 of group 5, in TXSTATE st, with capacity 100. -/
def bondS (st : Nat) : State :=
  (runs (upS 9) pgBLG |>.wr (BLG.GCFG 5) 1 |>.wr (BLG.MCFG 5 3) 0x13 |>.setF (BLG.MSTAT 5 3) 2 0 st |>.wr (SCH.CAP 83) 0x9010064
    |>.wr (BLG.ETYPE 1) 0x800 |>.wr BLG.CNEN 1 |>.wr (BLG.INITCAP 5 3) 100)
/-- A DMA descriptor (R335). -/
def descB (src dst len w5 : Nat) : List Byte := leBytes 8 src ++ leBytes 8 dst ++ leBytes 4 len ++ leBytes 4 w5 ++ leBytes 8 0
/-- The PF with DMA channel 7, queue pair 2 and Bus Master Enable, DMA channel 7's ring of 64 entries at 4096. -/
def dmaS : State :=
  { (runs (inSt .run) pgDMA |>.wr (HST.FUNC 0) 0x127 |>.wr (DMA.DCTL 7) 1 |>.wr (DMA.PIDX 7) 3 |>.wr (DMA.RINGLO 7) 4096 |>.wr (DMA.RINGSIZE 7) 6) with
    pci := { bme := [0] } }
/-- The PF with queue pair 2 RUNNING both ways on piste 0, rings at 4096 and 8192, buffers of 256 bytes. -/
def cpuS : State :=
  { (runs (inSt .run) (pgIP 0) |>.wr (HST.FUNC 0) 0x127 |>.wr (USER.QPCFG 0 2) 0x593 |>.wr (USER.TXRING_LO 0 2) 4096
      |>.wr (USER.RXRING_LO 0 2) 8192 |>.wr (IDX.TXPIDX 0 2) 3 |>.wr (IDX.RXPIDX 0 2) 3 |>.wr (HST.INJRATE 0) 100) with pci := { bme := [0] } }
/-- A wrapped key for user 5, local slot 7 (R286), under a device secret of 32 bytes 0x5D. -/
def blobW : List Byte := beBytes 64 0x7b411c1fe1c993b55caa738b5bf6710be0d5d35e60f999deef058d36627377d1434bde625e5270282be38eca911868a1b64607b020b463349f108f0a30db405b
/-- KEY RUNNING in RUN with the key agent's port on, user 5 with 256 slots from 0x1200, and 8 VFs. -/
def keyS : State :=
  let s := (runs (inSt .run) pgKEY).wr KEY.CFG 1 |>.wr (KEY.UMAP0 5) 0x1200 |>.wr (KEY.UMAP1 5) 256
  { s with pci := { vfEn := true, numVfs := 8 }, fuses := { s.fuses with ds := some (List.replicate 32 0x5d) } }
/-- A KEYSPI transaction with its CRC-32C. -/
def crcB (l : List Byte) : List Byte := l ++ beBytes 4 (crc32c l).toNat
/-- DRC and every channel of a KD2400B RUNNING and READY on set A, 32 GiB of DRAM fitted, with requests. -/
def drcS (l : List DReq) : State :=
  let b : Blk := { st := .running }
  let s := inSt .run
  { s with
    dev := { s.dev with straps := 0x1080 }, drc := { reqs := l, next := 9, ever := true },
    blks := (pgDRC, b) :: (List.range 64).map fun n => (pgDC n, b),
    regs := s.regs ++ [(HDR.BLKCTL pgDRC, 1), (DRC.STAT, 1)] ++
      (List.range 64).flatMap fun n => [(HDR.BLKCTL (pgDC n), 1), (DC.DCSTAT n, 2)] }
/-- RUN with faults on their way to the hub. -/
def fltS (l : List FltEv) : State := { inSt .run with flt := { events := l } }
/-- RUN with the core rail set to 740 mV, watched 40 mV below, 60 mV below and 50 mV above, and VMON0 watched. -/
def pwrS : State :=
  inSt .run |>.wr PWR.AVSSTAT 740 |>.wr PWR.CORETH 0x323C28 |>.wr PWR.FILT 0x50003 |>.wr (PWR.VMONTH0 0) 0x40004B0 |>.wr (PWR.VMONTH1 0) 0x10514
/-- RUN with EVT RUNNING, lane 0 up, and a role. -/
def evtS (role : Nat) : State :=
  let s := ({ runs (inSt .run) pgEVT with dev := { (inSt .run).dev with straps := 0x20 } } : State)
  s.setF EVT.STAT 10 0 (1024 + 64 + role)
/-- The PF with MSI-X enabled; its first 64 vectors open, or all masked. -/
def msixS (s : State) (masked : Bool) : State :=
  { s with pci := { s.pci with msixEn := [0], bme := [0], vecOpen := if masked then [] else List.range 64 } }
/-- The East rows of the key at the head of the East inserts, locked. -/
def lockedBoth (s : State) : State :=
  let i := (s.half 0).inserts.headD {}
  let r := (s.partn 0 i.part).rowsOf [i.key.toNat / 4294967296, i.key.toNat % 4294967296]
  (s.rowPut 0 0 r.1 1).rowPut 0 1 r.2 1
/-- A packet granted to port 9, and its egress piste with that packet alone in front. -/
def egrK : Pkt := { bytes := frameB 0x800 50, m := { template := 3, userData := 5 } }
def egrS (s : State) (k : Pkt) : State := s.setEp 1 { inq := [(9, k)] }
/-- The state in which its stages run, and the one that they leave. -/
def egrV (s : State) (k : Pkt) : State :=
  ((s.setEp 1 {}).event (pgEP 1) 0x100 1 fun _ => true).event (pgEP 1) 0x101 k.len fun _ => true
def egrU (s : State) (k : Pkt) : State :=
  ((List.range 8).foldl (State.egrStage 1 k) (egrV s k, { tpl := k.m.template, ud := k.m.userData.toNat })).1
/-- A first egress stage that sends every packet to the Lift. -/
def liftS : State := egrS (runs (runs (upS 9) 0x41) 0x21 |>.wr (EP.STAGECFG 1 0) 1 |>.wr (EP.MISSACT 1 0 0) 0x1000000) egrK
def shimS : State := egrS (runs (upS 9) 0x41) { egrK with shim := some { group := 5, member := 3, seq := 77 } }
/-- Port 9 protected by SecY 2, whose SA 0 has a 128-bit key. -/
def encS : State :=
  let s := runs (runs (upS 9) 0x41) pgMSC |>.wr (PG.SECEN 1) 0xFF |>.wr (MSC.PORT 9) 2 |>.wr (MSC.SECYCFG 2) 0x813
    |>.wr (MSC.SACFG0 8) 0x10007 |>.wr (MSC.NEXTPN_LO 8) 5 |>.wr (MSC.PNLIMIT_LO 2) 0xFFFF |>.wr (MSC.SCI_LO 2) 9
    |>.wr (MSC.PNTHRESH_LO 2) 0xFFFF
  egrS { s with key := { s.key with slots := [(7, { key := some (List.replicate 16 7) })] } } egrK

/-! ## The hypotheses of each statement hold together -/

theorem hyps_RegisterAccessesComplete :
  (
    let p : PageId := 7;
    let s : State := (State.reset.irq 7 0);
    s.dev.state ≠ .load ∧ s.present p = true) ∧
  (
    let u : Fn := 0;
    let q : Fin 8 := 7;
    let s : State := (State.reset.wr (HST.FUNC 0) 0x2000).wr (USER.QPCFG 0 7) 0x14;
    s.fnHere u = true ∧ s.qpMask u q = true) ∧
  (
    let u : Fn := 0;
    let s : State := (State.reset.wr (HDR.IRQMASK 0) 0);
    s.fnHere u = true) ∧
  (
    let off : Offset := 0x70114;
    let r : Row := ⟨"STEP_LO", 0x114, 1, 0x1, 1, 0x1, true, none, [⟨31, 0, .rw, 0, .any⟩]⟩;
    let s : State := State.reset.setPath 0 { held := some (0x70200, 1) };
    s.dev.state ≠ .load ∧ s.present (off.toNat / 65536) = true ∧ off.toNat % 4 = 0 ∧
    pageRow (off.toNat / 65536) (off.toNat % 65536) = some r ∧ r.pair = true) ∧
  (
    let n : Fin 16 := 15;
    let lo : Word := 5;
    let s : State := State.reset.setPath 0 { held := some (TIM.TGT_LO 15, 5) };
    s.dev.state ≠ .load ∧ s.fb (TIM.TMRCTL n) 0 = false ∧ (s.path 0).held = some (TIM.TGT_LO n, lo)) := by
  refine ⟨?_, ?_, ?_, ?_, ?_⟩ <;> decide +kernel

theorem hyps_VfHasNoBar0 :
  (
    let u : Fn := 63;
    u ≠ 0) := by
  decide +kernel

theorem hyps_AbsentPages :
  (
    let off : Offset := 0x340100;
    let s : State := State.reset;
    s.present (off.toNat / 65536) = false ∧ off.toNat % 4 = 0) ∧
  (
    let off : Offset := 0xFF0100;
    let s : State := State.reset;
    s.present (off.toNat / 65536) = false ∧ off.toNat % 4 = 0 ∧ s.dev.state ≠ .load) ∧
  (
    let off : Offset := 0x340100;
    let s : State := { State.reset with dev := { state := .load } };
    s.present (off.toNat / 65536) = false ∧ off.toNat % 4 = 0 ∧ s.dev.state = .load) ∧
  (
    let u : Fn := 5;
    let off : Offset := 0x4110;
    let s : State := { State.reset with fuses := { part := .kd3200n }, pci := { vfEn := true, numVfs := 9 }, acc := [(5, { latch := some (0x10410C, 5) })] };
    s.fnHere u = true ∧ (0x4000 ≤ off.toNat ∧ off.toNat < 0x8000) ∧ s.present (userUnit off.toNat) = false ∧
    off.toNat % 4 = 0) ∧
  (
    let u : Fn := 5;
    let off : Offset := 0x4100;
    let s : State := { State.reset with fuses := { part := .kd3200n }, pci := { vfEn := true, numVfs := 9 } };
    s.fnHere u = true ∧ s.present (userUnit off.toNat) = false ∧ (findRow rowsUSER off.toNat).isSome = true ∧
    (off.toNat % 4 = 0 ∧ off.toNat < 65536) ∧ s.dev.state ≠ .load) ∧
  (
    let u : Fn := 0;
    let off : Offset := 0xFFFC;
    let s : State := State.reset;
    s.fnHere u = true ∧ s.notMine u off.toNat = false ∧ findRow rowsUSER off.toNat = none ∧ (off.toNat % 4 = 0 ∧
    off.toNat < 65536) ∧ s.dev.state ≠ .load) := by
  refine ⟨?_, ?_, ?_, ?_, ?_, ?_⟩ <;> decide +kernel

theorem hyps_LoadDropsHostWrites :
  (
    let off : Offset := 0x70110;
    let s : State := { State.reset with dev := { state := .load } };
    s.dev.state = .load ∧ off.toNat % 4 = 0 ∧ off.toNat ≠ DEV.LOADCTL ∧ off.toNat ≠ DEV.RSTCTL) ∧
  (
    let u : Fn := 0;
    let off : Offset := 0x2000;
    let s : State := { State.reset with dev := { state := .load } };
    s.dev.state = .load ∧ s.fnHere u = true ∧ off.toNat % 4 = 0 ∧ off.toNat < 65536) ∧
  (
    let w : Word := 0xC1EA;
    let s : State := { State.reset with dev := { state := .load, straps := 9 } };
    s.dev.state = .load ∧ fld w 15 0 = 0xC1EA) := by
  refine ⟨?_, ?_, ?_⟩ <;> decide +kernel

theorem hyps_RwsFields :
  (
    let s : State := { State.reset with dev := { sealed := true } };
    let who : Nat := 64;
    let key : Nat := 0x100;
    let f : Field := ⟨7, 4, .rws, 0, .any⟩;
    let v : Nat := 0;
    (v = s.f key f.hi f.lo ∨ s.rwsFree who = true ∧ f.limit (s.f key f.hi f.lo) v = s.f key f.hi f.lo)) ∧
  (
    let s : State := { State.reset with dev := { sealed := true } };
    let who : Nat := 64;
    let key : Nat := 0x70100;
    let f : Field := ⟨7, 4, .rws, 0, .any⟩;
    let v : Nat := 3;
    key ∉ [DEV.CFGGEN, DEV.VALSTAT, DEV.SEALREJ, DEV.SEALREJADDR, HDR.IRQSTAT pgDEV] ∧ v ≠ s.f key f.hi f.lo ∧
    (s.dev.sealed = true ∨ s.secureBoot = true ∧ who ≠ whoLoader)) ∧
  (
    let s : State := State.reset.wr DEV.VALSTAT 2;
    let who : Nat := 0;
    let key : Nat := 0x70100;
    let f : Field := ⟨7, 4, .rws, 0, .any⟩;
    let v : Nat := 3;
    let n : Nat := 3;
    (f.lo ≤ f.hi ∧ f.hi < 32) ∧ key ∉ [DEV.CFGGEN, DEV.VALSTAT, DEV.SEALREJ, DEV.SEALREJADDR, HDR.IRQSTAT pgDEV] ∧
    v ≠ s.f key f.hi f.lo ∧ s.dev.sealed = false ∧ (who = whoLoader ∨ s.secureBoot = false) ∧
    f.limit (s.f key f.hi f.lo) v = n ∧ n ≠ s.f key f.hi f.lo ∧ n < 2 ^ (f.hi + 1 - f.lo)) ∧
  (
    let lo : Nat := 2;
    let hi : Nat := 9;
    lo ≤ hi) ∧
  (
    let s : State := { State.reset with dev := { sealed := true } };
    let lo : Nat := 0x70104;
    let v : Nat := 0xF;
    let h : Fin 64 := 63;
    let l : Fin 64 := 4;
    nbits v h l = nbits (s.rd64 lo (lo + 4)) h l) ∧
  (
    let s : State := { State.reset with dev := { sealed := true } };
    let who : Nat := 64;
    let lo : Nat := 0x70104;
    let v : Nat := 0xF;
    let h : Fin 64 := 63;
    let l : Fin 64 := 3;
    lo ∉ [DEV.CFGGEN, DEV.VALSTAT, DEV.SEALREJ, DEV.SEALREJADDR, HDR.IRQSTAT pgDEV] ∧
    nbits v h l ≠ nbits (s.rd64 lo (lo + 4)) h l ∧ (s.dev.sealed = true ∨ s.secureBoot = true ∧ who ≠ whoLoader)) ∧
  (
    let s : State := (State.reset.wr 0x70104 0xABCDEF01).wr 0x70108 0x55555555;
    let who : Nat := 0;
    let lo : Nat := 0x70104;
    let v : Nat := 0x123456789ABCDEF0;
    let h : Fin 64 := 47;
    let l : Fin 64 := 12;
    l.val ≤ h.val ∧ (lo ∉ [DEV.CFGGEN, DEV.VALSTAT, DEV.SEALREJ, DEV.SEALREJADDR, HDR.IRQSTAT pgDEV] ∧
    lo + 4 ∉ [DEV.CFGGEN, DEV.VALSTAT, DEV.SEALREJ, DEV.SEALREJADDR, HDR.IRQSTAT pgDEV]) ∧
    nbits v h l ≠ nbits (s.rd64 lo (lo + 4)) h l ∧ s.dev.sealed = false ∧ (who = whoLoader ∨ s.secureBoot = false)) := by
  refine ⟨?_, ?_, ?_, ?_, ?_, ?_, ?_⟩ <;> decide +kernel

theorem hyps_BlockStatesComplete :
  (
    let page : PageId := 0x13;
    let w : Word := 1;
    let s : State := State.reset;
    s.dev.state ≠ .load ∧ s.hasStates page = true ∧ s.rwsFree 0 = true ∧ (s.blk page).st = .disabled ∧
    (s.blk page).fltq = false ∧ s.fb (HDR.BLKCTL page) 0 = false ∧ fld w 2 0 = 1) ∧
  (
    let page : PageId := 0x20;
    let w : Word := 3;
    let s : State := State.reset;
    s.dev.state ≠ .load ∧ s.hasStates page = true ∧ s.rwsFree 0 = true ∧ (s.blk page).st = .disabled ∧
    s.fb (HDR.BLKCTL page) 0 = false ∧ fld w 2 0 = 3) ∧
  (
    let page : PageId := 0x13;
    let w : Word := 3;
    let s : State := (State.reset.wr (HDR.BLKCTL 0x13) 1).setBlk 0x13 { st := .running };
    s.dev.state ≠ .load ∧ (kindOf page = some (.ver, 0) ∨ kindOf page = some (.tcm, 0)) ∧ (s.blk page).st = .running ∧
    s.blkWork page = false ∧ s.fb (HDR.BLKCTL page) 0 = true ∧ fld w 2 0 = 3 ∧
    (s.flt.waits.all fun w => w.page ≠ page) = true) ∧
  (
    let page : PageId := 0x13;
    let w : Word := 5;
    let s : State := ({ ((State.reset.wr (HDR.BLKCTL 0x13) 1).wr (HDR.CNTLO 0x13 3) 9).setBlk 0x13 { st := .running } with dev := { state := .held } }).wr (HDR.IRQSTAT 0x13) 3;
    s.dev.state ≠ .load ∧ (kindOf page = some (.ver, 0) ∨ kindOf page = some (.tcm, 0)) ∧
    ((s.blk page).st = .quiesced ∨ (s.blk page).st = .running) ∧ s.busy page = false ∧
    s.fb (HDR.BLKCTL page) 0 = true ∧ fld w 0 0 = 1 ∧ fld w 2 2 = 1) ∧
  (
    let page : PageId := 0x60;
    let w : Word := 4;
    let s : State := ((({ State.reset with dev := { state := .held } }).wr (HDR.BLKCTL 0x60) 1).setBlk 0x60 { st := .draining, qto := true });
    s.dev.state ≠ .load ∧ s.hasStates page = true ∧ s.busy page = false ∧ fld w 2 2 = 1) ∧
  (
    let page : PageId := 0x0D;
    let s : State := ((State.reset.wr (HDR.BLKCTL 0x0D) 3).setBlk 0x0D { st := .draining, qto := true });
    s.hasStates page = true ∧ (s.blk page).st = .draining ∧ s.blkWork page = false ∧ s.fb (HDR.BLKCTL page) 0 = true ∧
    s.request page = true ∧ (s.flt.waits.all fun w => w.page ≠ page) = true) ∧
  (
    let page : PageId := 0x60;
    let s : State := (State.reset.setBlk 0x60 { st := .draining, qto := true });
    s.hasStates page = true ∧ (s.blk page).st = .draining ∧ s.blkWork page = false ∧
    s.fb (HDR.BLKCTL page) 0 = false ∧ (s.flt.waits.all fun w => w.page ≠ page) = true) ∧
  (
    let page : PageId := 0x10;
    let i : Nat := 3;
    let k : Kind := .tbl;
    let n : Nat := 0;
    let s : State := ({ State.reset with tbl := { cmds := [{}] } }).setBlk 0x10 { st := .draining, since := 5 };
    s.hasStates page = true ∧ (s.blk page).st = .draining ∧ (s.blk page).qto = false ∧ s.blkWork page = true ∧
    kindOf page = some (k, n) ∧ qtoBit k = some i) ∧
  (
    let page : PageId := 0x33;
    let s : State := State.reset.setBlk 0x33 { st := .resetting };
    s.hasStates page = true ∧ (s.blk page).st = .resetting ∧ s.dev.state ≠ .fenced ∧ s.resetBusy page = false ∧
    s.request page = true ∧ (s.flt.waits.all fun w => w.page ≠ page) = true) ∧
  (
    let page : PageId := 0x8F;
    let s : State := (State.reset.wr (HDR.BLKCTL 0x8F) 1).setBlk 0x8F { st := .resetting };
    s.hasStates page = true ∧ (s.blk page).st = .resetting ∧ s.dev.state ≠ .fenced ∧ s.resetBusy page = false ∧
    s.request page = false ∧ (s.flt.waits.all fun w => w.page ≠ page) = true) := by
  refine ⟨?_, ?_, ?_, ?_, ?_, ?_, ?_, ?_, ?_, ?_⟩ <;> decide +kernel

theorem hyps_CountersComplete :
  (
    let s : State := ({ State.reset with dev := { state := .held } }.badAcc).absentWrite 0 0 0;
    s.dev.state ≠ .load ∧ s.busy pgDEV = false) ∧
  (
    let s : State := ({ State.reset with dev := { state := .held } }).bump VER.STALLS;
    s.dev.state ≠ .load ∧ s.busy pgVER = false) ∧
  (
    let page : PageId := 0x20;
    let k : Kind := .ip;
    let g : Nat := 0;
    let s : State := ({ State.reset with dev := { state := .held } }).wr (HDR.CNTHI 0x20 7) 3;
    s.dev.state ≠ .load ∧ s.present page = true ∧ kindOf page = some (k, g) ∧ s.busy page = false) ∧
  (
    let s : State := { ((({ State.reset with dev := { state := .held } }).setBlk 4 { st := .running }).wr (HDR.CNTLO 0x20 3) 77).wr (HDR.CSEL 2 1) 0x1000001 with cnt := { sweepDue := 5000, accs := [(8 * 0x20 + 3, { acc := 10, last := 80 })] } };
    s.running pgCNT = true) ∧
  (
    let w : Word := 1;
    let s : State := ((({ State.reset with dev := { state := .held }, tim := { count := 5000 } }).setBlk 4 { st := .running }).wr CNT.SNAPAT_LO 5999);
    s.dev.state ≠ .load ∧ s.running pgCNT = true ∧ s.cnt.snap = none ∧ fld w 0 0 = 1) ∧
  (
    let p : Snap := { at_ := 3000 };
    let s : State := { (({ State.reset with dev := { state := .held } }).setBlk 4 { st := .running }).wr (HDR.CNTLO 0x20 3) 77 with cnt := { snap := some { at_ := 3000 }, accs := [(8 * 0x20 + 3, { acc := 10, last := 80 })] } };
    s.cnt.snap = some p ∧ p.latched = none ∧ s.tai ≤ p.at_) ∧
  (
    let p : Snap := { at_ := 3000, latched := some (3001, [(5, 9), (8, 2)]) };
    let i : Nat := 3001;
    let vals : KMap Nat := [(5, 9), (8, 2)];
    let s : State := { State.reset with cnt := { snap := some { at_ := 3000, latched := some (3001, [(5, 9), (8, 2)]) }, accs := [(3, { snap := 4 }), (5, { acc := 2 })] } };
    s.cnt.snap = some p ∧ p.latched = some (i, vals) ∧ kwf vals = true) ∧
  (
    let w : Word := 3;
    let s : State := ((({ State.reset with dev := { state := .held }, tim := { count := 5000 } }).setBlk 4 { st := .running }).wr CNT.FREEZEAT_LO 6000);
    s.dev.state ≠ .load ∧ s.running pgCNT = true ∧ s.cnt.freeze = none ∧ fld w 0 0 = 1) ∧
  (
    let i : Nat := 700;
    let stop : Bool := true;
    let s : State := { State.reset with cnt := { freeze := some (700, true) } };
    s.cnt.freeze = some (i, stop)) := by
  refine ⟨?_, ?_, ?_, ?_, ?_, ?_, ?_, ?_, ?_⟩ <;> decide +kernel

theorem hyps_StartUpComplete :
  (
    let s : State := { State.reset with jtag := .extest, tim := { count := 6 } };
    s.resetLow = true) ∧
  (
    let t0 : Nat := 10000;
    let s : State := { State.reset with dev := { internal := some 10000 } };
    s.dev.internal = some t0 ∧ s.dev.state = .reset) ∧
  (
    let s : State := { State.reset with dev := { state := .strap } };
    s.dev.state = .strap ∧ s.dev.plls = false) ∧
  (
    let s : State := { State.reset with dev := { state := .strap, plls := true, straps := 0x8001 }, fuses := { mv := 750 } };
    s.dev.state = .strap ∧ s.dev.plls = true ∧ s.dev.fused = false) ∧
  (
    let s : State := { State.reset with dev := { state := .strap, plls := true, straps := 0x8001 }, fuses := { mv := 750 } };
    s.dev.state = .strap ∧ s.dev.plls = true ∧ s.dev.fused = false) ∧
  (
    let s : State := { State.reset with dev := { state := .strap, fused := true } };
    s.dev.fused = true) ∧
  (
    let s : State := { State.reset with dev := { state := .held, fused := true, detect := true } };
    s.dev.detect = true ∧ s.initialising = false) ∧
  (
    let s : State := { State.reset with dev := { state := .strap, fused := true, strapErr := 2 } };
    s.dev.state = .strap ∧ s.dev.fused = true ∧ s.dev.strapErr ≠ 0) ∧
  (
    let s : State := { State.reset with dev := { state := .strap, fused := true } };
    s.dev.state = .strap ∧ s.dev.fused = true ∧ s.dev.strapErr = 0 ∧ s.boot = 0) ∧
  (
    let s : State := { State.reset with dev := { state := .strap, fused := true, straps := 1 } };
    s.dev.state = .strap ∧ s.dev.fused = true ∧ s.dev.strapErr = 0 ∧ s.boot ≠ 0) := by
  refine ⟨?_, ?_, ?_, ?_, ?_, ?_, ?_, ?_, ?_, ?_⟩ <;> decide +kernel

theorem hyps_ResetsComplete :
  (
    let w : Word := 0xFFFFC1EA;
    let s : State := { State.reset.bump DEV.BADACC with dev := { state := .fenced, straps := 1 } };
    s.dev.state ≠ .reset ∧ fld w 15 0 = 0xC1EA) ∧
  (
    let w : Word := 0xC1EB;
    let s : State := { State.reset with dev := { state := .run } };
    s.dev.state ≠ .reset ∧ fld w 15 0 ≠ 0xC1EA) ∧
  (
    let c : Instr := .hotReset;
    (c = .hotReset ∨ c = .pcieLinkDown)) ∧
  (
    let u : Fn := 31;
    let s : State := ({ State.reset with pci := { vfEn := true, numVfs := 40, bme := [31, 4] } }.wr (USER.QPCFG 31 2) 5).wr (USER.QPCFG 32 0) 6;
    u ≠ 0 ∧ s.fnHere u = true) ∧
  (
    let width : Fin 4 := 0;
    let s : State := { State.reset with dev := { state := .held, fused := true, detect := true } };
    s.dev.detect = true ∧ 2 ^ width.val ≤ s.maxLanes) ∧
  (
    let fn : Fn := 0;
    let s : State := { State.reset with dev := { cfgReady := true }, pci := { bme := [0, 1] } };
    s.dev.cfgReady = true ∧ s.fnHere fn = true) ∧
  (
    let s : State := State.reset;
    s.dev.cfgReady = false) := by
  refine ⟨?_, ?_, ?_, ?_, ?_, ?_, ?_⟩ <;> decide +kernel

theorem hyps_LoaderComplete :
  (
    let image : List Byte := emptyImage;
    let secs : List (List Byte) := [recB 15 0 0 0 0 0];
    let s : State := { State.reset with dev := { state := .load, loader := { phase := .reading } } };
    s.dev.state = .load ∧ s.dev.loader.phase = .reading ∧ (s.verify image).toOption = some secs) ∧
  (
    let image : List Byte := [1, 2];
    let s : State := { State.reset with dev := { state := .load, loader := { phase := .reading } } };
    s.dev.state = .load ∧ s.dev.loader.phase = .reading ∧ s.dev.loader.secondary = false ∧
    (s.verify image).toOption = none) ∧
  (
    let image : List Byte := emptyImage.set 0x40 7;
    let r : Nat := 3;
    let i : Nat := 0;
    let s : State := { State.reset with dev := { state := .load, loader := { phase := .reading, secondary := true } } };
    s.dev.state = .load ∧ s.dev.loader.phase = .reading ∧ s.dev.loader.secondary = true ∧ s.secureBoot = false ∧
    (match s.verify image with | .error e => some e | .ok _ => none) = some (r, i)) ∧
  (
    let image : List Byte := [1, 2];
    let s : State := { State.reset with dev := { state := .load, straps := 0x0801, loader := { phase := .reading, secondary := true } } };
    s.dev.state = .load ∧ s.dev.loader.phase = .reading ∧ s.dev.loader.secondary = true ∧ s.secureBoot = true ∧
    (s.verify image).toOption = none) ∧
  (
    let image : List Byte := emptyImage;
    let s : State := { State.reset with dev := { straps := 0x0801 } };
    s.secureBoot = true ∧ bit (imgFlags image) 0 = false) ∧
  (
    let r : Rec := ⟨1, 0, 0, HDR.IRQMASK 7, 5, 0⟩;
    let p : PageId := 7;
    let s : State := ldS (recB 1 0 0 (HDR.IRQMASK 7) 5 0 ++ recB 15 0 0 0 0 0);
    s.dev.state = .load ∧ s.dev.loader.phase = .applying ∧ s.recHead = some r ∧ r.op = 1 ∧ r.addr = HDR.IRQMASK p ∧
    s.present p = true) ∧
  (
    let r : Rec := ⟨2, 0, 0, TIM.TGT_LO 3, 5, 6⟩;
    let n : Fin 16 := 3;
    let s : State := ldS (recB 2 0 0 (TIM.TGT_LO 3) 5 6 ++ recB 15 0 0 0 0 0);
    s.dev.state = .load ∧ s.dev.loader.phase = .applying ∧ s.recHead = some r ∧ r.op = 2 ∧ r.addr = TIM.TGT_LO n ∧
    s.fb (TIM.TMRCTL n) 0 = false ∧ (s.path whoLoader).held = none) ∧
  (
    let r : Rec := ⟨3, 0, 0, HDR.IRQMASK 7, 0xF0, 0xA5⟩;
    let p : PageId := 7;
    let s : State := ldS (recB 3 0 0 (HDR.IRQMASK 7) 0xF0 0xA5 ++ recB 15 0 0 0 0 0);
    s.dev.state = .load ∧ s.dev.loader.phase = .applying ∧ s.recHead = some r ∧ r.op = 3 ∧ r.addr = HDR.IRQMASK p ∧
    s.present p = true) ∧
  (
    let r : Rec := ⟨4, 0, 2, HDR.CSEL 7 1, 0x1000001, 0⟩;
    let u : State := ((ldS (recB 4 0 2 (HDR.CSEL 7 1) 0x1000001 0 ++ recB 15 0 0 0 0 0)).recWrites false (HDR.CSEL 7 1) [0x1000001, 0x1000001]).1;
    let s : State := ldS (recB 4 0 2 (HDR.CSEL 7 1) 0x1000001 0 ++ recB 15 0 0 0 0 0);
    s.dev.state = .load ∧ s.dev.loader.phase = .applying ∧ s.recHead = some r ∧ r.op = 4 ∧
    s.recWrites (bit r.flags 0) r.addr (List.replicate r.count r.a) = (u, true) ∧ u.dev = s.dev) ∧
  (
    let r : Rec := ⟨5, 0, 1, HDR.CSEL 7 1, 0, 0⟩;
    let u : State := ((ldS (recB 5 0 1 (HDR.CSEL 7 1) 0 0 ++ beBytes 16 0x01000001000000010200000103000001 ++ recB 15 0 0 0 0 0)).recWrites false (HDR.CSEL 7 1) [0x01000001, 0x01000000, 0x01000002, 0x01000003]).1;
    let s : State := ldS (recB 5 0 1 (HDR.CSEL 7 1) 0 0 ++ beBytes 16 0x01000001000000010200000103000001 ++ recB 15 0 0 0 0 0);
    s.dev.state = .load ∧ s.dev.loader.phase = .applying ∧ s.recHead = some r ∧ r.op = 5 ∧
    s.recWrites (bit r.flags 0) r.addr ((List.range (4 * r.count)).map fun i => leAt s.recBytes (16 + 4 * i) 4) = (u, true) ∧
    u.dev = s.dev) ∧
  (
    let a : Nat := 0x70110;
    let opt : Bool := false;
    let s : State := ldS [];
    s.dev.state = .load ∧ (opt || s.present (a / 65536)) = true) ∧
  (
    let r : Rec := ⟨6, 0, 3, HDR.IRQMASK 1, 0xFF, 0xFF⟩;
    let d : Nat := 0;
    let s : State := ldS (recB 6 0 3 (HDR.IRQMASK 1) 0xFF 0xFF ++ recB 15 0 0 0 0 0);
    s.dev.state = .load ∧ (s.dev.loader.phase = .applying ∨ s.dev.loader.phase = .polling d) ∧ s.recHead = some r ∧
    r.op = 6 ∧ (s.read0 whoLoader (r.addr / 65536) (r.addr % 65536)).1.toNat &&& r.a = r.b) ∧
  (
    let r : Rec := ⟨6, 0, 3, HDR.IRQMASK 1, 0xFF, 0xFE⟩;
    let s : State := ldS (recB 6 0 3 (HDR.IRQMASK 1) 0xFF 0xFE ++ recB 15 0 0 0 0 0);
    s.dev.state = .load ∧ s.dev.loader.phase = .applying ∧ s.recHead = some r ∧ r.op = 6 ∧
    (s.read0 whoLoader (r.addr / 65536) (r.addr % 65536)).1.toNat &&& r.a ≠ r.b ∧ r.count ≠ 0) ∧
  (
    let r : Rec := ⟨6, 0, 3, HDR.IRQMASK 1, 0xFF, 0xFE⟩;
    let d : Nat := 9000;
    let s : State := polls (ldS (recB 6 0 3 (HDR.IRQMASK 1) 0xFF 0xFE ++ recB 15 0 0 0 0 0)) 9000;
    s.dev.state = .load ∧ s.dev.loader.phase = .polling d ∧ s.recHead = some r ∧ r.op = 6 ∧
    (s.read0 whoLoader (r.addr / 65536) (r.addr % 65536)).1.toNat &&& r.a ≠ r.b ∧ r.count ≠ 0) ∧
  (
    let r : Rec := ⟨6, 0, 0, HDR.IRQMASK 1, 0xFF, 0xFE⟩;
    let s : State := ldS (recB 6 0 0 (HDR.IRQMASK 1) 0xFF 0xFE ++ recB 15 0 0 0 0 0);
    s.dev.state = .load ∧ s.dev.loader.phase = .applying ∧ s.recHead = some r ∧ r.op = 6 ∧
    (s.read0 whoLoader (r.addr / 65536) (r.addr % 65536)).1.toNat &&& r.a ≠ r.b ∧ r.count = 0 ∧ s.secureBoot = false) ∧
  (
    let d : Nat := 30000;
    let s : State := { State.reset with dev := { state := .load, loader := { phase := .polling 30000, sect := 2, recIx := 70000 } } };
    s.dev.state = .load ∧ s.dev.loader.phase = .polling d ∧ s.secureBoot = false) ∧
  (
    let d : Nat := 30000;
    let s : State := { State.reset with dev := { state := .load, straps := 0x0801, loader := { phase := .polling 30000, sect := 2, recIx := 7 } } };
    s.dev.state = .load ∧ s.dev.loader.phase = .polling d ∧ s.secureBoot = true) ∧
  (
    let r : Rec := ⟨7, 0, 0, 0, 9, 0⟩;
    let s : State := ldS (recB 7 0 0 0 9 0 ++ recB 15 0 0 0 0 0);
    s.dev.state = .load ∧ s.dev.loader.phase = .applying ∧ s.recHead = some r ∧ r.op = 7) ∧
  (
    let d : Nat := 9000;
    let s : State := { State.reset with dev := { state := .load, loader := { phase := .delaying 9000, sections := [recB 7 0 0 0 9 0 ++ recB 15 0 0 0 0 0] } } };
    s.dev.state = .load ∧ s.dev.loader.phase = .delaying d) ∧
  (
    let r : Rec := ⟨15, 0, 0, 0, 0, 0⟩;
    let s : State := { State.reset with dev := { state := .load, loader := { phase := .applying, sections := [recB 15 0 0 0 0 0, recB 15 0 0 0 0 0] } } };
    s.dev.state = .load ∧ s.dev.loader.phase = .applying ∧ s.recHead = some r ∧ r.op = 15 ∧
    2 ≤ s.dev.loader.sections.length) ∧
  (
    let r : Rec := ⟨15, 0, 0, 0, 0, 0⟩;
    let s : State := ldS (recB 15 0 0 0 0 0);
    s.dev.state = .load ∧ s.dev.loader.phase = .applying ∧ s.recHead = some r ∧ r.op = 15 ∧
    s.dev.loader.sections.length = 1 ∧ s.dev.loader.arm = false) ∧
  (
    let w : Word := 1;
    let s : State := ldS [];
    s.dev.state = .load ∧ s.secureBoot = false ∧ fld w 0 0 = 1) := by
  refine ⟨?_, ?_, ?_, ?_, ?_, ?_, ?_, ?_, ?_, ?_, ?_, ?_, ?_, ?_, ?_, ?_, ?_, ?_, ?_, ?_, ?_, ?_⟩ <;> decide +kernel

theorem hyps_SealFlowComplete :
  (
    let w : Word := 1;
    let s : State := inSt .held;
    s.dev.state = .held ∧ s.fb DEV.VALSTAT 0 = false ∧ fld w 0 0 = 1) ∧
  (
    let g : Word := 3;
    let s : State := ({ State.reset with dev := { state := .held, valStart := some 3 } }).setF DEV.VALSTAT 0 0 1;
    s.dev.state = .held ∧ s.fb DEV.VALSTAT 0 = true ∧ s.dev.loader.phase ≠ .validating ∧ s.dev.valStart = some g) ∧
  (
    let w : Word := 0x5EA1;
    let s : State := ((inSt .held).setF DEV.VALSTAT 1 1 1);
    s.dev.state = .held ∧ fld w 15 0 = 0x5EA1 ∧ s.sealOk = true ∧ s.fb DEV.RUNCTL 1 = false) ∧
  (
    let w : Word := 0x5EA1;
    let s : State := inSt .held;
    s.dev.state = .held ∧ fld w 15 0 = 0x5EA1 ∧ s.sealOk = false) ∧
  (
    let w : Word := 1;
    let s : State := inSt .armed;
    s.dev.state = .armed ∧ s.evtEn = false ∧ fld w 0 0 = 1 ∧ fld w 1 1 = s.f DEV.RUNCTL 1 1) ∧
  (
    let s : State := { State.reset with dev := { state := .run, sealed := true } };
    s.dev.sealed = true) := by
  refine ⟨?_, ?_, ?_, ?_, ?_, ?_⟩ <;> decide +kernel

theorem hyps_LinkStatesComplete :
  (
    let p : Port := 9;
    let s : State := (upS 9).setPort 9 {};
    (s.port p).link = .off ∧ s.portEnabled p = true) ∧
  (
    let p : Port := 9;
    let s : State := (upS 9).wr (PG.PORTCFG 1 1) 0;
    let u : State := (upS 9).wr (PG.PORTCFG 1 1) 0;
    (s.port p).link = .up ∧ s.portEnabled p = false ∧ s.txClear p = u) ∧
  (
    let p : Port := 9;
    let s : State := ((upS 9).wr (PG.PORTCFG 1 1) 0).setPort 9 { link := .align, sends := .localFault };
    let u : State := s;
    ((s.port p).link = .train ∨ (s.port p).link = .align ∨ (s.port p).link = .down) ∧ s.portEnabled p = false ∧
    s.txClear p = u) ∧
  (
    let p : Port := 159;
    let s : State := State.reset.setPort 159 { link := .train, sends := .training };
    let u : State := s;
    s.leaveDown p = u ∧ (u.port p).link = .train) ∧
  (
    let p : Port := 159;
    let s : State := State.reset.setPort 159 { link := .train, since := 7 };
    let u : State := s;
    s.leaveDown p = u ∧ (u.port p).link = .train) ∧
  (
    let p : Port := 9;
    let s : State := (upS 9).setPort 9 { link := .align, downAt := some 3 };
    (s.port p).flapRx = none ∧ s.carries p = true) ∧
  (
    let p : Port := 9;
    let t0 : Nat := 4;
    let s : State := (upS 9).setPort 9 { link := .align, lock := true, lockAt := some 4, vstat := .failed, sends := .localFault };
    let u : State := s;
    s.leaveDown p = u ∧ (u.port p).lockAt = some t0 ∧ (u.port p).link = .align ∧ (u.port p).clean = true ∧
    s.portEnabled p = true) ∧
  (
    let p : Port := 9;
    let s : State := upS 9;
    (s.port p).link = .up ∧ (s.port p).downAt = none) ∧
  (
    let p : Port := 9;
    let t0 : Nat := 50;
    let s : State := (upS 9).setPort 9 { link := .up, downAt := some 50 };
    (s.port p).downAt = some t0 ∧ (s.port p).link = .up) := by
  refine ⟨?_, ?_, ?_, ?_, ?_, ?_, ?_, ?_, ?_⟩ <;> decide +kernel

theorem hyps_MacFramesComplete :
  (
    let p : Port := 9;
    let wire : List Byte := frameB 0x800 50;
    let s : State := { (upS 9).wr (HDR.CSEL 0x61 3) 0x1000101 with tim := { count := 0x1FFFFFFFFFFFF } };
    s.receives p = true ∧ s.carries p = true ∧ (s.port p).flapRx = none ∧ s.mogActive (pgOf p) = false ∧
    64 ≤ wire.length ∧ wire.length ≤ s.f (PG.MAXLEN (pgOf p) (slotOf p)) 13 0 ∧ fcsGood wire = true ∧
    isPfc wire = false ∧ isPause wire = false ∧ s.isProtected p = false ∧ s.memberPort p = false ∧
    wire.length ≤ s.rxRoom (pgOf p)) ∧
  (
    let p : Port := 9;
    let wire : List Byte := ctlB (beBytes 20 0x01010005000700000009000000000000000000FF);
    let q : Fin 65536 := 9;
    let c : Fin 8 := 2;
    let s : State := { (upS 9).setF (cfgKey 9) 3 3 1 with now := 100 };
    s.receives p = true ∧ s.carries p = true ∧ (s.port p).flapRx = none ∧ s.mogActive (pgOf p) = false ∧
    64 ≤ wire.length ∧ wire.length ≤ s.f (PG.MAXLEN (pgOf p) (slotOf p)) 13 0 ∧ fcsGood wire = true ∧
    isPfc wire = true ∧ s.fb (cfgKey p) 3 = true ∧ bit (beNat (slice wire 16 2)) c = true ∧
    beNat (slice wire (18 + 2 * c) 2) = q) ∧
  (
    let p : Port := 9;
    let wire : List Byte := ctlB (beBytes 4 0x0001FFFF);
    let q : Fin 65536 := 0xFFFF;
    let s : State := { (upS 9).setF (cfgKey 9) 4 4 1 with now := 100 };
    s.receives p = true ∧ s.carries p = true ∧ (s.port p).flapRx = none ∧ s.mogActive (pgOf p) = false ∧
    64 ≤ wire.length ∧ wire.length ≤ s.f (PG.MAXLEN (pgOf p) (slotOf p)) 13 0 ∧ fcsGood wire = true ∧
    isPause wire = true ∧ s.fb (cfgKey p) 4 = true ∧ beNat (slice wire 16 2) = q) ∧
  (
    let p : Port := 3;
    let c : Fin 8 := 2;
    let t0 : Nat := 9;
    let s : State := State.reset.setPort 3 { pauses := [(1, 8), (2, 9)] };
    kget? (s.port p).pauses c = some t0) ∧
  (
    let p : Port := 9;
    let c : Fin 8 := 3;
    let s : State := ((upS 9).setF (cfgKey 9) 23 0 0xFF0009).wr (TMG.XOFFSTATE 2) 0x800;
    let u : State := s;
    s.maySend p = true ∧ (s.port p).flapTx = none ∧ s.pfcAllowed p c = true ∧ s.crossed p c = true ∧
    kget? (s.port p).pfcSent c = none ∧ s.txCut p = u) ∧
  (
    let p : Port := 9;
    let c : Fin 8 := 3;
    let t0 : Nat := 40;
    let s : State := (((upS 9).setF (cfgKey 9) 23 0 0xFF0009).wr (TMG.XOFFSTATE 2) 0x800).setPort 9 { link := .up, pfcSent := [(3, 40)] };
    let u : State := (s).until (40 + (s).quantaNs 9 ((s).f (PG.PFCTIME 1 1) 31 16));
    s.maySend p = true ∧ (s.port p).flapTx = none ∧ s.pfcAllowed p c = true ∧ s.crossed p c = true ∧
    (s.port p).pfcSent = [(c.val, t0)] ∧
    (s.until (t0 + s.quantaNs p (s.f (PG.PFCTIME (pgOf p) (slotOf p)) 31 16))).txCut p = u) ∧
  (
    let p : Port := 9;
    let f : TxFrame := { bytes := [1, 2, 3], holder := false };
    let s : State := ((upS 9).wr (HDR.CSEL 0x61 3) 0x1000103).setPort 9 { link := .up, txq := [{ bytes := [1, 2, 3], holder := false }, { bytes := [4] }] };
    s.isUp p = true ∧ s.nextTx p = some f ∧ s.pact p = false ∧ (s.port p).txNow = none ∧
    s.mogActive (pgOf p) = false ∧ (s.port p).flapTx = none ∧ f.ptp = 0 ∧ f.poison = false ∧ f.holder = false) ∧
  (
    let p : Port := 9;
    let f : TxFrame := { bytes := [1, 2, 3], holder := false };
    let s : State := (((upS 9).wr (HDR.CSEL 0x61 3) 0x1000103).setF (cfgKey 9) 6 5 1).setPort 9 { link := .up, txq := [{ bytes := [1, 2, 3], holder := false }, { bytes := [4] }] };
    s.isUp p = true ∧ s.nextTx p = some f ∧ s.pact p = true ∧ (s.port p).txNow = none ∧ s.mogActive (pgOf p) = false ∧
    f.m.express = false ∧ f.ptp = 0 ∧ f.poison = false) := by
  refine ⟨?_, ?_, ?_, ?_, ?_, ?_, ?_, ?_⟩ <;> decide +kernel

theorem hyps_VerifyTsfMogulComplete :
  (
    let p : Port := 9;
    let s : State := (upS 9).setF (cfgKey 9) 6 5 3;
    s.verifies p = true ∧ s.maySend p = true ∧ (s.port p).vstat = .idle ∧ (s.port p).flapTx = none) ∧
  (
    let p : Port := 9;
    let s : State := ((upS 9).setF (cfgKey 9) 6 5 3).setPort 9 { link := .up, vstat := .running, vsent := 2, vat := 5 };
    s.verifies p = true ∧ s.maySend p = true ∧ (s.port p).vstat = .running ∧ (s.port p).vsent < 3 ∧
    (s.port p).flapTx = none) ∧
  (
    let p : Port := 9;
    let s : State := ((upS 9).setF (cfgKey 9) 6 5 3).setPort 9 { link := .up, vstat := .running, vsent := 2, vat := 5 };
    s.verifies p = true ∧ (s.port p).vstat = .running ∧ 1 ≤ (s.port p).vsent) ∧
  (
    let p : Port := 9;
    let s : State := ((upS 9).setF (cfgKey 9) 6 5 3).setPort 9 { link := .up, vstat := .running, vsent := 3, vat := 5 };
    s.verifies p = true ∧ (s.port p).vstat = .running ∧ (s.port p).vsent = 3) ∧
  (
    let g : PgIx := 3;
    let s : State := State.reset.setPg 3 { tsf := [{ seq := 1 }, { seq := 2 }] };
    s.present (pgPG g) = true) ∧
  (
    let g : PgIx := 3;
    let w : Word := 1;
    let s : State := (inSt .run).setPg 3 { tsf := [{ seq := 1 }, { seq := 2 }] };
    s.dev.state ≠ .load ∧ s.present (pgPG g) = true ∧ s.busy (pgPG g) = false ∧ fld w 0 0 = 1) ∧
  (
    let g : PgIx := 3;
    let w : Word := 1;
    let s : State := ((({ inSt .run with dev := { (inSt .run).dev with sealed := true } }).wr (PG.MOGULPERMIT 3) 1).wr (PG.MOGHITS 3 5) 7).setPg 3 { matches_ := [(1, 1)] };
    s.dev.state ≠ .load ∧ s.present (pgPG g) = true ∧ s.dev.sealed = true ∧ s.fb (PG.MOGULPERMIT g) 0 = true ∧
    s.fb (PG.MOGCTL g) 0 = false ∧ fld w 0 0 = 1) ∧
  (
    let g : PgIx := 1;
    let h : MogHeld := { dir := .tx, slot := 1, wire := [9, 1, 2, 3, 4], tx := { holder := false }, until_ := 50 };
    let s : State := (upS 9).setPg 1 { held := [{ dir := .tx, slot := 2, until_ := 60 }, { dir := .tx, slot := 1, wire := [9, 1, 2, 3, 4], tx := { holder := false }, until_ := 50 }] };
    firstHeld ((s.pg g).held.filter fun h => h.left.isNone) = some h ∧ h.dir = .tx ∧ s.isUp (g * 8 + h.slot) = true ∧
    s.pact (g * 8 + h.slot) = false ∧ (s.port (g * 8 + h.slot)).txNow = none ∧
    (s.port (g * 8 + h.slot)).flapTx = none ∧ h.tx.ptp = 0 ∧ h.tx.poison = false ∧ h.tx.holder = false) ∧
  (
    let g : PgIx := 1;
    let h : MogHeld := { dir := .tx, slot := 1, wire := [9, 1, 2, 3, 4], tx := { holder := false }, until_ := 50, left := some 0 };
    let s : State := (upS 9).setPg 1 { held := [{ dir := .tx, slot := 2, until_ := 60 }, { dir := .tx, slot := 1, wire := [9, 1, 2, 3, 4], tx := { holder := false }, until_ := 50, left := some 0 }] };
    ((s.pg g).held.filter fun h => h.left.isSome).find? (fun h => h.left == some 0) = some h ∧ h.dir = .tx ∧
    s.isUp (g * 8 + h.slot) = true ∧ s.pact (g * 8 + h.slot) = false ∧ (s.port (g * 8 + h.slot)).txNow = none ∧
    (s.port (g * 8 + h.slot)).flapTx = none ∧ h.tx.ptp = 0 ∧ h.tx.poison = false ∧ h.tx.holder = false) ∧
  (
    let p : Port := 9;
    let t0 : Nat := 77;
    let s : State := (upS 9).setPort 9 { flapRx := some 77 };
    (s.port p).flapRx = some t0 ∧ (s.port p).flapTx = none) ∧
  (
    let p : Port := 9;
    let t0 : Nat := 77;
    let s : State := (upS 9).setPort 9 { sends := .idle, flapTx := some 77 };
    (s.port p).flapTx = some t0) := by
  refine ⟨?_, ?_, ?_, ?_, ?_, ?_, ?_, ?_, ?_, ?_, ?_⟩ <;> decide +kernel

theorem hyps_TimebaseComplete :
  (
    let w : Word := 1;
    let s : State := ((inSt .run).wr TIM.STEPAT_LO 900).wr TIM.STEP_HI 0xFFFFFFFF;
    s.dev.state ≠ .load ∧ s.initialising = false ∧ fld w 1 0 = 1 ∧ s.tim.step = none ∧
    s.tai ≤ s.rd64 TIM.STEPAT_LO TIM.STEPAT_HI) ∧
  (
    let w : Word := 3;
    let s : State := { ((inSt .run).wr TIM.STEP_LO 100).wr TIM.STEP_HI 0xFFFFFFFF with tim := { count := 0x200000005 } };
    s.dev.state ≠ .load ∧ s.initialising = false ∧ fld w 0 0 = 1 ∧
    (fld w 1 1 = 1 ∨ s.rd64 TIM.STEPAT_LO TIM.STEPAT_HI < s.tai) ∧ s.tim.step = none ∧
    ((BitVec.ofNat 64 (s.rd64 TIM.STEP_LO TIM.STEP_HI)).msb = true ∨ (s.counted (BitVec.ofNat 64 (s.rd64 TIM.STEP_LO TIM.STEP_HI))).nextDue = none)) ∧
  (
    let step : BitVec 64 := 0xFFFFFFFFFFFFFFF0;
    let i : BitVec 64 := 60;
    let s : State := { ((inSt .run).wr (TIM.TGT_LO 2) 50).wr (TIM.TMRCTL 2) 3 with tim := { count := 40, step := some (0xFFFFFFFFFFFFFFF0, 60) } };
    s.tim.step = some (step, i) ∧ step.msb = true) ∧
  (
    let step : BitVec 64 := 400;
    let i : BitVec 64 := 60;
    let s : State := { (inSt .run).wr (BLG.MCFG 0 3) 0x13 with tim := { step := some (400, 60) }, blg := { members := [(3, { pend := [⟨0, 500, 9⟩] })] } };
    s.tim.step = some (step, i) ∧ step.msb = false ∧ ((s.untilInstant i.toNat).counted step).nextDue = none) ∧
  (
    let step : BitVec 64 := 1000;
    let i : BitVec 64 := 60;
    let d : Due := .capacity 0 3;
    let s : State := { (inSt .run).wr (BLG.MCFG 0 3) 0x13 with tim := { step := some (1000, 60) }, blg := { members := [(3, { pend := [⟨0, 500, 9⟩] })] } };
    s.tim.step = some (step, i) ∧ step.msb = false ∧ ((s.untilInstant i.toNat).counted step).nextDue = some d ∧
    (((s.untilInstant i.toNat).counted step).perform d).nextDue = none) ∧
  (
    let s : State := (inSt .run).wr TIM.CFG 1;
    s.fb TIM.CFG 0 = true ∧ s.fb TIM.STAT 1 = false) ∧
  (
    let s : State := (inSt .run).wr TIM.STAT 0xFFFFFFFE;
    s.fb TIM.STAT 1 = true) ∧
  (
    let s : State := { inSt .run with tim := { count := 99, frac := 7 } };
    s.initialising = false) ∧
  (
    let s : State := { ((inSt .run).wr TIM.PPSOUT 0x81).wr TIM.PPSOUT_OFS 50 with tim := { count := 7 } };
    s.initialising = false ∧ s.fb TIM.PPSOUT 0 = true ∧ s.tim.ppsHigh = none) ∧
  (
    let t0 : Nat := 90;
    let s : State := { inSt .run with tim := { ppsHigh := some 90 } };
    s.tim.ppsHigh = some t0) ∧
  (
    let n : Fin 16 := 15;
    let w : Word := 0x1F;
    let s : State := (inSt .run).wr (TIM.TGT_LO 15) 5;
    s.dev.state ≠ .load ∧ s.fb (TIM.TMRCTL n) 0 = false ∧ fld w 0 0 = 1 ∧
    s.tai ≤ s.rd64 (TIM.TGT_LO n) (TIM.TGT_HI n)) ∧
  (
    let n : Fin 16 := 15;
    let s : State := ((inSt .run).wr (TIM.TGT_LO 15) 5).wr (TIM.TMRCTL 15) 3;
    s.fb (TIM.TMRCTL n) 0 = true ∧ s.f (TIM.TMRCTL n) 3 1 = 1) ∧
  (
    let n : Fin 16 := 15;
    let w : Word := 0x13;
    let s : State := { (inSt .run).wr (TIM.TGT_LO 15) 5 with tim := { count := 6 } };
    s.dev.state ≠ .load ∧ s.fb (TIM.TMRCTL n) 0 = false ∧ fld w 3 0 = 3 ∧
    s.rd64 (TIM.TGT_LO n) (TIM.TGT_HI n) < s.tai ∧ s.rd64 (TIM.PERIOD_LO n) (TIM.PERIOD_HI n) = 0) ∧
  (
    let n : Fin 16 := 9;
    let tgt : Nat := 5000;
    let k : Nat := 0;
    let u : State := (runs (((inSt .run).wr (TIM.TGT_LO 9) 5000).wr (TIM.TMRCTL 9) 5) pgCNT).untilInstant 5000;
    let s : State := runs (((inSt .run).wr (TIM.TGT_LO 9) 5000).wr (TIM.TMRCTL 9) 5) pgCNT;
    s.fb (TIM.TMRCTL n) 0 = true ∧ s.f (TIM.TMRCTL n) 3 1 = 2 ∧ s.rd64 (TIM.TGT_LO n) (TIM.TGT_HI n) = tgt ∧
    s.rd64 (TIM.PERIOD_LO n) (TIM.PERIOD_HI n) = 0 ∧ k = kgetD s.tim.learned n.val 0 ∧ u = s.untilInstant tgt) ∧
  (
    let n : Fin 16 := 9;
    let c : Nat := 3;
    let ch : DmaCh := { desc := some (List.replicate 20 0 ++ [37] ++ List.replicate 11 0) };
    let d : List Byte := List.replicate 20 0 ++ [37] ++ List.replicate 11 0;
    let s : State := { (((inSt .run).wr (TIM.TGT_LO 9) 5000).wr (TIM.TMRCTL 9) 9).dmaGo 3 dsWAITTRIG with dma := { chans := [(3, { desc := some (List.replicate 20 0 ++ [37] ++ List.replicate 11 0) }), (7, {})] } };
    s.fb (TIM.TMRCTL n) 0 = true ∧ s.f (TIM.TMRCTL n) 3 1 = 4 ∧ ((s.dma.chans.map (·.1)).Nodup ∧
    (s.dma.chans.all fun e => e.1 < 32) = true) ∧ s.dma.chans.contains (c, ch) = true ∧ ch.desc = some d ∧
    (dTrig d = 1 ∧ dTsel d = n.val)) := by
  refine ⟨?_, ?_, ?_, ?_, ?_, ?_, ?_, ?_, ?_, ?_, ?_, ?_, ?_, ?_, ?_⟩ <;> decide +kernel

theorem hyps_LearningComplete :
  (
    let h : Half := 0;
    let i : LearnIns := { key := 0x112233445566000A, port := 7, part := 2, ns := 99 };
    let rest : List LearnIns := [];
    let s : State := (inSt .run).wr (TBL.H_CFG0 0 2) 0x51 |>.setHalf 0 { inserts := [{ key := 0x112233445566000A, port := 7, part := 2, ns := 99 }] };
    (s.half h).inserts = i :: rest ∧ s.effState ≠ .standby ∧ (s.half h).fold.length + 2 * s.f TBL.CFG 5 0 ≤ foldCap ∧
    ((s.tbl.cmds ++ s.tbl.done.map fun e => e.1).any fun c => decide (c.seq < i.seq) && s.sameLearn h i c) = false ∧
    (s.half h).notices.length < 8192) ∧
  (
    let h : Half := 1;
    let i : LearnIns := { key := 5, port := 7, part := 2, ns := 99 };
    let rest : List LearnIns := [{ key := 6 }];
    let s : State := (inSt .run).setHalf 1 { inserts := [{ key := 5, port := 7, part := 2, ns := 99 }, { key := 6 }], notices := List.replicate 8192 {} };
    (s.half h).inserts = i :: rest ∧ s.effState ≠ .standby ∧ (s.half h).fold.length + 2 * s.f TBL.CFG 5 0 ≤ foldCap ∧
    ((s.tbl.cmds ++ s.tbl.done.map fun e => e.1).any fun c => decide (c.seq < i.seq) && s.sameLearn h i c) = false ∧
    8192 ≤ (s.half h).notices.length) ∧
  (
    let h : Half := 1;
    let n : Notice := { key := 9, port := 2 };
    let rest : List Notice := [];
    let s : State := ((inSt .run).wr (LRN.RINGSIZE 1) 8 |>.wr (LRN.PIDX 1) 255 |>.wr (LRN.CIDX 1) 7).setHalf 1 { notices := [{ key := 9, port := 2 }] };
    (s.half h).notices = n :: rest ∧ s.initialising = false ∧ s.busy pgLRN = false ∧
    (s.f (LRN.PIDX h) 15 0 % 2 ^ s.f (LRN.RINGSIZE h) 4 0 + 1) % 2 ^ s.f (LRN.RINGSIZE h) 4 0 ≠ s.f (LRN.CIDX h) 15 0 % 2 ^ s.f (LRN.RINGSIZE h) 4 0) ∧
  (
    let h : Half := 1;
    let s : State := ((inSt .run).wr (LRN.RINGSIZE 1) 8 |>.wr (LRN.PIDX 1) 255 |>.wr (LRN.CIDX 1) 0).setHalf 1 { notices := [{ key := 9, port := 2 }] };
    ((s.f (LRN.PIDX h) 15 0 % 2 ^ s.f (LRN.RINGSIZE h) 4 0 + 1) % 2 ^ s.f (LRN.RINGSIZE h) 4 0 = s.f (LRN.CIDX h) 15 0 % 2 ^ s.f (LRN.RINGSIZE h) 4 0 ∨ (s.half h).notices = [])) ∧
  (
    let h : Half := 1;
    let e : Holdoff := { key := 9, at_ := 50 };
    let rest : List Holdoff := [{ key := 8, at_ := 30 }];
    let s : State := ((inSt .run).wr LRN.HOLDOFF 2).setHalf 1 { cache := [{ key := 9, at_ := 50 }, { key := 8, at_ := 30 }] };
    (s.half h).cache = e :: rest) := by
  refine ⟨?_, ?_, ?_, ?_, ?_⟩
  · decide +kernel
  · exact ⟨rfl, by decide +kernel, by decide +kernel, by decide +kernel, Nat.le_of_eq List.length_replicate.symm⟩
  · decide +kernel
  · decide +kernel
  · decide +kernel

theorem hyps_IngressComplete :
  (
    let g : PgIx := 1;
    let p : Pkt := { bytes := frameB 0x800 20, port := 9, m := { srcPort := 9 } };
    let rest : List Pkt := [{}];
    let v : Fin 16 := 0;
    let s : State := { (runs (inSt .run) 0x21).setPg 1 { rxbuf := [{ bytes := frameB 0x800 20, port := 9, m := { srcPort := 9 } }, {}] } with ver := { slots := .current :: .open_ :: List.replicate 14 .free } };
    let u : State := s;
    s.running (pgIP g) = true ∧ s.forwarding = true ∧ (s.pg g).rxbuf = p :: rest ∧ p.m.pass = 0 ∧
    s.ver.current = some v.val ∧ s.until (s.slotsFrom g) = u) ∧
  (
    let g : PgIx := 1;
    let p : Pkt := { bytes := frameB 0x800 20, port := 9, m := { srcPort := 9, pass := 1, vertag := 3, egrPort := 5 } };
    let rest : List Pkt := [{}];
    let s : State := (runs (inSt .run) 0x21).setEp 1 { lift := [{ bytes := frameB 0x800 20, port := 9, m := { srcPort := 9, pass := 1, vertag := 3, egrPort := 5 } }, {}] };
    let u : State := s;
    s.running (pgIP g) = true ∧ s.forwarding = true ∧ (s.pg g).rxbuf = [] ∧ (s.ep g).lift = p :: rest ∧ p.m.pass ≠ 0 ∧
    s.until (s.slotsFrom g) = u) ∧
  (
    let g : PgIx := 1;
    let p : Pkt := { bytes := frameB 0x800 20, port := 9, m := { srcPort := 165 } };
    let rest : List Pkt := [];
    let v : Fin 16 := 0;
    let s : State := { (runs (inSt .run) 0x21).setIp 1 { cpuIn := [{ bytes := frameB 0x800 20, port := 9, m := { srcPort := 165 } }] } with ver := { slots := .current :: .open_ :: List.replicate 14 .free } };
    let u : State := s;
    s.running (pgIP g) = true ∧ s.forwarding = true ∧ (s.pg g).rxbuf = [] ∧ (s.ep g).lift = [] ∧
    (s.ip g).cpuIn = p :: rest ∧ p.m.pass = 0 ∧ s.ver.current = some v.val ∧ s.until (s.slotsFrom g) = u) ∧
  (
    let p : Port := 3;
    let i : Icv := { tok := 2, sa := 32768, pn := 7 };
    let rest : List Icv := [];
    let s : State := (inSt .run).setPort 3 { icv := [{ tok := 2, sa := 32768, pn := 7 }] };
    (s.port p).icv = i :: rest ∧ i.ok = true ∧ s.replayed i.sa i.pn = false) := by
  refine ⟨?_, ?_, ?_, ?_⟩ <;> decide +kernel

theorem hyps_AdmissionComplete :
  (
    let g : PgIx := 1;
    let known : Bool := true;
    let p : Pkt := { bytes := frameB 0x800 20, port := 9, m := { srcPort := 9, qid := 77 } };
    let ch : Charge := .shared;
    let rest : List IngOut := [.forward {}];
    let s : State := (runs (inSt .run) pgTMG |>.wr (TMG.ILIM 0 0) 0xFFFF |>.wr (TMG.QLIM 0) 0xFFFF |>.wr (TMG.CLIM 0 0) 0xFFFF |>.wr (TMG.PORTLIM 0) 0xFFFF).setIp 1 { out := [.forward { bytes := frameB 0x800 20, port := 9, m := { srcPort := 9, qid := 77 } }, .forward {}] };
    p.m.vertag < 16 ∧ (s.ip g).out = .forward p :: rest ∧ p.m.mcgrp = none ∧
    (List.range 8).all (fun k => s.fb (TMG.RINKCFG k) 0 = false) = true ∧
    s.limits (s.aged p) p.m.qid (s.ownerPort p.m.qid) (p.tested known) 0 false = none ∧
    s.cover p.m.qid p.ent p.m.cls (p.tested known) = some ch ∧ s.glides p.m.qid (s.aged p) = false ∧
    s.maySpill p.m.qid = false ∧ (s.tq p.m.qid).spill = false) ∧
  (
    let g : PgIx := 1;
    let p : Pkt := { bytes := frameB 0x800 20, port := 9, m := { srcPort := 9, mcgrp := some 5 } };
    let m : Nat := 5;
    let rest : List IngOut := [];
    let s : State := (runs (inSt .run) pgTMG).setIp 1 { out := [.forward { bytes := frameB 0x800 20, port := 9, m := { srcPort := 9, mcgrp := some 5 } }] };
    p.m.vertag < 16 ∧ (s.ip g).out = .forward p :: rest ∧ p.m.mcgrp = some m ∧
    (List.range 8).all (fun k => s.fb (TMG.RINKCFG k) 0 = false) = true ∧ s.running pgTMG = true ∧
    s.tmg.mcq.length < 16384) ∧
  (
    let g : PgIx := 1;
    let known : Bool := false;
    let p : Pkt := { bytes := frameB 0x800 20, port := 9, m := { srcPort := 9 } };
    let u : Fin 64 := 3;
    let q : Fin 8 := 2;
    let rest : List IngOut := [];
    let s : State := (runs (inSt .run) pgTMG |>.wr TMG.HOSTLIM 0xFFFF).setIp 1 { out := [.host 3 2 false { bytes := frameB 0x800 20, port := 9, m := { srcPort := 9 } }] };
    p.m.vertag < 16 ∧ (s.ip g).out = .host u q false p :: rest ∧
    (List.range 8).all (fun k => s.fb (TMG.RINKCFG k) 0 = false) = true ∧ s.running pgTMG = true ∧
    s.qCells (hostQ u q) + p.tested known ≤ s.f TMG.HOSTLIM 15 0 ∧ p.tested known ≤ s.sharedFree ∧
    (s.tq (hostQ u q)).spill = false) ∧
  (
    let g : PgIx := 1;
    let p : Pkt := { bytes := frameB 0x800 20, port := 9, m := { srcPort := 9, qid := 77 } };
    let rest : List IngOut := [];
    let s : State := ((inSt .run).wr (VER.HOLDERS 0) 3).setIp 1 { out := [.forward { bytes := frameB 0x800 20, port := 9, m := { srcPort := 9, qid := 77 } }] };
    s.role = roleNone ∧ p.m.vertag < 16 ∧ (s.ip g).out = .forward p :: rest ∧ p.m.mcgrp = none ∧
    (List.range 8).all (fun k => s.fb (TMG.RINKCFG k) 0 = false) = true ∧ s.running pgTMG = false ∧ p.ent ≤ 160) ∧
  (
    let g : PgIx := 4;
    let d : Nat := 9;
    let r : Data := { n := 3, refs := 2 };
    let rest : List (Nat × Bool × Nat) := [];
    let s : State := { ((inSt .run).setIp 4 { arriving := [(9, false, 0)] }) with tmg := { data := [(9, { n := 3, refs := 2 })] } };
    (s.ip g).arriving = (d, false, 0) :: rest ∧ s.tdata d = some r) ∧
  (
    let j : McJob := { data := 3, pkt := { m := { mcgrp := some 9, vertag := 2 } } };
    let rest : List McJob := [];
    let s : State := { ((inSt .run).wr (VER.HOLDERS 2) 3 |>.wr (TMG.HOLD 2) 2) with tmg := { mcq := [{ data := 3, pkt := { m := { mcgrp := some 9, vertag := 2 } } }], data := [(3, { refs := 1, ic := false, charge := .pend })] } };
    s.ageJobs = s ∧ s.role = roleNone ∧ j.pkt.m.vertag < 16 ∧ s.tmg.mcq = j :: rest ∧
    s.f (TMG.MCGRP ((j.pkt.m.mcgrp.getD 0) % 65536)) 28 18 = 0 ∧
    s.tdata j.data = some { refs := 1, ic := false, charge := .pend }) ∧
  (
    let j : McJob := { data := 3, pkt := { m := { mcgrp := some 9, vertag := 2 } } };
    let e : Fin 262144 := 5;
    let d : Data := { n := 2, refs := 1, ic := false, charge := .pend };
    let rest : List McJob := [];
    let s : State := { (runs (inSt .run) pgTMG |>.wr (TMG.ILIM 0 0) 0xFFFF |>.wr (TMG.QLIM 0) 0xFFFF |>.wr (VER.HOLDERS 2) 3 |>.wr (TMG.HOLD 2) 2 |>.wr (TMG.MCGRP 9) 0x40005 |>.wr (bankKey TMG.MCENT0 5) 0x123) with tmg := { mcq := [{ data := 3, pkt := { m := { mcgrp := some 9, vertag := 2 } } }], data := [(3, { n := 2, refs := 1, ic := false, charge := .pend })] } };
    s.ageJobs = s ∧ s.role = roleNone ∧ j.pkt.m.vertag < 16 ∧ s.tmg.mcq = j :: rest ∧
    s.rd (TMG.MCGRP ((j.pkt.m.mcgrp.getD 0) % 65536)) = BitVec.ofNat 32 (262144 + e) ∧ s.tdata j.data = some d ∧
    d.refs = 1 ∧ d.charge = .pend ∧ d.n ≤ s.sharedFree ∧
    s.limits (s.mcPkt e j.pkt) (s.mcPkt e j.pkt).m.qid (s.ownerPort (s.mcPkt e j.pkt).m.qid) d.n (if d.ic then d.n else 0) true = none ∧
    s.maySpill (s.mcPkt e j.pkt).m.qid = false ∧ (s.tq (s.mcPkt e j.pkt).m.qid).spill = false) := by
  refine ⟨?_, ?_, ?_, ?_, ?_, ?_, ?_⟩ <;> decide +kernel

theorem hyps_ShapersGatesComplete :
  (
    let n : Fin 8192 := 9;
    let off : Offset := 0xD021C;
    let s : State := ((inSt .run).wr SCH.NODEIDX 9).wr (SCH.CBS 9) 7;
    s.dev.state ≠ .load ∧ s.initialising = false ∧ s.busy pgSCH = false ∧ s.f SCH.NODEIDX 12 0 = n ∧
    off.toNat % 65536 = 0x21C) ∧
  (
    let p : Port := 159;
    let off : Offset := 0x23E8;
    let s : State := (inSt .run).wr (SCH.PSHBURST 159) 7;
    s.dev.state ≠ .load ∧ s.initialising = false ∧ s.busy pgSCH = false ∧ off.toNat % 65536 = 0x1008 + 32 * p) ∧
  (
    let c : Fin 512 := 511;
    let off : Offset := 0x4FF8;
    let s : State := (inSt .run).wr (SCH.CAPBURST 511) 7;
    s.dev.state ≠ .load ∧ s.initialising = false ∧ s.busy pgSCH = false ∧ off.toNat % 65536 = 0x3008 + 16 * c) ∧
  (
    let i : Fin 262144 := 262143;
    let s : State := ((inSt .run).wr SCH.POLIDX 262143).wr (SCH.POLCBS 262143) 7;
    s.dev.state ≠ .load ∧ s.initialising = false ∧ s.busy pgSCH = false ∧ s.f SCH.POLIDX 17 0 = i) ∧
  (
    let e : Nat := 8;
    let b : Bucket := { lvl := -90000, tick := 1 };
    let s : State := { ((inSt .run).wr TIM.RATE 5) with tim := { count := 99 }, sch := { par := [(8, { cir := 9, cbs := 1 })], buckets := [(16, { lvl := -90000, tick := 1 })] } };
    kget? s.sch.buckets (2 * e) = some b) ∧
  (
    let p : Port := 7;
    let w : Word := 0x13;
    let s : State := { ((inSt .run).wr (SCH.GCYCLE 7) 5000 |>.wr (SCH.GLEN 7) 0x10000 |>.wr (SCH.GLENT (7 + 256)) 0x138880) with tim := { count := 77777 } };
    s.dev.state ≠ .load ∧ s.initialising = false ∧ s.busy pgSCH = false ∧ fld w 0 0 = 1 ∧ fld w 4 4 = 1 ∧
    (s.gate p).pend = none ∧ (s.gate p).op.map (fun r => r.list) ≠ some (fld w 1 1) ∧
    s.slalomOk p (fld w 1 1) (s.glen p (fld w 1 1)) (s.f (SCH.GCYCLE p) 29 0) = true) ∧
  (
    let p : Port := 7;
    let w : Word := 0x13;
    let s : State := inSt .run;
    s.dev.state ≠ .load ∧ s.initialising = false ∧ s.busy pgSCH = false ∧ fld w 0 0 = 1 ∧ fld w 4 4 = 1 ∧
    (s.gate p).pend = none ∧ (s.gate p).op.map (fun r => r.list) ≠ some (fld w 1 1) ∧
    s.slalomOk p (fld w 1 1) (s.glen p (fld w 1 1)) (s.f (SCH.GCYCLE p) 29 0) = false) ∧
  (
    let p : Port := 7;
    let w : Word := 0x13;
    let s : State := { (inSt .run) with sch := { gates := [(7, { pend := some { len := 3 } })] } };
    s.dev.state ≠ .load ∧ s.initialising = false ∧ s.busy pgSCH = false ∧ fld w 0 0 = 1 ∧ fld w 4 4 = 1 ∧
    ((s.gate p).pend.isSome = true ∨ (s.gate p).op.map (fun r => r.list) = some (fld w 1 1))) ∧
  (
    let w : Word := 3;
    let s : State := { (inSt .run) with sch := { gates := [(7, { op := some { len := 3 } })] } };
    s.dev.state ≠ .load ∧ s.initialising = false ∧ s.busy pgSCH = false ∧ fld w 0 0 = 1 ∧ fld w 4 4 = 0) ∧
  (
    let w : Word := 2;
    let s : State := { (inSt .run) with sch := { gates := [(7, { op := some { len := 3 } })] } };
    s.dev.state ≠ .load ∧ s.initialising = false ∧ s.busy pgSCH = false ∧ fld w 4 4 = 0 ∧ fld w 0 0 = 0) ∧
  (
    let p : Port := 7;
    let r : GateRun := { list := 1, len := 2, cyc := 5000, start := 900 };
    let s : State := { ((inSt .run).wr (SCH.GLENT (7 + 256)) 0x13880).wr (SCH.GLENT (7 + 256 + 65536)) 0xFA0000 with tim := { count := 777 }, sch := { gates := [(7, { pend := some { list := 1, len := 2, cyc := 5000, start := 900 } })] } };
    (s.gate p).pend = some r) ∧
  (
    let p : Port := 7;
    let r : GateRun := { list := 1, len := 2, cyc := 5000, start := 900 };
    let s : State := { ((inSt .run).wr (SCH.GLENT (7 + 256)) 0x13880).wr (SCH.GLENT (7 + 256 + 65536)) 0xFA0000 with tim := { count := 950 }, sch := { gates := [(7, { op := some { list := 1, len := 2, cyc := 5000, start := 900 } })] } };
    (s.gate p).op = some r ∧ (s.gate p).pend = none) := by
  refine ⟨?_, ?_, ?_, ?_, ?_, ?_, ?_, ?_, ?_, ?_, ?_, ?_⟩ <;> decide +kernel

theorem hyps_GrantEgressComplete :
  (
    let p : Port := 9;
    let q : Fin 131584 := 77;
    let x : QPkt := { data := 4, pkt := { bytes := frameB 0x800 50, m := { srcPort := 3 } }, port := 9 };
    let s : State := { (runs (runs (upS 9) pgSCH) 0x41 |>.wr (SCH.NODECFG 1) 0x990000 |>.wr (SCH.SQMAP 77) 0x80001 |>.wr (TMG.HOLD 0) 3) with tmg := { queues := [(77, { head := [{ data := 4, pkt := { bytes := frameB 0x800 50, m := { srcPort := 3 } }, port := 9 }] })], data := [(4, { n := 1, arrived := true })] } };
    let u : State := ((s.portPick 9).map (fun r => r.2)).getD s;
    x.pkt.m.vertag < 16 ∧ s.portStops p = false ∧ (s.portPick p).map (fun r => (r.1.queue, r.2)) = some (q.val, u) ∧
    u.headDiscard q = none ∧ u.headPkt q = some x ∧ s.memberOf p = none ∧
    (s.tmg.queues.any fun e => e.2.spill) = false) ∧
  (
    let p : Port := 9;
    let q : Fin 131584 := 77;
    let x : QPkt := { data := 4, pkt := { bytes := frameB 0x800 50, m := { srcPort := 3 } }, port := 9 };
    let r : Nat := 2;
    let g : Fin 32 := 5;
    let m : Fin 16 := 3;
    let gs : Nat := 2;
    let s : State := { (runs (runs (runs (upS 9) pgSCH) 0x41) pgBLG |>.wr (SCH.NODECFG 1) 0x990000 |>.wr (SCH.NODECFG 2) 0x205B0000 |>.wr (BLG.GCFG 5) 1 |>.wr (BLG.MCFG 5 3) 0x13 |>.setF (BLG.MSTAT 5 3) 2 0 3 |>.wr (BLG.TXSEQ 5) 0xFFFFFFFF |>.wr (SCH.SQMAP 77) 0x80002 |>.wr (TMG.HOLD 0) 3) with tmg := { queues := [(77, { head := [{ data := 4, pkt := { bytes := frameB 0x800 50, m := { srcPort := 3 } }, port := 9 }] })], data := [(4, { n := 1, arrived := true })] } };
    let u : State := ((s.portPick 9).map (fun r => r.2)).getD s;
    s.role = roleNone ∧ x.pkt.m.vertag < 16 ∧ s.portStops p = false ∧
    (s.portPick p).map (fun y => (y.1.queue, y.1.nodes.contains r, y.2)) = some (q.val, true, u) ∧
    u.headDiscard q = none ∧ u.headPkt q = some x ∧ s.groupRoot p = some (r, g.val, m.val, gs) ∧
    (s.tmg.queues.any fun e => e.2.spill) = false) ∧
  (
    let p : Port := 3;
    let s : State := inSt .run;
    (s.portStops p = true ∨ ((s.portPick p).isNone = true ∧ s.gateHolds p = false))) ∧
  (
    let g : PgIx := 1;
    let p : Port := 9;
    let k : Pkt := { bytes := frameB 0x800 50, m := { template := 3, userData := 5 } };
    let f : List Byte := frameB 0x800 50;
    let rest : List (Nat × Pkt) := [];
    let s : State := (runs (upS 9) 0x41).setEp 1 { inq := [(9, { bytes := frameB 0x800 50, m := { template := 3, userData := 5 } })] };
    k.m.vertag < 16 ∧ (s.ep g).inq = (p.val, k) :: rest ∧ s.icvPending k.tok = false ∧ s.busy (pgEP g) = false ∧
    (List.range 8).all (fun e => s.f (EP.STAGECFG g e) 1 0 ≠ 1) = true ∧
    s.rewrite g (s.rd64 (EP.TPL_LO g k.m.template) (EP.TPL_HI g k.m.template)) k.m.userData.toNat k.bytes = some f ∧
    k.m.bond = none ∧ k.shim = none ∧ f.length + 4 ≤ s.f (PG.MAXLEN (pgOf p) (slotOf p)) 13 0 ∧
    s.isProtected p = false ∧ s.isUp p = true ∧ s.running (pgPG (pgOf p)) = true) ∧
  (
    let g : PgIx := 1;
    let p : Port := 9;
    let k : Pkt := egrK;
    let f : List Byte := frameB 0x800 50;
    let rest : List (Nat × Pkt) := [];
    let st : EgrSt := { tpl := 3, ud := 5, lift := true, misses := [0] };
    let v : State := egrV liftS egrK;
    let u : State := egrU liftS egrK;
    let s : State := liftS;
    k.m.vertag < 16 ∧ (s.ep g).inq = (p.val, k) :: rest ∧ s.icvPending k.tok = false ∧ s.busy (pgEP g) = false ∧
    v = ((s.setEp g { s.ep g with inq := rest }).event (pgEP g) 0x100 1 fun _ => true).event (pgEP g) 0x101 k.len fun _ => true ∧
    (List.range 8).foldl (State.egrStage g k) (v, { tpl := k.m.template, ud := k.m.userData.toNat }) = (u, st) ∧
    (st.ecc = false ∧ st.drop = false) ∧ st.lift = true ∧ k.m.pass < 3 ∧
    u.rewrite g (u.rd64 (EP.TPL_LO g st.tpl) (EP.TPL_HI g st.tpl)) st.ud k.bytes = some f ∧
    s.running (pgIP g) = true ∧ (s.ep g).lift.foldl (fun a x => a + x.len) 0 + (f.length + 4) ≤ 16384) ∧
  (
    let g : PgIx := 1;
    let p : Port := 9;
    let k : Pkt := { egrK with shim := some { group := 5, member := 3, seq := 77 } };
    let f : List Byte := frameB 0x800 50;
    let rest : List (Nat × Pkt) := [];
    let st : EgrSt := { tpl := 3, ud := 5 };
    let tg : BondTag := { group := 5, member := 3, seq := 77 };
    let i : Nat := 0;
    let v : State := egrV shimS { egrK with shim := some { group := 5, member := 3, seq := 77 } };
    let u : State := egrU shimS { egrK with shim := some { group := 5, member := 3, seq := 77 } };
    let s : State := shimS;
    k.m.vertag < 16 ∧ (s.ep g).inq = (p.val, k) :: rest ∧ s.icvPending k.tok = false ∧ s.busy (pgEP g) = false ∧
    v = ((s.setEp g { s.ep g with inq := rest }).event (pgEP g) 0x100 1 fun _ => true).event (pgEP g) 0x101 k.len fun _ => true ∧
    (List.range 8).foldl (State.egrStage g k) (v, { tpl := k.m.template, ud := k.m.userData.toNat }) = (u, st) ∧
    (st.ecc = false ∧ st.drop = false) ∧ st.lift = false ∧
    u.rewrite g (u.rd64 (EP.TPL_LO g st.tpl) (EP.TPL_HI g st.tpl)) st.ud k.bytes = some f ∧ k.shim = some tg ∧
    u.etIndex (beNat (slice f 12 2)) = some i ∧
    f.length + 4 + (if k.m.bond.isSome then 8 else 0) ≤ s.f (PG.MAXLEN (pgOf p) (slotOf p)) 13 0 ∧
    s.isProtected p = false ∧ s.isUp p = true ∧ s.running (pgPG (pgOf p)) = true ∧ tg.eob = false) ∧
  (
    let g : PgIx := 1;
    let p : Port := 9;
    let k : Pkt := egrK;
    let f : List Byte := frameB 0x800 50;
    let rest : List (Nat × Pkt) := [];
    let st : EgrSt := { tpl := 3, ud := 5 };
    let y : Nat := 2;
    let sa : Nat := 8;
    let key : List Byte := List.replicate 16 7;
    let salt : List Byte := Config.missingSalt (List.replicate 16 7);
    let v : State := egrV encS egrK;
    let u : State := egrU encS egrK;
    let s : State := encS;
    k.m.vertag < 16 ∧ (s.ep g).inq = (p.val, k) :: rest ∧ s.icvPending k.tok = false ∧ s.busy (pgEP g) = false ∧
    v = ((s.setEp g { s.ep g with inq := rest }).event (pgEP g) 0x100 1 fun _ => true).event (pgEP g) 0x101 k.len fun _ => true ∧
    (List.range 8).foldl (State.egrStage g k) (v, { tpl := k.m.template, ud := k.m.userData.toNat }) = (u, st) ∧
    (st.ecc = false ∧ st.drop = false) ∧ st.lift = false ∧
    u.rewrite g (u.rd64 (EP.TPL_LO g st.tpl) (EP.TPL_HI g st.tpl)) st.ud k.bytes = some f ∧ k.m.bond = none ∧
    k.shim = none ∧ f.length + 4 ≤ s.f (PG.MAXLEN (pgOf p) (slotOf p)) 13 0 ∧ s.isProtected p = true ∧
    u.bypass f = false ∧ s.running pgMSC = true ∧ s.isUp p = true ∧ s.running (pgPG (pgOf p)) = true ∧
    u.txSecy p st.ud = some y ∧ y < 4096 ∧ u.secyOn y p = true ∧ u.msc.unc.contains y = false ∧
    sa = 4 * y + fld (u.secyCfg y) 14 13 ∧ u.saInUse sa = true ∧ u.exhausted y sa = false ∧
    u.saKey sa (u.suite y) = some (key, salt)) ∧
  (
    let sci : List Byte := List.replicate 8 2;
    let f : List Byte := frameB 0x800 50;
    sci.length = 8 ∧ 12 ≤ f.length) ∧
  (
    let g : PgIx := 1;
    let p : Nat := 9;
    let k : Pkt := { m := { vertag := 2 } };
    let rest : List (Nat × Pkt) := [];
    let s : State := (((inSt .run).setBlk 0x41 { st := .resetting }).wr (VER.HOLDERS 2) 2).setEp 1 { inq := [(9, { m := { vertag := 2 } })] };
    s.role = roleNone ∧ k.m.vertag < 16 ∧ (s.ep g).inq = (p, k) :: rest ∧ s.icvPending k.tok = false ∧
    s.busy (pgEP g) = true ∧ k.shim = none) := by
  refine ⟨?_, ?_, ?_, ?_, ?_, ?_, ?_, ?_, ?_⟩ <;> decide +kernel

theorem hyps_TmgQueuesComplete :
  (
    let q : Fin 131584 := 4;
    let x : QPkt := { id := 5, data := 6, base := 100 };
    let rest : List QPkt := [{ id := 7, data := 8, base := 900000 }];
    let s : State := { (inSt .run).wr TMG.AGE 1 with tmg := { queues := [(4, { head := [{ id := 5, data := 6, base := 100 }, { id := 7, data := 8, base := 900000 }] })], data := [(6, {}), (8, {})] } };
    s.role = roleNone ∧ s.tq q = { head := x :: rest } ∧ (x :: rest).all (fun y => y.pkt.m.vertag < 16) = true) ∧
  (
    let r : DReq := { id := 3, port := 0, write := true, client := 5, fin := some true };
    let q : Nat := 4;
    let v : Queue := { spill := true, outbound := [{ id := 5, page := 9 }] };
    let p : PageRec := { id := 5, page := 9 };
    let s : State := { (inSt .run) with drc := { reqs := [{ id := 3, port := 0, write := true, client := 5, fin := some true }] }, tmg := { queues := [(4, { spill := true, outbound := [{ id := 5, page := 9 }] })] } };
    let u : State := { s with drc := {} };
    s.drcTake dpSPILL true = some (r, u) ∧ r.fin = some true ∧
    s.pageQueue (fun v => v.outbound) r.client = some (q, v, p) ∧ p.drop = false ∧ s.tq q = v) ∧
  (
    let r : DReq := { id := 3, port := 1, client := 5, fin := some true };
    let q : Nat := 4;
    let v : Queue := { spill := true, inbound := [{ id := 5, page := 9, starts := [{ id := 8, base := 9999999 }] }] };
    let p : PageRec := { id := 5, page := 9, starts := [{ id := 8, base := 9999999 }] };
    let s : State := { (inSt .run) with drc := { reqs := [{ id := 3, port := 1, client := 5, fin := some true }] }, tmg := { queues := [(4, { spill := true, inbound := [{ id := 5, page := 9, starts := [{ id := 8, base := 9999999 }] }] })] } };
    let u : State := { s with drc := {} };
    s.drcTake dpREFILL false = some (r, u) ∧ r.fin = some true ∧
    s.pageQueue (fun v => v.inbound) r.client = some (q, v, p) ∧ s.tq q = v ∧ v.partialIn = none ∧ p.cont = 0 ∧
    p.contEnds = false ∧ p.split = false ∧ (p.starts.filter s.isDue) = []) ∧
  (
    let s : State := ((inSt .run).wr TMG.MCEIDX 262143).wr TMG.MCENT0 0x12345;
    s.dev.state ≠ .load) ∧
  (
    let w : Word := 0x5FD;
    let s : State := (inSt .run).wr (TMG.RINKSEED 7) 99;
    s.dev.state ≠ .load ∧ fld w 0 0 = 1) ∧
  (
    let s : State := { (inSt .run) with tmg := { pc := [(2562, 7)] } };
    s.dev.state ≠ .load) := by
  refine ⟨?_, ?_, ?_, ?_, ?_, ?_⟩ <;> decide +kernel

theorem hyps_BpmComplete :
  (
    let p : Nat := 77;
    let rest : List Nat := [5];
    let s : State := { (runs (inSt .run) pgBPM |>.wr (BPM.OSTAT 2) 1 |>.wr (BPM.OMAX 2) 9 |>.wr (BPM.OMIN 2) 3) with bpm := { reqs := [(3, 0)], cache := [77, 5] }, dev := { (inSt .run).dev with straps := 0x2080 } };
    s.bpm.reqs = [(ownHOST, 0)] ∧ s.qualifies ownHOST = true ∧ s.bpm.cache = p :: rest ∧ p < s.managed ∧
    s.owner p = 0 ∧ s.held ownHOST < 67108863) ∧
  (
    let q : Fin 131584 := 4;
    let p : Nat := 77;
    let rest : List Nat := [5];
    let s : State := { (runs (inSt .run) pgBPM |>.wr (BPM.OSTAT 0) 1 |>.wr (BPM.OMAX 0) 9 |>.wr (BPM.OMIN 0) 3) with bpm := { reqs := [(1, 4)], cache := [77, 5] }, dev := { (inSt .run).dev with straps := 0x2080 }, tmg := { queues := [(4, { spill := true, tail := [{ id := 2, pkt := { bytes := List.replicate 2100 0 } }, { id := 3, pkt := { bytes := List.replicate 2100 0 } }] })] } };
    s.bpm.reqs = [(ownTMG, q.val)] ∧ s.qualifies ownTMG = true ∧ s.bpm.cache = p :: rest ∧ p < s.managed ∧
    s.owner p = 0 ∧ s.held ownTMG < 67108863 ∧ (s.tq q).spill = true ∧ (s.tq q).pageReady = true) ∧
  (
    let s : State := { (inSt .run) with bpm := { reqs := [(3, 0)], cache := [77, 5] } };
    s.bpm.reqs = [(ownHOST, 0)] ∧ s.qualifies ownHOST = false) ∧
  (
    let o : Fin 4 := 2;
    let p : Nat := 77;
    let rest : List (Nat × Nat) := [];
    let s : State := { (inSt .run) with bpm := { rets := [(2, 77)], map := [(77, 2)] }, dev := { (inSt .run).dev with straps := 0x2080 } };
    s.bpm.rets = (o.val, p) :: rest ∧ o ≠ 0 ∧ s.bpm.level < 16384 ∧ p < s.managed ∧ s.owner p = o) ∧
  (
    let o : Nat := 2;
    let p : Nat := 77;
    let rest : List (Nat × Nat) := [];
    let s : State := { (inSt .run) with bpm := { rets := [(2, 77)] } };
    s.bpm.rets = (o, p) :: rest ∧ s.bpm.level < 16384 ∧ (s.managed ≤ p ∨ s.owner p ≠ o)) ∧
  (
    let hi : Word := 0;
    let lo : Word := 0x4D000;
    let s : State := { (inSt .run).setPath 0 { held := some (BPM.HOSTRET_LO, 0x4D000) } with bpm := { map := [(77, 3)] }, dev := { (inSt .run).dev with straps := 0x2080 } };
    s.dev.state ≠ .load ∧ s.present pgBPM = true ∧ s.busy pgBPM = false ∧
    (s.path 0).held = some (BPM.HOSTRET_LO, lo) ∧ s.hostRetErr (lo.toNat + hi.toNat * 4294967296) = none) ∧
  (
    let hi : Word := 0;
    let lo : Word := 0x4D001;
    let c : Fin 16 := 1;
    let s : State := (inSt .run).setPath 0 { held := some (BPM.HOSTRET_LO, 0x4D001) };
    s.dev.state ≠ .load ∧ s.present pgBPM = true ∧ s.busy pgBPM = false ∧
    (s.path 0).held = some (BPM.HOSTRET_LO, lo) ∧ s.hostRetErr (lo.toNat + hi.toNat * 4294967296) = some c.val) ∧
  (
    let s : State := { (runs (inSt .run) pgBPM |>.wr BPM.STAT 1 |>.wr BPM.CFG 9) with bpm := { ring := [(3, 9), (90, 30)] }, dev := { (inSt .run).dev with straps := 0x2080 } };
    let c : Fin 2 := 0;
    s.running pgBPM = true ∧ s.fb BPM.STAT 0 = true ∧ s.bpm.level < s.f BPM.CFG 14 0 ∧ s.bpm.ring ≠ [] ∧
    s.bpm.fly.length < 64 ∧ s.bpm.lost.contains (s.bpm.head * 2) = decide (c = 1) ∧
    s.bpm.lost.contains (s.bpm.head * 2 + c) = false) ∧
  (
    let s : State := { (runs (inSt .run) pgBPM |>.wr BPM.STAT 1 |>.wr BPM.CFG 9) with bpm := { ring := [(3, 9), (90, 30)], head := 5, lost := [10, 11] }, dev := { (inSt .run).dev with straps := 0x2080 } };
    s.running pgBPM = true ∧ s.fb BPM.STAT 0 = true ∧ s.bpm.level < s.f BPM.CFG 14 0 ∧ s.bpm.ring ≠ [] ∧
    s.bpm.fly.length < 64 ∧ s.bpm.lost.contains (s.bpm.head * 2) = true ∧
    s.bpm.lost.contains (s.bpm.head * 2 + 1) = true ∧ s.f BPM.LOST 25 0 + 16 < 67108864) ∧
  (
    let r : DReq := { id := 7, port := 4, fin := some true };
    let s : State := { (inSt .run) with bpm := { fly := [(7, [1, 2])] }, drc := { reqs := [{ id := 7, port := 4, fin := some true }] } };
    let u : State := { s with drc := {} };
    s.drcTake dpBPM false = some (r, u) ∧ r.fin = some true ∧ kgetD u.bpm.fly r.id [] ≠ [] ∧
    u.bpm.level + (kgetD u.bpm.fly r.id []).length ≤ 16384) ∧
  (
    let r : DReq := { id := 7, port := 4, client := 1, fin := some false };
    let s : State := { (inSt .run) with bpm := { fly := [(7, [1, 2])], lost := [0] }, drc := { reqs := [{ id := 7, port := 4, client := 1, fin := some false }] } };
    let u : State := { s with drc := {} };
    s.drcTake dpBPM false = some (r, u) ∧ r.fin = some false ∧
    (r.client :: u.bpm.lost).contains (r.client / 2 * 2) = true ∧
    (r.client :: u.bpm.lost).contains (r.client / 2 * 2 + 1) = true ∧ kgetD u.bpm.fly r.id [] ≠ [] ∧
    u.f BPM.LOST 25 0 + (kgetD u.bpm.fly r.id []).length < 67108864) ∧
  (
    let r : DReq := { id := 7, port := 4, client := 6, fin := some false };
    let c : Fin 2 := 1;
    let s : State := { (inSt .run) with bpm := { fly := [(7, [1, 2])], lost := [0] }, drc := { reqs := [{ id := 7, port := 4, client := 6, fin := some false }], next := 9 } };
    let u : State := { s with drc := { next := 9 } };
    s.drcTake dpBPM false = some (r, u) ∧ r.fin = some false ∧
    (r.client :: u.bpm.lost).contains (r.client / 2 * 2) = decide (c = 1) ∧
    (r.client :: u.bpm.lost).contains (r.client / 2 * 2 + c) = false ∧ kgetD u.bpm.fly r.id [] ≠ []) ∧
  (
    let s : State := { (runs (inSt .run) pgBPM |>.wr BPM.STAT 1 |>.wr BPM.CFG 0x110000) with bpm := { ring := [(3, 9)], cache := List.range 18 }, dev := { (inSt .run).dev with straps := 0x2080 } };
    s.running pgBPM = true ∧ s.fb BPM.STAT 0 = true ∧ s.f BPM.CFG 30 16 < s.bpm.cache.length) ∧
  (
    let s : State := { runs (runs (inSt .run) pgBPM) pgDRC with bpm := { map := [(3, 1)], lost := [4] }, dev := { (inSt .run).dev with straps := 0x2080 } };
    s.running pgBPM = true ∧ s.basinCap ≠ 0 ∧ s.running pgDRC = true ∧ s.fb BPM.STAT 0 = false ∧
    s.fb BPM.STAT 1 = false ∧ 32 ≤ s.buildBlocks ∧ (s.drc.reqs.any fun r => r.port == dpBPM && r.write) = false) ∧
  (
    let s : State := { (runs (inSt .run) pgDRC).wr BPM.STAT 2 |>.wr BPM.LOST 9 with bpm := { build := 5000000, lost := [3] }, dev := { (inSt .run).dev with straps := 0x2080 } };
    s.fb BPM.STAT 1 = true ∧ s.buildBlocks ≤ s.bpm.build ∧
    (s.drc.reqs.any fun r => r.port == dpBPM && r.write) = false) ∧
  (
    let r : DReq := { id := 7, port := 4, write := true, len := 64, client := 6 };
    let s : State := { ((inSt .run).wr BPM.STAT 2) with bpm := { build := 4, lost := [6, 9] }, drc := { reqs := [{ id := 7, port := 4, write := true, len := 64, client := 6 }], next := 9 }, dev := { (inSt .run).dev with straps := 0x2080 } };
    s.drc.reqs = [r] ∧ r.port = dpBPM ∧ r.write = true ∧ r.at_ = none ∧ r.fin = none ∧ r.client < 4294967296 ∧
    s.bpm.wb = [] ∧ s.drcBadAddr r = false ∧ s.running pgDRC = false) ∧
  (
    let w : Word := 1;
    let s : State := { (inSt .run).wr BPM.STAT 1 |>.wr (BPM.OSTAT 2) 1 with bpm := { rets := [(3, 4), (1, 5)], reqs := [(3, 0), (1, 9)] } };
    s.dev.state ≠ .load ∧ s.present pgBPM = true ∧ s.busy pgBPM = false ∧ fld w 0 0 = 1 ∧ s.bpm.reclaims = [] ∧
    s.fb BPM.STAT 0 = true) ∧
  (
    let o : Fin 4 := 3;
    let s : State := { (inSt .run).wr BPM.STAT 1 |>.wr (BPM.OSTAT 2) 2 |>.wr (BPM.OHELD 2) 2 with bpm := { reclaims := [3], map := [(3, 1), (4, 3), (5, 3)], cache := [9] } };
    o ≠ 0 ∧ s.bpm.reclaims = [o.val] ∧
    (s.drc.reqs.any fun r => r.write && r.port == ownPort o && r.fin.isNone) = false ∧
    (s.bpm.map.filter fun e => e.2 = o.val).length + s.bpm.level ≤ 16384) := by
  refine ⟨?_, ?_, ?_, ?_, ?_, ?_, ?_, ?_, ?_, ?_, ?_, ?_, ?_, ?_, ?_, ?_, ?_, ?_⟩ <;> decide +kernel

theorem hyps_HashCommandsComplete :
  (
    let h : Fin 2 := 0;
    let g : Fin 1024 := 0;
    let i : Nat := 0;
    let s : State := tblS [0x2820, 0, 0x77, 0, 0x11223344, 0x5566];
    goHalf s h 1 g = true ∧ (s.partn h (goCmd s 1 g).part).en = true ∧ (s.half h).bad = [] ∧
    (s.half h).find (s.partn h (goCmd s 1 g).part) (s.cmdVis (goCmd s 1 g)) ((goCmd s 1 g).key (fmtWords (s.partn h (goCmd s 1 g).part).fmt)) = none ∧
    (s.half h).locked 0 ((s.partn h (goCmd s 1 g).part).rowsOf ((goCmd s 1 g).key (fmtWords (s.partn h (goCmd s 1 g).part).fmt))).1 = false ∧
    freeIn ((s.half h).row 0 ((s.partn h (goCmd s 1 g).part).rowsOf ((goCmd s 1 g).key (fmtWords (s.partn h (goCmd s 1 g).part).fmt))).1) (s.partn h (goCmd s 1 g).part).fmt = some i ∧
    (s.partn h (goCmd s 1 g).part).base + 2 ^ (s.partn h (goCmd s 1 g).part).log2 ≤ 393216) ∧
  (
    let h : Fin 2 := 0;
    let g : Fin 1024 := 0;
    let l : Loc := ⟨0, keyRow0, 3⟩;
    let ctl : Nat := 0x20077;
    let s : State := entS (tblS [0x2820, 0, 0x77, 0, 0x11223344, 0x5566]) 0 keyRow0 3 0x20077 0x1122334400005566;
    goHalf s h 3 g = true ∧ (s.partn h (goCmd s 3 g).part).en = true ∧ (s.half h).bad = [] ∧
    (s.half h).find (s.partn h (goCmd s 3 g).part) (s.cmdVis (goCmd s 3 g)) ((goCmd s 3 g).key (fmtWords (s.partn h (goCmd s 3 g).part).fmt)) = some (l, ctl)) ∧
  (
    let h : Fin 2 := 0;
    let g : Fin 1024 := 0;
    let s : State := tblS [0x2820, 0, 0x77, 0, 0x11223344, 0x5566];
    goHalf s h 3 g = true ∧ (s.partn h (goCmd s 3 g).part).en = true ∧ (s.half h).bad = [] ∧
    (s.half h).find (s.partn h (goCmd s 3 g).part) (s.cmdVis (goCmd s 3 g)) ((goCmd s 3 g).key (fmtWords (s.partn h (goCmd s 3 g).part).fmt)) = none) ∧
  (
    let h : Fin 2 := 0;
    let g : Fin 1024 := 0;
    let l : Loc := ⟨0, keyRow0, 3⟩;
    let ctl : Nat := 0x20077;
    let s : State := entS (tblS [0x2020, 0, 0x77, 0, 0x11223344, 0x5566]) 0 keyRow0 3 0x20077 0x1122334400005566;
    goHalf s h 2 g = true ∧ (s.partn h (goCmd s 2 g).part).en = true ∧ (s.half h).bad = [] ∧
    (s.half h).find (s.partn h (goCmd s 2 g).part) (s.cmdVis (goCmd s 2 g)) ((goCmd s 2 g).key (fmtWords (s.partn h (goCmd s 2 g).part).fmt)) = some (l, ctl)) ∧
  (
    let h : Fin 2 := 0;
    let g : Fin 1024 := 0;
    let m : Fin 2 := 1;
    let r : Fin 393216 := 5;
    let s : State := entS (tblS [0x2820, 0, 0x77, 0]) 1 5 0 0x20077 0x1122334400005566;
    goHalf s h 11 g = true ∧ (s.partn h (goCmd s 11 g).part).en = true ∧ (s.half h).bad = [] ∧
    (goCmd s 11 g).imm = true ∧ ((s.half h).partRows (s.partn h (goCmd s 11 g).part)) = [(m.val, r.val)] ∧
    s.flushSlots h (goCmd s 11 g) (s.partn h (goCmd s 11 g).part) (m.val, r.val) = [0]) ∧
  (
    let g : Fin 1024 := 0;
    let l : Loc := ⟨0, keyRow0, 3⟩;
    let ctl : Nat := 0x20077;
    let s : State := entS (tblW [0x2860, 0, 0x77, 0, 0x11223344, 0x5566]) 0 keyRow0 3 0x20077 0x1122334400005566;
    goBoth s 3 g = true ∧ (s.partn 0 (goCmd s 3 g).part).en = true ∧ (s.partn 1 (goCmd s 3 g).part).en = true ∧
    s.tbl.east.bad = [] ∧ s.tbl.west.bad = [] ∧
    s.tbl.east.find (s.partn 0 (goCmd s 3 g).part) (s.cmdVis (goCmd s 3 g)) ((goCmd s 3 g).key (fmtWords (s.partn 0 (goCmd s 3 g).part).fmt)) = some (l, ctl)) ∧
  (
    let g : Fin 1024 := 0;
    let s : State := tblS [0x6C];
    s.dev.state ≠ .load ∧ s.running pgTBL = true ∧ s.freeTag = some g.val ∧ s.tbl.cmds = [] ∧
    (s.f (TBL.CMDW 0) 4 0 = 0 ∨ 11 < s.f (TBL.CMDW 0) 4 0) ∧ s.f (TBL.CMDW 0) 6 5 = 3) ∧
  (
    let op : Nat := 6;
    let i : Instr := .rootset;
    let s : State := inSt .run;
    (i, op) ∈ [(.addEntry, 1), (.delEntry, 2), (.findEntry, 3), (.rowread, 4), (.rowwrite, 5), (.rootset, 6), (.pondwr, 7), (.ponddel, 8), (.lockRow, 9), (.unlockRow, 10), (.flushPort, 11)] ∧
    s.dev.state ≠ .load ∧ s.initialising = false ∧ s.busy pgTBL = false ∧
    (s.running pgTBL = false ∨ s.freeTag = none)) := by
  refine ⟨?_, ?_, ?_, ?_, ?_, ?_, ?_, ?_⟩ <;> decide +kernel

theorem hyps_RowCommandsComplete :
  (
    let h : Fin 2 := 0;
    let g : Fin 1024 := 0;
    let s : State := (entS ((tblS [0x20, 0x1000005]).setHalf 0 { hits := [hitKey ⟨1, 5, 0⟩] }) 1 5 0 0x20077 0x1122334400005566);
    goHalf s h 4 g = true ∧ (goCmd s 4 g).row < rowMax (goCmd s 4 g).mem ∧ (s.half h).bad = []) ∧
  (
    let h : Fin 2 := 0;
    let g : Fin 1024 := 0;
    let s : State := (tblS [0x20, 0xD000005, 0, 0, 1, 2, 3]).setHalf 0 { bad := [13 * 524288 + 5] };
    goHalf s h 5 g = true ∧ (goCmd s 5 g).row < rowMax (goCmd s 5 g).mem ∧ s.inUse = false) ∧
  (
    let g : Fin 1024 := 0;
    let s : State := (tblS [0x60, 0xD000005, 0, 0, 1, 2, 3]).setHalf 1 { bad := [13 * 524288 + 5] };
    goBoth s 5 g = true ∧ (goCmd s 5 g).row < rowMax (goCmd s 5 g).mem ∧ s.inUse = false) ∧
  (
    let h : Fin 2 := 0;
    let g : Fin 1024 := 0;
    let n : Fin 4 := 0;
    let s : State := tblS [0x20020, 0x5, 0, 9];
    goHalf s h 6 g = true ∧ (goCmd s 6 g).row < 32768 ∧ (s.half h).bad = [] ∧
    rootPtr (s.rootEntry h (goCmd s 6 g).rootIx) (goCmd s 6 g) = some n.val) ∧
  (
    let h : Fin 2 := 0;
    let g : Fin 1024 := 0;
    let s : State := (tblS [0x20, 0xD000005, 0x99, 0, 1, 2, 3, 4, 5, 6, 7, 8, 9]).wr (TCM.CHAIN 0 3) 0x280;
    goHalf s h 7 g = true ∧ (goCmd s 7 g).mem = 13 ∧ (goCmd s 7 g).row < 196608 ∧ s.pondW h (goCmd s 7 g).row = 1 ∧
    (s.half h).bad = [] ∧ bit (rbits ((s.half h).row 13 (goCmd s 7 g).row) 287 256) 17 = false) ∧
  (
    let h : Fin 2 := 0;
    let g : Fin 1024 := 0;
    let s : State := ((tblS [0x20, 0xD000005, 0x99]).wr (TCM.CHAIN 0 3) 0x280).rowPut 0 13 5 (rins 0 287 256 0x20099);
    goHalf s h 8 g = true ∧ (goCmd s 8 g).mem = 13 ∧ (goCmd s 8 g).row < 196608 ∧ s.pondW h (goCmd s 8 g).row ≠ 0 ∧
    (s.half h).bad = [] ∧
    visible (s.cmdVis (goCmd s 8 g)) (rbits ((s.half h).row 13 (goCmd s 8 g).row) 287 256) = true) ∧
  (
    let h : Fin 2 := 0;
    let g : Fin 1024 := 0;
    let s : State := tblS [0x20, 0x1000005];
    goHalf s h 9 g = true ∧ (goCmd s 9 g).mem ≤ 1 ∧ (goCmd s 9 g).row < 393216 ∧ (s.half h).bad = [] ∧
    (s.half h).lockCount < 256) ∧
  (
    let h : Fin 2 := 0;
    let g : Fin 1024 := 0;
    let s : State := (tblS [0x20, 0x1000005]).rowPut 0 1 5 3;
    goHalf s h 10 g = true ∧ (goCmd s 10 g).mem ≤ 1 ∧ (goCmd s 10 g).row < 393216 ∧ (s.half h).bad = []) := by
  refine ⟨?_, ?_, ?_, ?_, ?_, ?_, ?_, ?_⟩ <;> decide +kernel

theorem hyps_CommandEngineComplete :
  (
    let c : TblCmd := { tag := 4, words := [0x23] };
    let s : State := { tblS [] with tbl := { cmds := [{ tag := 4, words := [0x23] }] } };
    s.tbl.cmds = [c] ∧ ({ s with tbl := { s.tbl with cmds := [] } }).cmdWaits c = false) ∧
  (
    let c : TblCmd := { tag := 4, words := [0x826, 5] };
    let s : State := { (tblS []).rowPut 0 3 0 0x20000000200000002000000020000000 |>.setHalf 1 {} with tbl := { east := { rows := [(3 * 524288, 0x30000000300000003000000030000000)] }, cmds := [{ tag := 4, words := [0x826, 5] }] } };
    s.tbl.cmds = [c] ∧ ({ s with tbl := { s.tbl with cmds := [] } }).cmdWaits c = true) ∧
  (
    let c : TblCmd := { tag := 4, words := [0x121] };
    let k : Cmpl := { tag := 4, op := 1, statusE := stFULL };
    let i : Nat := 0;
    let s : State := { tblS [] with tbl := { done := [({ tag := 4, words := [0x121] }, { tag := 4, op := 1, statusE := stFULL })] } };
    s.tblReady = [i] ∧ s.tbl.done[i]? = some (c, k)) ∧
  (
    let i : Nat := 0;
    let j : Nat := 1;
    let l : List Nat := [];
    let s : State := { tblS [] with tbl := { done := [({ tag := 4, words := [0x121] }, { tag := 4, op := 1, statusE := stFULL }), ({ tag := 3, words := [0x165] }, { tag := 3 })] } };
    s.tblReady = i :: j :: l) ∧
  (
    let w : Word := 1;
    let k : Cmpl := { tag := 9 };
    let rest : List Cmpl := [];
    let s : State := { tblS [] with tbl := { fifo := [{ tag := 9 }], tags := [8, 9] } };
    s.dev.state ≠ .load ∧ s.busy pgTBL = false ∧ fld w 0 0 = 1 ∧ s.tbl.fifo = k :: rest) ∧
  (
    let s : State := { (tblS []).wr TBL.FOLDSTAT 2 with ver := { order := [1], slots := .open_ :: .current :: List.replicate 14 .free } };
    s.running pgTBL = true ∧ s.effState ≠ .standby ∧ s.tbl.folding = none) ∧
  (
    let u : Fin 16 := 1;
    let key : Fin 7340032 := 5;
    let s : State := { (tblS []).wr TBL.FOLDSTAT 2 with ver := { order := [1], slots := .open_ :: .current :: List.replicate 14 .free }, tbl := { folding := some 1, east := { rows := [(5, BitVec.ofNat 512 (entPut 0 0 2 0xE0077 55))], fold := [(1, 5), (2, 5)] } } };
    s.running pgTBL = true ∧ s.effState ≠ .standby ∧ s.pend u = true ∧ s.tbl.folding = some u.val ∧
    (s.tbl.east.fold.filter fun e => e.1 = u.val) = [(u.val, key.val)] ∧
    (s.tbl.west.fold.filter fun e => e.1 = u.val) = [] ∧ s.tbl.east.bad = [] ∧ s.role = roleNone) ∧
  (
    let h : Half := 0;
    let m : Nat := 0;
    let r : Nat := 3;
    let p : Fin 16 := 2;
    let s : State := { (runs (tblS []) pgLRN).wr (TBL.H_CFG0 0 2) 0x257 |>.wr (TBL.AGECFG 0) 0x10005 with tbl := { east := { rows := [(3, BitVec.ofNat 512 (entPut 0 3 0 0x20077 55))] } } };
    s.running pgTBL = true ∧ s.effState ≠ .standby ∧ (s.half h).ageDue = 0 ∧
    ((List.range 16).filter fun q => (s.partn h q).en && (s.partn h q).ageen) = [p.val] ∧
    (s.half h).partRows (s.partn h p) = [(m, r)] ∧ (s.half h).isBad m r = false ∧ (s.half h).locked m r = false ∧
    (s.partn h p).fmt = 3 ∧ bit (entCtl ((s.half h).row m r) 3 0) 17 = true ∧
    bit (entCtl ((s.half h).row m r) 3 0) 28 = false ∧ s.role = roleNone) ∧
  (
    let h : Half := 1;
    let row : Nat := 9;
    let s : State := tblS [];
    s.running pgTBL = true ∧ row % 524288 < rowMax (row / 524288) ∧
    (s.half h).isBad (row / 524288) (row % 524288) = false ∧ s.effState ≠ .standby) ∧
  (
    let h : Half := 1;
    let row : Nat := 524287;
    let flip : List Nat := [3, 4];
    let s : State := tblS [];
    (s.running pgTBL = false ∨ rowMax (row / 524288) ≤ row % 524288 ∨ ((s.half h).isBad (row / 524288) (row % 524288) = false ∧
    (flip = [] ∨ (flip.length = 1 ∧ s.effState = .standby))))) ∧
  (
    let row : Nat := 9;
    let b : Nat := 500;
    let c : Nat := 2;
    let s : State := tblS [];
    s.running pgTBL = true ∧ row % 524288 < rowMax (row / 524288) ∧ b ≠ c) ∧
  (
    let bank : Fin 96 := 95;
    let row : Fin 2048 := 3;
    (bank ≠ 95 ∨ row ≠ 2047)) ∧
  (
    let bank : Fin 96 := 95;
    let row : Fin 2048 := 3;
    let s : State := runs (inSt .run) pgTCM;
    s.running pgTCM = true ∧ s.effState ≠ .standby ∧ (bank ≠ 95 ∨ row ≠ 2047)) ∧
  (
    let h : Half := 0;
    let bank : Fin 96 := 5;
    let row : Fin 2048 := 3;
    let s : State := ((runs (inSt .run) pgTCM).wr (TCM.CHAIN 0 3) 0x285).rowPut 0 13 10243 (rins 0 287 256 0x20099);
    s.running pgTCM = true ∧ (bank ≠ 95 ∨ row ≠ 2047) ∧ s.effState ≠ .standby ∧
    s.pondW h (bank.val * 2048 + row.val) = 1 ∧ s.role = roleNone) ∧
  (
    let h : Half := 1;
    let x : Nat × Nat := (2000, 7);
    let s : State := { runs (inSt .run) pgTCM with now := 9000, tbl := { sweeps := [(0, 300, 9), (1, 2000, 7)] } };
    s.running pgTCM = true ∧ kgetD s.tbl.sweeps h (0, 0) = x) ∧
  (
    let h : Half := 1;
    let d : Nat := 70;
    let s : State := { ((tblS []).wr (TBL.AGECFG 1) 5) with tbl := { west := { ageDue := 70 } } };
    s.running pgTBL = true ∧ s.effState ≠ .standby ∧ (s.half h).ageDue = d ∧ 0 < d ∧
    ((List.range 16).filter fun q => (s.partn h q).en && (s.partn h q).ageen) = []) := by
  refine ⟨?_, ?_, ?_, ?_, ?_, ?_, ?_, ?_, ?_, ?_, ?_, ?_, ?_, ?_, ?_, ?_⟩ <;> decide +kernel

theorem hyps_VersionsComplete :
  (
    let w : Word := 1;
    let v : Nat := 0;
    let n : Nat := 1;
    let s : State := { runs (inSt .run) pgVER with ver := { refused := true } };
    s.dev.state ≠ .load ∧ fld w 1 0 = 1 ∧ s.running pgVER = true ∧ s.effState ≠ .standby ∧ s.ver.openV = some v ∧
    ({ s with ver := { s.ver with upTo := s.tbl.seq } } : State).outstanding v = false ∧ s.fb TBL.VERERR v = false ∧
    s.freeSlot = some n) ∧
  (
    let w : Word := 3;
    let s : State := runs (inSt .run) pgVER;
    s.dev.state ≠ .load ∧ s.initialising = false ∧ s.busy pgVER = false ∧ fld w 1 0 ≠ 0 ∧
    (fld w 1 0 = 3 ∨ s.ver.openV = none ∨ s.running pgVER = false ∨ s.effState = .standby)) ∧
  (
    let v : Nat := 0;
    let w : Nat := 1;
    let s : State := { (runs (inSt .run) pgVER).wr TBL.VERERR 1 with ver := { busy := .commit 0 1 } };
    s.ver.busy = .commit v w ∧ w < 2 ∧ s.outstanding v = false ∧ s.fb TBL.VERERR v = true ∧ s.dev.state ≠ .hold) ∧
  (
    let v : Fin 16 := 0;
    let w : Nat := 4;
    let n : Nat := 2;
    let s : State := { (runs (inSt .run) pgVER) with ver := { slots := .open_ :: .current :: List.replicate 14 .free, order := [1], busy := .commit 0 4 }, tim := { count := 0x123456789 } };
    s.ver.busy = .commit v.val w ∧ s.commitWait v w = 4 ∧ s.freeSlot = some n ∧ s.ver.slots.length = 16 ∧
    s.ver.slot v = .open_ ∧ s.role = roleNone) ∧
  (
    let w : Word := 2;
    let v : Nat := 0;
    let s : State := runs (inSt .run) pgVER;
    s.dev.state ≠ .load ∧ fld w 1 0 = 2 ∧ s.running pgVER = true ∧ s.effState ≠ .standby ∧ s.ver.openV = some v) ∧
  (
    let v : Fin 16 := 0;
    let key : Fin 7340032 := 5;
    let s : State := { (tblS []).wr TBL.FOLDSTAT 1 |>.wr TBL.VERERR 3 with ver := { busy := .abort 0 }, tbl := { east := { rows := [(5, BitVec.ofNat 512 (entPut 0 0 2 0x60077 55))], fold := [(0, 5), (2, 5)] } } };
    s.ver.busy = .abort v.val ∧ s.outstanding v = false ∧
    (s.tbl.east.fold.filter fun e => e.1 = v.val) = [(v.val, key.val)] ∧
    (s.tbl.west.fold.filter fun e => e.1 = v.val) = [] ∧ s.tbl.east.bad = [] ∧ s.role = roleNone) := by
  refine ⟨?_, ?_, ?_, ?_, ?_, ?_⟩ <;> decide +kernel

theorem hyps_TableWritesJournaled :
  (
    let h : Half := 0;
    let mem : Nat := 1;
    let row : Nat := 5;
    let v : Nat := 99;
    let s : State := { (inSt .run).wr EVT.STAT 9 with dev := { (inSt .run).dev with straps := 0x20 }, evt := { jseq := 0xFFFFFFFF } };
    s.role = roleActive ∧ s.peer ≠ stStale ∧ s.evtEn = true ∧ (s.half h).row mem row ≠ v ∧
    s.evt.journal.length < 16384) ∧
  (
    let h : Half := 0;
    let mem : Nat := 1;
    let row : Nat := 5;
    let v : Nat := 99;
    let s : State := { (inSt .run).wr EVT.STAT 9 |>.wr EVT.POLICY 0 with dev := { (inSt .run).dev with straps := 0x20 }, evt := { journal := List.replicate 16384 (0, .bulkEnd, 0) } };
    s.role = roleActive ∧ s.peer ≠ stStale ∧ s.evtEn = true ∧ (s.half h).row mem row ≠ v ∧
    16384 ≤ s.evt.journal.length ∧ s.fb EVT.POLICY 0 = false) := by
  refine ⟨?_, ?_⟩ <;> decide +kernel

theorem hyps_BondedTransmitComplete :
  (
    let k : Fin 4 := 0;
    let l : List Byte := noticeB 9 77 50000 5;
    let g : Fin 32 := 5;
    let m : Fin 16 := 3;
    let s : State := bondS 3;
    s.fb BLG.CNEN k = true ∧ s.initialising = false ∧ (noticeF l).crcOk = true ∧ (noticeF l).fmtOk = true ∧
    s.memberOf (noticeF l).port = some (g.val, m.val) ∧ s.f (BLG.MCFG g m) 11 9 = k ∧ (s.mem g m).seen = false ∧
    s.tai + 10000 ≤ s.fullInstant (noticeF l).at_ ∧ s.fullInstant (noticeF l).at_ ≤ s.tai + 1000000000 ∧
    (s.mem g m).pend.length < 4) ∧
  (
    let k : Fin 4 := 0;
    let l : List Byte := (noticeB 9 77 50000 5).set 3 0xFF;
    let s : State := bondS 3;
    s.fb BLG.CNEN k = true ∧ s.initialising = false ∧ (noticeF l).crcOk = false) ∧
  (
    let k : Fin 4 := 0;
    let s : State := bondS 3;
    s.fb BLG.CNEN k = true ∧ s.initialising = false) ∧
  (
    let w : Word := BitVec.ofNat 32 (beNat ((noticeB 9 77 5000 5).drop 8));
    let l : List Byte := noticeB 9 77 5000 5;
    let g : Fin 32 := 5;
    let m : Fin 16 := 3;
    let s : State := (bondS 3).wr BLG.HNOT0 (BitVec.ofNat 32 (beNat ((noticeB 9 77 5000 5).take 4))) |>.wr BLG.HNOT1 (BitVec.ofNat 32 (beNat (((noticeB 9 77 5000 5).drop 4).take 4)));
    s.dev.state ≠ .load ∧
    l = beBytes 4 (s.rd BLG.HNOT0).toNat ++ beBytes 4 (s.rd BLG.HNOT1).toNat ++ beBytes 4 w.toNat ∧
    (noticeF l).crcOk = true ∧ (noticeF l).fmtOk = true ∧ s.memberOf (noticeF l).port = some (g.val, m.val) ∧
    (s.mem g m).seen = false ∧ s.fullInstant (noticeF l).at_ < s.tai + 10000 ∧ (noticeF l).cap < s.curCap g m ∧
    (s.mem g m).pend.length < 4) ∧
  (
    let g : Fin 32 := 5;
    let m : Fin 16 := 3;
    let n : PendCap := { at_ := 50, due := 900, cap := 0 };
    let s : State := (bondS 3).setMem 5 3 { pend := [{ at_ := 60, due := 1000, cap := 3 }, { at_ := 50, due := 900, cap := 0 }] };
    s.fb (BLG.MCFG g m) 0 = true ∧ firstDue (s.mem g m).pend = some n ∧ n.cap < 2048) ∧
  (
    let g : Fin 32 := 5;
    let m : Fin 16 := 3;
    let t0 : Nat := 40;
    let s : State := (bondS 2).setMem 5 3 { joinAt := some 40 };
    (s.mem g m).joinAt = some t0 ∧ s.txState g m = 2) ∧
  (
    let g : Fin 32 := 5;
    let m : Fin 16 := 3;
    let w : Word := 0x1013;
    let s : State := (bondS 3).wr (BLG.GSTAT 5) 1;
    s.dev.state ≠ .load ∧ s.busy pgBLG = false ∧ s.memEn g m = true ∧ s.fb (SCH.CAP (16 * g.val + m.val)) 16 = true ∧
    (s.txState g m = 2 ∨ s.txState g m = 3) ∧ w = s.rd (BLG.MCFG g m) ||| 0x1000 ∧ s.fb (BLG.MCFG g m) 12 = false ∧
    (s.rd (BLG.MCFG g m)).toNat < 8192 ∧
    (List.range 32).all (fun i => (s.fb (BLG.GCFG i) 0 && s.running pgBLG) == decide (s.f (BLG.GSTAT i) 1 0 ≠ 0)) = true) ∧
  (
    let g : Fin 32 := 5;
    let m : Fin 16 := 3;
    let t0 : Nat := 40;
    let s : State := (bondS 3).setMem 5 3 { lastTx := some 40 };
    s.hbMay g m = true ∧ (s.mem g m).lastTx = some t0 ∧ s.isProtected (s.memPort g m) = false) ∧
  (
    let g : Fin 32 := 5;
    let m : Fin 16 := 3;
    let s : State := (bondS 3).setGrp 5 { eob := [3] };
    (s.grp g).eob = [m.val] ∧ s.hbMay g m = true ∧ s.isProtected (s.memPort g m) = false) := by
  refine ⟨?_, ?_, ?_, ?_, ?_, ?_, ?_, ?_, ?_⟩ <;> decide +kernel

theorem hyps_BondedReceiveComplete :
  (
    let p : Port := 9;
    let k : Pkt := { bytes := shimW 77 true false };
    let rest : List Pkt := [];
    let g : Fin 32 := 5;
    let m : Fin 16 := 3;
    let s : State := (bondS 3).setPort 9 { link := .up, shimq := [{ bytes := shimW 77 true false }] };
    (s.port p).shimq = k :: rest ∧ s.isUp p = true ∧ s.running pgBLG = true ∧ (shimF k.bytes).crcOk = true ∧
    s.memberOf p = some (g.val, m.val) ∧ (shimF k.bytes).group = g ∧ (shimF k.bytes).member = m ∧
    (shimF k.bytes).hb = true) ∧
  (
    let p : Port := 9;
    let k : Pkt := { bytes := shimW 77 false true };
    let rest : List Pkt := [];
    let g : Fin 32 := 5;
    let m : Fin 16 := 3;
    let s : State := ((bondS 3).wr (BLG.GSTAT 5) 2).setPort 9 { link := .up, shimq := [{ bytes := shimW 77 false true }] };
    (s.port p).shimq = k :: rest ∧ s.isUp p = true ∧ s.running pgBLG = true ∧ (shimF k.bytes).crcOk = true ∧
    s.memberOf p = some (g.val, m.val) ∧ (shimF k.bytes).group = g ∧ (shimF k.bytes).member = m ∧
    (shimF k.bytes).hb = false ∧ s.f (BLG.ETYPE (shimF k.bytes).etidx) 15 0 ≠ 0 ∧ (s.mem g m).prev = none ∧
    s.f (BLG.GSTAT g) 1 0 = 2 ∧
    ((shimF k.bytes).seq + 4294967296 - (s.rd (BLG.RXNEXT g)).toNat) % 4294967296 < 2147483648 ∧
    s.eddyUse + k.cells ≤ 16384 ∧ (s.mem g m).q.spill = false ∧ s.basinUse = false) ∧
  (
    let p : Port := 9;
    let k : Pkt := { bytes := [1, 2] };
    let rest : List Pkt := [];
    let g : Fin 32 := 5;
    let m : Fin 16 := 3;
    let s : State := (bondS 3).setPort 9 { link := .up, shimq := [{ bytes := [1, 2] }] };
    (s.port p).shimq = k :: rest ∧ s.running pgBLG = true ∧ (shimF k.bytes).crcOk = false ∧
    s.memberOf p = some (g.val, m.val)) ∧
  (
    let g : Fin 32 := 5;
    let m : Fin 16 := 3;
    let x : QPkt := { id := 2, enq := 0xFFFFFFFF, pkt := { bytes := shimW 0xFFFFFFFF false false } };
    let s : State := ((bondS 3).wr (BLG.GSTAT 5) 2 |>.wr (BLG.RXNEXT 5) 0xFFFFFFFF |>.wr (BLG.MCFG 5 0) 0x14).setMem 5 3 { q := { head := [{ id := 2, enq := 0xFFFFFFFF, pkt := { bytes := shimW 0xFFFFFFFF false false } }] } };
    s.f (BLG.GSTAT g) 1 0 = 2 ∧ (s.mem g m).q = { head := [x] } ∧
    (List.range 16).all (fun i => i = m.val || (s.mem g i).q = {}) = true ∧ x.enq = (s.rd (BLG.RXNEXT g)).toNat ∧
    (s.unshim (s.memPort g (s.f (BLG.GCFG g) 4 1)) x.pkt).len ≤ s.rxRoom (pgOf (s.memPort g (s.f (BLG.GCFG g) 4 1)))) ∧
  (
    let g : Fin 32 := 5;
    let t0 : Nat := 9;
    let n : Nat := 80;
    let s : State := ((bondS 3).wr (BLG.GSTAT 5) 2 |>.wr (BLG.RXNEXT 5) 77 |>.setMem 5 3 { q := { head := [{ id := 2, enq := 80 }] } }).setGrp 5 { gapAt := some 9 };
    (s.grp g).gapAt = some t0 ∧ lowestSeq ((s.eddyHeads g).map fun e => e.2.enq) = some n) ∧
  (
    let g : Fin 32 := 5;
    let t0 : Nat := 9;
    let n : Fin 4294967296 := 80;
    let s : State := ((bondS 3).wr (BLG.GSTAT 5) 1 |>.setMem 5 3 { q := { head := [{ id := 2, enq := 80 }] } }).setGrp 5 { syncAt := some 9 };
    (s.grp g).syncAt = some t0 ∧ lowestSeq ((s.eddyHeads g).map fun e => e.2.enq) = some n.val) ∧
  (
    let g : Fin 32 := 5;
    let m : Fin 16 := 3;
    let t0 : Nat := 9;
    let s : State := (bondS 3).setMem 5 3 { lastRx := some 9 };
    (s.mem g m).lastRx = some t0 ∧ (s.eddyHeads g) = []) ∧
  (
    let r : DReq := { id := 3, port := 2, write := true, client := 5, fin := some true };
    let g : Nat := 5;
    let m : Nat := 3;
    let p : PageRec := { id := 5, page := 9 };
    let s : State := { (bondS 3).setMem 5 3 { q := { spill := true, outbound := [{ id := 5, page := 9 }] } } with drc := { reqs := [{ id := 3, port := 2, write := true, client := 5, fin := some true }] } };
    let u : State := { s with drc := {} };
    s.drcTake dpEDDYW true = some (r, u) ∧ r.fin = some true ∧
    s.eddyPage (fun v => v.outbound) r.client = some (g, m, p) ∧ (s.mem g m).q.outbound = [p] ∧ p.drop = false) ∧
  (
    let r : DReq := { id := 3, port := 3, client := 5, fin := some true };
    let g : Nat := 5;
    let m : Nat := 3;
    let p : PageRec := { id := 5, page := 9, starts := [{ id := 8 }] };
    let s : State := { (bondS 3).setMem 5 3 { q := { spill := true, inbound := [{ id := 5, page := 9, starts := [{ id := 8 }] }] } } with drc := { reqs := [{ id := 3, port := 3, client := 5, fin := some true }] } };
    let u : State := { s with drc := {} };
    s.drcTake dpEDDYR false = some (r, u) ∧ r.fin = some true ∧
    s.eddyPage (fun v => v.inbound) r.client = some (g, m, p) ∧ (s.mem g m).q.inbound = [p] ∧ p.split = false ∧
    p.cont = 0 ∧ p.contEnds = false) := by
  refine ⟨?_, ?_, ?_, ?_, ?_, ?_, ?_, ?_, ?_⟩ <;> decide +kernel

theorem hyps_CpuPortComplete :
  (
    let u : Fn := 0;
    let q : Fin 8 := 2;
    let d : List Byte := leBytes 8 0x9000 ++ leBytes 4 60 ++ leBytes 4 0;
    let b : List Byte := [5] ++ List.replicate 75 0;
    let s : State := cpuS;
    s.txHeld u q = none ∧ s.txTurn u q = true ∧ s.txTakes u q = true ∧ txFits (.data d) (.data b) = true ∧
    txStatus (.data d) (.data b) = 0 ∧ s.injOk u = true ∧
    (s.rd64 (USER.TXRING_LO u q) (USER.TXRING_HI u q) + 16 * s.f (IDX.TXCIDX u q) 11 0 + 12) % 4096 ≤ 4092) ∧
  (
    let u : Fn := 0;
    let q : Fin 8 := 2;
    let d : List Byte := leBytes 8 0x9000 ++ leBytes 4 59 ++ leBytes 4 0;
    let b : Cpl := .ur;
    let s : State := cpuS;
    s.txHeld u q = none ∧ s.txTurn u q = true ∧ s.txTakes u q = true ∧ txFits (.data d) b = true ∧
    txStatus (.data d) b = 1) ∧
  (
    let u : Fn := 0;
    let q : Fin 8 := 2;
    let d : List Byte := leBytes 8 0x9000 ++ leBytes 4 60 ++ leBytes 4 0;
    let b : List Byte := [5] ++ List.replicate 75 0;
    let s : State := { cpuS with hst := { buckets := [(0, -8000, 0)] } };
    s.txHeld u q = none ∧ s.txTurn u q = true ∧ txFits (.data d) (.data b) = true ∧ txStatus (.data d) (.data b) = 0 ∧
    s.injOk u = false) ∧
  (
    let u : Fn := 0;
    let q : Fin 8 := 2;
    let l : List Byte := [5] ++ List.replicate 75 0;
    let s : State := { cpuS with hst := { fetched := [(2, [5] ++ List.replicate 75 0)] } };
    s.txHeld u q = some l ∧ s.txTurn u q = true) ∧
  (
    let u : Fn := 0;
    let q : Fin 8 := 2;
    let l : List Byte := [5] ++ List.replicate 75 0;
    let s : State := { cpuS.wr (USER.QPCFG 0 2) 0 with hst := { fetched := [(2, [5] ++ List.replicate 75 0)] } };
    s.txHeld u q = some l ∧ s.txRuns u q = false ∧ s.userOk u = true) ∧
  (
    let u : Fn := 0;
    let q : Fin 8 := 2;
    let x : QPkt := { data := 4, pkt := { bytes := frameB 0x800 50, m := { srcPort := 3 } }, port := 255 };
    let ring : List Byte := leBytes 8 0xA000 ++ leBytes 8 0;
    let s : State := { (cpuS.wr (TMG.HOLD 0) 1).wr (VER.HOLDERS 0) 1 with tmg := { queues := [(131074, { head := [{ data := 4, pkt := { bytes := frameB 0x800 50, m := { srcPort := 3 } }, port := 255 }] })], data := [(4, { n := 1, arrived := true })] } };
    (s.tmg.queues.any fun e => e.2.spill) = false ∧ s.headDiscard (hostQ u q) = none ∧
    s.headPkt (hostQ u q) = some x ∧ x.pkt.m.vertag < 16 ∧ s.role = roleNone ∧ s.rxRuns u q = true ∧
    s.rxNeeds u q x ≤ s.rxPosted u q ∧ 16 * s.rxNeeds u q x ≤ ring.length) ∧
  (
    let u : Fn := 9;
    let q : Fin 8 := 2;
    let x : QPkt := { data := 4, pkt := { bytes := frameB 0x800 50, m := { srcPort := 3 } }, port := 255 };
    let s : State := { (cpuS.wr (TMG.HOLD 0) 1).wr (VER.HOLDERS 0) 1 with tmg := { queues := [(131146, { head := [{ data := 4, pkt := { bytes := frameB 0x800 50, m := { srcPort := 3 } }, port := 255 }] })], data := [(4, { n := 1, arrived := true })] } };
    (s.tmg.queues.any fun e => e.2.spill) = false ∧ s.headDiscard (hostQ u q) = none ∧
    s.headPkt (hostQ u q) = some x ∧ x.pkt.m.vertag < 16 ∧ s.role = roleNone ∧ s.rxRuns u q = false) ∧
  (
    let u : Fn := 3;
    let q : Fin 8 := 2;
    let t0 : Nat := 50;
    let s : State := { ((cpuS.wr (USER.QIRQSTAT 3 2) 1).wr (USER.QIRQMASK 3 2) 0).wr (USER.HOLDOFF 3 2) 4 with hst := { sent := [(26, 50)], waits := [5, 26] } };
    kget? s.hst.sent (u.val * 8 + q.val) = some t0 ∧ s.hst.waits.contains (u.val * 8 + q.val) = true ∧
    (s.rd (USER.QIRQSTAT u q) &&& ~~~ (s.rd (USER.QIRQMASK u q))) ≠ 0) := by
  refine ⟨?_, ?_, ?_, ?_, ?_, ?_, ?_, ?_⟩ <;> decide +kernel

theorem hyps_DmaComplete :
  (
    let u : Fn := 0;
    let c : Fin 32 := 7;
    let w : Word := 1;
    let s : State := (dmaS.wr (DMA.DSTAT 7) 5).wr (DMA.DCTL 7) 0;
    s.fnHere u = true ∧ s.dev.state ≠ .load ∧ s.userCh u = some c.val ∧ fld w 0 0 = 1) ∧
  (
    let u : Fn := 0;
    let c : Fin 32 := 7;
    let w : Word := 0;
    let s : State := { dmaS.wr (DMA.DSTAT 7) 3 with dma := { act := some { ch := 7, reads := [(4, 0)] } } };
    s.fnHere u = true ∧ s.dev.state ≠ .load ∧ s.userCh u = some c.val ∧ fld w 0 0 = 0 ∧ s.dmaSt c = dsACTIVE ∧
    s.drc.reqs = []) ∧
  (
    let c : Fin 32 := 7;
    let d : List Byte := descB 0x1000 0x2000 64 0;
    let s : State := dmaS;
    s.dmaFetches c = true ∧ d.length = 32 ∧ s.dmaAtOnce c d = none) ∧
  (
    let c : Fin 32 := 7;
    let k : Cpl := .poisoned;
    let n : Nat := 2;
    let s : State := dmaS;
    s.dmaFetches c = true ∧ cplKind k = some n) ∧
  (
    let c : Fin 32 := 7;
    let d : List Byte := descB 0x1000 0x2000 64 0;
    let s : State := { dmaS.wr (DMA.DSTAT 7) 2 with dma := { chans := [(7, { desc := some (descB 0x1000 0x2000 64 0) })] } };
    s.running pgDMA = true ∧ s.dev.state ≠ .hold ∧ s.dma.act = none ∧ s.dmaNext = some c.val ∧
    (s.dch c).desc = some d ∧ s.dmaCheck (s.dmaOwner c) d = 0) ∧
  (
    let c : Fin 32 := 7;
    let d : List Byte := descB 0x1000 0x2000 0 0;
    let s : State := { dmaS.wr (DMA.DSTAT 7) 2 with dma := { chans := [(7, { desc := some (descB 0x1000 0x2000 0 0) })] } };
    s.running pgDMA = true ∧ s.dev.state ≠ .hold ∧ s.dma.act = none ∧ s.dmaNext = some c.val ∧
    (s.dch c).desc = some d ∧ s.dmaCheck (s.dmaOwner c) d ≠ 0) ∧
  (
    let x : DmaXfer := { n := 1, ch := 7, own := 0, asked := 200, reads := [(200, 0)] };
    let d : List Byte := descB 0x1000 0x2FF0 0x100000C8 0;
    let k : Nat := 200;
    let a : Nat := 0;
    let rest : List (Nat × Nat) := [];
    let l : List Byte := (List.range 200).map fun i => BitVec.ofNat 8 i;
    let s : State := { dmaS.wr (DMA.DSTAT 7) 3 with dma := { chans := [(7, { desc := some (descB 0x1000 0x2FF0 0x100000C8 0) })], act := some { n := 1, ch := 7, own := 0, asked := 200, reads := [(200, 0)] } } };
    s.dma.act = some x ∧ (s.dch x.ch).desc = some d ∧ x.mute = false ∧ s.dma.orphans = [] ∧ x.reads = (k, a) :: rest ∧
    dSrcSp d = 0 ∧ dDstSp d = 0 ∧ l.length = k ∧ x.buf = [] ∧ x.err = false ∧ x.stop = false ∧ x.asked = dLen d ∧
    s.dev.state ≠ .hold) ∧
  (
    let x : DmaXfer := { n := 1, ch := 7, own := 0, asked := 200, reads := [(200, 0)] };
    let d : List Byte := descB 0x1000 0x2FF0 0x100000C8 0;
    let k : Nat := 200;
    let a : Nat := 0;
    let rest : List (Nat × Nat) := [];
    let s : State := { dmaS.wr (DMA.DSTAT 7) 3 with dma := { chans := [(7, { desc := some (descB 0x1000 0x2FF0 0x100000C8 0) })], act := some { n := 1, ch := 7, own := 0, asked := 200, reads := [(200, 0)] } } };
    s.dma.act = some x ∧ (s.dch x.ch).desc = some d ∧ x.mute = false ∧ s.dma.orphans = [] ∧ x.reads = (k, a) :: rest ∧
    dSrcSp d = 0) ∧
  (
    let x : DmaXfer := { n := 1, ch := 7, own := 0, asked := 200, handed := 200 };
    let c : Fin 32 := 7;
    let d : List Byte := descB 0x1000 0x2FF0 0x400000C8 0;
    let s : State := { dmaS.wr (DMA.DSTAT 7) 3 with dma := { chans := [(7, { desc := some (descB 0x1000 0x2FF0 0x400000C8 0) })], act := some { n := 1, ch := 7, own := 0, asked := 200, handed := 200 } } };
    s.dma.act = some x ∧ x.ch = c ∧ (s.dch x.ch).desc = some d ∧ s.drc.reqs = [] ∧ x.mute = false ∧ x.stop = false ∧
    x.err = false ∧ x.late = false ∧ x.acks = 0 ∧ x.reads = [] ∧ x.handed = dLen d ∧ kwf s.dma.chans = true ∧
    s.dma.chans.all (fun e => e.1 = c.val || e.2.desc = none) = true) ∧
  (
    let o : Nat × Nat := (3, 40);
    let rest : List (Nat × Nat) := [(3, 50)];
    let s : State := { dmaS with dma := { orphans := [(3, 40), (3, 50)] } };
    s.dma.orphans = o :: rest) ∧
  (
    let x : DmaXfer := { n := 1, ch := 7, own := 0, asked := 200, handed := 72, stop := true, reads := [(128, 9)] };
    let c : Fin 32 := 7;
    let d : List Byte := descB 0x1000 0x2FF0 0x400000C8 0;
    let s : State := { dmaS.wr (DMA.DSTAT 7) 4 with dma := { chans := [(7, { desc := some (descB 0x1000 0x2FF0 0x400000C8 0) })], act := some { n := 1, ch := 7, own := 0, asked := 200, handed := 72, stop := true, reads := [(128, 9)] } } };
    s.dma.act = some x ∧ x.ch = c ∧ (s.dch x.ch).desc = some d ∧ x.mute = false ∧ x.stop = true ∧ x.acks = 0) ∧
  (
    let x : DmaXfer := { n := 1, ch := 7, stop := true, mute := true };
    let s : State := { dmaS with dma := { act := some { n := 1, ch := 7, stop := true, mute := true } } };
    s.dma.act = some x ∧ x.mute = true ∧ x.acks = 0) := by
  refine ⟨?_, ?_, ?_, ?_, ?_, ?_, ?_, ?_, ?_, ?_, ?_, ?_⟩ <;> decide +kernel

theorem hyps_KeyStoreComplete :
  (
    let u : Fn := 5;
    let w : Word := 0x80000007;
    let s : State := keyS;
    s.fnHere u = true ∧ s.dev.state ≠ .load ∧ s.running pgKEY = true ∧ fld w 31 31 = 1 ∧
    s.fb (USER.KWSTAT u) 4 = false) ∧
  (
    let u : Fn := 5;
    let i : KeyImp := { fn := 5, slot := 7, blob := blobW, due := 2000 };
    let ds : List Byte := List.replicate 32 0x5d;
    let s : State := { keyS with key := { imports := [{ fn := 5, slot := 7, blob := blobW, due := 2000 }] } };
    s.key.imports.find? (fun i => i.fn == u.val) = some i ∧ i.code = none ∧ i.lost = false ∧ s.fuses.ds = some ds ∧
    (s.kslot (s.kbase i.fn + i.slot)).old = false) ∧
  (
    let w : Word := 0x80001207;
    let s : State := keyS;
    s.dev.state ≠ .load ∧ s.running pgKEY = true ∧ s.busy pgKEY = false ∧ fld w 31 31 = 1 ∧
    (s.kslot (fld w 15 0)).old = false) ∧
  (
    let u : Fn := 5;
    let w : Word := 0x80000007;
    let n : Nat := 0x1207;
    let s : State := keyS;
    s.fnHere u = true ∧ s.dev.state ≠ .load ∧ s.running pgKEY = true ∧ fld w 31 31 = 1 ∧ fld w 15 0 < s.kcount u ∧
    n = s.kbase u + fld w 15 0) ∧
  (
    let w : Word := 0x2E50;
    let s : State := keyS.setKslot 0x1207 { key := some [1], loads := 3 };
    s.dev.state ≠ .load ∧ s.present pgKEY = true ∧ s.busy pgKEY = false ∧ fld w 15 0 = 0x2E50) ∧
  (
    let n : BitVec 16 := 0x1207;
    let s : State := keyS.setKslot 0x1207 { loads := 3, old := true };
    (s.kslot n.toNat).old = true ∧ s.kheld n.toNat = false) ∧
  (
    let u : Fn := 5;
    let w : Word := 0x30007;
    let sa : Nat := 0x181;
    let s : State := (keyS.wr (MSC.SACFG0 0x181) 0x160000).setF (USER.CTXIDX 5) 11 0 0;
    s.fnHere u = true ∧ s.dev.state ≠ .load ∧ s.present pgMSC = true ∧ s.curCtx u = some sa ∧ sa < 32768 ∧
    fld w 17 17 = 1 ∧ fld w 15 0 < s.kcount u ∧ s.kbase u + fld w 15 0 < 65536 ∧ s.role = roleNone) := by
  refine ⟨?_, ?_, ?_, ?_, ?_, ?_, ?_⟩ <;> decide +kernel

theorem hyps_KeyAgentComplete :
  (
    let l : List Byte := crcB ([1, 2, 0x12, 7] ++ List.replicate 32 0x42 ++ List.replicate 12 0);
    let n : Nat := 0x1207;
    let s : State := keyS.wr (HDR.IRQMASK pgKEY) 0;
    s.spiOn = true ∧ s.running pgKEY = true ∧ l.length = 52 ∧ beNat (slice l 0 1) = 1 ∧ n = beNat (slice l 2 2) ∧
    beNat (l.drop 48) = (crc32c (l.take 48)).toNat ∧ (s.kslot n).old = false) ∧
  (
    let l : List Byte := crcB [2, 0, 0x12, 7];
    let n : Nat := 0x1207;
    let s : State := keyS.setKslot 0x1207 { key := some [1], loads := 3 };
    s.spiOn = true ∧ s.running pgKEY = true ∧ l.length = 8 ∧ beNat (slice l 0 1) = 2 ∧ n = beNat (slice l 2 2) ∧
    beNat (l.drop 4) = (crc32c (l.take 4)).toNat ∧ (s.kslot n).old = false) ∧
  (
    let l : List Byte := crcB [3, 0, 0x12, 7];
    let n : Nat := 0x1207;
    let s : State := (keyS.setKslot 0x1207 { key := some [1], loads := 3 }).wr (HDR.IRQMASK pgKEY) 0;
    s.spiOn = true ∧ l.length = 8 ∧ beNat (slice l 0 1) = 3 ∧ n = beNat (slice l 2 2) ∧
    beNat (l.drop 4) = (crc32c (l.take 4)).toNat) ∧
  (
    let l : List Byte := crcB ([0xF, 0, 0, 0] ++ List.replicate 32 0x77);
    let s : State := { keyS with fuses := { keyS.fuses with ds := none }, dev := { keyS.dev with straps := 0x400 } };
    s.spiOn = true ∧ l.length = 40 ∧ beNat (slice l 0 1) = 0xF ∧ beNat (l.drop 36) = (crc32c (l.take 36)).toNat ∧
    s.factory = true ∧ s.fuses.ds = none) ∧
  (
    let l : List Byte := crcB [9, 0, 0x12, 7];
    let s : State := keyS;
    s.spiOn = true ∧ 4 ≤ l.length ∧ spiLen (beNat (slice l 0 1)) ≠ some l.length ∧ ¬ beNat (slice l 0 1) ∈ [1, 2, 3]) ∧
  (
    let l : List Byte := crcB [2, 0, 0x12, 7];
    let n : Nat := 0x1207;
    let s : State := keyS.setKslot 0x1207 { key := some [1], loads := 3, old := true };
    s.spiOn = true ∧ s.running pgKEY = true ∧ (l.length = 52 ∧ beNat (slice l 0 1) = 1 ∨ l.length = 8 ∧
    beNat (slice l 0 1) = 2) ∧ n = beNat (slice l 2 2) ∧
    beNat (l.drop (l.length - 4)) = (crc32c (l.take (l.length - 4))).toNat ∧ (s.kslot n).old = true) ∧
  (
    let l : List Byte := [2, 0, 0x12, 7, 1, 2, 3, 4];
    let op : Nat := 2;
    let s : State := keyS;
    s.spiOn = true ∧ op = beNat (slice l 0 1) ∧ spiLen op = some l.length ∧
    beNat (l.drop (l.length - 4)) ≠ (crc32c (l.take (l.length - 4))).toNat) ∧
  (
    let l : List Byte := crcB ([0xF, 0, 0, 0] ++ List.replicate 32 0x77);
    let s : State := keyS;
    s.spiOn = true ∧ l.length = 40 ∧ beNat (slice l 0 1) = 0xF ∧ beNat (l.drop 36) = (crc32c (l.take 36)).toNat ∧
    (s.factory = false ∨ s.fuses.ds.isSome = true)) ∧
  (
    let l : List Byte := crcB [2, 0, 0x12, 7];
    let s : State := keyS.setBlk pgKEY { st := .quiesced };
    s.spiOn = true ∧ s.running pgKEY = false ∧ (l.length = 52 ∧ beNat (slice l 0 1) = 1 ∨ l.length = 8 ∧
    beNat (slice l 0 1) = 2) ∧ beNat (l.drop (l.length - 4)) = (crc32c (l.take (l.length - 4))).toNat) ∧
  (
    let l : List Byte := crcB [2, 0, 0x12, 7, 9];
    let s : State := keyS;
    s.spiOn = true ∧ 4 ≤ l.length ∧ (beNat (slice l 0 1) = 1 ∨ beNat (slice l 0 1) = 2) ∧
    spiLen (beNat (slice l 0 1)) ≠ some l.length) := by
  refine ⟨?_, ?_, ?_, ?_, ?_, ?_, ?_, ?_, ?_, ?_⟩ <;> decide +kernel

theorem hyps_DramRequestsComplete :
  (
    let p : Fin 6 := 5;
    let r : DReq := { id := 4, port := 5, addr := 4096, len := 256 };
    let s : State := drcS [{ id := 3, port := 4, addr := 4096, len := 256 }, { id := 4, port := 5, addr := 4096, len := 256 }];
    s.drc.reqs.find? (fun r => decide (r.port = p.val) && (r.at_.isNone || (!r.write && r.fin.isNone && !r.tag))) = some r ∧
    r.at_ = none ∧ r.fin = none ∧ s.drcBadAddr r = false ∧ s.drcRefuses r = false ∧
    if r.write then s.wbuf (s.dramHalf r.addr) + r.len ≤ 2097152 else s.tagFree r.port (s.dramHalf r.addr) = true ∧
    (s.drc.reqs.all fun q => decide (q.id ≠ r.id) || decide (q = r)) = true) ∧
  (
    let p : Fin 6 := 5;
    let r : DReq := { id := 4, port := 5, addr := 4096, len := 256 };
    let s : State := drcS ({ id := 4, port := 5, addr := 4096, len := 256 } :: (List.range 768).map fun i => { id := 100 + i, port := 5, addr := 4096, len := 64, at_ := some 0, tag := true });
    s.drc.reqs.find? (fun r => decide (r.port = p.val) && (r.at_.isNone || (!r.write && r.fin.isNone && !r.tag))) = some r ∧
    r.at_ = none ∧ r.fin = none ∧ r.write = false ∧ s.drcBadAddr r = false ∧ s.drcRefuses r = false ∧
    s.tagFree r.port (s.dramHalf r.addr) = false) ∧
  (
    let p : Fin 6 := 5;
    let r : DReq := { id := 4, port := 5, addr := 4096, len := 256, at_ := some 7 };
    let s : State := drcS [{ id := 4, port := 5, addr := 4096, len := 256, at_ := some 7 }];
    s.drc.reqs.find? (fun r => decide (r.port = p.val) && (r.at_.isNone || (!r.write && r.fin.isNone && !r.tag))) = some r ∧
    r.at_.isSome = true ∧ s.tagFree r.port (s.dramHalf r.addr) = true) ∧
  (
    let p : Fin 6 := 1;
    let r : DReq := { id := 4, port := 1, addr := 68719476736, len := 64 };
    let s : State := drcS [{ id := 4, port := 1, addr := 68719476736, len := 64 }];
    s.drc.reqs.find? (fun r => decide (r.port = p.val) && (r.at_.isNone || (!r.write && r.fin.isNone && !r.tag))) = some r ∧
    r.at_ = none ∧ s.drcBadAddr r = true ∧ r.port = dpREFILL ∧ r.write = false ∧
    (s.drc.reqs.all fun q => decide (q.id ≠ r.id) || decide (q = r)) = true ∧
    ((s.drc.reqs.filter fun q => q.port = dpBPM || q.port = dpHOST).all fun q => q.fin.isNone) = true) ∧
  (
    let g : Nat := 4;
    let t0 : Nat := 50;
    let r : DReq := { id := 4, port := 5, addr := 4096, len := 128, at_ := some 50, tag := true, client := 6 };
    let s : State := { drcS [] with now := 9000, dma := { act := some { n := 6 } }, drc := { (drcS []).drc with bursts := [(65, 0x1234)], reqs := [{ id := 4, port := 5, addr := 4096, len := 128, at_ := some 50, tag := true, client := 6 }] } };
    s.drcNow g false = some r ∧ r.port < 6 ∧ r.at_ = some t0 ∧
    (r.port = dpHOST → (s.dma.act.any fun x => x.owns r && !x.stop) = true) ∧
    (s.drc.reqs.all fun q => decide (q.id ≠ r.id) || decide (q = r)) = true ∧
    ((s.drc.reqs.filter fun q => q.port = dpBPM || q.port = dpHOST).all fun q => q.fin.isNone) = true) ∧
  (
    let g : Nat := 4;
    let b : Fin 64 := 1;
    let t0 : Nat := 50;
    let r : DReq := { id := 4, port := 1, addr := 4096, len := 128, at_ := some 50, tag := true };
    let n : Nat := 8;
    let s : State := drcS [{ id := 4, port := 1, addr := 4096, len := 128, at_ := some 50, tag := true }];
    s.drcNow g false = some r ∧ r.port = dpREFILL ∧ r.at_ = some t0 ∧ b.val < cdiv r.len 64 ∧
    n = s.chanOf (r.addr + 64 * b.val) ∧ n < s.nCh ∧
    (s.drc.reqs.all fun q => decide (q.id ≠ r.id) || decide (q = r)) = true ∧
    ((s.drc.reqs.filter fun q => q.port = dpBPM || q.port = dpHOST).all fun q => q.fin.isNone) = true) ∧
  (
    let g : Nat := 4;
    let i : Nat := 1;
    let l : List Byte := List.replicate 64 0x5A;
    let r : DReq := { id := 4, port := 5, write := true, addr := 4096, len := 128, at_ := some 50, data := List.replicate 64 none ++ List.replicate 64 (some 0x5A) };
    let s : State := drcS [{ id := 4, port := 5, write := true, addr := 4096, len := 128, at_ := some 50, data := List.replicate 64 none ++ List.replicate 64 (some 0x5A) }];
    s.drcNow g true = some r ∧ r.port = dpHOST ∧ r.addr % 64 = 0 ∧ 64 * i < r.len ∧
    (r.data.drop (64 * i)).take 64 = l.map some ∧ l.length = 64 ∧
    (s.drc.reqs.all fun q => decide (q.id ≠ r.id) || decide (q = r)) = true ∧
    ((s.drc.reqs.filter fun q => q.port = dpBPM || q.port = dpHOST).all fun q => q.fin.isNone) = true) ∧
  (
    let g : Nat := 4;
    let r : DReq := { id := 4, port := 0, write := true, addr := 4096, len := 128, at_ := some 50 };
    let s : State := drcS [{ id := 4, port := 0, write := true, addr := 4096, len := 128, at_ := some 50 }];
    s.drcNow g true = some r ∧ r.port < 4 ∧ (s.drc.reqs.all fun q => decide (q.id ≠ r.id) || decide (q = r)) = true ∧
    ((s.drc.reqs.filter fun q => q.port = dpBPM || q.port = dpHOST).all fun q => q.fin.isNone) = true) ∧
  (
    let g : Nat := 4;
    let w : Bool := false;
    let r : DReq := { id := 4, port := 1, addr := 4096, len := 64, at_ := some 50, tag := true };
    let n : Nat := 8;
    let s : State := { (drcS [{ id := 4, port := 1, addr := 4096, len := 64, at_ := some 50, tag := true }]).wr (DRC.SET6 0) 3900 with now := 3900, drc := { (drcS [{ id := 4, port := 1, addr := 4096, len := 64, at_ := some 50, tag := true }]).drc with refAt := some (0, 0) } };
    s.drc.reqs.find? (fun r => decide (r.id = g) && (r.write == w)) = some r ∧ n ∈ s.reqChans r ∧
    (s.slotOn n = true ∨ (s.refDue n (n % 8) s.now = true ∧ (s.ch n).refNs ≠ some s.now))) ∧
  (
    let g : Nat := 4;
    let t0 : Nat := 50;
    let r : DReq := { id := 4, port := 5, addr := 4096, len := 128, at_ := some 50 };
    let s : State := (drcS [{ id := 4, port := 5, addr := 4096, len := 128, at_ := some 50 }]).wr (DRC.PLAT 5) 0x7D003E8;
    s.drc.reqs.find? (fun r => decide (r.id = g) && !r.write && r.fin.isNone && decide (r.urg = 0)) = some r ∧
    r.at_ = some t0 ∧ r.port < 6) ∧
  (
    let g : Nat := 4;
    let t0 : Nat := 50;
    let r : DReq := { id := 4, port := 5, addr := 4096, len := 128, at_ := some 50, urg := 1 };
    let s : State := (drcS [{ id := 4, port := 5, addr := 4096, len := 128, at_ := some 50, urg := 1 }]).wr (DRC.PLAT 5) 0x7D003E8;
    s.drc.reqs.find? (fun r => decide (r.id = g) && !r.write && r.fin.isNone && decide (r.urg ≤ 1)) = some r ∧
    r.at_ = some t0 ∧ r.port < 6) ∧
  (
    let g : Nat := 4;
    let r : DReq := { id := 4, port := 1, addr := 4096, len := 64, at_ := some 50, tag := true };
    let s : State := drcS [{ id := 4, port := 1, addr := 4096, len := 64, at_ := some 50, tag := true }, { id := 5, port := 5, addr := 4096, len := 64, at_ := some 60, tag := true, urg := 2 }];
    s.drc.reqs.find? (fun r => decide (r.id = g) && r.write == false) = some r ∧ s.drcServes r = false) := by
  refine ⟨?_, ?_, ?_, ?_, ?_, ?_, ?_, ?_, ?_, ?_, ?_, ?_⟩ <;> decide +kernel

theorem hyps_DramChannelsComplete :
  (
    let n : Chan := 16;
    let s : State := (drcS []).wr (DC.DCSTAT 16) 0;
    n.val < s.nCh ∧ s.chRuns n = true ∧ s.basinCap ≠ 0 ∧ s.chSt n = csOFF) ∧
  (
    let n : Chan := 8;
    let s : State := { (drcS []).wr (DC.DCSTAT 8) 1 with drc := { bursts := [(65, 5), (66, 7)], stale := [1] } };
    n.val < s.nCh ∧ s.chSt n = csTRAINING) ∧
  (
    let n : Chan := 16;
    let e : Fin 10 := 7;
    let s : State := ((drcS []).wr (DC.DCSTAT 16) 1).wr (DC.TRAINSTAT 16) 0x10;
    s.chSt n = csTRAINING ∧ e ≠ 0 ∧ s.f (DC.TRAINSTAT n) 5 4 < 3) ∧
  (
    let n : Chan := 16;
    let e : Fin 10 := 7;
    let s : State := ((drcS []).wr (DC.DCSTAT 16) 1).wr (DC.TRAINSTAT 16) 0x30;
    n.val < s.nCh ∧ s.chSt n = csTRAINING ∧ e ≠ 0 ∧ s.f (DC.TRAINSTAT n) 5 4 = 3 ∧ s.chQueued n = false) ∧
  (
    let n : Chan := 16;
    let s : State := ((drcS []).wr (DC.DCSTAT 16) 5).wr DRC.STAT 0;
    n.val < s.nCh ∧ s.chSt n = csRETRAIN) ∧
  (
    let n : Chan := 16;
    let e : Fin 10 := 3;
    let s : State := (drcS []).wr (DC.DCSTAT 16) 5;
    n.val < s.nCh ∧ s.chSt n = csRETRAIN ∧ e ≠ 0 ∧ s.chQueued n = false) ∧
  (
    let k : Fin 8 := 3;
    let n : Chan := 19;
    let x : Nat := 1462;
    let a : Nat × Nat := (0, 0);
    let s : State := { (drcS []).wr (DRC.SET6 0) 3900 with now := 1462, drc := { (drcS []).drc with refAt := some (0, 0), chans := [(19, { rows := [(4, 77)], sel := [(4, 77)] })] } };
    n.val < s.nCh ∧ n.val % 8 = k.val ∧ s.chSt n = csREADY ∧ s.drc.refAt = some a ∧ a.1 ≤ s.now ∧
    earliest ((s.refGroup k).filterMap (s.refNext k)) = some x ∧ s.refNext k n = some x ∧
    ((s.ch n).refNs.all fun r => decide (r ≤ s.now)) = true) ∧
  (
    let n : Chan := 19;
    let b : Fin 16 := 4;
    let row : Nat := 77;
    let s : State := { drcS [] with drc := { (drcS []).drc with chans := [(19, { rows := [(4, 77)], sel := [(4, 77)], used := [(4, 90, 3)] })] } };
    kget? (s.ch n).rows b = some row) ∧
  (
    let n : Chan := 19;
    let s : State := drcS [];
    s.slotFree n = true) ∧
  (
    let n : Chan := 19;
    let s : State := drcS [];
    s.slotFree n = true) ∧
  (
    let n : Chan := 19;
    let t0 : Nat := 70;
    let s : State := { (drcS []).wr DRC.BGCFG 0x180400 with drc := { (drcS []).drc with chans := [(19, { busy := some 70 })] } };
    (s.ch n).busy = some t0 ∧ s.chSt n = csREADY) ∧
  (
    let n : Chan := 19;
    let s : State := { drcS [] with drc := { (drcS []).drc with chans := [(19, { drift := [(2, -7)] })] } };
    s.slotFree n = true) ∧
  (
    let n : Chan := 8;
    let r : DReq := { id := 4, port := 1, addr := 4096, len := 128, at_ := some 50, tag := true };
    let s : State := { drcS [{ id := 4, port := 1, addr := 4096, len := 128, at_ := some 50, tag := true }] with drc := { (drcS [{ id := 4, port := 1, addr := 4096, len := 128, at_ := some 50, tag := true }]).drc with chans := [(8, { drift := [(3, 9)], busy := some 0, slot := true })] } };
    n.val < s.nCh ∧ s.drc.reqs = [r] ∧ r.open_ = true ∧ r.port = dpREFILL ∧ r.write = false ∧
    (s.reqChans r).contains n.val = true ∧ (((s.chSt n = csREADY ∧
    (s.slotOn n && (s.ch n).drift.any fun e => decide (e.1 < 48) && decide (8 < e.2)) = true)))) ∧
  (
    let n : Chan := 19;
    let l : Nat := 70000;
    let s : State := { drcS [] with drc := { (drcS []).drc with chans := [(19, { scrubNext := 70000 })] } };
    n.val < s.nCh ∧ s.slotFree n = true ∧ (s.ch n).scrubBack = none ∧ l = (s.ch n).scrubNext ∧ l < s.chBursts) ∧
  (
    let n : Chan := 19;
    let l : Nat := 7;
    let w : Bool := false;
    let s : State := { drcS [] with drc := { (drcS []).drc with chans := [(19, { scrubNext := 8, scrubBack := some (7, false) })] } };
    n.val < s.nCh ∧ s.slotFree n = true ∧ (s.ch n).scrubBack = some (l, w)) ∧
  (
    let n : Chan := 19;
    let t0 : Nat := 40;
    let s : State := { (drcS []).wr DRC.BGCFG 0x10400 with drc := { (drcS []).drc with chans := [(19, { scrubNext := 99999999, scrubFrom := some 40 })] } };
    n.val < s.nCh ∧ s.slotFree n = true ∧ (s.ch n).scrubBack = none ∧ s.chBursts ≤ (s.ch n).scrubNext ∧
    (s.ch n).scrubAgain = [] ∧ (s.ch n).scrubFrom = some t0) ∧
  (
    let n : Chan := 19;
    let s : State := { (drcS []).wr DRC.SRIDLE 3 with drc := { (drcS []).drc with chans := [(19, { rows := [(4, 77)], idle := 20 })] } };
    n.val < s.nCh ∧ s.chSt n = csREADY ∧ s.f DRC.SRIDLE 15 0 ≠ 0 ∧
    s.queuedBefore n ((s.ch n).idle + s.f DRC.SRIDLE 15 0 * 1000) = false) ∧
  (
    let n : Chan := 19;
    let s : State := { (drcS []).wr (DC.DCSTAT 19) 3 with drc := { (drcS []).drc with chans := [(19, { held := true, idle := 20 })] } };
    n.val < s.nCh ∧ s.chSt n = csSELFREF ∧ ((s.chWorks n = true ∧ s.chQueued n = true) ∨ (s.chRuns n = true ∧
    (s.ch n).held = true))) := by
  refine ⟨?_, ?_, ?_, ?_, ?_, ?_, ?_, ?_, ?_, ?_, ?_, ?_, ?_, ?_, ?_, ?_, ?_, ?_⟩ <;> decide +kernel

theorem hyps_FrequencyChangeComplete :
  (
    let w : Word := 0x11;
    let s : State := drcS [];
    s.dev.state ≠ .load ∧ s.present pgDRC = true ∧ s.busy pgDRC = false ∧ fld w 0 0 = 1 ∧ s.drc.fc = none ∧
    (fld w 1 1 = 1 → s.fb DRC.CFG 14 = true) ∧ s.fb DRC.STAT 0 = true) ∧
  (
    let w : Word := 0x13;
    let s : State := drcS [];
    s.dev.state ≠ .load ∧ s.present pgDRC = true ∧ s.busy pgDRC = false ∧ fld w 0 0 = 1 ∧
    (s.drc.fc.isSome = true ∨ (fld w 1 1 = 1 ∧ s.fb DRC.CFG 14 = false) ∨ s.fb DRC.STAT 0 = false)) := by
  refine ⟨?_, ?_⟩ <;> decide +kernel

theorem hyps_FreqGroupStartComplete :
  (
    let f : FreqChange := { set := 1, next := 3, notBefore := 400 };
    let n : Chan := 19;
    let s : State := { (drcS []).wr (DC.DCSTAT 19) 3 with drc := { (drcS []).drc with fc := some { set := 1, next := 3, notBefore := 400 } } };
    s.drc.fc = some f ∧ f.group = none ∧ f.next < 8 ∧ s.dev.state ≠ .hold ∧ n.val < s.nCh ∧ n.val % 8 = f.next ∧
    s.chSet n ≠ f.set ∧ (s.chSt n = csREADY ∨ s.chSt n = csSELFREF)) ∧
  (
    let f : FreqChange := { set := 0, next := 3, notBefore := 400 };
    let s : State := { drcS [] with drc := { (drcS []).drc with fc := some { set := 0, next := 3, notBefore := 400 } } };
    s.drc.fc = some f ∧ f.group = none ∧ f.next < 8 ∧ s.dev.state ≠ .hold ∧
    (s.until f.notBefore).fcGroup f.next f.set = []) ∧
  (
    let s : State := { drcS [] with dev := { (drcS []).dev with state := .hold }, drc := { (drcS []).drc with fc := some { set := 1, next := 3 } } };
    s.dev.state = .hold) := by
  refine ⟨?_, ?_, ?_⟩ <;> decide +kernel

theorem hyps_FreqGroupDoneComplete :
  (
    let f : FreqChange := { set := 1, group := some 3, began := 400, next := 4 };
    let k : Nat := 3;
    let n : Chan := 19;
    let s : State := { (drcS []).wr (DC.DCSTAT 19) 4 with drc := { (drcS []).drc with fc := some { set := 1, group := some 3, began := 400, next := 4 } } };
    s.drc.fc = some f ∧ f.group = some k ∧ n.val < s.nCh ∧ n.val % 8 = k ∧ s.chSt n = csFCHANGE ∧
    (s.blk (pgDC n)).st ≠ .resetting) := by
  decide +kernel

theorem hyps_DrcpllRelockComplete :
  (
    let k : Fin 16 := 2;
    let n : Chan := 8;
    let r : DReq := { port := 1, addr := 4096, len := 64 };
    let s : State := { drcS [] with drc := { (drcS []).drc with unlocked := [2, 3] } };
    n.val / 4 = k.val ∧ s.reqChans r = [n.val] ∧ s.nCh ≠ 0) := by
  decide +kernel

theorem hyps_FaultEventComplete :
  (
    let p : PageId := 11;
    let i : Fin 32 := 0;
    let k : Kind := .drc;
    let n : Nat := 0;
    let c : Nat × Nat := (1, 1);
    let s : State := fltS [];
    kindOf p = some (k, n) ∧ srcInfo p i = some c ∧ s.present p = true) ∧
  (
    let e : FltEv := ⟨11, 0, false, 0, 40⟩;
    let c : Nat := 1;
    let d : Nat := 1;
    let s : State := (fltS [⟨11, 0, false, 0, 40⟩]).wr (HDR.IRQMASK pgFLT) 0;
    s.fltNext = some e ∧ srcInfo e.page e.src = some (c, d) ∧ c ≠ clFATAL ∧ s.mergesInto e c = none ∧
    s.conseqOf e c = none ∧ s.reactionOf e.page e.src ≤ 1 ∧ s.fltFull = false ∧
    (s.flt.waits.all fun w => decide (w.page ≠ e.page)) = true) ∧
  (
    let e : FltEv := ⟨11, 0, false, 0, 40⟩;
    let c : Nat := 1;
    let d : Nat := 1;
    let r : FltRec := { seq := 4, page := 11, src := 1, cls := 1, react := 1 };
    let s : State := { fltS [⟨11, 0, false, 0, 40⟩] with flt := { events := [⟨11, 0, false, 0, 40⟩], next := 5, log := [(4, { seq := 4, page := 11, src := 1, cls := 1, react := 1 })] } };
    s.fltNext = some e ∧ srcInfo e.page e.src = some (c, d) ∧ s.mergesInto e c = some r) ∧
  (
    let e : FltEv := ⟨11, 0, false, 0, 40⟩;
    let c : Nat := 1;
    let d : Nat := 1;
    let q : Nat := 4;
    let s : State := { fltS [] with flt := { events := [⟨11, 0, false, 0, 40⟩], next := 5, wins := [{ page := 10, seq := 4 }] } };
    s.fltNext = some e ∧ srcInfo e.page e.src = some (c, d) ∧ c ≠ clFATAL ∧ s.mergesInto e c = none ∧
    s.conseqOf e c = some q ∧ s.fltFull = false) ∧
  (
    let e : FltEv := ⟨11, 0, false, 0, 40⟩;
    let c : Nat := 1;
    let d : Nat := 1;
    let s : State := { fltS [] with flt := { events := [⟨11, 0, false, 0, 40⟩], next := 68, log := [(4, { seq := 4, page := 4, src := 1, cls := 1, react := 1 })] } };
    s.fltNext = some e ∧ srcInfo e.page e.src = some (c, d) ∧ c ≠ clFATAL ∧ s.mergesInto e c = none ∧
    s.conseqOf e c = none ∧ s.reactionOf e.page e.src ≤ 1 ∧ s.fltFull = true ∧
    (s.flt.waits.all fun w => decide (w.page ≠ e.page)) = true) ∧
  (
    let e : FltEv := ⟨10, 2, false, 0, 40⟩;
    let c : Nat := 1;
    let d : Nat := 1;
    let s : State := { runs (fltS [⟨10, 2, false, 0, 40⟩]) 10 with flt := { events := [⟨10, 2, false, 0, 40⟩], react := [(10 * 32 + 2, 3)], fence := [(10, 1, 5)] } };
    s.fltNext = some e ∧ srcInfo e.page e.src = some (c, d) ∧ c ≠ clFATAL ∧ e.inj = false ∧ s.mergesInto e c = none ∧
    s.conseqOf e c = none ∧ s.reactionOf e.page e.src = 3 ∧ s.hasStates e.page = true ∧ s.fltFull = false ∧
    s.reactWaits e.page s.flt.next false = false ∧
    (s.f FLT.QUIET 19 16 = 0 ∨ s.f FLT.QUIET 19 16 ≠ min 15 (s.fcount e.page + 1))) ∧
  (
    let e : FltEv := ⟨10, 2, true, 0, 40⟩;
    let c : Nat := 1;
    let d : Nat := 1;
    let i : Nat := 63;
    let old : FltRec := { seq := 63, page := 10, react := 3 };
    let s : State := { (runs (fltS [⟨10, 2, true, 0, 40⟩]) 10).setBlk 10 { st := .resetting } with flt := { events := [⟨10, 2, true, 0, 40⟩], react := [(10 * 32 + 2, 3)], log := [(63, { seq := 63, page := 10, react := 3 })] } };
    s.fltNext = some e ∧ srcInfo e.page e.src = some (c, d) ∧ c ≠ clFATAL ∧ s.mergesInto e c = none ∧
    s.conseqOf e c = none ∧ (s.reactionOf e.page e.src = 2 ∨ s.reactionOf e.page e.src = 3) ∧
    s.hasStates e.page = true ∧ s.fltFull = false ∧ s.reactWaits e.page s.flt.next e.inj = true ∧
    (e.inj = true ∨ s.f FLT.QUIET 19 16 = 0) ∧ kget? s.flt.log i = some old ∧ i ≠ s.flt.next % 64) ∧
  (
    let p : PageId := 10;
    let w : FltWait := ⟨10, 3, 4, true⟩;
    let s : State := { (runs (fltS []) 10).setBlk 10 { st := .draining } with flt := { waits := [⟨11, 3, 3, true⟩, ⟨10, 3, 4, true⟩] } };
    s.hasStates p = true ∧ (s.blk p).st = .draining ∧ s.blkWork p = false ∧
    s.flt.waits.find? (fun w => decide (w.page = p.val)) = some w ∧ w.code ≠ 2) ∧
  (
    let e : FltEv := ⟨0, 0, false, 0, 40⟩;
    let d : Nat := 5;
    let s : State := { (fltS []).setKslot 0x1207 { key := some [1] } with flt := { events := [⟨11, 0, false, 0, 41⟩, ⟨0, 0, false, 0, 40⟩] } };
    s.fltNext = some e ∧ srcInfo e.page e.src = some (clFATAL, d) ∧ s.reactionOf e.page e.src = 5 ∧
    ¬ s.dev.state ∈ [.reset, .strap, .fenced] ∧ s.fltFull = false ∧ s.present pgKEY = true) ∧
  (
    let e : FltEv := ⟨10, 2, false, 0, 40⟩;
    let c : Nat := 1;
    let d : Nat := 1;
    let ho : Bool := false;
    let s : State := { runs (fltS [⟨10, 2, false, 0, 40⟩]) 10 with flt := { events := [⟨10, 2, false, 0, 40⟩], react := [(10 * 32 + 2, 4)], fence := [(10, 1, 5)] } };
    s.fltNext = some e ∧ srcInfo e.page e.src = some (c, d) ∧ c ≠ clFATAL ∧ e.inj = false ∧ s.mergesInto e c = none ∧
    s.conseqOf e c = none ∧ s.reactionOf e.page e.src = 4 ∧ s.hasStates e.page = true ∧ s.fltFull = false ∧
    s.reactWaits e.page s.flt.next false = false ∧
    (s.f FLT.QUIET 19 16 = 0 ∨ s.f FLT.QUIET 19 16 ≠ min 15 (s.fcount e.page + 1)) ∧
    (ho = decide (s.dev.state = .run ∧ s.evtEn = true ∧ s.role = roleActive ∧ s.peer = stCurrent))) ∧
  (
    let e : FltEv := ⟨10, 2, false, 0, 40⟩;
    let c : Nat := 1;
    let d : Nat := 1;
    let s : State := { runs (fltS [⟨10, 2, false, 0, 40⟩]) 10 with flt := { events := [⟨10, 2, false, 0, 40⟩], react := [(10 * 32 + 2, 2)], fence := [(10, 1, 5)] } };
    s.fltNext = some e ∧ srcInfo e.page e.src = some (c, d) ∧ c ≠ clFATAL ∧ e.inj = false ∧ s.mergesInto e c = none ∧
    s.conseqOf e c = none ∧ s.reactionOf e.page e.src = 2 ∧ s.hasStates e.page = true ∧
    (s.flt.waits.all fun w => decide (w.page ≠ e.page)) = true ∧ s.fltFull = false ∧
    s.reactWaits e.page s.flt.next false = false ∧
    (s.f FLT.QUIET 19 16 = 0 ∨ s.f FLT.QUIET 19 16 ≠ min 15 (s.fcount e.page + 1))) ∧
  (
    let e : FltEv := ⟨10, 2, false, 0, 40⟩;
    let c : Nat := 1;
    let d : Nat := 1;
    let s : State := { (runs (fltS [⟨10, 2, false, 0, 40⟩]) 10).wr FLT.QUIET 0x30000 with flt := { events := [⟨10, 2, false, 0, 40⟩], react := [(10 * 32 + 2, 3)], fence := [(10, 2, 5)] } };
    s.fltNext = some e ∧ srcInfo e.page e.src = some (c, d) ∧ c ≠ clFATAL ∧ e.inj = false ∧ s.mergesInto e c = none ∧
    s.conseqOf e c = none ∧ s.reactionOf e.page e.src ∈ [2, 3, 4] ∧ s.hasStates e.page = true ∧ s.fltFull = false ∧
    s.f FLT.QUIET 19 16 ≠ 0 ∧ s.f FLT.QUIET 19 16 = min 15 (s.fcount e.page + 1) ∧
    ¬ s.dev.state ∈ [.reset, .strap, .fenced]) := by
  refine ⟨?_, ?_, ?_, ?_, ?_, ?_, ?_, ?_, ?_, ?_, ?_, ?_⟩ <;> decide +kernel

theorem hyps_FaultRegistersComplete :
  (
    let p : PageId := 11;
    let i : Fin 32 := 1;
    let c : Nat × Nat := (1, 1);
    let w : Word := 2;
    let s : State := { fltS [] with dev := { (fltS []).dev with straps := 0x400 } };
    s.dev.state ≠ .load ∧ s.present p = true ∧ s.busy p = false ∧ s.factory = true ∧ srcInfo p i = some c ∧
    w = BitVec.ofNat 32 (2 ^ i.val)) ∧
  (
    let p : PageId := 11;
    let w : Word := 3;
    let q : List Nat := [0, 1];
    let s : State := { fltS [] with dev := { (fltS []).dev with straps := 0x400 } };
    s.dev.state ≠ .load ∧ s.present p = true ∧ s.busy p = false ∧ s.factory = true ∧
    q = (List.range 32).filter fun i => w.getLsbD i && (srcInfo p i).isSome) ∧
  (
    let p : PageId := 11;
    let s : State := fltS [];
    s.dev.state ≠ .load ∧ s.present p = true ∧ s.busy p = false ∧ s.factory = false) ∧
  (
    let w : Word := 0x44;
    let r : FltRec := { seq := 0x44, page := 4, done := true, react := 1 };
    let s : State := { fltS [] with flt := { log := [(4, { seq := 0x44, page := 4, done := true, react := 1 })] } };
    s.dev.state ≠ .load ∧ s.busy pgFLT = false ∧ kget? s.flt.log (fld w 7 0 % 64) = some r ∧ r.seq = fld w 7 0 ∧
    r.isOpen = true ∧ r.react ≠ 2) ∧
  (
    let w : Word := 0x44;
    let r : FltRec := { seq := 0x44, page := 10, done := true, react := 2 };
    let s : State := { runs (fltS []) 10 with flt := { log := [(4, { seq := 0x44, page := 10, done := true, react := 2 })] }, blks := [(10, { st := .quiesced, fltq := true })] };
    s.dev.state ≠ .load ∧ s.busy pgFLT = false ∧ kget? s.flt.log (fld w 7 0 % 64) = some r ∧ r.seq = fld w 7 0 ∧
    r.isOpen = true ∧ r.react = 2 ∧
    ({ s with flt := { s.flt with log := kset s.flt.log (fld w 7 0 % 64) { r with acked := true } } } : State).openRecs.all (fun x => decide (x.react ≠ 2) || decide (x.page ≠ r.page) || decide (x.seq = r.seq)) = true) ∧
  (
    let w : Word := 2;
    let k : Kind := .tmg;
    let c : Nat := 2;
    let d : Nat := 3;
    let s : State := (inSt .held).wr FLT.RXIDX (BitVec.ofNat 32 (0x300 + pgTMG));
    s.dev.state ≠ .load ∧ typeKind s.rxIdx.1 = some k ∧ srcInfo s.rxIdx.1 s.rxIdx.2 = some (c, d) ∧ fld w 2 0 ≤ 5 ∧
    (c = clFATAL → fld w 2 0 = 5) ∧ (fld w 2 0 = 2 ∨ fld w 2 0 = 3 → alwaysOn s.rxIdx.1 = false) ∧
    s.reactionOf s.rxIdx.1 s.rxIdx.2 ≠ fld w 2 0 ∧ s.rwsFree 0 = true) ∧
  (
    let p : PageId := 10;
    let x : FltWin := { page := 10, seq := 4, ends := some 900 };
    let t0 : Nat := 900;
    let s : State := { fltS [] with flt := { wins := [{ page := 10, seq := 3 }, { page := 10, seq := 4, ends := some 900 }] } };
    s.flt.wins.find? (fun w => decide (w.page = p.val) && w.ends.isSome) = some x ∧ x.ends = some t0) ∧
  (
    let p : PageId := 10;
    let n : Nat := 1;
    let t0 : Nat := 900;
    let s : State := { fltS [] with flt := { fence := [(10, 2, 900)] } };
    kget? s.flt.fence p = some (n + 1, t0)) ∧
  (
    let s : State := { fltS [] with flt := { corr := true } };
    s.dev.state ≠ .load ∧ s.busy pgFLT = false) := by
  refine ⟨?_, ?_, ?_, ?_, ?_, ?_, ?_, ?_, ?_⟩ <;> decide +kernel

theorem hyps_SupplyTemperatureComplete :
  (
    let c : Nat := 735;
    let l : List Nat := [1200, 0, 0, 0, 0, 0, 0, 9];
    let s : State := pwrS;
    l.length = 8 ∧ c ≤ 2047 ∧ (l.all fun v => decide (v ≤ 4095)) = true ∧ s.pwr.brown = false ∧
    (((c :: l).zip (List.range 9)).all fun e => match s.supplyTh e.2 with | some (w, f, h) => decide (w ≤ e.1) && decide (f ≤ e.1) && decide (e.1 ≤ h) | none => true) = true) ∧
  (
    let c : Nat := 600;
    let l : List Nat := [1200, 0, 0, 0, 0, 0, 0, 9];
    let w : Nat := 700;
    let f : Nat := 680;
    let h : Nat := 790;
    let s : State := { pwrS with pwr := { low := [(0, 3)] } };
    l.length = 8 ∧ c ≤ 2047 ∧ (l.all fun v => decide (v ≤ 4095)) = true ∧ s.pwr.brown = false ∧
    s.dev.state ∈ [.load, .held, .armed, .run, .standby] ∧ s.supplyTh 0 = some (w, f, h) ∧ c < w ∧
    max 1 (s.f PWR.FILT 3 0) ≤ kgetD s.pwr.low 0 0 + 1) ∧
  (
    let t0 : Nat := 50;
    let d : DevState := .run;
    let s : State := { pwrS with dev := { pwrS.dev with state := .hold, prev := some .run }, pwr := { okAt := some 50, brown := true } };
    s.pwr.okAt = some t0 ∧ s.pwr.brown = true ∧ s.dev.state = .hold ∧ s.dev.prev = some d ∧ d ≠ .hold) ∧
  (
    let l : List Nat := [0, 0, 250, 127, 3, 127, 0, 0, 0, 0, 0, 0, 0, 0, 0, 0];
    let i : Fin 16 := 3;
    l.length = 16 ∧ (l.all fun v => decide (v ≤ 255)) = true ∧
    ((List.range 16).all fun j => if j < i.val then decide (sext 8 (l.getD j 0) < sext 8 (l.getD i 0)) else decide (sext 8 (l.getD j 0) ≤ sext 8 (l.getD i 0))) = true) ∧
  (
    let u : State := (pwrS.wr PWR.AVSCFG 0x5F).wr PWR.AVSSTAT 730;
    let s : State := (pwrS.wr PWR.AVSCFG 0x5F).wr PWR.AVSSTAT 730;
    s.dev.state ≠ .hold ∧ s.dev.fused = true ∧ s.fb PWR.AVSCFG 6 = true ∧
    u = (match s.pwr.avsAt with | some t0 => s.until (t0 + 100000) | none => s)) ∧
  (
    let s : State := (pwrS.wr PWR.AVSCFG 0x5F).wr PWR.AVSSTAT 730;
    s.flt.events = []) ∧
  (
    let n : Nat := 711;
    n ≤ 1023) ∧
  (
    let s : State := { pwrS.wr PWR.SPCFG 0 with now := 12, free := 3 };
    s.fb PWR.SPCFG 0 = false) ∧
  (
    let s : State := { (pwrS.wr PWR.SPCFG 0x101401).wr PWR.SPFLOOR 100 with now := 16, free := 3, pwr := { iest := 300, fall := 5000 } };
    s.fb PWR.SPCFG 0 = true ∧ s.pwr.iest ≤ 1023) ∧
  (
    let g : Nat := 3;
    let b : SnowBurst := { left := 60, until_ := 30 };
    let s : State := { pwrS.wr PWR.SPCFG 0x101401 with now := 16, pwr := { iest := 300, fall := 5000, bursts := [(3, { left := 60, until_ := 30 })] } };
    s.fb PWR.SPCFG 0 = true ∧ kget? s.pwr.bursts g = some b ∧ g < s.nPg) := by
  refine ⟨?_, ?_, ?_, ?_, ?_, ?_, ?_, ?_, ?_, ?_⟩ <;> decide +kernel

theorem hyps_ServicePortsComplete :
  (
    let a : Fin 128 := 0x30;
    let l : List Byte := [0, 1, 4];
    let s : State := pwrS;
    s.i2cMine a = true ∧ 3 ≤ l.length) ∧
  (
    let a : Fin 128 := 0x30;
    let s : State := { pwrS with i2c := 0x000008 };
    s.i2cMine a = true ∧ s.i2c.toNat % 4 = 0) ∧
  (
    let a : Fin 128 := 0x30;
    let s : State := { pwrS with i2c := 0xFFFFF8 };
    s.i2cMine a = true) ∧
  (
    let a : Fin 128 := 0x11;
    let s : State := pwrS;
    s.i2cMine a = false) := by
  refine ⟨?_, ?_, ?_, ?_⟩ <;> decide +kernel

theorem hyps_EvturLinkComplete :
  (
    let s : State := evtS 1;
    s.evtOn = true ∧
    (s.evtLink = true ∨ s.role ≠ roleActive ∨ s.peer ≠ stStale ∨ s.fb EVT.POLICY 0 = false ∨ s.running pgEVT = false)) ∧
  (
    let s : State := ((evtS 1).setF EVT.STAT 10 6 0).setF EVT.STAT 3 2 3;
    s.evtOn = true ∧ s.evtLink = false ∧ s.role = roleActive ∧ s.peer = stStale ∧ s.fb EVT.POLICY 0 = true ∧
    s.running pgEVT = true ∧ s.evt.journal = []) ∧
  (
    let l : Fin 4 := 0;
    let s : State := evtS 1;
    s.evtOn = true ∧ s.f EVT.STAT 9 6 = 2 ^ l.val ∧ s.evtLink = true) ∧
  (
    let s : State := evtS 1;
    s.running pgEVT = true ∧ s.evtOn = true ∧ s.evtLink = true ∧ s.f EVT.STAT 9 6 ≠ 0) ∧
  (
    let s : State := { evtS 2 with now := 70, evt := { ackDue := true, helloSent := some 70 } };
    s.running pgEVT = true ∧ s.evtOn = true ∧ s.evtLink = true ∧ s.role = roleStandby ∧ s.evt.ackDue = true ∧
    s.now + 1000 < s.helloDue) ∧
  (
    let s : State := { evtS 2 with evt := { ackDue := true } };
    s.helloDue ≤ s.now + 1000) ∧
  (
    let e : Nat × JEntry × Nat := (4, .foldDone 3, 10);
    let l : List (Nat × JEntry × Nat) := [(5, .seqMark 2 9, 12)];
    let s : State := { evtS 1 with evt := { journal := [(3, .bulkEnd, 4), (4, .foldDone 3, 10), (5, .seqMark 2 9, 12)], jseq := 6, sendAt := 4 } };
    s.role = roleActive ∧ s.running pgEVT = true ∧ s.evtOn = true ∧ s.evtLink = true ∧
    (s.evt.journal.filter fun x => decide (x.1 = s.evt.sendAt) || serGt x.1 s.evt.sendAt).take 16 = e :: l) ∧
  (
    let f : List Byte := ((evtS 1).evtFrame 1 0 0 [1, 2, 3, 4, 4, 0, 0, 0]).set 40 1;
    let s : State := evtS 2;
    s.evtOn = true ∧ s.evtLink = true ∧ s.evtBad f = true) ∧
  (
    let f : List Byte := (evtS 1).evtFrame 1 0 0 [1, 2, 3, 4, 4, 0, 0, 0];
    let s : State := { evtS 2 with now := 700 };
    evtTakes s f 1 = true ∧ s.role = roleStandby) ∧
  (
    let f : List Byte := (evtS 1).evtFrame 2 1 7 (JEntry.bytes (.pnMark true 3 77));
    let e : JEntry := .pnMark true 3 77;
    let s : State := { ((evtS 2).setF EVT.STAT 5 4 2).wr EVT.APPLIED 7 with evt := { follows := true } };
    evtTakes s f 2 = true ∧ s.role = roleStandby ∧ s.running pgEVT = true ∧ s.self = stCurrent ∧ s.evt.held = [] ∧
    jParse (beNat (slice f 18 2)) ((f.take (f.length - 4)).drop 32) = [e] ∧ s.follows = true ∧
    beNat (slice f 24 4) = (s.rd EVT.APPLIED).toNat) ∧
  (
    let f : List Byte := (evtS 1).evtFrame 2 1 7 (JEntry.bytes (.foldDone 3));
    let e : JEntry := .foldDone 3;
    let s : State := (evtS 2).wr EVT.APPLIED 7;
    evtTakes s f 2 = true ∧ jParse (beNat (slice f 18 2)) ((f.take (f.length - 4)).drop 32) = [e] ∧ e ≠ .bulkBegin ∧
    s.follows = false) ∧
  (
    let f : List Byte := ((evtS 2).wr EVT.APPLIED 5).evtFrame 3 0 0 [];
    let s : State := { (evtS 1).setF EVT.STAT 3 2 1 with evt := { journal := [(3, .bulkEnd, 4), (4, .foldDone 3, 10), (5, .seqMark 2 9, 12)], jseq := 6, sendAt := 4, bulkEnd := some 3 } };
    evtTakes s f 3 = true ∧ s.role = roleActive ∧ s.running pgEVT = true) ∧
  (
    let f : List Byte := (evtS 1).evtFrame 4 0 0 [1, 0, 0, 0, 0, 0, 0, 0];
    let s : State := (evtS 2).setF EVT.STAT 5 4 2;
    evtTakes s f 4 = true ∧ s.role ≠ roleActive ∧ beNat (slice f 32 1) = 1) ∧
  (
    let f : List Byte := (evtS 2).evtFrame 4 0 0 [2, 0, 0, 0, 0, 0, 0, 0];
    let s : State := { evtS 1 with evt := { askedAt := some 4 } };
    evtTakes s f 4 = true ∧ beNat (slice f 32 1) = 2 ∧ s.role = roleActive ∧ s.evt.askedAt.isSome = true ∧
    s.dev.state = .run) ∧
  (
    let f : List Byte := (evtS 2).evtFrame 4 0 0 [3, 1, 0, 0, 0, 0, 0, 0];
    let s : State := { evtS 0 with evt := { askedAt := some 4 } };
    evtTakes s f 4 = true ∧ beNat (slice f 32 1) = 3 ∧ (s.role ≠ roleActive ∨ s.running pgEVT = false) ∧
    s.evt.askedAt.isSome = true) ∧
  (
    let f : List Byte := (evtS 2).evtFrame 4 0 0 [3, 1, 0, 0, 0, 0, 0, 0];
    let s : State := { evtS 1 with evt := { askedAt := some 4 } };
    evtTakes s f 4 = true ∧ beNat (slice f 32 1) = 3 ∧ s.role = roleActive ∧ s.evt.askedAt.isSome = true) ∧
  (
    let f : List Byte := (evtS 2).evtFrame 5 0 0 [];
    let s : State := { evtS 1 with evt := { jseq := 9 } };
    evtTakes s f 5 = true ∧ s.role = roleActive ∧ s.running pgEVT = true ∧ s.evt.journal.length < 16384) := by
  refine ⟨?_, ?_, ?_, ?_, ?_, ?_, ?_, ?_, ?_, ?_, ?_, ?_, ?_, ?_, ?_, ?_, ?_⟩ <;> decide +kernel

theorem hyps_EvturRolesComplete :
  (
    let t0 : Nat := 40;
    let s : State := { evtS 0 with dev := { (evtS 0).dev with state := .armed }, evt := { goAt := some 40, rxEpoch := 6 } };
    s.evt.goAt = some t0 ∧ s.role = roleNone ∧ s.evt.decided = false ∧ s.evtOn = true ∧ s.evtLink = true ∧
    s.dev.state = .armed ∧ (s.evt.helloAt = none ∨ s.evt.flags.testBit 0 = false) ∧
    (s.evt.helloAt = none ∨ s.evt.flags.testBit 4 = false ∨ s.wins = true) ∧
    max (s.rd EVT.EPOCH).toNat s.evt.rxEpoch < 4294967295) ∧
  (
    let t0 : Nat := 40;
    let s : State := { evtS 0 with dev := { (evtS 0).dev with state := .armed }, evt := { goAt := some 40, helloAt := some 5, flags := 1 } };
    s.evt.goAt = some t0 ∧ s.role = roleNone ∧ s.evt.decided = false ∧ s.evtOn = true ∧ s.evtLink = true ∧
    s.dev.state = .armed ∧ s.evt.helloAt.isSome = true ∧ s.evt.flags.testBit 0 = true) ∧
  (
    let t0 : Nat := 40;
    let s : State := { evtS 0 with fuses := { (evtS 0).fuses with serial := 900 }, evt := { goAt := some 40, helloAt := some 5, flags := 16 } };
    s.evt.goAt = some t0 ∧ s.role = roleNone ∧ s.evt.decided = false ∧ s.evtOn = true ∧ s.evtLink = true ∧
    s.evt.helloAt.isSome = true ∧ s.evt.flags.testBit 0 = false ∧ s.evt.flags.testBit 4 = true ∧ s.wins = false) ∧
  (
    let t0 : Nat := 40;
    let s : State := { (evtS 0).setF EVT.STAT 10 6 0 with evt := { goAt := some 40 } };
    s.evt.goAt = some t0 ∧ s.role = roleNone ∧ s.evtOn = true ∧ s.evtLink = false ∧ s.pinIn = false) ∧
  (
    let k : Nat := 1;
    let t0 : Nat := 40;
    let s : State := { evtS 3 with evt := { claim := some (1, 40, none), pinAt := 70 } };
    s.evt.claim = some (k, t0, none) ∧ s.pinIn = false) ∧
  (
    let k : Nat := 1;
    let t0 : Nat := 40;
    let r : Nat := 90;
    let s : State := { evtS 3 with dev := { (evtS 3).dev with state := .armed }, evt := { claim := some (1, 40, some 90) } };
    s.evt.claim = some (k, t0, some r) ∧ s.pinIn = false ∧ s.role = roleClaiming ∧ s.dev.state = .armed ∧
    max (s.rd EVT.EPOCH).toNat s.evt.rxEpoch < 4294967295) ∧
  (
    let k : Nat := 1;
    let t0 : Nat := 40;
    let r : Nat := 90;
    let s : State := { evtS 3 with evt := { claim := some (1, 40, some 90) }, now := 95 };
    s.evtEn = true ∧ s.initialising = false ∧ s.pinIn = false ∧ s.evt.claim = some (k, t0, some r) ∧
    s.evt.pinLast = false) ∧
  (
    let s : State := { (evtS 2).setB EVT.STAT 12 with evt := { pinLast := true, pinRun := 3 } };
    s.evtEn = true ∧ s.initialising = false ∧ s.pinIn = true ∧ (s.evt.accepted = false ∨ s.role ≠ roleStandby) ∧
    s.evt.pinLast = true) ∧
  (
    let v : Bool := true;
    let s : State := evtS 3;
    s.evtEn = true ∧ s.initialising = false ∧ s.pinIn ≠ v ∧ s.evt.pinLast ≠ v) ∧
  (
    let s : State := { (evtS 2).setF EVT.STAT 5 4 2 with dev := { (evtS 2).dev with state := .standby } };
    s.role = roleStandby ∧ s.pinIn = false ∧ (s.self = stCurrent ∨ s.fb EVT.POLICY 2 = true) ∧
    s.dev.state = .standby ∧ max (s.rd EVT.EPOCH).toNat s.evt.rxEpoch < 4294967295) ∧
  (
    let s : State := evtS 2;
    s.role = roleStandby ∧ s.pinIn = false ∧ s.self ≠ stCurrent ∧ s.fb EVT.POLICY 2 = false) ∧
  (
    let w : Word := 1;
    let s : State := (evtS 1).setF EVT.STAT 3 2 2;
    s.dev.state ≠ .load ∧ s.present pgEVT = true ∧ s.busy pgEVT = false ∧ fld w 2 0 = 1 ∧ s.role = roleActive ∧
    s.peer = stCurrent ∧ s.evtOn = true ∧ s.evtLink = true) ∧
  (
    let w : Word := 2;
    let s : State := { evtS 1 with evt := { helloAt := some 4, jseq := 9, journal := [(8, .foldDone 3, 2)] } };
    s.dev.state ≠ .load ∧ s.present pgEVT = true ∧ s.busy pgEVT = false ∧ fld w 2 0 = 2 ∧ s.role = roleActive ∧
    s.peerHere = true ∧ s.running pgEVT = true ∧ s.evt.journal.length < 16384) ∧
  (
    let w : Word := 2;
    let s : State := evtS 2;
    s.dev.state ≠ .load ∧ s.present pgEVT = true ∧ s.busy pgEVT = false ∧ fld w 2 0 = 2 ∧
    (s.role ≠ roleActive ∨ s.peerHere = false ∨ s.running pgEVT = false)) ∧
  (
    let w : Word := 4;
    let s : State := { evtS 2 with dev := { (evtS 2).dev with state := .standby } };
    s.dev.state ≠ .load ∧ s.present pgEVT = true ∧ s.busy pgEVT = false ∧ fld w 2 0 = 4 ∧ s.role = roleStandby ∧
    s.pinIn = false ∧ s.dev.state = .standby ∧ max (s.rd EVT.EPOCH).toNat s.evt.rxEpoch < 4294967295) ∧
  (
    let t0 : Nat := 40;
    let s : State := { (evtS 1).setB EVT.STAT 15 with evt := { askedAt := some 40 } };
    s.evt.askedAt = some t0) := by
  refine ⟨?_, ?_, ?_, ?_, ?_, ?_, ?_, ?_, ?_, ?_, ?_, ?_, ?_, ?_, ?_, ?_⟩ <;> decide +kernel

theorem hyps_EvturJournalComplete :
  (
    let q : Nat := 3;
    let e : JEntry := .bulkEnd;
    let t0 : Nat := 4;
    let l : List (Nat × JEntry × Nat) := [];
    let s : State := { evtS 1 with evt := { journal := [(3, .bulkEnd, 4)], jseq := 4, sendAt := 4 } };
    s.evt.journal = (q, e, t0) :: l) ∧
  (
    let q : Nat := 3;
    let e : JEntry := .bulkEnd;
    let t0 : Nat := 4;
    let l : List (Nat × JEntry × Nat) := [];
    let s : State := { (evtS 1).wr EVT.POLICY 0 with evt := { journal := [(3, .bulkEnd, 4)], jseq := 4, sendAt := 4 } };
    s.evt.journal = (q, e, t0) :: l ∧ s.fb EVT.POLICY 0 = false) ∧
  (
    let t0 : Nat := 40;
    let s : State := { evtS 2 with evt := { helloAt := some 40 } };
    s.evt.helloAt = some t0 ∧ s.role = roleStandby) ∧
  (
    let t0 : Nat := 40;
    let s : State := { evtS 2 with evt := { held := [(9, .bulkEnd, 40), (12, .foldDone 3, 55)] } };
    s.gapAt = some t0 ∧ s.role = roleStandby) ∧
  (
    let k : Nat := 5;
    let m : Nat := 0;
    let h : Nat := 0;
    let r : Nat := 5;
    let s : State := { (evtS 1).setF EVT.STAT 3 2 1 with evt := { bulk := some 5, jseq := 9, bulkDue := 70500, journal := [(8, .bulkBegin, 4)] } };
    s.evt.bulk = some k ∧ s.role = roleActive ∧ s.evtEn = true ∧ s.peer = stSyncing ∧ s.evt.journal.length < 8192 ∧
    bulkRow k = some (m, h, r) ∧ s.evt.journal ≠ []) ∧
  (
    let sa : Nat := 7;
    let s : State := { ((evtS 1).setF EVT.STAT 3 2 1).wr (MSC.SACFG0 7) 0x10000 with evt := { bulk := some 2625537, jseq := 9, journal := [(8, .bulkBegin, 4)] } };
    s.evt.bulk = some (bulkRows + 1) ∧ s.role = roleActive ∧ s.evtEn = true ∧ s.peer = stSyncing ∧
    s.evt.journal.length < 8192 ∧ s.evt.journal ≠ [] ∧ s.nextSa 0 = some sa) ∧
  (
    let s : State := { (evtS 1).setF EVT.STAT 3 2 1 with evt := { bulk := some 2691105, jseq := 9, journal := [(8, .bulkBegin, 4)] } };
    s.evt.bulk = some (bulkRows + 65569) ∧ s.role = roleActive ∧ s.evtEn = true ∧ s.peer = stSyncing ∧
    s.evt.journal.length < 8192 ∧ s.evt.journal ≠ []) := by
  refine ⟨?_, ?_, ?_, ?_, ?_, ?_, ?_⟩ <;> decide +kernel

theorem hyps_StepRunsFront :
  (
    let c : Instr := .pllsLocked;
    let l : List Instr := [.helloSend];
    let s : State := { inSt .strap with pending := [.pllsLocked, .helloSend] };
    s.pending = c :: l) := by
  decide +kernel

theorem hyps_IdleStepIsOneNanosecond :
  (
    let s : State := { inSt .run with now := 7 };
    s.pending = []) := by
  decide +kernel

theorem hyps_StrapErrorsFence :
  (
    let s : State := { State.reset with dev := { state := .strap, plls := true, straps := 0x8001 } };
    s.dev.state = .strap ∧ s.dev.plls = true ∧ s.dev.fused = false) := by
  decide +kernel

theorem hyps_QuiesceRequest :
  (
    let p : PageId := 11;
    let w : Word := 1;
    let s : State := ((inSt .run).wr (HDR.BLKCTL 11) 3).setBlk 11 { st := .quiesced };
    s.dev.state ≠ .load ∧ s.present p = true ∧ alwaysOn p = false ∧ fld w 0 0 = s.f (HDR.BLKCTL p) 0 0 ∧
    fld w 2 1 = 0) := by
  decide +kernel

theorem hyps_JournalEntriesRoundTrip :
  (
    let l : List JEntry := [.row 1 13 524287 (BitVec.ofNat 512 (2 ^ 512 - 1)), .verstate 65535 4294967295, .foldDone 15, .pnMark true 32767 (2 ^ 64 - 1), .seqMark 31 4294967295, .bulkBegin, .bulkEnd];
    (l.all fun e => jFits e) = true) := by
  decide +kernel

/-- The state after a step. -/
def stepOf (s : State) : State := match step s with | .next t => t | _ => s

/-- The state after a command. -/
def after (c : Instr) (s : State) : State := match exec c s with | .next t => t | _ => s

theorem hyps_FieldAccessCodes :
    let f : Field := ⟨7, 4, .rws, 0, .any⟩
    let s : State := { inSt .run with dev := { state := .run, sealed := true } }
    f.lo ≤ f.hi ∧ f.hi < 32 ∧
      TIM.STAT ∉ [DEV.CFGGEN, DEV.VALSTAT, DEV.SEALREJ, DEV.SEALREJADDR, HDR.IRQSTAT pgDEV] ∧ f.acc = .rws ∧
      s.dev.sealed = true := by decide +kernel

/-- ARMED and sealed, with RUN_GO in front. -/
def armedS : State := { inSt .armed with dev := { (inSt .armed).dev with sealed := true }, pending := [.runGo 1, .helloSend] }

theorem hyps_SealInvariant : SealInv armedS ∧ step armedS = .next (stepOf armedS) ∧ (stepOf armedS).dev.state = .run :=
  ⟨by decide, rfl, by decide +kernel⟩

theorem hyps_SealClearsOnlyByReset :
    let s : State := { armedS with pending := [.fullReset 0xC1EA] }
    s.dev.sealed = true ∧ step s = .next (stepOf s) ∧ (stepOf s).dev.sealed = false := ⟨by decide, rfl, by decide +kernel⟩

theorem hyps_FusesKept : step armedS = .next (stepOf armedS) ∧ armedS.fuses.ds = none := ⟨rfl, rfl⟩

theorem hyps_QueueIsFirstInFirstOut :
    armedS.pending = .runGo 1 :: [.helloSend] ∧ step armedS = .next (stepOf armedS) := ⟨rfl, rfl⟩

theorem hyps_DramListKeepsItsForm :
    let s : State := { armedS with drc := { bursts := [(3, 5), (64, 0)], stale := [1] } }
    Memory.wf s.drc = true ∧ step s = .next (stepOf s) := ⟨by decide +kernel, rfl⟩

/-! ## Operands that name nothing the hardware has are refused -/

theorem test_illformed_write_unaligned : Instr.wellFormed (.regWrite 0 .bar0 2 0) = false := by decide
theorem test_illformed_write_beyond_bar2 : Instr.wellFormed (.regWrite 5 .bar2 0x10000 0) = false := by decide
theorem test_illformed_pair_read : Instr.wellFormed (.pairLowRead 5 .bar4 0x10000) = false := by decide
theorem test_illformed_pair_low : Instr.wellFormed (.pairLowWrite 0 .bar0 0x70113 0) = false := by decide
theorem test_illformed_pair_high : Instr.wellFormed (.pairHighWrite 0 .bar2 0x10004 0) = false := by decide
theorem test_illformed_counter_clear : Instr.wellFormed (.counterClear 0 .bar0 0x7002E 0) = false := by decide
theorem test_illformed_key_erase : Instr.wellFormed (.keyErase 3 .bar4 0) = false := by decide
theorem test_illformed_frame : Instr.wellFormed (.frameReceived 3 [] {}) = false := by decide
theorem test_illformed_pfc : Instr.wellFormed (.pfcReceived 3 [] {}) = false := by decide
theorem test_illformed_pause : Instr.wellFormed (.pauseReceived 3 [] {}) = false := by decide
theorem test_illformed_image (l : List Byte) (h : 8388608 < l.length) : Instr.wellFormed (.imageReadDone l) = false := by
  simp only [Instr.wellFormed, decide_eq_false_iff_not]
  omega
theorem test_illformed_scrub_row : Instr.wellFormed (.tableScrub 1 8388608 []) = false := by decide
theorem test_illformed_scrub_bit : Instr.wellFormed (.tableScrub 1 5 [512]) = false := by decide
theorem test_illformed_supply : Instr.wellFormed (.supplySample 2048 (List.replicate 8 0)) = false := by decide
theorem test_illformed_supply_count : Instr.wellFormed (.supplySample 700 [1, 2]) = false := by decide
theorem test_illformed_thermal : Instr.wellFormed (.thermalRead (List.replicate 16 256)) = false := by decide
theorem test_illformed_current : Instr.wellFormed (.avsCurrentRead 1024 true) = false := by decide

/-- An ill-formed command stops with the fault that says so. -/
theorem test_illformed_stops : exec (.regWrite 5 .bar2 0x10000 0) State.reset = .fault .illFormed := rfl

/-! ## Checks of the spec's codes on their published check strings -/

/-- The FCS of Ethernet: the CRC-32 of the digits 1 to 9. -/
theorem test_crc32_check : crc32 [0x31, 0x32, 0x33, 0x34, 0x35, 0x36, 0x37, 0x38, 0x39] = 0xCBF43926 := by decide +kernel

/-- CRC-32C (R60): the same string. -/
theorem test_crc32c_check : crc32c [0x31, 0x32, 0x33, 0x34, 0x35, 0x36, 0x37, 0x38, 0x39] = 0xE3069283 := by decide +kernel

/-! ## Single commands on small states -/

/-- Straps are sampled at the rising edge, and the device goes to STRAP (R52). -/
theorem test_reset_rise : (after (.resetNRise ⟨0x1080, 3⟩) State.reset).dev.state = .strap ∧
    (after (.resetNRise ⟨0x1080, 3⟩) State.reset).dev.straps = 0x1080 := by decide +kernel

/-- The write of a pair takes effect whole at the write of its high word (R7): TIM.STEP. -/
theorem test_pair_write :
    let s := after (.pairHighWrite 0 .bar0 0x70118 9) (after (.pairLowWrite 0 .bar0 0x70114 5) (inSt .held))
    s.rd 0x70114 = 5 ∧ s.rd 0x70118 = 9 := by decide +kernel

/-- The low word of a pair alone changes nothing (R7). -/
theorem test_pair_low_alone : (after (.pairLowWrite 0 .bar0 0x70114 5) (inSt .held)).rd 0x70114 = 0 := by decide +kernel

/-- An RWS field keeps its value after the seal, and the attempt is counted (R9, R66). -/
theorem test_sealed_write :
    let s := after (.regWrite 0 .bar0 0x70024 7) { inSt .run with dev := { state := .run, sealed := true } }
    s.rd 0x70024 = 0 ∧ s.f DEV.SEALREJ 30 0 = 1 := by decide +kernel

/-- A step waits for its instant (R83), and then adds its amount. -/
theorem test_step_waits :
    let s := after (.stepGo 1) (((inSt .run).wr 0x70114 100).wr 0x7011C 50)
    s.tim.step = some (100, 50) ∧ s.tim.count = 0 ∧
      (after .stepApply { s with tim := { s.tim with count := 50 } }).tim.count = 150 := by decide +kernel

/-- A frame reaches the receive buffer without its FCS and with its port (example 1 of the packet's path, step 1). -/
theorem test_frame_received :
    (((after (.frameReceived 9 (frameB 0x800 50) {}) (upS 9)).pg 1).rxbuf.map fun p => (p.bytes.length, p.m.srcPort)) =
      [(64, 9)] := by decide +kernel

/-- A frame whose FCS is wrong by one bit is forwarded with FCS_BAD 1 (R76). -/
theorem test_frame_fcs :
    (((after (.frameReceived 9 ((frameB 0x800 50).set 20 0) {}) (upS 9)).pg 1).rxbuf.map fun p => (p.bad, p.m.fcsBad)) =
      [(true, true)] := by decide +kernel

/-- An empty queue: time passes. -/
theorem test_idle : (stepOf (inSt .run)).now = 1 := by decide +kernel

end Sys2Proof.Tests
end

namespace Sys2Proof.Machine

/-! ## Numbers and their bits -/

theorem testBit_sub_land (a b n : Nat) : (a - Nat.land a b).testBit n = (a.testBit n && !b.testBit n) := by
  change (a - (a &&& b)).testBit n = _
  induction n generalizing a b with
  | zero =>
    have hle : a &&& b ≤ a := Nat.and_le_left
    have hmod : (a &&& b) % 2 = a % 2 &&& b % 2 := Nat.and_mod_two_pow (n := 1)
    have hbit : a % 2 &&& b % 2 ≤ a % 2 := Nat.and_le_left
    have hsub : (a - (a &&& b)) % 2 = a % 2 - (a % 2 &&& b % 2) := by omega
    rw [Nat.testBit_zero, Nat.testBit_zero, Nat.testBit_zero, hsub]
    rcases Nat.mod_two_eq_zero_or_one a with ha | ha <;> rcases Nat.mod_two_eq_zero_or_one b with hb | hb <;>
      rw [ha, hb] <;> rfl
  | succ n ih =>
    have hhalf : (a - (a &&& b)) / 2 = a / 2 - (a / 2 &&& b / 2) := by
      have hdiv : (a &&& b) / 2 = a / 2 &&& b / 2 := Nat.and_div_two
      have hle : a / 2 &&& b / 2 ≤ a / 2 := Nat.and_le_left
      have hmod : (a &&& b) % 2 ≤ a % 2 :=
        Nat.le_trans (Nat.le_of_eq (Nat.and_mod_two_pow (n := 1))) Nat.and_le_left
      omega
    rw [Nat.testBit_succ, hhalf, ih, ← Nat.testBit_succ, ← Nat.testBit_succ]

/-- A number with its bits [hi:lo] replaced by those of `b`, as `rwsWide` computes it. -/
def replaceBits (x hi lo b : Nat) : Nat := x - nbits x hi lo * 2 ^ lo + b * 2 ^ lo

theorem nbits_lt (v hi lo : Nat) : nbits v hi lo < 2 ^ (hi + 1 - lo) := Nat.mod_lt _ (Nat.two_pow_pos _)

theorem testBit_nbits (v hi lo i : Nat) :
    (nbits v hi lo).testBit i = (decide (i < hi + 1 - lo) && v.testBit (i + lo)) := by
  rw [nbits, Nat.testBit_mod_two_pow, Nat.testBit_div_two_pow]

/-- The part of a number above bit `hi`, its bits [hi:lo], and the part below bit `lo`. -/
theorem split_at_bits (x hi lo : Nat) (h : lo ≤ hi) :
    x = 2 ^ (hi + 1) * (x / 2 ^ (hi + 1)) + (2 ^ lo * nbits x hi lo + x % 2 ^ lo) := by
  have hpow : 2 ^ (hi + 1) = 2 ^ lo * 2 ^ (hi + 1 - lo) := by rw [← Nat.pow_add]; congr 1; omega
  calc x = 2 ^ lo * (x / 2 ^ lo) + x % 2 ^ lo := (Nat.div_add_mod ..).symm
    _ = 2 ^ lo * (2 ^ (hi + 1 - lo) * (x / 2 ^ lo / 2 ^ (hi + 1 - lo)) + nbits x hi lo) + x % 2 ^ lo :=
      congrArg (2 ^ lo * · + x % 2 ^ lo) (Nat.div_add_mod ..).symm
    _ = _ := by rw [hpow, Nat.div_div_eq_div_mul, Nat.mul_add, Nat.mul_assoc, Nat.add_assoc]

theorem replaceBits_eq (x hi lo b : Nat) (h : lo ≤ hi) :
    replaceBits x hi lo b = 2 ^ (hi + 1) * (x / 2 ^ (hi + 1)) + (2 ^ lo * b + x % 2 ^ lo) := by
  have hx := split_at_bits x hi lo h
  rw [replaceBits, Nat.mul_comm _ (2 ^ lo), Nat.mul_comm b]
  omega

theorem testBit_replaceBits (x hi lo b i : Nat) (h : lo ≤ hi) (hb : b < 2 ^ (hi + 1 - lo)) :
    (replaceBits x hi lo b).testBit i = if i < lo ∨ hi < i then x.testBit i else b.testBit (i - lo) := by
  have hlow : x % 2 ^ lo < 2 ^ lo := Nat.mod_lt _ (Nat.two_pow_pos _)
  have hmid : 2 ^ lo * b + x % 2 ^ lo < 2 ^ (hi + 1) := by
    calc 2 ^ lo * b + x % 2 ^ lo < 2 ^ lo * (b + 1) := by rw [Nat.mul_add]; omega
      _ ≤ 2 ^ lo * 2 ^ (hi + 1 - lo) := Nat.mul_le_mul_left _ hb
      _ = 2 ^ (hi + 1) := by rw [← Nat.pow_add]; congr 1; omega
  rw [replaceBits_eq _ _ _ _ h, Nat.testBit_two_pow_mul_add _ hmid, Nat.testBit_two_pow_mul_add _ hlow]
  by_cases habove : hi < i
  · rw [if_neg (by omega), if_pos (.inr habove), Nat.testBit_div_two_pow, Nat.sub_add_cancel habove]
  · rw [if_pos (by omega)]
    by_cases hbelow : i < lo
    · simp [hbelow, Nat.testBit_mod_two_pow]
    · simp [hbelow, habove]

theorem nbits_replaceBits (x hi lo b : Nat) (h : lo ≤ hi) (hb : b < 2 ^ (hi + 1 - lo)) :
    nbits (replaceBits x hi lo b) hi lo = b := by
  apply Nat.eq_of_testBit_eq
  intro i
  rw [testBit_nbits, testBit_replaceBits _ _ _ _ _ h hb]
  by_cases hi' : i < hi + 1 - lo
  · rw [if_neg (by omega), Nat.add_sub_cancel]; simp [hi']
  · have : b.testBit i = false :=
      Nat.testBit_lt_two_pow (Nat.lt_of_lt_of_le hb (Nat.pow_le_pow_right (by omega) (by omega)))
    simp [hi', this]

theorem nbits_bit_replaceBits (x hi lo b n : Nat) (h : lo ≤ hi) (hb : b < 2 ^ (hi + 1 - lo)) (hn : n < lo ∨ hi < n) :
    nbits (replaceBits x hi lo b) n n = nbits x n n := by
  apply Nat.eq_of_testBit_eq
  intro i
  rw [testBit_nbits, testBit_nbits, testBit_replaceBits _ _ _ _ _ h hb]
  by_cases hi' : i = 0
  · rw [if_pos (by omega)]
  · rw [decide_eq_false (by omega), Bool.false_and, Bool.false_and]

theorem replaceBits_lt (x hi lo b n : Nat) (h : lo ≤ hi) (hb : b < 2 ^ (hi + 1 - lo)) (hx : x < 2 ^ n) (hn : hi < n) :
    replaceBits x hi lo b < 2 ^ n := by
  apply Nat.lt_pow_two_of_testBit
  intro i hi'
  rw [testBit_replaceBits _ _ _ _ _ h hb, if_pos (.inr (by omega))]
  exact Nat.testBit_lt_two_pow (Nat.lt_of_lt_of_le hx (Nat.pow_le_pow_right (by omega) hi'))

/-! ## Registers and their fields -/

theorem ins_all (w : Word) (v : Nat) : ins w 31 0 v = BitVec.ofNat 32 v := by
  have hw : fld w 31 0 = w.toNat := Nat.mod_eq_of_lt (by simpa [fld] using w.isLt) |>.trans (by simp)
  apply BitVec.eq_of_toNat_eq
  rw [ins_toNat _ _ _ _ (by omega) (by omega), hw]
  simp

theorem fld_all (w : Word) : fld w 31 0 = w.toNat := by
  simpa [fld] using Nat.mod_eq_of_lt w.isLt

theorem State.f_lt (s : State) (k hi lo : Nat) : s.f k hi lo < 2 ^ (hi + 1 - lo) := fld_lt _ _ _

theorem State.f_of_rd {s t : State} {k : Nat} (h : t.rd k = s.rd k) (hi lo : Nat) : t.f k hi lo = s.f k hi lo := by
  rw [State.f, State.f, h]

theorem State.fb_of_rd {s t : State} {k : Nat} (h : t.rd k = s.rd k) (n : Nat) : t.fb k n = s.fb k n := by
  rw [State.fb, State.fb, State.f_of_rd h]

/-- A field apart from the one written keeps its value. -/
theorem State.f_setF_apart (s : State) (k hi lo v h2 l2 : Nat) (h : hi < 32) (hl : lo ≤ hi) (hd : h2 < lo ∨ hi < l2) :
    (s.setF k hi lo v).f k h2 l2 = s.f k h2 l2 := by
  rcases hd with hd | hd
  · exact State.f_setF_below _ _ _ _ _ _ _ h hl hd
  · exact State.f_setF_above _ _ _ _ _ _ _ h hl hd

/-- A saturating count into a field. -/
theorem State.f_addF_self (s : State) (k hi lo n : Nat) (h : hi < 32) (hl : lo ≤ hi) :
    (s.addF k hi lo n).f k hi lo = min (s.f k hi lo + n) (2 ^ (hi + 1 - lo) - 1) := by
  rw [State.addF, State.f_setF_self _ _ _ _ _ h hl]
  refine Nat.mod_eq_of_lt (Nat.lt_of_le_of_lt (Nat.min_le_right _ _) ?_)
  have := Nat.two_pow_pos (hi + 1 - lo)
  omega

theorem State.rd64_lt (s : State) (lo hi : Nat) : s.rd64 lo hi < 2 ^ 64 := by
  have := (s.rd lo).isLt
  have := (s.rd hi).isLt
  unfold State.rd64
  omega

theorem State.rd64_wr64 (s : State) (lo hi v : Nat) (hne : lo ≠ hi) (hv : v < 2 ^ 64) :
    (s.wr64 lo hi v).rd64 lo hi = v := by
  unfold State.rd64 State.wr64
  rw [State.rd_wr, if_neg hne, State.rd_wr, if_pos rfl, State.rd_wr, if_pos rfl, BitVec.toNat_ofNat, BitVec.toNat_ofNat]
  omega

theorem State.fb_irq_self (s : State) (p n : Nat) (h : n < 32) : (s.irq p n).fb (HDR.IRQSTAT p) n = true := by
  rw [State.fb, State.f, State.rd_irq, if_pos rfl, fld_ins_self _ _ _ _ h (Nat.le_refl n), Nat.add_sub_cancel_left]
  rfl

/-! ## Frames -/

theorem onlyRegs_refl (s : State) (ks : List Nat) : onlyRegs s s ks := ⟨rfl, regsKept_refl _ _⟩

theorem onlyRegs_trans {s t u : State} {ks : List Nat} (h : onlyRegs s t ks) (g : onlyRegs t u ks) : onlyRegs s u ks :=
  ⟨by rw [g.1, h.1], regsKept_trans h.2 g.2⟩

theorem onlyRegs_mono {s t : State} {ks js : List Nat} (h : onlyRegs s t ks) (m : ∀ k ∈ ks, k ∈ js) : onlyRegs s t js :=
  ⟨h.1, regsKept_mono h.2 m⟩

theorem onlyRegs_wr64 (s : State) (lo hi v : Nat) : onlyRegs s (s.wr64 lo hi v) [lo, hi] :=
  onlyRegs_trans (onlyRegs_mono (onlyRegs_wr ..) (by simp)) (onlyRegs_mono (onlyRegs_wr ..) (by simp))

/-! ## The registers that count changes and rejections of RWS fields (R9, R66) -/

theorem State.rwsFree_eq_true (s : State) (who : Nat) (hs : s.dev.sealed = false)
    (hw : who = whoLoader ∨ s.secureBoot = false) : s.rwsFree who = true := by
  simpa [State.rwsFree, hs] using hw

theorem State.rwsFree_eq_false (s : State) (who : Nat)
    (h : s.dev.sealed = true ∨ s.secureBoot = true ∧ who ≠ whoLoader) : s.rwsFree who = false := by
  rcases h with h | ⟨hb, hw⟩
  · simp [State.rwsFree, h]
  · simp [State.rwsFree, hb, hw]

theorem onlyRegsOut_sealReject (s : State) (key : Nat) :
    onlyRegsOut s (s.sealReject key) [DEV.SEALREJ, DEV.SEALREJADDR, HDR.IRQSTAT pgDEV] := by
  have hcount := (onlyRegs_setF s DEV.SEALREJ 30 0 (min (s.f DEV.SEALREJ 30 0 + 1) (2 ^ 31 - 1))).out
  have haddr := (onlyRegs_wr (s.addF DEV.SEALREJ 30 0 1) DEV.SEALREJADDR (BitVec.ofNat 32 (key % 16777216))).out
  exact onlyRegsOut_trans (onlyRegsOut_trans (onlyRegsOut_mono hcount (by simp)) (onlyRegsOut_mono haddr (by simp)))
    (onlyRegsOut_mono (onlyRegsOut_irq _ _ _) (by simp))

theorem State.f_sealReject_count (s : State) (key : Nat) :
    (s.sealReject key).f DEV.SEALREJ 30 0 = min (s.f DEV.SEALREJ 30 0 + 1) 2147483647 := by
  have hirq : (s.sealReject key).rd DEV.SEALREJ = (s.addF DEV.SEALREJ 30 0 1).rd DEV.SEALREJ := by
    rw [State.sealReject, (onlyRegsOut_irq _ _ _).2 _ (by decide), State.rd_wr, if_neg (by decide)]
  rw [State.f_of_rd hirq]
  exact State.f_addF_self _ _ _ _ _ (by omega) (by omega)

theorem State.rd_sealReject_addr (s : State) (key : Nat) :
    (s.sealReject key).rd DEV.SEALREJADDR = BitVec.ofNat 32 (key % 16777216) := by
  rw [State.sealReject, (onlyRegsOut_irq _ _ _).2 _ (by decide), State.rd_wr, if_pos rfl]

theorem State.fb_sealReject_irq (s : State) (key : Nat) : (s.sealReject key).fb (HDR.IRQSTAT pgDEV) 5 = true :=
  State.fb_irq_self _ _ _ (by omega)

theorem onlyRegs_dropValid (s : State) : onlyRegs s s.dropValid [DEV.VALSTAT] := by
  unfold State.dropValid
  split
  · exact onlyRegs_setF _ _ _ _ _
  · exact onlyRegs_refl _ _

theorem onlyRegs_cfgGen (s : State) : onlyRegs s s.cfgGen [DEV.CFGGEN, DEV.VALSTAT] :=
  onlyRegs_trans (onlyRegs_mono (onlyRegs_wr ..) (by simp)) (onlyRegs_mono (onlyRegs_dropValid _) (by simp))

theorem State.rd_cfgGen_count (s : State) : s.cfgGen.rd DEV.CFGGEN = s.rd DEV.CFGGEN + 1 := by
  rw [State.cfgGen, (onlyRegs_dropValid _).2 _ (by decide), State.rd_wr, if_pos rfl]

/-- VALID reads 0 once CFGGEN and VALGEN part (R69). -/
theorem State.fb_dropValid (s : State) (h : s.dropValid.rd DEV.CFGGEN ≠ s.dropValid.rd DEV.VALGEN) :
    s.dropValid.fb DEV.VALSTAT 1 = false := by
  rw [(onlyRegs_dropValid s).2 _ (by decide), (onlyRegs_dropValid s).2 _ (by decide)] at h
  rw [State.dropValid, if_pos h, State.fb, State.f_setF_self _ _ _ _ _ (by omega) (by omega)]
  rfl

/-! ## RWS fields of one register -/

theorem State.rwsPut_same (s : State) (who key : Nat) (f : Field) (v : Nat) (h : v = s.f key f.hi f.lo) :
    s.rwsPut who key f v = s := if_pos h

theorem State.rwsPut_rejected (s : State) (who key : Nat) (f : Field) (v : Nat) (h : v ≠ s.f key f.hi f.lo)
    (hf : s.rwsFree who = false) : s.rwsPut who key f v = s.sealReject key := by
  simp [State.rwsPut, h, hf]

theorem State.rwsPut_limited_same (s : State) (who key : Nat) (f : Field) (v : Nat) (hf : s.rwsFree who = true)
    (h : f.limit (s.f key f.hi f.lo) v = s.f key f.hi f.lo) : s.rwsPut who key f v = s := by
  simp [State.rwsPut, hf, h]

theorem State.rwsPut_taken (s : State) (who key : Nat) (f : Field) (v : Nat) (h : v ≠ s.f key f.hi f.lo)
    (hf : s.rwsFree who = true) (hn : f.limit (s.f key f.hi f.lo) v ≠ s.f key f.hi f.lo) :
    s.rwsPut who key f v = (s.setF key f.hi f.lo (f.limit (s.f key f.hi f.lo) v)).cfgGen := by
  simp [State.rwsPut, h, hf, hn]

/-- What a write of an RWS field can do: nothing, a rejection, or a change that is counted (R9, R66). -/
theorem State.rwsPut_cases (s : State) (who key : Nat) (f : Field) (v : Nat) :
    s.rwsPut who key f v = s ∨
    (s.rwsFree who = false ∧ s.rwsPut who key f v = s.sealReject key) ∨
    (s.rwsFree who = true ∧
      s.rwsPut who key f v = (s.setF key f.hi f.lo (f.limit (s.f key f.hi f.lo) v)).cfgGen) := by
  by_cases h : v = s.f key f.hi f.lo
  · exact .inl (s.rwsPut_same who key f v h)
  · cases hf : s.rwsFree who with
    | false => exact .inr (.inl ⟨rfl, s.rwsPut_rejected who key f v h hf⟩)
    | true =>
      by_cases hn : f.limit (s.f key f.hi f.lo) v = s.f key f.hi f.lo
      · exact .inl (s.rwsPut_limited_same who key f v hf hn)
      · exact .inr (.inr ⟨rfl, s.rwsPut_taken who key f v h hf hn⟩)

/-! ## RWS fields of a 64-bit pair (R40) -/

theorem State.rwsWide_same (s : State) (who lo v h l : Nat) (he : nbits v h l = nbits (s.rd64 lo (lo + 4)) h l) :
    s.rwsWide who lo v (h, l) = s := if_pos he.symm

theorem State.rwsWide_rejected (s : State) (who lo v h l : Nat) (hne : nbits v h l ≠ nbits (s.rd64 lo (lo + 4)) h l)
    (hf : s.rwsFree who = false) : s.rwsWide who lo v (h, l) = s.sealReject lo := by
  simp [State.rwsWide, Ne.symm hne, hf]

theorem State.rwsWide_taken (s : State) (who lo v h l : Nat) (hne : nbits v h l ≠ nbits (s.rd64 lo (lo + 4)) h l)
    (hf : s.rwsFree who = true) :
    s.rwsWide who lo v (h, l) =
      (s.wr64 lo (lo + 4) (replaceBits (s.rd64 lo (lo + 4)) h l (nbits v h l))).cfgGen := by
  simp [State.rwsWide, Ne.symm hne, hf, replaceBits]

/-! ## The limits of the register tables -/

theorem Field.limit_near (f : Field) (lo hi old v : Nat) (hle : lo ≤ hi) (h : f.lim = .near lo hi) :
    f.limit old v = max lo (min hi v) := by
  simp only [Field.limit, h]
  split
  · omega
  · split <;> omega

theorem Field.limit_sub (f : Field) (lo hi d old v : Nat) (h : f.lim = .sub lo hi d) :
    f.limit old v = if lo ≤ v ∧ v ≤ hi then v else d := by
  simp [Field.limit, h]

theorem Field.limit_keep (f : Field) (lo hi old v : Nat) (h : f.lim = .keep lo hi) :
    f.limit old v = if lo ≤ v ∧ v ≤ hi then v else old := by
  simp [Field.limit, h]

/-- The registers that a change or a rejection of an RWS field writes besides the field's own. -/
def rwsCounters : List Nat := [DEV.CFGGEN, DEV.VALSTAT, DEV.SEALREJ, DEV.SEALREJADDR, HDR.IRQSTAT pgDEV]

theorem rd_sealReject_other (s : State) (key k : Nat) (h : k ∉ rwsCounters) : (s.sealReject key).rd k = s.rd k :=
  (onlyRegsOut_sealReject s key).2 k fun hk => h (by simp_all [rwsCounters])

theorem rd_cfgGen_other (s : State) (k : Nat) (h : k ∉ rwsCounters) : s.cfgGen.rd k = s.rd k :=
  (onlyRegs_cfgGen s).2 k fun hk => h (by simp_all [rwsCounters])

/-! ## Fields under each access code (R8) -/

/-- A write of one field of a register leaves the register's other bits. -/
theorem State.f_fieldPut_apart (s : State) (who key : Nat) (w : Word) (f : Field) (hi lo : Nat) (hl : f.lo ≤ f.hi)
    (hh : f.hi < 32) (hk : key ∉ rwsCounters) (hd : hi < f.lo ∨ f.hi < lo) :
    (s.fieldPut who key w f).f key hi lo = s.f key hi lo := by
  have hset (v : Nat) : (s.setF key f.hi f.lo v).f key hi lo = s.f key hi lo := s.f_setF_apart _ _ _ _ _ _ hh hl hd
  unfold State.fieldPut
  cases f.acc with
  | rw | w1c | w1s => exact hset _
  | ro | wo => rfl
  | rws =>
    rcases s.rwsPut_cases who key f (fld w f.hi f.lo) with h | ⟨_, h⟩ | ⟨_, h⟩
    · exact congrArg (fun t : State => t.f key hi lo) h
    · exact (congrArg (fun t : State => t.f key hi lo) h).trans (State.f_of_rd (rd_sealReject_other _ _ _ hk) _ _)
    · exact (congrArg (fun t : State => t.f key hi lo) h).trans
        ((State.f_of_rd (rd_cfgGen_other _ _ hk) _ _).trans (hset _))

theorem State.testBit_fieldPut_w1c (s : State) (who key : Nat) (w : Word) (f : Field) (hl : f.lo ≤ f.hi) (hh : f.hi < 32)
    (ha : f.acc = .w1c) (n : Nat) : ((s.fieldPut who key w f).f key f.hi f.lo).testBit n =
      ((s.f key f.hi f.lo).testBit n && !(fld w f.hi f.lo).testBit n) := by
  have hlt := Nat.lt_of_le_of_lt (Nat.sub_le (s.f key f.hi f.lo) (Nat.land (s.f key f.hi f.lo) (fld w f.hi f.lo)))
    (s.f_lt key f.hi f.lo)
  simp only [State.fieldPut, ha]
  rw [State.f_setF_self _ _ _ _ _ hh hl, Nat.mod_eq_of_lt hlt, testBit_sub_land]

theorem State.testBit_fieldPut_w1s (s : State) (who key : Nat) (w : Word) (f : Field) (hl : f.lo ≤ f.hi) (hh : f.hi < 32)
    (ha : f.acc = .w1s) (n : Nat) : ((s.fieldPut who key w f).f key f.hi f.lo).testBit n =
      ((s.f key f.hi f.lo).testBit n || (fld w f.hi f.lo).testBit n) := by
  have hlt := Nat.or_lt_two_pow (s.f_lt key f.hi f.lo) (fld_lt w f.hi f.lo)
  simp only [State.fieldPut, ha]
  rw [State.f_setF_self _ _ _ _ _ hh hl]
  exact (congrArg (Nat.testBit · n) (Nat.mod_eq_of_lt hlt)).trans (Nat.testBit_or _ _ _)

/-- A sealed RWS field's register keeps its value (R9). -/
theorem State.rd_fieldPut_sealed (s : State) (who key : Nat) (w : Word) (f : Field) (hk : key ∉ rwsCounters)
    (ha : f.acc = .rws) (hs : s.dev.sealed = true) : (s.fieldPut who key w f).rd key = s.rd key := by
  have hf : s.rwsFree who = false := s.rwsFree_eq_false who (.inl hs)
  simp only [State.fieldPut, ha]
  by_cases hv : fld w f.hi f.lo = s.f key f.hi f.lo
  · rw [s.rwsPut_same who key f _ hv]
  · rw [s.rwsPut_rejected who key f _ hv hf, rd_sealReject_other _ _ _ hk]

/-- Settles O2: each access code's own lemma, and the field's neighbours under all of them. -/
theorem fieldAccessCodes : Obligations.FieldAccessCodes := by
  intro s who key w f hl hh hk
  refine ⟨fun ha => ?_, fun ha => ?_, s.testBit_fieldPut_w1c who key w f hl hh, s.testBit_fieldPut_w1s who key w f hl hh,
    s.rd_fieldPut_sealed who key w f hk, fun hi lo => s.f_fieldPut_apart who key w f hi lo hl hh hk⟩
  · simp only [State.fieldPut, ha]
    exact s.f_setF_self _ _ _ _ hh hl
  · rcases ha with ha | ha <;> simp only [State.fieldPut, ha]

/-! ## A change of an RWS field -/

/-- A change of an RWS field that is accepted: the field, the bits beside it, CFGGEN, VALID, and the frame (R66, R69). -/
theorem State.rwsPut_accepts (s : State) (who key : Nat) (f : Field) (v n : Nat) (hl : f.lo ≤ f.hi) (hh : f.hi < 32)
    (hk : key ∉ rwsCounters) (hv : v ≠ s.f key f.hi f.lo) (hf : s.rwsFree who = true)
    (hn : f.limit (s.f key f.hi f.lo) v = n) (hne : n ≠ s.f key f.hi f.lo) (hlt : n < 2 ^ (f.hi + 1 - f.lo)) :
    (s.rwsPut who key f v).f key f.hi f.lo = n ∧
      (∀ b : Fin 32, b.val < f.lo ∨ f.hi < b.val → (s.rwsPut who key f v).fb key b = s.fb key b) ∧
      (s.rwsPut who key f v).rd DEV.CFGGEN = s.rd DEV.CFGGEN + 1 ∧
      ((s.rwsPut who key f v).rd DEV.CFGGEN ≠ (s.rwsPut who key f v).rd DEV.VALGEN →
        (s.rwsPut who key f v).fb DEV.VALSTAT 1 = false) ∧
      onlyRegs s (s.rwsPut who key f v) [key, DEV.CFGGEN, DEV.VALSTAT] := by
  subst hn
  rw [s.rwsPut_taken who key f v hv hf hne]
  have hkey := rd_cfgGen_other (s.setF key f.hi f.lo (f.limit (s.f key f.hi f.lo) v)) key hk
  refine ⟨?_, fun b hb => ?_, ?_, State.fb_dropValid _, ?_⟩
  · rw [State.f_of_rd hkey, State.f_setF_self _ _ _ _ _ hh hl, Nat.mod_eq_of_lt hlt]
  · rw [State.fb_of_rd hkey, State.fb, State.f_setF_apart _ _ _ _ _ _ _ hh hl hb]
    rfl
  · rw [State.rd_cfgGen_count, State.rd_setF, if_neg fun h => hk (by simp [rwsCounters, ← h])]
  · exact onlyRegs_trans (onlyRegs_mono (onlyRegs_setF ..) (by simp)) (onlyRegs_mono (onlyRegs_cfgGen _) (by simp))

/-- A change of an RWS field of a pair that is accepted (R40, R66). -/
theorem State.rwsWide_accepts (s : State) (who lo v : Nat) (h l : Fin 64) (hle : l.val ≤ h.val) (hlo : lo ∉ rwsCounters)
    (hhi : lo + 4 ∉ rwsCounters) (hv : nbits v h l ≠ nbits (s.rd64 lo (lo + 4)) h l) (hf : s.rwsFree who = true) :
    nbits ((s.rwsWide who lo v (h.val, l.val)).rd64 lo (lo + 4)) h l = nbits v h l ∧
      (∀ b : Fin 64, b.val < l.val ∨ h.val < b.val →
        nbits ((s.rwsWide who lo v (h.val, l.val)).rd64 lo (lo + 4)) b b = nbits (s.rd64 lo (lo + 4)) b b) ∧
      (s.rwsWide who lo v (h.val, l.val)).rd DEV.CFGGEN = s.rd DEV.CFGGEN + 1 ∧
      onlyRegs s (s.rwsWide who lo v (h.val, l.val)) [lo, lo + 4, DEV.CFGGEN, DEV.VALSTAT] := by
  have hb := nbits_lt v h l
  have hx := replaceBits_lt _ _ _ _ 64 hle hb (s.rd64_lt lo (lo + 4)) h.isLt
  rw [s.rwsWide_taken who lo v h l hv hf]
  generalize ht : s.wr64 lo (lo + 4) (replaceBits (s.rd64 lo (lo + 4)) h l (nbits v h l)) = t
  have hrd : t.cfgGen.rd64 lo (lo + 4) = replaceBits (s.rd64 lo (lo + 4)) h l (nbits v h l) := by
    rw [State.rd64, rd_cfgGen_other _ _ hlo, rd_cfgGen_other _ _ hhi, ← ht]
    exact State.rd64_wr64 _ _ _ _ (by omega) hx
  have honly : onlyRegs s t [lo, lo + 4] := ht ▸ onlyRegs_wr64 ..
  refine ⟨?_, fun b hbit => ?_, ?_, ?_⟩
  · rw [hrd, nbits_replaceBits _ _ _ _ hle hb]
  · rw [hrd, nbits_bit_replaceBits _ _ _ _ _ hle hb hbit]
  · rw [State.rd_cfgGen_count, honly.2]
    intro hmem
    simp only [List.mem_cons, List.not_mem_nil, or_false] at hmem
    rcases hmem with h | h
    · exact hlo (by simp [rwsCounters, ← h])
    · exact hhi (by simp [rwsCounters, ← h])
  · exact onlyRegs_trans (onlyRegs_mono honly (by simp)) (onlyRegs_mono (onlyRegs_cfgGen _) (by simp))

/-- Settles O6: a field or a pair that keeps its value, one that is barred, one that takes the change, and the limits. -/
theorem rwsFields : Obligations.RwsFields := by
  refine ⟨fun s who key f v h => ?_, fun s who key f v _ hv hs => ?_,
    fun s who key f v n hf hk hv hs hw hn hne hlt =>
      s.rwsPut_accepts who key f v n hf.1 hf.2 hk hv (s.rwsFree_eq_true who hs hw) hn hne hlt,
    fun f lo hi d old v hle => ?_, fun s who lo v h l => s.rwsWide_same who lo v h l,
    fun s who lo v h l _ hv hs => ?_,
    fun s who lo v h l hle hk hv hs hw => s.rwsWide_accepts who lo v h l hle hk.1 hk.2 hv (s.rwsFree_eq_true who hs hw)⟩
  · rcases h with h | ⟨hfree, h⟩
    · exact s.rwsPut_same who key f v h
    · exact s.rwsPut_limited_same who key f v hfree h
  · rw [s.rwsPut_rejected who key f v hv (s.rwsFree_eq_false who hs)]
    exact ⟨onlyRegsOut_sealReject s key, s.f_sealReject_count key, s.rd_sealReject_addr key, s.fb_sealReject_irq key⟩
  · refine ⟨fun h => ?_, f.limit_near lo hi old v hle, f.limit_sub lo hi d old v, f.limit_keep lo hi old v,
      fun h => ?_, fun h => ?_⟩ <;> simp only [Field.limit, h]
  · rw [s.rwsWide_rejected who lo v h l hv (s.rwsFree_eq_false who hs)]
    exact ⟨onlyRegsOut_sealReject s lo, s.f_sealReject_count lo, s.rd_sealReject_addr lo⟩

/-! ## Pages that every part has -/

theorem State.present_of_alwaysOn (s : State) (p : Nat) (h : alwaysOn p = true) : s.present p = true := by
  simp only [alwaysOn, List.contains_eq_mem, decide_eq_true_eq, List.mem_cons, List.not_mem_nil, or_false] at h
  unfold State.present
  rcases h with rfl | rfl | rfl | rfl | rfl | rfl <;> cases s.fuses.part <;> rfl

/-- The key store and the cipher contexts are present together (R1). -/
theorem State.present_pgMSC (s : State) : s.present pgMSC = s.present pgKEY := by
  unfold State.present
  cases s.fuses.part <;> rfl

/-! ## Access paths and what they hold (R7, R42) -/

@[simp] theorem State.path_setPath (s : State) (who v : Nat) (a : Access) :
    (s.setPath who a).path v = if v = who then a else s.path v := by
  simp [State.path, State.setPath]

theorem mapKept_setPath (s : State) (who : Nat) (a : Access) : mapKept s.acc (s.setPath who a).acc [who] := by
  intro k hk
  simp only [State.setPath, kget?_kset]
  rw [if_neg (by simpa using hk)]

/-! ## Counted rejections -/

theorem onlyRegs_badAcc (s : State) : onlyRegs s s.badAcc [DEV.BADACC] := onlyRegs_setF _ _ _ _ _

theorem State.f_badAcc (s : State) : s.badAcc.f DEV.BADACC 31 0 = min (s.f DEV.BADACC 31 0 + 1) 4294967295 :=
  State.f_bump_self _ _

theorem onlyRegsOut_absentWrite (s : State) (bar user off : Nat) :
    onlyRegsOut s (s.absentWrite bar user off) [DEV.ABSENTWR, DEV.ABSENTADDR, HDR.IRQSTAT pgDEV] := by
  have hcount : onlyRegs s (s.bump DEV.ABSENTWR) [DEV.ABSENTWR] := onlyRegs_setF _ _ _ _ _
  exact onlyRegsOut_trans (onlyRegsOut_mono hcount.out (by simp))
    (onlyRegsOut_trans (onlyRegsOut_mono (onlyRegs_wr ..).out (by simp))
      (onlyRegsOut_mono (onlyRegsOut_irq _ _ _) (by simp)))

theorem State.f_absentWrite_count (s : State) (bar user off : Nat) :
    (s.absentWrite bar user off).f DEV.ABSENTWR 31 0 = min (s.f DEV.ABSENTWR 31 0 + 1) 4294967295 := by
  have hirq : (s.absentWrite bar user off).rd DEV.ABSENTWR = (s.bump DEV.ABSENTWR).rd DEV.ABSENTWR := by
    rw [State.absentWrite, (onlyRegsOut_irq _ _ _).2 _ (by decide), State.rd_wr, if_neg (by decide)]
  rw [State.f_of_rd hirq, State.f_bump_self]

theorem State.rd_absentWrite_addr (s : State) (bar user off : Nat) :
    (s.absentWrite bar user off).rd DEV.ABSENTADDR =
      BitVec.ofNat 32 (off % 16777216 + b2n (bar ≠ 0) * 16777216 + user % 64 * 33554432) := by
  rw [State.absentWrite, (onlyRegsOut_irq _ _ _).2 _ (by decide), State.rd_wr, if_pos rfl]

theorem State.fb_absentWrite_irq (s : State) (bar user off : Nat) :
    (s.absentWrite bar user off).fb (HDR.IRQSTAT pgDEV) 0 = true :=
  State.fb_irq_self _ _ _ (by omega)

/-! ## Host writes -/

/-- The four commands that a host write can be all do what `hostWrite` does. -/
theorem exec_hostWrites {u : Fn} {b : Sys2Proof.Bar} {off : Offset} {w : Word} {s t : State}
    (h : s.hostWrite u.val b off.toNat w = .next t) :
    exec (.regWrite u b off w) s = .next t ∧ exec (.pairLowWrite u b off w) s = .next t ∧
      exec (.pairHighWrite u b off w) s = .next t ∧ exec (.counterClear u b off w) s = .next t :=
  ⟨h, h, h, h⟩

theorem State.hostWrite_bar0 (s : State) (o : Nat) (w : Word) (ha : o % 4 = 0) (hs : s.dev.state ≠ .load) :
    s.hostWrite 0 .bar0 o w = .next (s.write0 0 (o / 65536) (o % 65536) w) := by
  simp [State.hostWrite, ha, hs]

theorem State.hostWrite_bar0_load (s : State) (o : Nat) (w : Word) (ha : o % 4 = 0) (hs : s.dev.state = .load)
    (hl : o ≠ DEV.LOADCTL) (hr : o ≠ DEV.RSTCTL) : s.hostWrite 0 .bar0 o w = .next s.badAcc := by
  simp [State.hostWrite, ha, hs, hl, hr]

theorem State.hostWrite_bar2 (s : State) (u o : Nat) (w : Word) (hb : o < 65536) (hu : s.fnHere u = true)
    (ha : o % 4 = 0) (hs : s.dev.state ≠ .load) : s.hostWrite u .bar2 o w = .next (s.write2 u o w) := by
  simp [State.hostWrite, hb, hu, ha, hs]

theorem State.write0_absent (s : State) (who p o : Nat) (w : Word) (h : s.present p = false) :
    s.write0 who p o w = s.absentWrite 0 0 (p * 65536 + o) := by
  simp [State.write0, h]

theorem State.write2_absent (s : State) (u o : Nat) (w : Word) (hr : (findRow rowsUSER o).isSome = true)
    (h : s.present (userUnit o) = false) : s.write2 u o w = s.absentWrite 1 u o := by
  obtain ⟨r, hr⟩ := Option.isSome_iff_exists.1 hr
  simp [State.write2, hr, h]

theorem State.write2_noRow (s : State) (u o : Nat) (w : Word) (hr : findRow rowsUSER o = none)
    (h : s.notMine u o = false) : s.write2 u o w = s := by
  simp [State.write2, hr, h]

/-! ## Reads of what is absent (R3, R34) -/

theorem State.latched_plain (s : State) (who key : Nat) (v hi : Word) :
    s.latched who key false false v hi = (v, s) := rfl

theorem State.read0_absent (s : State) (who p o : Nat) (h : s.present p = false) :
    s.read0 who p o = s.latched who (p * 65536 + o) (isLow (pageRow p o)) false 0 0 := by
  simp [State.read0, State.readLatch, State.peek, h]

/-- A zero sent to a reader through the latch of its path: what leaves, and what stays. -/
theorem State.sent_latched_zero {s t : State} {who key : Nat} {low : Bool} {x : Word × State}
    (hx : x = s.latched who key low false 0 0) (ht : t = x.2.emit (.readData who x.1)) :
    t.out = s.out ++ [.readData who 0] ∧ t = { s with acc := t.acc, out := t.out } ∧ mapKept s.acc t.acc [who] ∧
      (t.path who).held = (s.path who).held ∧
      (t.path who).latch = if low then some (key, 0) else (s.path who).latch := by
  subst hx ht
  cases low with
  | false => exact ⟨rfl, rfl, fun _ _ => rfl, rfl, rfl⟩
  | true =>
    have hpath : (s.setPath who { s.path who with latch := some (key, 0) }).path who =
        { s.path who with latch := some (key, 0) } := (s.path_setPath ..).trans (if_pos rfl)
    exact ⟨rfl, rfl, mapKept_setPath _ _ _, (congrArg Access.held hpath :), (congrArg Access.latch hpath :)⟩

theorem exec_pairLowRead_bar0_absent (off : Offset) (s : State) (h : s.present (off.toNat / 65536) = false)
    (ha : off.toNat % 4 = 0) (x : Word × State)
    (hx : x = s.latched 0 off.toNat (isLow (pageRow (off.toNat / 65536) (off.toNat % 65536))) false 0 0) :
    exec (.pairLowRead 0 .bar0 off) s = .next (x.2.emit (.readData 0 x.1)) := by
  change execPairLowRead 0 .bar0 off s = _
  subst hx
  by_cases hoff : off.toNat = BPM.HOSTALLOC
  · have hbpm : s.present pgBPM = false := by rw [hoff] at h; exact h
    have hplain : isLow (pageRow (off.toNat / 65536) (off.toNat % 65536)) = false := by rw [hoff]; rfl
    rw [hplain, State.latched_plain]
    simp only [execPairLowRead, hoff, State.hostAlloc, hbpm]
    rfl
  · have hkey : off.toNat / 65536 * 65536 + off.toNat % 65536 = off.toNat := by omega
    simp [execPairLowRead, hoff, ha, State.read0_absent s 0 _ _ h, hkey]

/-! ## User pages -/

/-- A row without an inner repetition covers only offsets from its first to its last repetition. -/
theorem Row.covers_bounds {r : Row} {o : Nat} (hn : r.n2 ≤ 1) (h : r.covers o = true) :
    r.off ≤ o ∧ o ≤ r.off + r.s1 * (r.n1 - 1) := by
  simp only [Row.covers, hn, if_true, Bool.and_eq_true, decide_eq_true_eq, beq_iff_eq] at h
  obtain ⟨hoff, hmod, hdiv⟩ := h
  have hle : r.s1 * ((o - r.off) / r.s1) ≤ r.s1 * (r.n1 - 1) := Nat.mul_le_mul_left _ (by omega)
  have hsplit := Nat.div_add_mod (o - r.off) r.s1
  omega

/-- The pairs of the user page lie below 0x8FFC but for SNAPINST_LO. -/
theorem userLow_offset {o : Nat} (h : isLow (findRow rowsUSER o) = true) : o < 0x8FFC ∨ o = 0x9000 := by
  have hrows : ∀ r ∈ rowsUSER, r.pair = true →
      r.n2 ≤ 1 ∧ (r.off + r.s1 * (r.n1 - 1) < 0x8FFC ∨ (r.off = 0x9000 ∧ r.n1 = 1)) := by decide
  cases hr : findRow rowsUSER o with
  | none => simp [hr, isLow] at h
  | some r =>
    obtain ⟨hn, hlast⟩ := hrows r (List.mem_of_find?_eq_some hr) (by simpa [hr, isLow] using h)
    obtain ⟨hfirst, hle⟩ := Row.covers_bounds hn (by simpa using List.find?_some hr)
    rcases hlast with hlast | ⟨hoff, hone⟩
    · omega
    · rw [hone] at hle
      omega

theorem State.absent_key_msc (s : State) (o : Nat) (hlo : 0x4000 ≤ o) (hhi : o < 0x8000)
    (h : s.present (userUnit o) = false) : s.present pgKEY = false ∧ s.present pgMSC = false := by
  have hunit : userUnit o = pgKEY ∨ userUnit o = pgMSC := by
    unfold userUnit
    simp only [Bool.and_eq_true, decide_eq_true_eq]
    rw [if_neg (by omega)]
    split
    · exact .inl rfl
    · rw [if_pos (by omega)]
      exact .inr rfl
  rw [s.present_pgMSC]
  rcases hunit with hu | hu <;> rw [hu] at h
  · exact ⟨h, h⟩
  · rw [s.present_pgMSC] at h
    exact ⟨h, h⟩

/-- The sections of the key store and of the cipher contexts read zero where the units are absent (R4). -/
theorem State.userPeek_absent (s : State) (u o : Nat) (hlo : 0x4000 ≤ o) (hhi : o < 0x8000)
    (hk : s.present pgKEY = false) (hm : s.present pgMSC = false) : s.userPeek u o = some 0 := by
  have h0 : o ≠ 0 := by omega
  have h4 : o ≠ 4 := by omega
  have h16 : o ≠ 16 := by omega
  have h1 : ¬ o < 0x1000 := by omega
  have h2 : ¬ o < 0x2000 := by omega
  have h3 : ¬ o < 0x4000 := by omega
  simp only [State.userPeek, h0, h4, h16, h1, h2, h3, hhi, hk, hm, if_true, if_false, Bool.not_false, ite_self]

theorem State.read2_absent (s : State) (u o : Nat) (hlo : 0x4000 ≤ o) (hhi : o < 0x8000) (ha : o % 4 = 0)
    (h : s.present (userUnit o) = false) :
    s.read2 u o = s.latched u (bar2Key u o) (isLow (findRow rowsUSER o)) false 0 0 := by
  obtain ⟨hk, hm⟩ := s.absent_key_msc o hlo hhi h
  have hv := s.userPeek_absent u o hlo hhi hk hm
  by_cases hnext : o + 4 < 0x8000
  · have hv' := s.userPeek_absent u (o + 4) (by omega) hnext hk hm
    simp [State.read2, hv, hv', h]
  · have hlast : o = 0x7FFC := by omega
    have hplain : isLow (findRow rowsUSER o) = false := by rw [hlast]; rfl
    simp [State.read2, hv, h, hplain, State.latched_plain]

/-- Above the counters, an offset of the user page without a register reads zero. -/
theorem State.read2_noRow (s : State) (u o : Nat) (hlo : 0x9000 ≤ o) (hr : findRow rowsUSER o = none) :
    s.read2 u o = (0, s) := by
  have hne (k : Nat) (hk : (findRow rowsUSER k).isSome = true) : o ≠ k := by
    rintro rfl
    simp [hr] at hk
  have h0 : o ≠ 0x9000 := hne _ rfl
  have h4 : o ≠ 0x9004 := hne _ rfl
  have h8 : o ≠ 0x9008 := hne _ rfl
  have hv : s.userPeek u o = some 0 := by
    have n0 : o ≠ 0 := by omega
    have n4 : o ≠ 4 := by omega
    have n16 : o ≠ 16 := by omega
    have n1 : ¬ o < 0x1000 := by omega
    have n2 : ¬ o < 0x2000 := by omega
    have n3 : ¬ o < 0x4000 := by omega
    have n5 : ¬ o < 0x4100 := by omega
    have n6 : ¬ o < 0x8000 := by omega
    have n7 : ¬ o < 0x9000 := by omega
    simp only [State.userPeek, n0, n4, n16, n1, n2, n3, n5, n6, n7, h0, h4, h8, if_false]
  have hbefore : isLow (findRow rowsUSER (o - 4)) = false := by
    cases hlow : isLow (findRow rowsUSER (o - 4)) with
    | false => rfl
    | true =>
      have := userLow_offset hlow
      omega
  have hrow : isLow (findRow rowsUSER o) = false := by rw [hr]; rfl
  simp [State.read2, hv, hrow, hbefore, State.latched_plain]

theorem exec_pairLowRead_bar2 (u : Fn) (off : Offset) (s : State) (hb : off.toNat < 65536)
    (hu : s.fnHere u = true) (ha : off.toNat % 4 = 0) (x : Word × State) (hx : s.read2 u off.toNat = x) :
    exec (.pairLowRead u .bar2 off) s = .next (x.2.emit (.readData u x.1)) := by
  change execPairLowRead u .bar2 off s = _
  simp [execPairLowRead, Nat.not_le.2 hb, hu, ha, hx]

/-- Where ABSENTADDR holds the offset, the BAR and the user of a write of a user page (R34). -/
theorem State.f_absentWrite_bar2 (s : State) (u : Fn) (off : Offset) :
    ((s.absentWrite 1 u off.toNat).f DEV.ABSENTADDR 23 0 : Offset) = off ∧
      (s.absentWrite 1 u off.toNat).f DEV.ABSENTADDR 24 24 = 1 ∧
      (s.absentWrite 1 u off.toNat).f DEV.ABSENTADDR 30 25 = u := by
  have hoff := off.isLt
  have hu := u.isLt
  simp only [State.f, State.rd_absentWrite_addr, fld, BitVec.toNat_ofNat, b2n]
  refine ⟨BitVec.eq_of_toNat_eq ?_, ?_, ?_⟩ <;> simp <;> omega

/-- Settles O4: reads through `sent_latched_zero`, writes through the laws of `absentWrite` and `badAcc`. -/
theorem absentPages : Obligations.AbsentPages := by
  refine ⟨fun off s h ha => ?_, fun off w s h ha hs => ?_, fun off w s h ha hs => ?_, fun u off s hu hr h ha => ?_,
    fun u off w s hu h hr hoff hs => ?_, fun u off w s hu hm hr hoff hs => ?_⟩
  · obtain ⟨hout, heq, hkept, hheld, hlatch⟩ := State.sent_latched_zero (s := s) rfl rfl
    exact ⟨_, exec_pairLowRead_bar0_absent off s h ha _ rfl, hout, heq, hkept, hheld, hlatch⟩
  · have hkey : off.toNat / 65536 * 65536 + off.toNat % 65536 = off.toNat := by omega
    have hwr : s.hostWrite 0 .bar0 off.toNat w = .next (s.absentWrite 0 0 off.toNat) := by
      rw [s.hostWrite_bar0 _ w ha hs, s.write0_absent 0 _ _ w h, hkey]
    obtain ⟨h1, h2, h3, h4⟩ := exec_hostWrites (u := 0) hwr
    refine ⟨_, h1, h2, h3, h4, s.f_absentWrite_count .., ?_, s.fb_absentWrite_irq .., onlyRegsOut_absentWrite ..⟩
    have hoff := off.isLt
    rw [State.rd_absentWrite_addr]
    apply BitVec.eq_of_toNat_eq
    simp [b2n]
    omega
  · have hpage : off.toNat / 65536 ≠ 0 := fun h0 => by
      rw [h0, s.present_of_alwaysOn 0 rfl] at h
      cases h
    have hwr := s.hostWrite_bar0_load off.toNat w ha hs (by simp only [DEV.LOADCTL]; omega)
      (by simp only [DEV.RSTCTL]; omega)
    obtain ⟨h1, h2, h3, h4⟩ := exec_hostWrites (u := 0) hwr
    exact ⟨_, h1, h2, h3, h4, s.f_badAcc, (onlyRegs_badAcc s).2 _ (by decide), onlyRegs_badAcc s⟩
  · obtain ⟨hlo, hhi⟩ := hr
    have hread := s.read2_absent u off.toNat hlo hhi ha h
    obtain ⟨hout, heq, hkept, hheld, hlatch⟩ := State.sent_latched_zero (s := s) hread rfl
    exact ⟨_, exec_pairLowRead_bar2 u off s (by omega) hu ha _ rfl, hout, heq, hkept, hheld, hlatch⟩
  · have hwr : s.hostWrite u .bar2 off.toNat w = .next (s.absentWrite 1 u off.toNat) := by
      rw [s.hostWrite_bar2 u _ w hoff.2 hu hoff.1 hs, s.write2_absent u _ w hr h]
    obtain ⟨h1, h2, h3, h4⟩ := exec_hostWrites hwr
    obtain ⟨haddr, hbar, huser⟩ := s.f_absentWrite_bar2 u off
    exact ⟨_, h1, h2, h3, h4, s.f_absentWrite_count .., haddr, hbar, huser, s.fb_absentWrite_irq ..,
      onlyRegsOut_absentWrite ..⟩
  · have hwr : s.hostWrite u .bar2 off.toNat w = .next s := by
      rw [s.hostWrite_bar2 u _ w hoff.2 hu hoff.1 hs, s.write2_noRow u _ w hr hm]
    obtain ⟨h1, h2, h3, h4⟩ := exec_hostWrites hwr
    refine ⟨h1, h2, h3, h4, fun hlo => ⟨s.emit (.readData u 0), ?_, rfl, rfl⟩⟩
    exact exec_pairLowRead_bar2 u off s hoff.2 hu hoff.1 (0, s) (s.read2_noRow u off.toNat hlo hr)

/-! ## Registers that are one 32-bit RW field -/

theorem State.setF_all (s : State) (k v : Nat) : s.setF k 31 0 v = s.wr k (BitVec.ofNat 32 v) := by
  rw [State.setF, ins_all]

/-- A write of a register that is one RW field without a limit stores the word. -/
theorem State.regPut_word {r : Row} {reset : Nat} (hr : r.fields = [⟨31, 0, .rw, reset, .any⟩]) (s : State)
    (who key : Nat) (w : Word) : s.regPut who key r w = s.wr key w := by
  simp [State.regPut, hr, State.fieldPut, Field.limit, State.setF_all, fld_all]

/-- Such a register has nothing that a BUSY page drops (R46). -/
theorem Row.acts_word {r : Row} {reset : Nat} (hr : r.fields = [⟨31, 0, .rw, reset, .any⟩]) (w : Word) :
    r.acts w = false := by
  simp [Row.acts, hr]

/-! ## Interrupt requests (R36, R328) -/

theorem onlyRegsOut_irqEdge (s : State) (p : Nat) (b : Bool) (ks : List Nat) : onlyRegsOut s (s.irqEdge p b) ks :=
  ⟨s.irqEdge_eq p b |>.trans (by rw [State.irqEdge_regs]; rfl), fun _ _ => State.rd_irqEdge ..⟩

/-- After a change of a page's cause or mask that keeps its vector: what the edge of its request sends. -/
theorem State.irqEdge_sends (s t : State) (p : Nat) (hv : t.irqVec p = s.irqVec p) (ho : t.out = s.out)
    (hp : t.pci = s.pci) :
    (t.irqEdge p (s.irqReq p)).out = s.out ++ edgeOut s (t.irqEdge p (s.irqReq p)) p ∧
      (t.irqEdge p (s.irqReq p)).pci.vecPend = edgePend s (t.irqEdge p (s.irqReq p)) p := by
  have hreq : (t.irqEdge p (s.irqReq p)).irqReq p = t.irqReq p := State.irqReq_of_regs (by simp) p
  unfold edgeOut edgePend
  rw [hreq]
  unfold State.irqEdge
  split
  · exact ⟨by simp [State.sendMsix, State.message, State.msixOn, State.msixMasked, hv, ho, hp],
      by simp [State.sendMsix, State.pendAfter, State.msixOn, State.msixMasked, hv, hp]⟩
  · exact ⟨by simp [ho], by rw [hp]⟩

/-! ## Malformed accesses (R31) -/

theorem onlyRegsOut_malformed (s : State) : onlyRegsOut s s.malformed [DEV.BADACC, HDR.IRQSTAT pgDEV] :=
  onlyRegsOut_trans (onlyRegsOut_mono (onlyRegs_badAcc s).out (by simp))
    (onlyRegsOut_mono (onlyRegsOut_irq _ _ _) (by simp))

theorem State.f_malformed_count (s : State) :
    s.malformed.f DEV.BADACC 31 0 = min (s.f DEV.BADACC 31 0 + 1) 4294967295 := by
  have hirq : s.malformed.rd DEV.BADACC = s.badAcc.rd DEV.BADACC := (onlyRegsOut_irq _ _ _).2 _ (by decide)
  rw [State.f_of_rd hirq, State.f_badAcc]

theorem State.malformed_sends (s : State) :
    s.malformed.out = s.out ++ edgeOut s s.malformed pgDEV ∧ s.malformed.pci.vecPend = edgePend s s.malformed pgDEV := by
  have hreq : s.badAcc.irqReq pgDEV = s.irqReq pgDEV := by
    unfold State.irqReq
    rw [(onlyRegs_badAcc s).2 _ (by decide), (onlyRegs_badAcc s).2 _ (by decide)]
  have hvec : (s.badAcc.setB (HDR.IRQSTAT pgDEV) 1).irqVec pgDEV = s.irqVec pgDEV := by
    unfold State.irqVec State.setB State.badAcc State.bump State.addF
    rw [State.f_setF_ne _ _ _ _ _ _ _ _ (by decide), State.f_setF_ne _ _ _ _ _ _ _ _ (by decide)]
  unfold State.malformed State.irq
  rw [hreq]
  exact s.irqEdge_sends _ pgDEV hvec rfl rfl

/-! ## Writes of BAR0 registers -/

theorem State.hostWrite_at (s : State) (p o : Nat) (w : Word) (hp : p < 256) (ho : o < 65536) (ha : o % 4 = 0)
    (hs : s.dev.state ≠ .load) :
    s.hostWrite 0 .bar0 (BitVec.ofNat 24 (p * 65536 + o)).toNat w = .next (s.write0 0 p o w) := by
  have hoff : (BitVec.ofNat 24 (p * 65536 + o)).toNat = p * 65536 + o := by
    rw [BitVec.toNat_ofNat, Nat.mod_eq_of_lt (by omega)]
  rw [hoff, s.hostWrite_bar0 _ w (by omega) hs]
  congr 2 <;> omega

/-- A write of a register outside pairs, with nothing that a BUSY page drops, reaches its fields. -/
theorem State.write0_plain (s : State) (who p o : Nat) (w : Word) (r : Row) (h : s.present p = true)
    (hr : pageRow p o = some r) (hpair : r.pair = false) (hctl : o ≠ 16)
    (hprev : isLow (if 4 ≤ o then pageRow p (o - 4) else none) = false) (hacts : r.acts w = false) :
    s.write0 who p o w = s.put who p o r w := by
  simp only [State.write0, h, hr, hctl, hpair, State.busyGate, hacts, Bool.and_false, Bool.not_true, Bool.false_eq_true,
    if_false]
  split
  · next rl hrl =>
    have hlow : rl.pair = false := by rw [hrl] at hprev; exact hprev
    simp [hlow]
  · rfl

def rowIrqMask : Row := ⟨"IRQMASK", 0x44, 1, 0x1, 1, 0x1, false, none, [⟨31, 0, .rw, 0xFFFFFFFF, .any⟩]⟩

theorem State.write0_irqmask (s : State) (who p : Nat) (w : Word) (h : s.present p = true) :
    s.write0 who p 68 w = (s.wr (HDR.IRQMASK p) w).irqEdge p (s.irqReq p) := by
  rw [s.write0_plain who p 68 w rowIrqMask h rfl rfl (by decide) rfl (Row.acts_word rfl w)]
  simp only [State.put, State.regPut_word (r := rowIrqMask) rfl]
  rfl

/-! ## Pairs (R7) -/

theorem State.write0_pair_low (s : State) (who p o : Nat) (w : Word) (r : Row) (h : s.present p = true)
    (hr : pageRow p o = some r) (hp : r.pair = true) : s.write0 who p o w = s.holdLow who (p * 65536 + o) w := by
  have hctl : o ≠ 16 := by
    rintro rfl
    cases hr
    cases hp
  simp [State.write0, h, hr, hp, hctl]

/-- What holding a low word leaves: the word, the latch, the count of a word it replaces, and the frame. -/
theorem State.holdLow_leaves (s : State) (who key : Nat) (w : Word) :
    ((s.holdLow who key w).path who).held = some (key, w) ∧
      ((s.holdLow who key w).path who).latch = (s.path who).latch ∧ mapKept s.acc (s.holdLow who key w).acc [who] ∧
      (s.holdLow who key w).f DEV.BADACC 31 0 =
        (if (s.path who).held.isSome then min (s.f DEV.BADACC 31 0 + 1) 4294967295 else s.f DEV.BADACC 31 0) ∧
      s.holdLow who key w = { s with regs := (s.holdLow who key w).regs, acc := (s.holdLow who key w).acc } ∧
      regsKept s (s.holdLow who key w) [DEV.BADACC] := by
  have hpath (t : State) (a : Access) : (t.setPath who a).path who = a := (t.path_setPath ..).trans (if_pos rfl)
  cases hheld : (s.path who).held.isSome with
  | false =>
    have hhold : s.holdLow who key w = s.setPath who { s.path who with held := some (key, w) } := by
      simp [State.holdLow, hheld]
    rw [hhold, hpath]
    exact ⟨rfl, rfl, mapKept_setPath _ _ _, rfl, rfl, fun _ _ => rfl⟩
  | true =>
    have hhold : s.holdLow who key w = s.badAcc.setPath who { s.path who with held := some (key, w) } := by
      simp [State.holdLow, hheld]
    rw [hhold, hpath]
    exact ⟨rfl, rfl, mapKept_setPath s _ _, s.f_badAcc, rfl, (onlyRegs_badAcc s).2⟩

theorem State.takeHeld_of_held (s : State) (who key : Nat) (w : Word) (h : (s.path who).held = some (key, w)) :
    s.takeHeld who key = (some w, s.setPath who { s.path who with held := none }) := by
  simp [State.takeHeld, h]

/-- A write of a pair's high word commits it with the low word that its path holds. -/
theorem State.write0_pair_high (s : State) (who p o : Nat) (lo hi : Word) (rl rh : Row) (h : s.present p = true)
    (hrh : pageRow p (o + 4) = some rh) (hrl : pageRow p o = some rl) (hh : rh.pair = false) (hl : rl.pair = true)
    (hctl : o + 4 ≠ 16) (hheld : (s.path who).held = some (p * 65536 + o, lo)) :
    s.write0 who p (o + 4) hi =
      (s.setPath who { s.path who with held := none }).commitPair who p o rl rh (some lo) hi := by
  simp [State.write0, h, hrh, hrl, hh, hl, hctl, s.takeHeld_of_held who _ lo hheld]

/-! ## A timer's target (R85, R90) -/

def rowTgtLo : Row := ⟨"TGT_LO", 0x200, 16, 0x20, 1, 0x1, true, none, [⟨31, 0, .rw, 0, .any⟩]⟩
def rowTgtHi : Row := ⟨"TGT_HI", 0x204, 16, 0x20, 1, 0x1, false, none, [⟨31, 0, .rw, 0, .any⟩]⟩

theorem pageRow_tgtLo : ∀ n : Fin 16, pageRow pgTIM (0x200 + 32 * n) = some rowTgtLo := by decide

theorem pageRow_tgtHi : ∀ n : Fin 16, pageRow pgTIM (0x200 + 32 * n + 4) = some rowTgtHi := by decide

/-- Both words of the target are taken while the timer is not enabled. -/
theorem State.commitPair_target (s : State) (who : Nat) (n : Fin 16) (lo hi : Word)
    (hen : s.fb (TIM.TMRCTL n) 0 = false) :
    s.commitPair who pgTIM (0x200 + 32 * n) rowTgtLo rowTgtHi (some lo) hi =
      (s.wr (TIM.TGT_LO n) lo).wr (TIM.TGT_HI n) hi := by
  have hix : (0x200 + 32 * n.val - 0x200) / 32 = n.val := by omega
  have hrow : inRow (pgTIM * 65536 + (0x200 + 32 * n.val)) (TIM.TGT_LO 0) 32 16 = true := by
    have := n.isLt
    simp only [inRow, pgTIM, TIM.TGT_LO, Bool.and_eq_true, decide_eq_true_eq, beq_iff_eq]
    omega
  have hlo : s.regKey pgTIM (0x200 + 32 * n.val) rowTgtLo = TIM.TGT_LO n := by
    simp only [State.regKey, rowTgtLo, pgTIM, TIM.TGT_LO]
    omega
  have hhi : s.regKey pgTIM (0x200 + 32 * n.val + 4) rowTgtHi = TIM.TGT_HI n := by
    simp only [State.regKey, rowTgtHi, pgTIM, TIM.TGT_HI]
    omega
  simp only [State.commitPair, hrow, hix, hen, hlo, hhi, Row.acts_word (r := rowTgtHi) rfl,
    Row.acts_word (r := rowTgtLo) rfl, State.regPut_word (r := rowTgtHi) rfl, State.regPut_word (r := rowTgtLo) rfl,
    Bool.or_false, Bool.and_false, Bool.true_or, Bool.false_eq_true, if_true, if_false]

theorem State.write0_target (s : State) (n : Fin 16) (lo hi : Word) (hen : s.fb (TIM.TMRCTL n) 0 = false)
    (hheld : (s.path 0).held = some (TIM.TGT_LO n, lo)) :
    s.write0 0 pgTIM (0x200 + 32 * n + 4) hi =
      ((s.setPath 0 { s.path 0 with held := none }).wr (TIM.TGT_LO n) lo).wr (TIM.TGT_HI n) hi := by
  have hkey : pgTIM * 65536 + (0x200 + 32 * n.val) = TIM.TGT_LO n := by
    simp only [pgTIM, TIM.TGT_LO]
    omega
  rw [s.write0_pair_high 0 pgTIM (0x200 + 32 * n) lo hi rowTgtLo rowTgtHi (s.present_of_alwaysOn pgTIM rfl)
    (pageRow_tgtHi n) (pageRow_tgtLo n) rfl rfl (by omega) (hkey ▸ hheld)]
  exact State.commitPair_target _ 0 n lo hi hen

/-! ## The count of TIM -/

theorem State.peek_now (s : State) :
    s.peek pgTIM 0x104 = s.tim.count.setWidth 32 ∧ s.peek pgTIM 0x108 = (s.tim.count >>> 32).setWidth 32 := by
  have hlo : s.view pgTIM 0x104 = some s.tim.count.toNat := rfl
  have hhi : s.view pgTIM 0x108 = some (hi32 s.tim.count.toNat) := rfl
  simp only [State.peek, s.present_of_alwaysOn pgTIM rfl, hlo, hhi, Bool.not_true, Bool.false_eq_true, if_false]
  refine ⟨BitVec.ofNat_toNat _ _, BitVec.eq_of_toNat_eq ?_⟩
  simp [hi32, Nat.shiftRight_eq_div_pow]

/-- A read of NOW_LO latches NOW_HI on the reader's path, and the fraction (R7, R82). -/
theorem State.read0_now (s : State) :
    s.read0 0 pgTIM 0x104 =
      (s.tim.count.setWidth 32, ({ s with tim := { s.tim with nowLatch := s.tim.frac } } : State).setPath 0
        { s.path 0 with latch := some (TIM.NOW_LO, (s.tim.count >>> 32).setWidth 32) }) := by
  have hlatch : s.readLatch pgTIM 0x104 = { s with tim := { s.tim with nowLatch := s.tim.frac } } := by
    have hkind : kindOf pgTIM = some (.tim, 0) := rfl
    simp [State.readLatch, s.present_of_alwaysOn pgTIM rfl, hkind]
  obtain ⟨hlo, hhi⟩ := State.peek_now { s with tim := { s.tim with nowLatch := s.tim.frac } }
  have hrow : isLow (pageRow pgTIM 0x104) = true := rfl
  simp only [State.read0, hlatch, State.latched, hrow, if_true]
  rw [hlo, hhi]
  rfl

/-! ## The obligation's clauses -/

/-- A plain write of a page's IRQMASK: the word, the frame, and what the page's request then sends. -/
theorem State.irqmask_written (s : State) (p : PageId) (w : Word) :
    ((s.wr (HDR.IRQMASK p) w).irqEdge p (s.irqReq p)).rd (HDR.IRQMASK p) = w ∧
      onlyRegsOut s ((s.wr (HDR.IRQMASK p) w).irqEdge p (s.irqReq p)) [HDR.IRQMASK p] ∧
      ((s.wr (HDR.IRQMASK p) w).irqEdge p (s.irqReq p)).out =
        s.out ++ edgeOut s ((s.wr (HDR.IRQMASK p) w).irqEdge p (s.irqReq p)) p ∧
      ((s.wr (HDR.IRQMASK p) w).irqEdge p (s.irqReq p)).pci.vecPend =
        edgePend s ((s.wr (HDR.IRQMASK p) w).irqEdge p (s.irqReq p)) p := by
  have hvec : (s.wr (HDR.IRQMASK p) w).irqVec p = s.irqVec p :=
    State.f_wr_ne _ _ _ _ _ _ (by simp only [HST.BVEC, HDR.IRQMASK]; omega)
  refine ⟨?_, onlyRegsOut_trans (onlyRegs_wr ..).out (onlyRegsOut_irqEdge ..), s.irqEdge_sends _ p hvec rfl rfl⟩
  rw [State.rd_irqEdge, State.rd_wr, if_pos rfl]

/-- A doorbell of BAR4 stores the index modulo the ring's size (R329). -/
theorem exec_doorbell (u : Fn) (q : Fin 8) (w : Word) (s : State) (hu : s.fnHere u = true) (hq : s.qpMask u q = true) :
    exec (.regWrite u .bar4 (BitVec.ofNat 24 (8192 * q.val)) w) s =
      .next (s.setF (IDX.TXPIDX u q) 11 0 (fld w 11 0 % s.txSize u q)) := by
  have hlt := q.isLt
  have hoff : (BitVec.ofNat 24 (8192 * q.val)).toNat = 8192 * q.val := by
    rw [BitVec.toNat_ofNat, Nat.mod_eq_of_lt (by omega)]
  have hend : ¬ 65536 ≤ 8192 * q.val := by omega
  have hal : 8192 * q.val % 4 = 0 := by omega
  have hix : 8192 * q.val / 8192 = q.val := by omega
  change s.hostWrite u .bar4 _ w = _
  rw [hoff]
  simp [State.hostWrite, State.write4, hend, hal, hix, hu, hq]

theorem State.f_setF_index (s : State) (k i n : Nat) (hi : i < 2 ^ 12) : (s.setF k 11 0 (i % n)).f k 11 0 = i % n := by
  rw [State.f_setF_self _ _ _ _ _ (by omega) (by omega)]
  exact Nat.mod_eq_of_lt (Nat.lt_of_le_of_lt (Nat.mod_le _ _) hi)

/-- What a timer's target leaves once both words are taken. -/
theorem State.target_written (s : State) (n : Nat) (lo hi : Word) (a : Access) :
    (((s.setPath 0 a).wr (TIM.TGT_LO n) lo).wr (TIM.TGT_HI n) hi).rd (TIM.TGT_LO n) = lo ∧
      (((s.setPath 0 a).wr (TIM.TGT_LO n) lo).wr (TIM.TGT_HI n) hi).rd (TIM.TGT_HI n) = hi ∧
      (((s.setPath 0 a).wr (TIM.TGT_LO n) lo).wr (TIM.TGT_HI n) hi).path 0 = a ∧
      regsKept s (((s.setPath 0 a).wr (TIM.TGT_LO n) lo).wr (TIM.TGT_HI n) hi) [TIM.TGT_LO n, TIM.TGT_HI n] := by
  have hne : TIM.TGT_LO n ≠ TIM.TGT_HI n := by
    simp only [TIM.TGT_LO, TIM.TGT_HI]
    omega
  refine ⟨?_, ?_, (s.path_setPath 0 0 a).trans (if_pos rfl), ?_⟩
  · rw [State.rd_wr, if_neg hne, State.rd_wr, if_pos rfl]
  · rw [State.rd_wr, if_pos rfl]
  · exact regsKept_trans (regsKept_mono (regsKept_wr (s.setPath 0 a) (TIM.TGT_LO n) lo) (by simp))
      (regsKept_mono (regsKept_wr _ _ _) (by simp))

/-- Settles O1: each access is reduced to the operation it is, and that operation's laws give the frame. -/
theorem registerAccessesComplete : Obligations.RegisterAccessesComplete := by
  refine ⟨fun p w s hs h => ?_, fun u q w s hu hq => ?_, fun u a s hu => ?_, fun s => ?_,
    fun off w r s hs h ha hr hp => ?_, fun n lo hi s hs hen hheld => ?_⟩
  · have hwr := (s.hostWrite_at p 68 w p.isLt (by omega) rfl hs).trans (congrArg _ (s.write0_irqmask 0 p w h))
    exact ⟨_, hwr, s.irqmask_written p w⟩
  · exact ⟨_, exec_doorbell u q w s hu hq, s.f_setF_index _ _ _ (fld_lt w 11 0), onlyRegs_setF ..⟩
  · obtain ⟨hout, hpend⟩ := s.malformed_sends
    have hirq : s.malformed.fb (HDR.IRQSTAT pgDEV) 1 = true := State.fb_irq_self _ _ _ (by omega)
    cases a with
    | write =>
      refine ⟨s.malformed, ?_, s.f_malformed_count, hirq, onlyRegsOut_malformed s, hout.trans (List.append_nil _).symm,
        hpend⟩
      change execMalformedAccess u .write s = _
      simp [execMalformedAccess, hu]
    | read len =>
      refine ⟨s.malformed.emit (.readBytes u (List.replicate len 0)), ?_, s.f_malformed_count, hirq,
        onlyRegsOut_trans (onlyRegsOut_malformed s) ⟨rfl, fun _ _ => rfl⟩, congrArg (· ++ _) hout, hpend⟩
      change execMalformedAccess u (.read len) s = _
      simp [execMalformedAccess, hu]
  · have hread : exec (.pairLowRead 0 .bar0 (BitVec.ofNat 24 TIM.NOW_LO)) s =
        .next ((s.read0 0 pgTIM 0x104).2.emit (.readData 0 (s.read0 0 pgTIM 0x104).1)) := rfl
    rw [s.read0_now] at hread
    have hpath := fun t : State => (t.path_setPath 0 0
      { s.path 0 with latch := some (TIM.NOW_LO, (s.tim.count >>> 32).setWidth 32) }).trans (if_pos rfl)
    exact ⟨_, hread, rfl, (congrArg Access.latch (hpath _) :), (congrArg Access.held (hpath _) :), mapKept_setPath s _ _,
      rfl⟩
  · have hkey : off.toNat / 65536 * 65536 + off.toNat % 65536 = off.toNat := by omega
    have hwr : s.hostWrite 0 .bar0 off.toNat w = .next (s.holdLow 0 off.toNat w) := by
      rw [s.hostWrite_bar0 _ w ha hs, s.write0_pair_low 0 _ _ w r h hr hp, hkey]
    exact ⟨_, hwr, s.holdLow_leaves 0 off.toNat w⟩
  · have hlt := n.isLt
    have hkey : TIM.TGT_HI n = pgTIM * 65536 + (0x200 + 32 * n.val + 4) := by
      simp only [pgTIM, TIM.TGT_HI]
      omega
    have hwr := s.hostWrite_at pgTIM (0x200 + 32 * n.val + 4) hi (by decide) (by omega) (by omega) hs
    rw [s.write0_target n lo hi hen hheld, ← hkey] at hwr
    obtain ⟨hlo, hhi, hpath, hkept⟩ := s.target_written n lo hi { s.path 0 with held := none }
    exact ⟨_, hwr, hlo, hhi, congrArg Access.held hpath, (congrArg Access.latch hpath :), mapKept_setPath s _ _,
      rfl, hkept⟩

end Sys2Proof.Machine

namespace Sys2Proof.Machine

/-! ## The front of the queue (log entry 1) -/

theorem step_front {c : Instr} {l : List Instr} {s : State} (h : s.pending = c :: l) :
    step s = exec c { s with pending := l } := by
  rw [step, h]

/-- Settles O48: a step takes the queue's front. -/
theorem stepRunsFront : Obligations.StepRunsFront := fun _ _ _ h => step_front h

/-! ## A frame held for later ones to pass (R94) -/

/-- Port 9 of group 1 (mode 5) is UP with a frame to send. The group's Mogul is disarmed and still holds a frame of the
port, sent before, until one more has passed: MOGCTL.ARM 0 leaves held frames to their release (log entry 22). -/
def heldForOne (f : TxFrame) : State :=
  { State.reset with
    dev := { state := .run }
    regs := [(PG.MODE 1, 5), (PG.PORTCFG 1 1, 1)]
    blks := [(pgPG 1, { st := .running })]
    ports := [(9, { link := .up, txq := [f] })]
    pgs := [(1, { held := [{ dir := .tx, slot := 1, wire := List.replicate 64 0x44, left := some 1 }] })] }

/-- Refutes O14: in its clause on FRAME_TRANSMIT (and in those on PFC_RECEIVED and PAUSE_RECEIVED) only the port, registers
and what is sent may change. But a frame that passes the MAC counts for every frame that the Mogul holds until later ones
have passed, armed or not (R94, log entry 22), so the group's held frame changes too: here it may go from now on. -/
theorem not_macFramesComplete : ¬ Obligations.MacFramesComplete := by
  intro ⟨_, _, _, _, _, _, htransmit, _⟩
  let f : TxFrame := { bytes := List.replicate 60 0x22, holder := false }
  let s : State := heldForOne f
  have hstarts : s.isUp 9 = true ∧ s.nextTx 9 = some f ∧ s.pact 9 = false ∧ s.mogActive (pgOf 9) = false := by
    decide +kernel
  have hleft : (((s.txBefore 9).txTake 9).pg 1).held.map (·.left) = [some 0] := by decide +kernel
  obtain ⟨hup, hnext, hpact, hmog⟩ := hstarts
  obtain ⟨t, hexec, -, -, hframe, -⟩ := htransmit 9 f s hup hnext hpact rfl hmog rfl rfl rfl rfl
  have hend : (s.txBefore 9).txTake 9 = t := Host.Outcome.next.inj hexec
  have hpgs : t.pgs = s.pgs := (congrArg State.pgs hframe :)
  rw [hend, State.pg, hpgs] at hleft
  exact absurd hleft (by decide)

/-! ## What a command leaves in the state it ends in -/

/-- A view of the state that an outcome leads to, if it leads to one, is what it is of `s`. -/
def leaves {α : Type} (view : State → α) (s : State) (o : Host.Outcome State Fault Refusal) : Prop :=
  ∀ t, o = .next t → view t = view s

theorem leaves_next {α : Type} {view : State → α} {s t : State} : leaves view s (.next t) ↔ view t = view s := by
  simp [leaves]

theorem leaves_fault {α : Type} {view : State → α} {s : State} {r : Fault} : leaves view s (.fault r) :=
  fun _ h => nomatch h

theorem queue_of_own {s : State} {o : Host.Outcome State Fault Refusal} (h : leaves State.own s o) :
    leaves State.pending s o := fun t ht => congrArg Prod.snd (h t ht)

theorem queue_of_keep {s : State} {o : Host.Outcome State Fault Refusal} (h : leaves State.keep s o) :
    leaves State.pending s o := queue_of_own fun t ht => own_of_keep (h t ht)

theorem next_own {s t : State} (h : t.own = s.own) : leaves State.pending s (.next t) :=
  queue_of_own (leaves_next.2 h)

theorem next_keep {s t : State} (h : t.keep = s.keep) : leaves State.pending s (.next t) := next_own (own_of_keep h)

/-! ### Operations shared by commands -/

theorem State.hostWr_own (s : State) (key : Nat) (g : State → State) (hg : ∀ t, (g t).own = t.own) :
    (s.hostWr key g).own = s.own := by
  unfold State.hostWr
  split
  · exact s.badAcc_own
  split
  · exact s.absentWrite_own ..
  · exact hg s

theorem State.hostWO_own (s : State) (key : Nat) (w : Word) (g : State → State) (hg : ∀ t, (g t).own = t.own) :
    (s.hostWO key w g).own = s.own :=
  s.hostWr_own _ _ fun t => by
    split
    · exact t.badAcc_own
    · exact hg t

theorem State.hostWrite_own (s : State) (u : Nat) (bar : Bar) (o : Nat) (w : Word) :
    leaves State.own s (s.hostWrite u bar o w) := by
  unfold State.hostWrite
  cases bar with
  | bar0 =>
    simp only [leaves_next, ite_own, State.malformed_own, State.badAcc_own, State.write0_own, ite_self]
  | bar2 =>
    dsimp only
    split
    · exact leaves_fault
    · simp only [leaves_next, ite_own, State.malformed_own, State.badAcc_own, State.write2_own, ite_self]
  | bar4 =>
    dsimp only
    split
    · exact leaves_fault
    · simp only [leaves_next, ite_own, State.write4_own, ite_self]

theorem State.spiDo_pending (s : State) (f : List Byte) (op slot : Nat) :
    (s.spiDo f op slot).1.pending = s.pending := by
  unfold State.spiDo
  split
  · split
    · rfl
    · exact congrArg (·.2.2) (s.kput_keep ..)
  · exact congrArg (·.2.2) (s.eraseOp_keep slot)
  · split <;> rfl
  · rfl

theorem State.spiTxn_pending (s : State) (f : List Byte) : (s.spiTxn f).pending = s.pending := by
  unfold State.spiTxn
  split
  · rfl
  simp only [ite_pending, State.irq_pending, State.bump_pending, State.setF_pending, State.emit_pending,
    apply_ite Prod.fst, State.spiDo_pending, ite_self]

/-! ## What each command leaves of the fuses, the device state machine and the queue

A command that moves the device state machine leaves the fuses and the queue (`State.own`), another one leaves the
state machine too (`State.keep`). A command that is one shared operation has its lemma in Laws/Keep.lean or Laws/Own.lean;
each branch of another one is a chain of shared operations. -/

/-! ### Machine/Key.lean -/

theorem execImportResult_keep (fn : Fn) (s : State) : leaves State.keep s (execImportResult fn s) := by
  unfold execImportResult
  split <;> simp only [leaves_next, ite_keep, ite_self, keep_mk, State.importDo_keep, State.setF_keep,
    State.until_keep]

theorem execKeyErase_keep (fn : Fn) (bar : Bar) (w : Word) (s : State) :
    leaves State.keep s (execKeyErase fn bar w s) := by
  unfold execKeyErase
  split <;> simp only [leaves_next, leaves_fault, ite_keep, ite_self, implies_true, State.eraseWr_keep,
    State.hostWr_keep, State.userErase_keep, State.userWr_keep]

/-! ### Machine/Ver.lean -/

theorem execCommitRefused_keep (s : State) : leaves State.keep s (execCommitRefused s) := by
  unfold execCommitRefused
  split <;> simp only [leaves_next, ite_keep, ite_self, keep_mk, State.commitPoll_keep, State.irq_keep]

theorem execCommitSwitch_keep (s : State) : leaves State.keep s (execCommitSwitch s) := by
  simp only [execCommitSwitch, leaves_next]
  split
  · split <;> simp only [State.switchTo_keep, State.commitPoll_keep]
  · exact s.commitPoll_keep

theorem execAbortUndoEnd_keep (s : State) : leaves State.keep s (execAbortUndoEnd s) := by
  unfold execAbortUndoEnd
  split <;> simp only [leaves_next, ite_keep, ite_self, keep_mk, State.fixHalf_keep, State.irq_keep,
    State.pendClear_keep, State.setF_keep]

theorem execFoldStart_keep (s : State) : leaves State.keep s (execFoldStart s) := by
  simp only [execFoldStart, leaves_next, ite_keep, ite_self, keep_mk]

theorem execFoldEnd_keep (s : State) : leaves State.keep s (execFoldEnd s) := by
  unfold execFoldEnd
  split <;> simp only [leaves_next, ite_keep, ite_self, keep_mk, State.commitPoll_keep, State.dropFolded_keep,
    State.fixHalf_keep, State.irq_keep, State.journal_keep, State.pendClear_keep]

/-! ### Machine/TblCmd.lean -/

theorem execBadargOp_keep (s : State) : leaves State.keep s (execBadargOp s) := by
  simp only [execBadargOp, leaves_next, State.tblOp_keep]

theorem execTblComplete_keep (s : State) : leaves State.keep s (execTblComplete s) := by
  unfold execTblComplete
  split <;> simp only [leaves_next, State.drawFree_keep, State.tblComplete_keep]

theorem execCompletionPop_keep (w : Word) (s : State) : leaves State.keep s (execCompletionPop w s) := by
  refine leaves_next.2 (State.hostWO_keep _ _ _ _ fun t => ?_)
  simp only [ite_keep, State.cmplPop_keep, ite_self]

theorem execTableScrub_keep (h : Half) (row : Nat) (flip : List Nat) (s : State) :
    leaves State.keep s (execTableScrub h row flip s) := by
  simp only [execTableScrub, leaves_next, ite_keep, ite_self, State.bump_keep, State.fault_keep, State.fire_keep,
    State.irq_keep, State.setHalf_keep]

theorem execShadowCompare_keep (h : Half) (bank : Fin 96) (row : Fin 2048) (err : Fin 3) (s : State) :
    leaves State.keep s (execShadowCompare h bank row err s) := by
  unfold execShadowCompare
  (repeat' split) <;> simp only [leaves_next, State.bump_keep, State.fault_keep, State.irq_keep, State.rowPut_keep,
    State.sweepEnd_keep]

theorem execBackgroundSlot_keep (g : PgIx) (s : State) : leaves State.keep s (execBackgroundSlot g s) := by
  simp only [execBackgroundSlot, leaves_next]

/-! ### Machine/Lrn.lean -/

theorem execHoldoffExpire_keep (h : Half) (s : State) : leaves State.keep s (execHoldoffExpire h s) := by
  unfold execHoldoffExpire
  split <;> simp only [leaves_next, State.holdoffDrop_keep, State.untilInstant_keep]

theorem execAgingPass_keep (h : Half) (s : State) : leaves State.keep s (execAgingPass h s) := by
  simp only [execAgingPass, leaves_next, ite_keep, foldl_keep, ite_self, implies_true, State.ageRow_keep,
    State.bump_keep, State.irq_keep, State.setHalf_keep, State.until_keep, State.wr_keep]

/-! ### Machine/Cnt.lean -/

theorem execCounterSelectWrite_keep (page : PageId) (n : Fin 8) (w : Word) (s : State) :
    leaves State.keep s (execCounterSelectWrite page n w s) := by
  simp only [execCounterSelectWrite, leaves_next, ite_keep, ite_self, implies_true, State.badAcc_keep,
    State.cselWrite_keep, State.hostWr_keep]

theorem execGaugeSweep_keep (s : State) : leaves State.keep s (execGaugeSweep s) := by
  simp only [execGaugeSweep, leaves_next, ite_keep, foldl_keep, ite_self, implies_true, keep_mk, State.gaugeRead_keep,
    State.until_keep]

theorem execSnapshotDone_keep (s : State) : leaves State.keep s (execSnapshotDone s) := by
  unfold execSnapshotDone
  split <;> simp only [leaves_next, foldl_keep, implies_true, keep_mk, State.irq_keep, State.setF_keep,
    State.setGacc_keep, State.wr_keep, State.wr64_keep]

/-! ### Machine/Shape.lean -/

theorem execPolicerCommit_keep (w : Word) (s : State) : leaves State.keep s (execPolicerCommit w s) := by
  simp only [execPolicerCommit, leaves_next, implies_true, State.commitWr_keep, State.polctl_keep]

theorem execBucketCredit_keep (s : State) : leaves State.keep s (execBucketCredit s) := by
  simp only [execBucketCredit, leaves_next, State.settleAll_keep, State.untilInstant_keep]

/-! ### Machine/Ports.lean -/

theorem execPauseExpire_keep (p : Port) (c : Fin 8) (s : State) : leaves State.keep s (execPauseExpire p c s) := by
  unfold execPauseExpire
  split <;> simp only [leaves_next, State.setPort_keep, State.until_keep]

theorem execVerifySend_keep (p : Port) (s : State) : leaves State.keep s (execVerifySend p s) := by
  simp only [execVerifySend, leaves_next, ite_keep, ite_self, State.emitPort_keep, State.setPort_keep,
    State.until_keep]

theorem execVerifyFail_keep (p : Port) (s : State) : leaves State.keep s (execVerifyFail p s) := by
  simp only [execVerifyFail, leaves_next, ite_keep, ite_self, State.irq_keep, State.setPort_keep, State.until_keep]

theorem execTsfTagRead_keep (g : PgIx) (s : State) : leaves State.keep s (execTsfTagRead g s) := by
  simp only [execTsfTagRead, leaves_next, ite_keep, ite_self, State.tsfLatch_keep]

theorem execTsfPop_keep (g : PgIx) (w : Word) (s : State) : leaves State.keep s (execTsfPop g w s) := by
  simp only [execTsfPop, leaves_next, ite_keep, ite_self, implies_true, State.hostWO_keep, State.tsfPop_keep]

theorem execMogulFlapEnd_keep (p : Port) (dir : Dir) (s : State) :
    leaves State.keep s (execMogulFlapEnd p dir s) := by
  unfold execMogulFlapEnd
  split <;> simp only [leaves_next, State.flapEnds_keep, State.irq_keep, State.until_keep]

/-! ### Machine/Tx.lean -/

theorem execPfcSend_keep (p : Port) (s : State) : leaves State.keep s (execPfcSend p s) := by
  simp only [execPfcSend, leaves_next, ite_keep, ite_self, State.emitPort_keep, State.setPort_keep, State.txCut_keep]

theorem execPfcRefresh_keep (p : Port) (s : State) : leaves State.keep s (execPfcRefresh p s) := by
  unfold execPfcRefresh
  split <;> simp only [leaves_next, ite_keep, ite_self, State.emitPort_keep, State.setPort_keep, State.txCut_keep,
    State.until_keep]

/-! ### Machine/Slalom.lean -/

theorem execGateGo_keep (p : Port) (w : Word) (s : State) : leaves State.keep s (execGateGo p w s) := by
  simp only [execGateGo, leaves_next, implies_true, State.gateCtl_keep, State.goWr_keep]

theorem execShaperCommit_keep (off : Offset) (w : Word) (s : State) :
    leaves State.keep s (execShaperCommit off w s) := by
  simp only [execShaperCommit, leaves_next, State.shaperCommit_keep, State.xokAll_keep]

/-! ### Machine/Ingress.lean -/

theorem execIngressPacket_keep (i : PgIx) (s : State) : leaves State.keep s (execIngressPacket i s) := by
  unfold execIngressPacket
  split
  · split
    next p t hnext =>
      simp only [leaves_next, State.ingress_keep, State.slotStart_keep, State.ingressNext_keep hnext,
        State.until_keep]
    next => exact leaves_next.2 rfl
  · exact leaves_next.2 rfl

/-! ### Machine/Drc.lean -/

theorem execChannelBringup_keep (n : Chan) (s : State) : leaves State.keep s (execChannelBringup n s) := by
  simp only [execChannelBringup, leaves_next, ite_keep, ite_self, State.chGo_keep, State.putCh_keep, State.wr_keep]

theorem execTrainingDone_keep (n : Chan) (step : Fin 10) (s : State) :
    leaves State.keep s (execTrainingDone n step s) := by
  simp only [execTrainingDone, leaves_next, ite_keep, ite_self, State.bump_keep, State.chDrops_keep, State.chGo_keep,
    State.chReady_keep, State.deskew_keep, State.fault_keep, State.setF_keep, State.zeroChan_keep]

theorem execRetrainDone_keep (n : Chan) (step : Fin 10) (s : State) :
    leaves State.keep s (execRetrainDone n step s) := by
  simp only [execRetrainDone, leaves_next, ite_keep, ite_self, State.bump_keep, State.chDrops_keep, State.chGo_keep,
    State.chReady_keep, State.deskew_keep, State.fault_keep, State.irq_keep, State.setF_keep]

theorem execPhyTracking_keep (n : Chan) (ds : List (Fin 48 × Bool)) (s : State) :
    leaves State.keep s (execPhyTracking n ds s) := by
  simp only [execPhyTracking, leaves_next, ite_keep, ite_self, State.fault_keep, State.putCh_keep, State.retrain_keep,
    State.slotUsed_keep, State.until_keep]

theorem execMr4Read_keep (n : Chan) (tref : Fin 3) (s : State) : leaves State.keep s (execMr4Read n tref s) := by
  simp only [execMr4Read, leaves_next, ite_keep, ite_self, State.fault_keep, State.irq_keep, State.putCh_keep,
    State.setF_keep, State.slotUsed_keep, State.until_keep]

theorem execZqLatch_keep (n : Chan) (s : State) : leaves State.keep s (execZqLatch n s) := by
  simp only [execZqLatch, leaves_next, ite_keep, ite_self, State.putCh_keep, State.slotUsed_keep, State.until_keep]

theorem execForcedMaintSlot_keep (n : Chan) (s : State) : leaves State.keep s (execForcedMaintSlot n s) := by
  unfold execForcedMaintSlot
  split <;> simp only [leaves_next, ite_keep, ite_self, State.putCh_keep, State.until_keep]

theorem execRowIdleClose_keep (n : Chan) (bank : Fin 16) (s : State) :
    leaves State.keep s (execRowIdleClose n bank s) := by
  simp only [execRowIdleClose, leaves_next, ite_keep, ite_self, State.closeBank_keep, State.until_keep]

theorem execDramRequest_keep (port : Fin 6) (s : State) : leaves State.keep s (execDramRequest port s) := by
  unfold execDramRequest
  split
  · exact leaves_next.2 rfl
  next r _ =>
    simp only [leaves_next]
    repeat' split
    all_goals simp only [State.takeTag_keep, State.drcFin_keep, State.bump_keep, State.fault_keep, State.drcHand_keep]

theorem execDramReadComplete_keep (tag : Nat) (corr unc : List (Fin 64)) (s : State) :
    leaves State.keep s (execDramReadComplete tag corr unc s) := by
  unfold execDramReadComplete
  split <;> simp only [leaves_next, ite_keep, ite_self, State.dramBytes_keep, State.drcCharge_keep,
    State.drcCheck_keep, State.drcFin_keep, State.drcTouch_keep]

theorem execDramWriteComplete_keep (tag : Nat) (errs : List (Fin 64 × Bool)) (s : State) :
    leaves State.keep s (execDramWriteComplete tag errs s) := by
  unfold execDramWriteComplete
  split <;> simp only [leaves_next, ite_keep, ite_self, State.dramStore_keep, State.drcCharge_keep,
    State.drcCheck_keep, State.drcFin_keep, State.drcTouch_keep]

theorem execReadUrgent_keep (tag : Nat) (s : State) : leaves State.keep s (execReadUrgent tag s) := by
  unfold execReadUrgent
  split <;> simp only [leaves_next, keep_mk, State.bump_keep, State.until_keep]

theorem execReadPanic_keep (tag : Nat) (s : State) : leaves State.keep s (execReadPanic tag s) := by
  unfold execReadPanic
  split <;> simp only [leaves_next, keep_mk, State.bump_keep, State.event_keep, State.until_keep]

theorem execDramScrub_keep (n : Chan) (corr : Fin 9) (unc : Bool) (s : State) :
    leaves State.keep s (execDramScrub n corr unc s) := by
  simp only [execDramScrub, leaves_next, ite_keep, ite_self, State.scrubStep_keep, State.slotUsed_keep]

theorem execSelfRefreshEntry_keep (n : Chan) (s : State) : leaves State.keep s (execSelfRefreshEntry n s) := by
  simp only [execSelfRefreshEntry, leaves_next, ite_keep, ite_self, State.bump_keep, State.chGo_keep,
    State.closeAll_keep, State.putCh_keep, State.until_keep]

theorem execSelfRefreshExit_keep (n : Chan) (s : State) : leaves State.keep s (execSelfRefreshExit n s) := by
  simp only [execSelfRefreshExit, leaves_next, ite_keep, ite_self, State.chGo_keep, State.putCh_keep]

theorem execFreqGroupStart_keep (s : State) : leaves State.keep s (execFreqGroupStart s) := by
  unfold execFreqGroupStart
  split <;> simp only [leaves_next, ite_keep, ite_self, State.freqStart_keep]

theorem execFreqGroupDone_keep (s : State) : leaves State.keep s (execFreqGroupDone s) := by
  unfold execFreqGroupDone
  (repeat' split) <;> simp only [leaves_next, State.freqDone_keep]

theorem execDrcpllRelock_keep (k : Fin 16) (s : State) : leaves State.keep s (execDrcpllRelock k s) := by
  simp only [execDrcpllRelock, leaves_next, keep_mk]

/-! ### Machine/Bpm.lean -/

theorem execCacheRefill_keep (s : State) : leaves State.keep s (execCacheRefill s) := by
  simp only [execCacheRefill, leaves_next, ite_keep, ite_self, State.ringPop_keep, State.ringRead_keep]

theorem execRingReadReturn_keep (s : State) : leaves State.keep s (execRingReadReturn s) := by
  unfold execRingReadReturn
  split
  · exact leaves_next.2 rfl
  next r t htake =>
    have ht : t.keep = s.keep := State.drcTake_keep htake
    simp only [leaves_next, ite_keep, State.setBpm_keep, State.ringRead_keep, ht, ite_self]

theorem execCacheWriteback_keep (s : State) : leaves State.keep s (execCacheWriteback s) := by
  simp only [execCacheWriteback, leaves_next, ite_keep, ite_self, State.writeback_keep]

theorem execPageReturn_keep (s : State) : leaves State.keep s (execPageReturn s) := by
  unfold execPageReturn
  split <;> simp only [leaves_next, ite_keep, ite_self, State.setBpm_keep, State.takeBack_keep]

theorem execRingBuildStart_keep (s : State) : leaves State.keep s (execRingBuildStart s) := by
  simp only [execRingBuildStart, leaves_next, ite_keep, ite_self, State.buildFill_keep, State.setBpm_keep,
    State.setF_keep]

theorem execRingBuildEnd_keep (s : State) : leaves State.keep s (execRingBuildEnd s) := by
  simp only [execRingBuildEnd, leaves_next, ite_keep, foldl_keep, ite_self, implies_true, State.basinRdy_keep,
    State.irq_keep, State.setBpm_keep, State.setF_keep]

theorem execReclaimEnd_keep (o : Fin 4) (s : State) : leaves State.keep s (execReclaimEnd o s) := by
  simp only [execReclaimEnd, leaves_next, ite_keep, ite_self, State.reclaimed_keep, State.sweepPages_keep]

/-! ### Machine/Tmg.lean -/

theorem execAgingDue_keep (q : Fin 131584) (s : State) : leaves State.keep s (execAgingDue q s) := by
  unfold execAgingDue
  split <;> simp only [leaves_next, State.ageJobs_keep, State.ageQueue_keep, State.untilInstant_keep]

theorem execSpillWriteDone_keep (s : State) : leaves State.keep s (execSpillWriteDone s) := by
  unfold execSpillWriteDone
  split
  · exact leaves_next.2 rfl
  next r t htake =>
    have ht : t.keep = s.keep := State.drcTake_keep htake
    split <;> simp only [leaves_next, ite_keep, State.listDone_keep, State.pump_keep, State.pageGone_keep,
      State.setTq_keep, State.failPage_keep, State.listWrite_keep, State.freeRefs_keep, ht, ite_self]

theorem execRefillReturn_keep (s : State) : leaves State.keep s (execRefillReturn s) := by
  unfold execRefillReturn
  split
  · exact leaves_next.2 rfl
  next r t htake =>
    have ht : t.keep = s.keep := State.drcTake_keep htake
    split <;> simp only [leaves_next, ite_keep, foldl_keep, implies_true, State.listDone_keep, State.pump_keep,
      State.pageGone_keep, State.setTq_keep, State.failPage_keep, State.refillPkt_keep, State.kill_keep,
      State.bump_keep, ht, ite_self]

/-! ### Machine/Sch.lean -/

theorem execSchGrant_keep (p : Port) (s : State) : leaves State.keep s (execSchGrant p s) := by
  simp only [execSchGrant, leaves_next, State.schGrant_keep]

/-! ### Machine/Admit.lean -/

theorem execPacketAdmit_keep (c : FirstCell) (s : State) : leaves State.keep s (execPacketAdmit c s) := by
  unfold execPacketAdmit
  (repeat' split) <;> simp only [leaves_next, State.admitHost_keep, State.admitMulticast_keep,
    State.admitUnicast_keep, State.setIp_keep]

theorem execLastCellArrival_keep (i : PgIx) (s : State) : leaves State.keep s (execLastCellArrival i s) := by
  unfold execLastCellArrival
  split <;> simp only [leaves_next, ite_keep, ite_self, State.arrived_keep, State.setIp_keep]

theorem execReplicateCopies_keep (s : State) : leaves State.keep s (execReplicateCopies s) := by
  rw [execReplicateCopies, leaves_next, State.replicate_keep, State.ageJobs_keep]

/-! ### Machine/Blg.lean -/

theorem execMemberJoin_keep (g : Fin 32) (m : Fin 16) (s : State) : leaves State.keep s (execMemberJoin g m s) := by
  unfold execMemberJoin
  split <;> simp only [leaves_next, ite_keep, ite_self, State.setMem_keep, State.setTx_keep, State.until_keep]

theorem execNoticeReceived_keep (k : Fin 4) (bytes : List Byte) (s : State) :
    leaves State.keep s (execNoticeReceived k bytes s) := by
  simp only [execNoticeReceived, leaves_next, ite_keep, ite_self, State.bump_keep, State.landNotice_keep,
    State.noticeIrq_keep, State.wr_keep]

theorem execNoticeTruncated_keep (k : Fin 4) (s : State) : leaves State.keep s (execNoticeTruncated k s) := by
  simp only [execNoticeTruncated, leaves_next, ite_keep, ite_self, State.bump_keep]

theorem execGapLossTimeout_keep (g : Fin 32) (s : State) : leaves State.keep s (execGapLossTimeout g s) := by
  unfold execGapLossTimeout
  split <;> simp only [leaves_next, State.gapRelease_keep, State.until_keep]

theorem execSyncTimeout_keep (g : Fin 32) (s : State) : leaves State.keep s (execSyncTimeout g s) := by
  unfold execSyncTimeout
  split
  · exact leaves_next.2 rfl
  next at_ _ =>
    simp only [leaves_next]
    split <;> simp only [State.gapPoll_keep, State.setF_keep, State.wr_keep, State.setGrp_keep, State.until_keep]

theorem execEddyDeliver_keep (g : Fin 32) (s : State) : leaves State.keep s (execEddyDeliver g s) := by
  simp only [execEddyDeliver, leaves_next, ite_keep]
  split
  · rfl
  split <;> simp only [ite_keep, ite_self, State.gapPoll_keep, State.dropDups_keep, State.wr_keep, State.event_keep,
    State.gcount_keep, State.setPg_keep, State.eddyPump_keep, State.setEq_keep]

theorem execShimmedFrameReceived_keep (p : Port) (s : State) :
    leaves State.keep s (execShimmedFrameReceived p s) := by
  unfold execShimmedFrameReceived
  split <;> simp only [leaves_next, State.setPort_keep, State.shimmed_keep]

theorem execRxActiveTimeout_keep (g : Fin 32) (m : Fin 16) (s : State) :
    leaves State.keep s (execRxActiveTimeout g m s) := by
  unfold execRxActiveTimeout
  split <;> simp only [leaves_next, State.rxInactive_keep, State.until_keep]

theorem execEddySpillDone_keep (s : State) : leaves State.keep s (execEddySpillDone s) := by
  unfold execEddySpillDone
  split
  · exact leaves_next.2 rfl
  next r t htake =>
    have ht : t.keep = s.keep := State.drcTake_keep htake
    split <;> simp only [leaves_next, ite_keep, State.eddyPump_keep, State.givePage_keep, State.setEq_keep,
      State.eddyFail_keep, ht, ite_self]

theorem execEddyRefillReturn_keep (s : State) : leaves State.keep s (execEddyRefillReturn s) := by
  unfold execEddyRefillReturn
  split
  · exact leaves_next.2 rfl
  next r t htake =>
    have ht : t.keep = s.keep := State.drcTake_keep htake
    split <;> simp only [leaves_next, ite_keep, State.eddyPump_keep, State.givePage_keep, State.setEq_keep,
      State.eddyFail_keep, ht, ite_self]

/-! ### Machine/Msc.lean -/

theorem execOldKeyRelease_keep (slot : BitVec 16) (s : State) : leaves State.keep s (execOldKeyRelease slot s) := by
  simp only [execOldKeyRelease, leaves_next, ite_keep, foldl_keep, ite_self, implies_true, State.icvOld_keep,
    State.setKslot_keep]

/-! ### Machine/Egress.lean -/

theorem execEgressPacket_keep (i : PgIx) (s : State) : leaves State.keep s (execEgressPacket i s) := by
  unfold execEgressPacket
  split <;> simp only [leaves_next, ite_keep, ite_self, State.bump_keep, State.egrDrop_keep, State.egress_keep,
    State.setEp_keep]

theorem execHeartbeatSend_keep (g : Fin 32) (m : Fin 16) (s : State) :
    leaves State.keep s (execHeartbeatSend g m s) := by
  unfold execHeartbeatSend
  (repeat' split) <;> simp only [leaves_next, State.hbSend_keep, State.until_keep]

theorem execEobHeartbeat_keep (g : Fin 32) (s : State) : leaves State.keep s (execEobHeartbeat g s) := by
  simp only [execEobHeartbeat, leaves_next, foldl_keep, implies_true, State.hbSend_keep]

/-! ### Machine/Mac.lean -/

theorem execVerifyResponse_keep (p : Port) (s : State) : leaves State.keep s (execVerifyResponse p s) := by
  simp only [execVerifyResponse, leaves_next, ite_keep, ite_self, State.setPort_keep, State.xokPoll_keep]

theorem execFrameTransmit_keep (p : Port) (s : State) : leaves State.keep s (execFrameTransmit p s) := by
  simp only [execFrameTransmit, leaves_next, State.txBefore_keep, State.txTake_keep]

theorem execMogulDelayExpire_keep (g : PgIx) (s : State) : leaves State.keep s (execMogulDelayExpire g s) := by
  unfold execMogulDelayExpire
  split <;> simp only [leaves_next, State.mogRelease_keep, State.until_keep]

theorem execMogulReorderRelease_keep (g : PgIx) (s : State) : leaves State.keep s (execMogulReorderRelease g s) := by
  simp only [execMogulReorderRelease, leaves_next]
  split
  · exact State.mogRelease_keep ..
  · split <;> simp only [State.mogRelease_keep, State.until_keep]

/-! ### Machine/Link.lean -/

theorem execPortEnable_keep (p : Port) (s : State) : leaves State.keep s (execPortEnable p s) := by
  simp only [execPortEnable, leaves_next, ite_keep, ite_self, State.startLink_keep]

theorem execTrainingComplete_keep (p : Port) (s : State) : leaves State.keep s (execTrainingComplete p s) := by
  simp only [execTrainingComplete, leaves_next, ite_keep, ite_self, State.addF_keep, State.leaveDown_keep,
    State.sends_keep, State.setPort_keep]

theorem execTrainTimeout_keep (p : Port) (s : State) : leaves State.keep s (execTrainTimeout p s) := by
  simp only [execTrainTimeout, leaves_next, ite_keep, ite_self, State.addF_keep, State.leaveDown_keep,
    State.setPort_keep, State.until_keep]

theorem execPcsFecLock_keep (p : Port) (s : State) : leaves State.keep s (execPcsFecLock p s) := by
  simp only [execPcsFecLock, leaves_next, ite_keep, ite_self, State.setPort_keep]

theorem execUpholdExpire_keep (p : Port) (s : State) : leaves State.keep s (execUpholdExpire p s) := by
  simp only [execUpholdExpire, leaves_next]
  split <;> simp only [ite_keep, State.linkMoved_keep, State.sends_keep, State.setPort_keep, State.until_keep,
    State.leaveDown_keep, ite_self]

theorem execLockLost_keep (p : Port) (cause : LinkFault) (s : State) :
    leaves State.keep s (execLockLost p cause s) := by
  simp only [execLockLost, leaves_next, State.setPort_keep]

theorem execDownholdExpire_keep (p : Port) (s : State) : leaves State.keep s (execDownholdExpire p s) := by
  unfold execDownholdExpire
  dsimp only
  split <;> simp only [leaves_next, ite_keep, State.linkMoved_keep, State.sends_keep, State.setPort_keep,
    State.until_keep, ite_self]

/-! ### Machine/Hst.lean -/

theorem execQpHoldoffExpire_keep (fn : Fn) (q : Fin 8) (s : State) :
    leaves State.keep s (execQpHoldoffExpire fn q s) := by
  unfold execQpHoldoffExpire
  split <;> simp only [leaves_next, ite_keep, ite_self, State.qpPoll_keep, State.until_keep]

theorem execCpuTxInject_keep (fn : Fn) (q : Fin 8) (desc buf : Cpl) (s : State) :
    leaves State.keep s (execCpuTxInject fn q desc buf s) := by
  unfold execCpuTxInject
  dsimp only
  split <;> simp only [leaves_next, ite_keep, State.txFlush_keep, State.txServed_keep, State.txDone_keep,
    State.inject_keep, State.txUnheld_keep, State.descTake_keep, ite_self]

theorem execCpuRxDeliver_keep (fn : Fn) (q : Fin 8) (ring : List Byte) (s : State) :
    leaves State.keep s (execCpuRxDeliver fn q ring s) := by
  unfold execCpuRxDeliver
  dsimp only
  split <;> simp only [leaves_next, ite_keep, State.irq_keep, State.bump_keep, State.hostLeave_keep,
    State.rxWrite_keep, State.hostHead_keep, ite_self]

theorem execPcieLinkUp_own (speed : Fin 6) (width : Fin 4) (flit : Bool) (s : State) :
    leaves State.own s (execPcieLinkUp speed width flit s) := by
  unfold execPcieLinkUp
  split
  · exact leaves_next.2 rfl
  · exact leaves_next.2 (own_of_keep (by simp only [State.linkUp_keep, State.setF_keep]))

theorem execConfigRequest_keep (fn : Fn) (c : CfgReq) (s : State) :
    leaves State.keep s (execConfigRequest fn c s) := by
  simp only [execConfigRequest, leaves_next, ite_keep, ite_self, keep_mk, State.emit_keep, State.msixPoll_keep]

/-! ### Machine/Dma.lean -/

theorem execDmaDescFetch_keep (ch : Fin 32) (cpl : Cpl) (s : State) :
    leaves State.keep s (execDmaDescFetch ch cpl s) := by
  simp only [execDmaDescFetch, leaves_next, ite_keep]
  split
  · rfl
  split
  · simp only [State.fault_keep, State.dmaEdge_keep, State.irq_keep, State.dmaErrBit_keep, State.dmaGo_keep,
    State.setF_keep, State.cplErr_keep, State.hostGet_keep]
  simp only [ite_keep]
  split
  · rfl
  split <;> simp only [State.dmaFinish_keep, State.dmaGo_keep, State.setDch_keep, State.hostGet_keep]

theorem execCompletionTimeout_keep (s : State) : leaves State.keep s (execCompletionTimeout s) := by
  simp only [execCompletionTimeout, leaves_next, ite_keep, ite_self, State.dmaRet_keep]

theorem execDmaStart_keep (s : State) : leaves State.keep s (execDmaStart s) := by
  unfold execDmaStart
  (repeat' split) <;> simp only [leaves_next, ite_keep, ite_self, keep_mk, State.dmaFinish_keep, State.dmaGo_keep,
    State.dmaReads_keep, State.setDch_keep]

theorem execDmaComplete_keep (s : State) : leaves State.keep s (execDmaComplete s) := by
  unfold execDmaComplete
  split <;> simp only [leaves_next, ite_keep, ite_self, State.dmaEnd_keep, State.dmaMuted_keep]

/-! ### Machine/Tim.lean -/

theorem execHoldoverEntry_keep (s : State) : leaves State.keep s (execHoldoverEntry s) := by
  simp only [execHoldoverEntry, leaves_next, ite_keep, ite_self, State.fault_keep, State.irq_keep, State.setB_keep,
    State.setF_keep]

theorem execHoldoverExit_keep (s : State) : leaves State.keep s (execHoldoverExit s) := by
  simp only [execHoldoverExit, leaves_next, ite_keep, ite_self, State.setB_keep, State.setF_keep]

theorem execPpsCapture_keep (s : State) : leaves State.keep s (execPpsCapture s) := by
  simp only [execPpsCapture, leaves_next, ite_keep, ite_self, keep_mk, State.irq_keep, State.setB_keep]

theorem execPpsOutRise_keep (s : State) : leaves State.keep s (execPpsOutRise s) := by
  unfold execPpsOutRise
  split
  · have hpast := s.untilInstant_keep (nextPps s.tai (s.f TIM.PPSOUT_OFS 29 0))
    generalize s.untilInstant (nextPps s.tai (s.f TIM.PPSOUT_OFS 29 0)) = t at hpast ⊢
    rw [leaves_next, keep_mk, hpast]
  · exact leaves_next.2 rfl

theorem execPpsOutFall_keep (s : State) : leaves State.keep s (execPpsOutFall s) := by
  unfold execPpsOutFall
  split <;> simp only [leaves_next, keep_mk, State.until_keep]

/-! ### Machine/Timers.lean -/

theorem execTimerFire_keep (n : Fin 16) (s : State) : leaves State.keep s (execTimerFire n s) := by
  simp only [execTimerFire, leaves_next, ite_keep, ite_self, State.timerFires_keep, State.untilInstant_keep]

/-! ### Machine/Quiesce.lean -/

theorem execDrainComplete_keep (page : PageId) (s : State) : leaves State.keep s (execDrainComplete page s) := by
  simp only [execDrainComplete, leaves_next, ite_keep, ite_self, State.blkPoll_keep]

theorem execQuiesceTimeout_keep (page : PageId) (s : State) : leaves State.keep s (execQuiesceTimeout page s) := by
  simp only [execQuiesceTimeout, leaves_next, ite_keep]
  split
  · split <;> simp only [State.fault_keep, State.setBlk_keep, State.until_keep]
  · rfl

theorem execResetComplete_keep (page : PageId) (s : State) : leaves State.keep s (execResetComplete page s) := by
  unfold execResetComplete
  simp only [leaves_next, ite_keep, State.blkPoll_keep, State.fltResume_keep, State.fltWinEnds_keep,
    State.fltDone_keep, State.irq_keep, State.blkStarts_keep, State.blkSt_keep, ite_self]

/-! ### Machine/Evt.lean -/

theorem execEvtLaneUp_keep (l : Fin 4) (s : State) : leaves State.keep s (execEvtLaneUp l s) := by
  simp only [execEvtLaneUp, leaves_next, ite_keep, ite_self, State.setLanes_keep]

theorem execEvtLaneDown_keep (l : Fin 4) (s : State) : leaves State.keep s (execEvtLaneDown l s) := by
  simp only [execEvtLaneDown, leaves_next, ite_keep, ite_self, State.fire_keep, State.setLanes_keep]

theorem execHelloSend_keep (s : State) : leaves State.keep s (execHelloSend s) := by
  simp only [execHelloSend, leaves_next, ite_keep, ite_self, keep_mk, State.sendHello_keep, State.until_keep]

theorem execAckSend_keep (s : State) : leaves State.keep s (execAckSend s) := by
  simp only [execAckSend, leaves_next, ite_keep, ite_self, State.evtSend_keep]

theorem execJournalSend_keep (s : State) : leaves State.keep s (execJournalSend s) := by
  unfold execJournalSend
  dsimp only
  split
  · exact leaves_next.2 rfl
  · simp only [leaves_next, ite_keep, State.event_keep, keep_mk, State.evtSend_keep, ite_self]

theorem execRoleDecision_own (s : State) : leaves State.own s (execRoleDecision s) := by
  unfold execRoleDecision
  split <;> simp only [leaves_next, ite_own, ite_self, own_mk, State.becomeActive_own, State.becomeStandby_own,
    State.sendSyncreq_own, State.until_own]

theorem execClaimStart_own (s : State) : leaves State.own s (execClaimStart s) := by
  unfold execClaimStart
  split <;> simp only [leaves_next, ite_own, ite_self, own_mk, State.becomeStandby_own, State.setRole_own,
    State.until_own]

theorem execClaimRaise_keep (s : State) : leaves State.keep s (execClaimRaise s) := by
  unfold execClaimRaise
  split <;> simp only [leaves_next, ite_keep, ite_self, keep_mk, State.until_keep]

theorem execClaimSuccess_own (s : State) : leaves State.own s (execClaimSuccess s) := by
  unfold execClaimSuccess
  split <;> simp only [leaves_next, ite_own, ite_self, State.becomeActive_own, State.until_own]

theorem execPeerPinChange_own (samples : List Bool) (s : State) :
    leaves State.own s (execPeerPinChange samples s) := by
  simp only [execPeerPinChange, leaves_next, ite_own, foldl_own, ite_self, implies_true, State.pinSample_own]

theorem execTakeOver_own (s : State) : leaves State.own s (execTakeOver s) := by
  simp only [execTakeOver, leaves_next, ite_own, ite_self, State.irq_own, State.takeoverDo_own, State.until_own]

theorem execHandoffTimeout_keep (s : State) : leaves State.keep s (execHandoffTimeout s) := by
  unfold execHandoffTimeout
  split <;> simp only [leaves_next, State.handoffFail_keep, State.until_keep]

theorem execRetransmit_keep (s : State) : leaves State.keep s (execRetransmit s) := by
  unfold execRetransmit
  split <;> simp only [leaves_next, keep_mk, State.bump_keep, State.until_keep]

theorem execAckTimeout_keep (s : State) : leaves State.keep s (execAckTimeout s) := by
  unfold execAckTimeout
  split <;> simp only [leaves_next, State.peerStale_keep, State.until_keep]

theorem execDeadTimeout_keep (s : State) : leaves State.keep s (execDeadTimeout s) := by
  unfold execDeadTimeout
  split <;> simp only [leaves_next, ite_keep, ite_self, State.setSelf_keep, State.until_keep]

theorem execJournalGapTimeout_keep (s : State) : leaves State.keep s (execJournalGapTimeout s) := by
  unfold execJournalGapTimeout
  split <;> simp only [leaves_next, ite_keep, ite_self, keep_mk, State.setSelf_keep, State.until_keep]

theorem execBulkRow_keep (s : State) : leaves State.keep s (execBulkRow s) := by
  unfold execBulkRow
  (repeat' split) <;> simp only [leaves_next, State.addF_keep, State.bulkAt_keep, State.bulkPace_keep,
    State.bulkTail_keep, State.journal_keep]

/-! ### Machine/Flt.lean -/

theorem execFaultEvent_own (det : Option (PageId × Fin 32 × Word)) (s : State) :
    leaves State.own s (execFaultEvent det s) := by
  simp only [execFaultEvent, leaves_next]
  split <;> split <;> simp only [State.fltTake_own, own_mk, State.detect_own]

theorem execRecordRead_keep (frozen : Bool) (s : State) : leaves State.keep s (execRecordRead frozen s) := by
  simp only [execRecordRead, leaves_next, State.emit_keep, State.recLatch_keep]

theorem execConseqWindowEnd_keep (page : PageId) (s : State) : leaves State.keep s (execConseqWindowEnd page s) := by
  unfold execConseqWindowEnd
  split <;> simp only [leaves_next, State.fltWinGone_keep, State.until_keep]

theorem execFenceCountDecay_keep (page : PageId) (s : State) : leaves State.keep s (execFenceCountDecay page s) := by
  unfold execFenceCountDecay
  split
  next n t _ =>
    have hpast := s.until_keep (t + s.f FLT.QUIET 15 0 * 1000000)
    generalize s.until (t + s.f FLT.QUIET 15 0 * 1000000) = u at hpast ⊢
    rw [leaves_next, keep_mk, hpast]
  next => exact leaves_next.2 rfl

theorem execFaultPinSample_keep (p n : Bool) (s : State) : leaves State.keep s (execFaultPinSample p n s) := by
  simp only [execFaultPinSample, leaves_next, ite_keep, ite_self, keep_mk, State.fault_keep, State.irq_keep,
    State.nextTick_keep]

/-! ### Machine/Pwr.lean -/

theorem execSupplySample_own (core : Nat) (vmon : List Nat) (s : State) :
    leaves State.own s (execSupplySample core vmon s) := by
  unfold execSupplySample
  split
  · exact leaves_fault
  · simp only [leaves_next, State.supplyState_own]
    refine (foldl_own _ _ _ fun t e => own_of_keep (t.supplyOne_keep ..)).trans ?_
    simp only [foldl_own, State.setF_own, State.nextTick_own, implies_true]

theorem execHoldResume_own (s : State) : leaves State.own s (execHoldResume s) := by
  unfold execHoldResume
  split <;> simp only [leaves_next, ite_own, ite_self, own_mk, State.holdOut_own, State.irq_own, State.until_own]

theorem execThermalRead_keep (temps : List Nat) (s : State) : leaves State.keep s (execThermalRead temps s) := by
  unfold execThermalRead
  split <;> simp only [leaves_next, leaves_fault, ite_keep, ite_self, keep_mk, State.fault_keep, State.irq_keep,
    State.nextTick_keep, State.wr_keep]

theorem execAvsStep_keep (s : State) : leaves State.keep s (execAvsStep s) := by
  unfold execAvsStep
  split
  · exact leaves_next.2 rfl
  dsimp only
  rw [leaves_next, State.setF_keep, State.setF_keep, keep_mk]
  split
  · exact s.until_keep _
  · rfl

theorem execAvsCurrentRead_keep (amps : Nat) (ok : Bool) (s : State) :
    leaves State.keep s (execAvsCurrentRead amps ok s) := by
  unfold execAvsCurrentRead
  split <;> simp only [leaves_next, leaves_fault, ite_keep, ite_self, State.fault_keep, State.nextTick_keep,
    State.setF_keep]

theorem execSnowploughWindow_keep (s : State) : leaves State.keep s (execSnowploughWindow s) := by
  simp only [execSnowploughWindow, leaves_next, ite_keep, ite1_keep, ite_self, keep_mk, State.burstGo_keep,
    State.drawFree_keep, State.nextTick_keep, State.plough_keep, State.ramp_keep, State.setF_keep,
    State.slowRise_keep, State.wr_keep]

/-! ### Machine/RegRead.lean -/

theorem execPairLowRead_keep (fn : Fn) (bar : Bar) (off : Offset) (s : State) :
    leaves State.keep s (execPairLowRead fn bar off s) := by
  unfold execPairLowRead
  cases bar with
  | bar0 =>
    simp only [leaves_next, ite_keep, State.emit_keep, State.malformed_keep, State.hostAlloc_keep, State.read0_keep,
      ite_self]
  | bar2 =>
    dsimp only
    split
    · exact leaves_fault
    · simp only [leaves_next, ite_keep, State.emit_keep, State.malformed_keep, State.read2_keep, ite_self]
  | bar4 =>
    dsimp only
    split
    · exact leaves_fault
    · simp only [leaves_next, ite_keep, State.emit_keep, State.read4_keep, ite_self]

theorem execMalformedAccess_keep (fn : Fn) (access : BadAccess) (s : State) :
    leaves State.keep s (execMalformedAccess fn access s) := by
  unfold execMalformedAccess
  (repeat' split) <;> simp only [leaves_next, State.emit_keep, State.malformed_keep]

/-! ### Machine/Reset.lean -/

theorem execResetNRise_own (pins : ResetPins) (s : State) : leaves State.own s (execResetNRise pins s) := by
  simp only [execResetNRise, leaves_next, ite_own, ite_self, own_mk, State.leaveReset_own]

theorem execResetInternalElapsed_own (s : State) : leaves State.own s (execResetInternalElapsed s) := by
  unfold execResetInternalElapsed
  split <;> simp only [leaves_next, ite_own, ite_self, State.leaveReset_own, State.until_own]

theorem execPllsLocked_own (s : State) : leaves State.own s (execPllsLocked s) := by
  simp only [execPllsLocked, leaves_next, ite_own, ite_self, own_mk, State.setB_own]

theorem execFuseRead_own (avsOk : Bool) (s : State) : leaves State.own s (execFuseRead avsOk s) := by
  simp only [execFuseRead, leaves_next, ite_own, ite_self, own_mk, State.fault_own, State.setF_own]

theorem execPcieDetect_own (s : State) : leaves State.own s (execPcieDetect s) := by
  simp only [execPcieDetect, leaves_next, ite_own, ite_self, own_mk]

theorem execInitComplete_own (s : State) : leaves State.own s (execInitComplete s) := by
  have hzero : s.zeroizeAll.own = s.own := own_of_keep s.zeroizeAll_keep
  simp only [execInitComplete, leaves_next, ite_own, State.fence_own, State.enterDev_own, State.wr_own, own_mk, hzero,
    ite_self]

theorem execPcieConfigReady_own (s : State) : leaves State.own s (execPcieConfigReady s) := by
  simp only [execPcieConfigReady, leaves_next, ite_own, ite_self, own_mk]

theorem execFunctionLevelReset_keep (fn : Fn) (s : State) : leaves State.keep s (execFunctionLevelReset fn s) := by
  unfold execFunctionLevelReset
  dsimp only
  split
  · exact leaves_next.2 rfl
  split
  · rw [leaves_next, keep_mk, State.hostSideReset_keep]
  rw [leaves_next, State.irq_keep]
  split <;> rw [State.setB_keep, keep_mk, State.fnReset_keep] <;> split <;> simp only [State.chanReset_keep]

/-! ### Machine/Access.lean -/

theorem execI2cOffsetWrite_keep (t : I2cWrite) (s : State) : leaves State.keep s (execI2cOffsetWrite t s) := by
  simp only [execI2cOffsetWrite, leaves_next, ite_keep, ite_self, keep_mk, State.badAcc_keep]

theorem execI2cRead_keep (t : I2cFetch) (s : State) : leaves State.keep s (execI2cRead t s) := by
  simp only [execI2cRead, leaves_next, ite_keep, ite_self, State.emit_keep, State.i2cRegs_keep]

theorem execJtagInstruction_keep (i : JtagInstr) (s : State) : leaves State.keep s (execJtagInstruction i s) := by
  simp only [execJtagInstruction, leaves_next, ite_keep, ite_self, keep_mk, State.emit_keep]

/-! ### Machine/Seal.lean -/

theorem execCfgcrcRecheck_keep (s : State) : leaves State.keep s (execCfgcrcRecheck s) := by
  simp only [execCfgcrcRecheck, leaves_next, ite_keep, ite_self, State.fire_keep, State.nextTick_keep]

/-! ### Machine/Steps.lean -/

theorem execStepGo_keep (w : Word) (s : State) : leaves State.keep s (execStepGo w s) := by
  simp only [execStepGo, leaves_next, ite_keep, ite_self, implies_true, State.badAcc_keep, State.hostWr_keep,
    State.setF_keep, State.stepGo_keep]

theorem execStepApply_keep (s : State) : leaves State.keep s (execStepApply s) := by
  unfold execStepApply
  split <;> simp only [leaves_next, State.stepCount_keep, State.untilInstant_keep]

/-! ### Machine/Loader.lean -/

theorem execImageReadDone_own (image : List Byte) (s : State) : leaves State.own s (execImageReadDone image s) := by
  unfold execImageReadDone
  split <;> simp only [leaves_next, ite_own, ite_self, own_mk, State.loadFails_own, State.setF_own]

theorem execRmw32_own (s : State) : leaves State.own s (execRmw32 s) :=
  leaves_next.2 (State.onRecord_own _ _ _ _ fun t _ => (State.recStore_own ..).trans (own_of_keep (t.read0_keep ..)))

theorem execPoll32_own (s : State) : leaves State.own s (execPoll32 s) := by
  refine leaves_next.2 (State.onRecord_own _ _ _ _ fun t r => ?_)
  have hread : (t.read0 whoLoader (r.addr / 65536) (r.addr % 65536)).2.own = t.own := own_of_keep (t.read0_keep ..)
  dsimp only
  split
  · rw [State.recDone_own, hread]
  split
  · rw [State.recError_own, hread]
  split <;> exact hread

theorem execPoll32Limit_own (s : State) : leaves State.own s (execPoll32Limit s) := by
  unfold execPoll32Limit
  split <;> simp only [leaves_next, ite_own, ite_self, State.recError_own, State.until_own]

theorem execDelayRecord_own (s : State) : leaves State.own s (execDelayRecord s) :=
  leaves_next.2 (State.onRecord_own _ _ _ _ fun _ _ => rfl)

theorem execDelayExpire_own (s : State) : leaves State.own s (execDelayExpire s) := by
  unfold execDelayExpire
  split <;> simp only [leaves_next, ite_own, ite_self, State.recDone_own, State.until_own]

theorem execRecordEnd_own (s : State) : leaves State.own s (execRecordEnd s) := by
  refine leaves_next.2 (State.onRecord_own _ _ _ _ fun t _ => ?_)
  dsimp only
  split
  · exact State.applied_own _
  · rfl

/-! ## Every command -/

/-- No command touches the commands that wait behind it. -/
theorem exec_leaves_queue (c : Instr) (s : State) : leaves State.pending s (exec c s) := by
  cases c with
  | regWrite fn bar off w => exact queue_of_own (s.hostWrite_own _ _ _ _)
  | malformedAccess fn access => exact queue_of_keep (execMalformedAccess_keep fn access s)
  | pairLowRead fn bar off => exact queue_of_keep (execPairLowRead_keep fn bar off s)
  | pairLowWrite fn bar off w => exact queue_of_own (s.hostWrite_own _ _ _ _)
  | pairHighWrite fn bar off w => exact queue_of_own (s.hostWrite_own _ _ _ _)
  | blockEnableWrite page w => exact next_keep (State.hostWr_keep _ _ _ fun _ => State.blkctlWr_keep ..)
  | quiesceRequest page w => exact next_keep (State.hostWr_keep _ _ _ fun _ => State.blkctlWr_keep ..)
  | softReset page w => exact next_keep (State.hostWr_keep _ _ _ fun _ => State.blkctlWr_keep ..)
  | drainComplete page => exact queue_of_keep (execDrainComplete_keep page s)
  | quiesceTimeout page => exact queue_of_keep (execQuiesceTimeout_keep page s)
  | resetComplete page => exact queue_of_keep (execResetComplete_keep page s)
  | counterClear fn bar off w => exact queue_of_own (s.hostWrite_own _ _ _ _)
  | counterSelectWrite page n w => exact queue_of_keep (execCounterSelectWrite_keep page n w s)
  | resetNAssert => exact next_own (State.cleared_own ..)
  | resetNRise pins => exact queue_of_own (execResetNRise_own pins s)
  | fuseRead avsOk => exact queue_of_own (execFuseRead_own avsOk s)
  | pcieDetect => exact queue_of_own (execPcieDetect_own s)
  | initComplete => exact queue_of_own (execInitComplete_own s)
  | pcieConfigReady => exact queue_of_own (execPcieConfigReady_own s)
  | fullReset w => exact next_own (State.rstctlWr_own ..)
  | hotReset => exact next_keep (State.linkReset_keep ..)
  | pcieLinkDown => exact next_keep (State.linkReset_keep ..)
  | functionLevelReset fn => exact queue_of_keep (execFunctionLevelReset_keep fn s)
  | imageReadDone image => exact queue_of_own (execImageReadDone_own image s)
  | write32 => exact next_own (State.onRecord_own _ _ _ _ fun _ _ => State.recStore_own ..)
  | write64 => exact next_own (State.onRecord_own _ _ _ _ fun _ _ => State.recStore_own ..)
  | rmw32 => exact queue_of_own (execRmw32_own s)
  | fill32 => exact next_own (State.onRecord_own _ _ _ _ fun _ _ => State.recStore_own ..)
  | dataRecord => exact next_own (State.onRecord_own _ _ _ _ fun _ _ => State.recStore_own ..)
  | poll32 => exact queue_of_own (execPoll32_own s)
  | poll32Limit => exact queue_of_own (execPoll32Limit_own s)
  | delayRecord => exact queue_of_own (execDelayRecord_own s)
  | delayExpire => exact queue_of_own (execDelayExpire_own s)
  | recordEnd => exact queue_of_own (execRecordEnd_own s)
  | loadAbort w => exact next_own (State.loadctlWr_own ..)
  | validateGo w => exact next_own (State.hostWr_own _ _ _ fun _ => State.validateWr_own ..)
  | validationEnd => exact next_own (State.valEnd_own ..)
  | sealConfig w => exact next_own (State.hostWr_own _ _ _ fun _ => State.sealWr_own ..)
  | runGo w => exact next_own (State.hostWr_own _ _ _ fun _ => State.runctl_own ..)
  | cfgcrcRecheck => exact queue_of_keep (execCfgcrcRecheck_keep s)
  | portEnable p => exact queue_of_keep (execPortEnable_keep p s)
  | portDisable p => exact next_keep (State.portOff_keep ..)
  | trainingComplete p => exact queue_of_keep (execTrainingComplete_keep p s)
  | trainTimeout p => exact queue_of_keep (execTrainTimeout_keep p s)
  | upholdExpire p => exact queue_of_keep (execUpholdExpire_keep p s)
  | lockLost p cause => exact queue_of_keep (execLockLost_keep p cause s)
  | downholdExpire p => exact queue_of_keep (execDownholdExpire_keep p s)
  | frameReceived p frame fec => exact next_keep (State.frameIn_keep ..)
  | icvComplete p => exact next_keep (State.icvNext_keep ..)
  | pfcReceived p frame fec => exact next_keep (State.frameIn_keep ..)
  | pauseReceived p frame fec => exact next_keep (State.frameIn_keep ..)
  | pauseExpire p c => exact queue_of_keep (execPauseExpire_keep p c s)
  | pfcSend p => exact queue_of_keep (execPfcSend_keep p s)
  | pfcRefresh p => exact queue_of_keep (execPfcRefresh_keep p s)
  | verifySend p => exact queue_of_keep (execVerifySend_keep p s)
  | verifyResponse p => exact queue_of_keep (execVerifyResponse_keep p s)
  | verifyFail p => exact queue_of_keep (execVerifyFail_keep p s)
  | frameTransmit p => exact queue_of_keep (execFrameTransmit_keep p s)
  | tsfTagRead g => exact queue_of_keep (execTsfTagRead_keep g s)
  | tsfPop g w => exact queue_of_keep (execTsfPop_keep g w s)
  | mogulArm g w => exact next_keep (State.hostWr_keep _ _ _ fun _ => State.mogArm_keep ..)
  | mogulDelayExpire g => exact queue_of_keep (execMogulDelayExpire_keep g s)
  | mogulReorderRelease g => exact queue_of_keep (execMogulReorderRelease_keep g s)
  | mogulFlapEnd p dir => exact queue_of_keep (execMogulFlapEnd_keep p dir s)
  | stepGo w => exact queue_of_keep (execStepGo_keep w s)
  | stepApply => exact queue_of_keep (execStepApply_keep s)
  | holdoverEntry => exact queue_of_keep (execHoldoverEntry_keep s)
  | holdoverExit => exact queue_of_keep (execHoldoverExit_keep s)
  | ppsCapture => exact queue_of_keep (execPpsCapture_keep s)
  | ppsOutRise => exact queue_of_keep (execPpsOutRise_keep s)
  | ppsOutFall => exact queue_of_keep (execPpsOutFall_keep s)
  | timerArm n w => exact next_keep (State.hostWr_keep _ _ _ fun _ => State.timerWr_keep ..)
  | timerFire n => exact queue_of_keep (execTimerFire_keep n s)
  | ingressPacket ix => exact queue_of_keep (execIngressPacket_keep ix s)
  | learnInsert h => exact next_keep (State.learnInsert_keep ..)
  | learnNoticeWrite h => exact next_keep (State.noticeWrite_keep ..)
  | holdoffExpire h => exact queue_of_keep (execHoldoffExpire_keep h s)
  | packetAdmit c => exact queue_of_keep (execPacketAdmit_keep c s)
  | lastCellArrival ix => exact queue_of_keep (execLastCellArrival_keep ix s)
  | replicateCopies => exact queue_of_keep (execReplicateCopies_keep s)
  | spillWriteDone => exact queue_of_keep (execSpillWriteDone_keep s)
  | refillReturn => exact queue_of_keep (execRefillReturn_keep s)
  | agingDue q => exact queue_of_keep (execAgingDue_keep q s)
  | mcEntryCommit w => exact next_keep (State.hostWr_keep _ _ _ fun _ => State.mcentWr_keep ..)
  | rinkEnable k w => exact next_keep (State.hostWr_keep _ _ _ fun _ => State.rinkWr_keep ..)
  | pcLatch w => exact next_keep (State.hostWr_keep _ _ _ fun _ => State.pcidxWr_keep ..)
  | schGrant p => exact queue_of_keep (execSchGrant_keep p s)
  | shaperCommit off w => exact queue_of_keep (execShaperCommit_keep off w s)
  | policerCommit w => exact queue_of_keep (execPolicerCommit_keep w s)
  | gateGo p w => exact queue_of_keep (execGateGo_keep p w s)
  | gateListStart p => exact next_keep (State.gateStart_keep ..)
  | gateEntryChange p => exact next_keep (State.gateChange_keep ..)
  | egressPacket ix => exact queue_of_keep (execEgressPacket_keep ix s)
  | eobHeartbeat g => exact queue_of_keep (execEobHeartbeat_keep g s)
  | heartbeatSend g m => exact queue_of_keep (execHeartbeatSend_keep g m s)
  | noticeReceived k bytes => exact queue_of_keep (execNoticeReceived_keep k bytes s)
  | noticeTruncated k => exact queue_of_keep (execNoticeTruncated_keep k s)
  | hostNotice w => exact next_keep (State.hostWr_keep _ _ _ fun _ => State.hnot2_keep ..)
  | capacityApply g m => exact next_keep (State.capacityApply_keep ..)
  | memberJoin g m => exact queue_of_keep (execMemberJoin_keep g m s)
  | memberExclude g m w => exact queue_of_own (s.hostWrite_own 0 .bar0 (BLG.MCFG g.val m.val) w)
  | shimmedFrameReceived p => exact queue_of_keep (execShimmedFrameReceived_keep p s)
  | eddyDeliver g => exact queue_of_keep (execEddyDeliver_keep g s)
  | gapLossTimeout g => exact queue_of_keep (execGapLossTimeout_keep g s)
  | syncTimeout g => exact queue_of_keep (execSyncTimeout_keep g s)
  | rxActiveTimeout g m => exact queue_of_keep (execRxActiveTimeout_keep g m s)
  | eddySpillDone => exact queue_of_keep (execEddySpillDone_keep s)
  | eddyRefillReturn => exact queue_of_keep (execEddyRefillReturn_keep s)
  | pageGrant => exact next_keep (State.pageClock_keep ..)
  | pageReturn => exact queue_of_keep (execPageReturn_keep s)
  | hostalloc => exact next_keep (State.hostAlloc_keep ..)
  | hostPageReturn w => exact queue_of_own (s.hostWrite_own 0 .bar0 BPM.HOSTRET_HI w)
  | cacheRefill => exact queue_of_keep (execCacheRefill_keep s)
  | ringReadReturn => exact queue_of_keep (execRingReadReturn_keep s)
  | cacheWriteback => exact queue_of_keep (execCacheWriteback_keep s)
  | ringBuildStart => exact queue_of_keep (execRingBuildStart_keep s)
  | ringBuildEnd => exact queue_of_keep (execRingBuildEnd_keep s)
  | reclaimHost w => exact next_keep (State.hostWO_keep _ _ _ _ fun _ => State.reclaimWr_keep ..)
  | reclaimEnd o => exact queue_of_keep (execReclaimEnd_keep o s)
  | addEntry => exact next_keep (State.tblOp_keep ..)
  | delEntry => exact next_keep (State.tblOp_keep ..)
  | findEntry => exact next_keep (State.tblOp_keep ..)
  | rowread => exact next_keep (State.tblOp_keep ..)
  | rowwrite => exact next_keep (State.tblOp_keep ..)
  | rootset => exact next_keep (State.tblOp_keep ..)
  | pondwr => exact next_keep (State.tblOp_keep ..)
  | ponddel => exact next_keep (State.tblOp_keep ..)
  | lockRow => exact next_keep (State.tblOp_keep ..)
  | unlockRow => exact next_keep (State.tblOp_keep ..)
  | flushPort => exact next_keep (State.tblOp_keep ..)
  | commandResume => exact next_keep (State.cmdResume_keep ..)
  | tblComplete => exact queue_of_keep (execTblComplete_keep s)
  | completionRead => exact next_keep (State.cmplLatch_keep ..)
  | completionPop w => exact queue_of_keep (execCompletionPop_keep w s)
  | foldStart => exact queue_of_keep (execFoldStart_keep s)
  | foldEnd => exact queue_of_keep (execFoldEnd_keep s)
  | agingPass h => exact queue_of_keep (execAgingPass_keep h s)
  | tableScrub h row flip => exact queue_of_keep (execTableScrub_keep h row flip s)
  | shadowCompare h bank row err => exact queue_of_keep (execShadowCompare_keep h bank row err s)
  | backgroundSlot ix => exact queue_of_keep (execBackgroundSlot_keep ix s)
  | commitOpen w => exact next_keep (State.hostWO_keep _ _ _ _ fun _ => State.verCtl_keep ..)
  | commitRefused => exact queue_of_keep (execCommitRefused_keep s)
  | commitSwitch => exact queue_of_keep (execCommitSwitch_keep s)
  | abortCommit w => exact next_keep (State.hostWO_keep _ _ _ _ fun _ => State.verCtl_keep ..)
  | abortUndoEnd => exact queue_of_keep (execAbortUndoEnd_keep s)
  | cpuTxInject fn q desc buf => exact queue_of_keep (execCpuTxInject_keep fn q desc buf s)
  | cpuRxDeliver fn q ring => exact queue_of_keep (execCpuRxDeliver_keep fn q ring s)
  | qpHoldoffExpire fn q => exact queue_of_keep (execQpHoldoffExpire_keep fn q s)
  | dmaDescFetch ch cpl => exact queue_of_keep (execDmaDescFetch_keep ch cpl s)
  | dmaEnable fn w => exact next_keep (State.userDctl_keep ..)
  | dmaStart => exact queue_of_keep (execDmaStart_keep s)
  | dmaReadReturn cpl => exact next_keep (State.dmaRet_keep ..)
  | dmaComplete => exact queue_of_keep (execDmaComplete_keep s)
  | dmaStop fn w => exact next_keep (State.userDctl_keep ..)
  | keyImport fn w => exact next_keep (State.userWr_keep _ _ _ _ _ fun _ => State.importGo_keep ..)
  | importResult fn => exact queue_of_keep (execImportResult_keep fn s)
  | keyErase fn bar w => exact queue_of_keep (execKeyErase_keep fn bar w s)
  | oldKeyRelease slot => exact queue_of_keep (execOldKeyRelease_keep slot s)
  | zeroize w => exact next_keep (State.hostWO_keep _ _ _ _ fun _ => State.zeroizeWr_keep ..)
  | spiLoad frame => exact leaves_next.2 (s.spiTxn_pending _)
  | spiErase frame => exact leaves_next.2 (s.spiTxn_pending _)
  | spiResult frame => exact leaves_next.2 (s.spiTxn_pending _)
  | progds frame => exact leaves_next.2 (s.spiTxn_pending _)
  | encodingSaSet fn w => exact next_keep (State.userWr_keep _ _ _ _ _ fun _ => State.ctxCfgWr_keep ..)
  | channelBringup n => exact queue_of_keep (execChannelBringup_keep n s)
  | trainingDone n step => exact queue_of_keep (execTrainingDone_keep n step s)
  | retrainDone n step => exact queue_of_keep (execRetrainDone_keep n step s)
  | dramRequest port => exact queue_of_keep (execDramRequest_keep port s)
  | dramReadComplete tag corr unc => exact queue_of_keep (execDramReadComplete_keep tag corr unc s)
  | dramWriteComplete tag errs => exact queue_of_keep (execDramWriteComplete_keep tag errs s)
  | readUrgent tag => exact queue_of_keep (execReadUrgent_keep tag s)
  | readPanic tag => exact queue_of_keep (execReadPanic_keep tag s)
  | refreshGroup k => exact next_keep (State.refresh_keep ..)
  | rowIdleClose n bank => exact queue_of_keep (execRowIdleClose_keep n bank s)
  | mr4Read n tref => exact queue_of_keep (execMr4Read_keep n tref s)
  | zqLatch n => exact queue_of_keep (execZqLatch_keep n s)
  | phyTracking n ds => exact queue_of_keep (execPhyTracking_keep n ds s)
  | dramScrub n corr unc => exact queue_of_keep (execDramScrub_keep n corr unc s)
  | forcedMaintSlot n => exact queue_of_keep (execForcedMaintSlot_keep n s)
  | selfRefreshEntry n => exact queue_of_keep (execSelfRefreshEntry_keep n s)
  | selfRefreshExit n => exact queue_of_keep (execSelfRefreshExit_keep n s)
  | freqChangeGo w => exact next_keep (State.goWr_keep _ _ _ _ fun _ _ => State.fctl_keep ..)
  | freqGroupStart => exact queue_of_keep (execFreqGroupStart_keep s)
  | freqGroupDone => exact queue_of_keep (execFreqGroupDone_keep s)
  | faultEvent det => exact queue_of_own (execFaultEvent_own det s)
  | faultInject page w => exact next_keep (State.hostWO_keep _ _ _ _ fun _ => State.forceWr_keep ..)
  | faultAck w => exact next_own (State.hostWO_own _ _ _ _ fun _ => State.fltAck_own ..)
  | reactionWrite w => exact next_own (State.hostWr_own _ _ _ fun _ => State.rxvalWr_own ..)
  | recordRead frozen => exact queue_of_keep (execRecordRead_keep frozen s)
  | conseqWindowEnd page => exact queue_of_keep (execConseqWindowEnd_keep page s)
  | fenceCountDecay page => exact queue_of_keep (execFenceCountDecay_keep page s)
  | faultPinSample p n => exact queue_of_keep (execFaultPinSample_keep p n s)
  | legacyClear w => exact next_keep (State.hostWO_keep _ _ _ _ fun _ => State.legClr_keep ..)
  | supplySample core vmon => exact queue_of_own (execSupplySample_own core vmon s)
  | holdResume => exact queue_of_own (execHoldResume_own s)
  | thermalRead temps => exact queue_of_keep (execThermalRead_keep temps s)
  | avsStep => exact queue_of_keep (execAvsStep_keep s)
  | avsCurrentRead amps ok => exact queue_of_keep (execAvsCurrentRead_keep amps ok s)
  | snowploughWindow => exact queue_of_keep (execSnowploughWindow_keep s)
  | gaugeSweep => exact queue_of_keep (execGaugeSweep_keep s)
  | snapshotGo w => exact next_keep (State.goWr_keep _ _ _ _ fun _ _ => State.snapCtl_keep ..)
  | snapshotLatch => exact next_keep (State.snapLatch_keep ..)
  | snapshotDone => exact queue_of_keep (execSnapshotDone_keep s)
  | freezeGo w => exact next_keep (State.goWr_keep _ _ _ _ fun _ _ => State.freezeCtl_keep ..)
  | freezeApply => exact next_keep (State.freezeChange_keep ..)
  | i2cOffsetWrite t => exact queue_of_keep (execI2cOffsetWrite_keep t s)
  | i2cRead t => exact queue_of_keep (execI2cRead_keep t s)
  | evtLaneUp l => exact queue_of_keep (execEvtLaneUp_keep l s)
  | evtLaneDown l => exact queue_of_keep (execEvtLaneDown_keep l s)
  | helloSend => exact queue_of_keep (execHelloSend_keep s)
  | helloReceived frame => exact next_own (State.evtRx_own ..)
  | journalSend => exact queue_of_keep (execJournalSend_keep s)
  | journalReceived frame => exact next_own (State.evtRx_own ..)
  | ackSend => exact queue_of_keep (execAckSend_keep s)
  | ackReceived frame => exact next_own (State.evtRx_own ..)
  | roleRequest frame => exact next_own (State.evtRx_own ..)
  | roleAccept frame => exact next_own (State.evtRx_own ..)
  | roleRefuse frame => exact next_own (State.evtRx_own ..)
  | syncreq frame => exact next_own (State.evtRx_own ..)
  | roleDecision => exact queue_of_own (execRoleDecision_own s)
  | claimStart => exact queue_of_own (execClaimStart_own s)
  | claimRaise => exact queue_of_keep (execClaimRaise_keep s)
  | claimSuccess => exact queue_of_own (execClaimSuccess_own s)
  | peerPinChange samples => exact queue_of_own (execPeerPinChange_own samples s)
  | takeOver => exact queue_of_own (execTakeOver_own s)
  | handoffRequest w => exact next_own (State.hostWO_own _ _ _ _ fun _ => State.evtCtl_own ..)
  | handoffTimeout => exact queue_of_keep (execHandoffTimeout_keep s)
  | forceRole w => exact next_own (State.hostWO_own _ _ _ _ fun _ => State.evtCtl_own ..)
  | resyncRequest w => exact next_own (State.hostWO_own _ _ _ _ fun _ => State.evtCtl_own ..)
  | bulkRow => exact queue_of_keep (execBulkRow_keep s)
  | retransmit => exact queue_of_keep (execRetransmit_keep s)
  | ackTimeout => exact queue_of_keep (execAckTimeout_keep s)
  | deadTimeout => exact queue_of_keep (execDeadTimeout_keep s)
  | resetInternalElapsed => exact queue_of_own (execResetInternalElapsed_own s)
  | pllsLocked => exact queue_of_own (execPllsLocked_own s)
  | pcsFecLock p => exact queue_of_keep (execPcsFecLock_keep p s)
  | pcieLinkUp speed width flit => exact queue_of_own (execPcieLinkUp_own speed width flit s)
  | configRequest fn c => exact queue_of_keep (execConfigRequest_keep fn c s)
  | completionTimeout => exact queue_of_keep (execCompletionTimeout_keep s)
  | bucketCredit => exact queue_of_keep (execBucketCredit_keep s)
  | drcpllRelock k => exact queue_of_keep (execDrcpllRelock_keep k s)
  | journalGapTimeout => exact queue_of_keep (execJournalGapTimeout_keep s)
  | keyspiFormat frame => exact leaves_next.2 (s.spiTxn_pending _)
  | evtBadframe frame => exact next_own (State.evtRx_own ..)
  | badargOp => exact queue_of_keep (execBadargOp_keep s)
  | jtagInstruction ix => exact queue_of_keep (execJtagInstruction_keep ix s)

/-- Settles O55: a step is the front command's, run with the queue's rest (`step_front`), and that command leaves the
  rest
alone (`exec_leaves_queue`). -/
theorem queueIsFirstInFirstOut : Obligations.QueueIsFirstInFirstOut := by
  intro c l s t hfront hstep
  rw [step_front hfront] at hstep
  exact exec_leaves_queue c _ t hstep

/-! ## A packet's way through an ingress piste (R104, R168) -/

/-- The state with blanked what a piste's work on a packet may change beside its inputs and results: registers, tables,
version slots, policer levels, faults on their way, the journal, and what is sent with the pending bits of vectors. -/
def State.bare (s : State) : State :=
  { s with
    regs := [], tbl := {}, ver := {}, sch := {}, flt := {}, evt := {}, out := [], pci := { s.pci with vecPend := [] } }

theorem eq_of_bare {s t : State} (h : t.bare = s.bare) :
    t = { s with
      regs := t.regs, tbl := t.tbl, ver := t.ver, sch := t.sch, flt := t.flt, evt := t.evt, out := t.out,
      pci := s.pciBut t } :=
  congrArg (fun b : State => { b with
    regs := t.regs, tbl := t.tbl, ver := t.ver, sch := t.sch, flt := t.flt, evt := t.evt, out := t.out,
    pci := b.pciBut t }) h

theorem ports_of_bare {s t : State} (h : t.bare = s.bare) : t.ports = s.ports := (congrArg State.ports h :)

/-- What may change may also be set outright. -/
theorem bare_mk (t : State) (regs : KMap Word) (tbl : Tbl) (ver : Ver) (sch : Sch) (flt : Flt) (evt : Evt)
    (out : List Out) :
    State.bare { t with regs := regs, tbl := tbl, ver := ver, sch := sch, flt := flt, evt := evt, out := out } =
      t.bare := rfl

theorem ite_bare (c : Prop) [Decidable c] (a b : State) : (if c then a else b).bare = if c then a.bare else b.bare :=
  apply_ite State.bare c a b

theorem foldl_bare {α : Type} (f : State → α → State) (l : List α) (s : State) (h : ∀ t a, (f t a).bare = t.bare) :
    (l.foldl f s).bare = s.bare := by
  induction l generalizing s with
  | nil => rfl
  | cons a l ih => rw [List.foldl_cons, ih, h]

theorem foldl_bare_fst {α β : Type} (f : State × β → α → State × β) (l : List α) (x : State × β)
    (h : ∀ y a, (f y a).1.bare = y.1.bare) : (l.foldl f x).1.bare = x.1.bare := by
  induction l generalizing x with
  | nil => rfl
  | cons a l ih => rw [List.foldl_cons, ih, h]

theorem State.wr_bare (s : State) (k : Nat) (v : Word) : (s.wr k v).bare = s.bare := rfl
theorem State.setF_bare (s : State) (k hi lo v : Nat) : (s.setF k hi lo v).bare = s.bare := s.wr_bare ..
theorem State.setB_bare (s : State) (k n : Nat) : (s.setB k n).bare = s.bare := s.setF_bare ..
theorem State.addF_bare (s : State) (k hi lo n : Nat) : (s.addF k hi lo n).bare = s.bare := s.setF_bare ..
theorem State.bump_bare (s : State) (k : Nat) : (s.bump k).bare = s.bare := s.addF_bare ..
theorem State.hold_bare (s : State) (v : Nat) : (s.hold v).bare = s.bare := s.addF_bare ..
theorem State.setHalf_bare (s : State) (h : Nat) (v : HalfTbl) : (s.setHalf h v).bare = s.bare := by
  unfold State.setHalf
  split <;> rfl

theorem State.wr64_bare (s : State) (lo hi v : Nat) : (s.wr64 lo hi v).bare = s.bare := by
  rw [State.wr64, State.wr_bare, State.wr_bare]

theorem State.cntAdd_bare (s : State) (page n amt : Nat) : (s.cntAdd page n amt).bare = s.bare := by
  rw [State.cntAdd, State.wr64_bare]

theorem State.event_bare (s : State) (page code amt : Nat) (q : Nat → Bool) :
    (s.event page code amt q).bare = s.bare := by
  unfold State.event
  split
  · rfl
  · exact foldl_bare _ _ _ fun t n => by simp only [ite_bare, State.cntAdd_bare, ite_self]

theorem State.sendMsix_bare (s : State) (u v : Nat) : (s.sendMsix u v).bare = s.bare := rfl

theorem State.irq_bare (s : State) (page n : Nat) : (s.irq page n).bare = s.bare := by
  unfold State.irq State.irqEdge
  split
  · rw [State.sendMsix_bare, State.setB_bare]
  · exact s.setB_bare ..

theorem State.fire_bare (s : State) (page src : Nat) (inj : Bool) (info : Word) :
    (s.fire page src inj info).bare = s.bare := by
  unfold State.fire
  extract_lets flagged counted shown
  have hcounted : counted.bare = s.bare := by
    simp only [counted, flagged, ite_bare, State.addF_bare, State.setB_bare, ite_self]
  have hshown : shown.bare = s.bare := (counted.event_bare ..).trans hcounted
  split
  · exact hshown
  · rw [bare_mk, hshown]

/-! ### The journal (R379, R380) -/

theorem State.setPeer_bare (s : State) (v : Nat) : (s.setPeer v).bare = s.bare := by
  simp only [State.setPeer, ite_bare, State.irq_bare, State.setF_bare, ite_self]

theorem State.zero_bare (s : State) (ks : List Nat) : (s.zero ks).bare = s.bare :=
  foldl_bare _ _ _ fun t k => t.wr_bare k 0

theorem State.journalPut_bare (s : State) (e : JEntry) : (s.journalPut e).bare = s.bare := rfl

theorem State.resyncPoll_bare (s : State) : s.resyncPoll.bare = s.bare := by
  simp only [State.resyncPoll, State.bulkBegin, ite_bare, State.journalPut_bare, bare_mk, State.zero_bare,
    State.bump_bare, State.setPeer_bare, ite_self]

theorem State.peerStale_bare (s : State) : s.peerStale.bare = s.bare := by
  simp only [State.peerStale, State.resyncPoll_bare, bare_mk, ite_bare, State.irq_bare, State.bump_bare,
    State.setPeer_bare, ite_self]

theorem State.journal_bare (s : State) (e : JEntry) : (s.journal e).bare = s.bare := by
  simp only [State.journal, ite_bare, State.journalPut_bare, State.journalFull, State.peerStale_bare,
    State.fault, State.fire_bare, ite_self]

/-! ### Version slots (R160, R163) -/

theorem State.retireList_bare (s : State) (l : List Nat) : (s.retireList l).bare = s.bare := by
  induction l generalizing s with
  | nil => rfl
  | cons v l ih =>
    unfold State.retireList
    split
    · split
      · rw [ih, State.jVer, State.journal_bare]
        rfl
      · rfl
    · exact ih s

theorem State.release_bare (s : State) (v : Nat) : (s.release v).bare = s.bare := by
  rw [State.release, State.retire, State.dropFolded, bare_mk, State.retireList_bare, State.setF_bare]

/-! ### Learning (R142, R143) -/

theorem State.notice_bare (s : State) (h : Nat) (n : Notice) : (s.notice h n).bare = s.bare := by
  simp only [State.notice, ite_bare, State.setHalf_bare, State.irq_bare, State.bump_bare, ite_self]

theorem State.moveCand_bare (s : State) (h : Nat) (key : BitVec 64) (p q : Nat) :
    (s.moveCand h key p q).bare = s.bare := by
  rw [State.moveCand, State.noticeOf, State.notice_bare, State.bump_bare]

theorem State.learnEvent_bare (s : State) (h : Nat) (key : BitVec 64) (q : Nat) (ent : Option Nat) (part : Nat) :
    (s.learnEvent h key q ent part).bare = s.bare := by
  unfold State.learnEvent
  split
  · rfl
  dsimp only
  split
  · simp only [ite_bare, State.bump_bare, State.moveCand_bare, State.setHalf_bare, State.holdoffDrop, ite_self]
  split
  · simp only [State.irq_bare, State.bump_bare, State.holdoffDrop, State.setHalf_bare]
  split
  · simp only [bare_mk, State.holdoffDrop, State.setHalf_bare]
  · simp only [State.moveCand_bare, State.holdoffDrop, State.setHalf_bare]

theorem State.learnLookup_bare (s : State) (h part : Nat) (p : Pkt) (ws : List Nat) (l : Look) :
    (s.learnLookup h part p ws l).bare = s.bare := by
  simp only [State.learnLookup, ite_bare, State.learnEvent_bare, ite_self]

/-! ### Stages (R104 to R109) -/

theorem State.lookEffect_bare (s : State) (h res resid : Nat) (source : Bool) (l : Look) :
    (s.lookEffect h res resid source l).bare = s.bare := by
  unfold State.lookEffect
  extract_lets half marked told
  have hmarked : marked.bare = s.bare := by
    dsimp only [marked]
    split
    · simp only [ite_bare, State.setHalf_bare, ite_self]
    · rfl
  have htold : told.bare = s.bare := by
    simp only [told, ite_bare, State.irq_bare, State.bump_bare, hmarked, ite_self]
  split
  · exact htold
  · simp only [ite_bare, State.fire_bare, htold, ite_self]

theorem State.raise_bare (s : State) (g exc code : Nat) : (s.raise g exc code).1.bare = s.bare := by
  simp only [State.raise, apply_ite Prod.fst, ite_bare, State.event_bare, State.irq_bare, State.bump_bare, ite_self]

theorem State.meter_bare (s : State) (h ix : Nat) (blind : Bool) (len pre : Nat) :
    (s.meter h ix blind len pre).1.bare = s.bare := by
  unfold State.meter
  dsimp only
  split <;> rfl

theorem State.stageLook_bare (s : State) (g i : Nat) (cfg : Word) (tag : Nat) (ws : List Nat) :
    (s.stageLook g i cfg tag ws).1.bare = s.bare := s.lookEffect_bare ..

theorem State.ingressStage_bare (g : Nat) (p : Pkt) (r : PRes) (x : State × StageSt) (i : Nat) :
    (State.ingressStage g p r x i).1.bare = x.1.bare := by
  unfold State.ingressStage
  dsimp only
  split
  · rfl
  split
  · simp only [ite_bare, State.bump_bare, State.stageLook_bare, ite_self]
  · simp only [apply_ite Prod.fst, ite_bare, State.raise_bare, State.irq_bare, State.event_bare, State.bump_bare,
      State.learnLookup_bare, State.stageLook_bare, ite_self]

/-! ### Results for TMG -/

/-- The piste hands results on one after the other. -/
def State.handAll (s : State) (g : Nat) (l : List IngOut) : State := l.foldl (fun t o => t.handOn g o) s

theorem State.handAll_eq (s : State) (g : Nat) (l : List IngOut) :
    s.handAll g l = { s with ips := (s.handAll g l).ips } := by
  induction l generalizing s with
  | nil => rfl
  | cons o l ih => exact ih (s.handOn g o)

theorem State.ip_handAll (s : State) (g : Nat) (l : List IngOut) :
    (s.handAll g l).ip g = { s.ip g with out := (s.ip g).out ++ l } := by
  induction l generalizing s with
  | nil => simp [State.handAll]
  | cons o l ih =>
    refine (ih (s.handOn g o)).trans ?_
    simp [State.handOn]

theorem State.mapKept_handAll (s : State) (g : Nat) (l : List IngOut) : mapKept s.ips (s.handAll g l).ips [g] := by
  induction l generalizing s with
  | nil => exact fun _ _ => rfl
  | cons o l ih =>
    intro k hk
    refine (ih (s.handOn g o) k hk).trans ?_
    rw [State.handOn, State.setIp, kget?_kset, if_neg (by simpa using hk)]

/-- The results in `l` carry the packet: its bytes, source port, pass, version and what its reception leaves open. -/
def carry (p : Pkt) (l : List IngOut) : Prop :=
  ∀ o ∈ l, o.pkt.bytes = p.bytes ∧ o.pkt.m.srcPort = p.m.srcPort ∧ o.pkt.m.vertag = p.m.vertag ∧ o.pkt.tok = p.tok ∧
    o.pkt.stored = p.stored ∧ o.pkt.m.pass = p.m.pass

/-- From `s` the piste has come to `t` by handing on at most `n` results that carry the packet. -/
def handed (g n : Nat) (p : Pkt) (s t : State) : Prop :=
  ∃ l, t.bare = s.bare.handAll g l ∧ l.length ≤ n ∧ carry p l

theorem handed_none {g n : Nat} {p : Pkt} {s t : State} (h : t.bare = s.bare) : handed g n p s t :=
  ⟨[], h, Nat.zero_le _, fun _ ho => nomatch ho⟩

theorem handed_one {g : Nat} {p : Pkt} {s t : State} (o : IngOut) (h : t.bare = s.bare) (hc : carry p [o]) :
    handed g 1 p s (t.handOn g o) := ⟨[o], congrArg (·.handOn g o) h, Nat.le_refl _, hc⟩

theorem handed_trans {g m n : Nat} {p : Pkt} {s t u : State} (h : handed g m p s t) (k : handed g n p t u) :
    handed g (m + n) p s u := by
  obtain ⟨l, ht, hm, hl⟩ := h
  obtain ⟨j, hu, hn, hj⟩ := k
  refine ⟨l ++ j, ?_, ?_, fun o ho => (List.mem_append.mp ho).elim (hl o) (hj o)⟩
  · rw [hu, ht, State.handAll, State.handAll, State.handAll, List.foldl_append]
  · rw [List.length_append]
    omega

theorem handed_mono {g m n : Nat} {p : Pkt} {s t : State} (h : handed g m p s t) (hmn : m ≤ n) : handed g n p s t :=
  let ⟨l, ht, hm, hl⟩ := h
  ⟨l, ht, Nat.le_trans hm hmn, hl⟩

theorem State.toHost_handed (s : State) (g : Nat) (copy : Bool) (p : Pkt) : handed g 1 p s (s.toHost g copy p) := by
  unfold State.toHost
  extract_lets w0 w1 x
  have hx : x.1.bare = s.bare := by simp only [x, apply_ite Prod.fst, ite_bare, State.meter_bare, ite_self]
  split
  · exact handed_none (by rw [State.release_bare, State.bump_bare, hx])
  · exact handed_one _ hx (by simp [carry, IngOut.pkt])

theorem State.actionStep_handed (s : State) (g : Nat) (r : PRes) (t : StageSt) (p : Pkt) :
    handed g 1 p s (s.actionStep g r t p) := by
  unfold State.actionStep
  extract_lets a0 a1 pre x s' express mc src m
  have hx : s'.bare = s.bare := by
    dsimp only [s', x]
    split
    · exact s.meter_bare ..
    · rfl
  split
  · exact handed_none (by rw [State.release_bare, State.bump_bare, hx])
  split
  · exact handed_none (by rw [State.release_bare, State.bump_bare, hx])
  · exact handed_one _ hx (by simp [carry, IngOut.pkt, m, src])



/-- The packet as the piste stamps it: the CURRENT version on a first pass, its own version on a Lift pass (R160). -/
def State.versioned (s : State) (p : Pkt) : Pkt :=
  { p with m := { p.m with vertag := if p.m.pass = 0 then s.ver.current.getD 0 else p.m.vertag } }

/-- What is handed on for one form of the packet is handed on for another with the same bytes, source and stamp. -/
theorem handed_of_carry {g n : Nat} {p q : Pkt} {s t : State} (h : handed g n q s t)
    (hc : ∀ l, carry q l → carry p l) : handed g n p s t :=
  let ⟨l, ht, hn, hl⟩ := h
  ⟨l, ht, hn, hc l hl⟩

theorem handed_after {g n : Nat} {p : Pkt} {s t u : State} (h : t.bare = s.bare) (k : handed g n p t u) :
    handed g n p s u :=
  let ⟨l, ht, hn, hl⟩ := k
  ⟨l, ht.trans (congrArg (·.handAll g l) h), hn, hl⟩

theorem State.ingress_handed (s : State) (g : Nat) (p : Pkt) : handed g 2 (s.versioned p) s (s.ingress g p) := by
  unfold State.ingress
  extract_lets first lift tag s0 q s1 s2 src1 p1 r src2 p2 cls0 x t0 y s3 t src3 p3
  have h0 : s0.bare = s.bare := by
    simp only [s0, ite_bare, State.event_bare, State.hold_bare, ite_self]
  have h2 : s2.bare = s.bare := by
    rw [State.event_bare, State.event_bare, h0]
  have hx : x.1.bare = s.bare := (foldl_bare_fst _ _ _ fun a c => a.1.raise_bare g a.2 c).trans h2
  have h3 : s3.bare = s.bare := (foldl_bare_fst _ _ _ fun a i => State.ingressStage_bare g p2 r a i).trans hx
  have hc : ∀ l, carry p3 l → carry (s.versioned p) l := by
    intro l hl
    dsimp only [p3, src3, p2, src2] at hl
    split at hl <;> exact hl
  split
  · exact handed_none ((s3.release_bare tag).trans h3)
  · exact handed_after h3 (handed_mono (handed_of_carry (s3.toHost_handed g false p3) hc) (by decide))
  · refine handed_after ((s3.hold_bare tag).trans h3) (handed_of_carry ?_ hc)
    exact handed_trans (State.toHost_handed _ g true p3) (State.actionStep_handed _ g r t p3)
  · exact handed_after h3 (handed_mono (handed_of_carry (s3.actionStep_handed g r t p3) hc) (by decide))

/-- What a packet's way leaves: its results behind those of the piste, and the rest of the state as it was. -/
theorem handed_frame {g n : Nat} {p : Pkt} {s t : State} (h : handed g n p s t) :
    (∃ l, t.ip g = { s.ip g with out := (s.ip g).out ++ l } ∧ l.length ≤ n ∧ carry p l) ∧ mapKept s.ips t.ips [g] ∧
      t = { s with
        regs := t.regs, tbl := t.tbl, ver := t.ver, ips := t.ips, sch := t.sch, flt := t.flt, evt := t.evt,
        out := t.out, pci := s.pciBut t } := by
  obtain ⟨l, ht, hn, hl⟩ := h
  have hips := congrArg State.ips ht
  change t.ips = (s.bare.handAll g l).ips at hips
  refine ⟨⟨l, ?_, hn, hl⟩, ?_, ?_⟩
  · exact (congrArg (State.ip · g) ht).trans (s.bare.ip_handAll g l)
  · rw [hips]
    exact s.bare.mapKept_handAll g l
  · refine eq_of_bare (s := { s with ips := t.ips }) ?_
    rw [ht, State.handAll_eq, ← hips]
    rfl




/-! ### A packet's start at the piste (R21, R398) -/

theorem State.until_now (s : State) (t : Nat) : (s.until t).now = s.now + (t - s.now) := rfl

theorem State.ingressNext_of_rxbuf {s : State} {g : Nat} {p : Pkt} {rest : List Pkt} (h : (s.pg g).rxbuf = p :: rest) :
    s.ingressNext g = some (p, s.setPg g { s.pg g with rxbuf := rest }) := by
  simp only [State.ingressNext, h]

theorem State.ingressNext_of_lift {s : State} {g : Nat} {p : Pkt} {rest : List Pkt} (hrx : (s.pg g).rxbuf = [])
    (h : (s.ep g).lift = p :: rest) : s.ingressNext g = some (p, s.setEp g { s.ep g with lift := rest }) := by
  simp only [State.ingressNext, hrx, h]

theorem State.ingressNext_of_cpuIn {s : State} {g : Nat} {p : Pkt} {rest : List Pkt} (hrx : (s.pg g).rxbuf = [])
    (hlift : (s.ep g).lift = []) (h : (s.ip g).cpuIn = p :: rest) :
    s.ingressNext g = some (p, s.setIp g { s.ip g with cpuIn := rest }) := by
  simp only [State.ingressNext, hrx, hlift, h]

/-! Time that passes leaves a piste's inputs and results. -/

theorem State.until_pg (s : State) (t g : Nat) : (s.until t).pg g = s.pg g := by
  rw [State.pg, State.pg, State.until_pgs]
theorem State.until_ip (s : State) (t g : Nat) : (s.until t).ip g = s.ip g := by
  rw [State.ip, State.ip, State.until_ips]
theorem State.until_ep (s : State) (t g : Nat) : (s.until t).ep g = s.ep g := by
  rw [State.ep, State.ep, State.until_eps]

theorem State.until_slotsFrom_now (s : State) (g : Nat) : (s.until (s.slotsFrom g)).now = s.slotsFrom g := by
  rw [State.until_now, State.slotsFrom]
  split <;> omega

/-- A packet taken from an input starts at the piste: its results, the clock it takes of the piste's slots, and the rest
as it was. -/
theorem exec_ingressPacket_of_next {g : PgIx} {s u w : State} {p : Pkt} (hrun : s.running (pgIP g) = true)
    (hfwd : s.forwarding = true) (hu : s.until (s.slotsFrom g) = u) (hnext : u.ingressNext g = some (p, w)) :
    ∃ t, exec (.ingressPacket g) s = .next t ∧
      (∃ l, t.ip g = { w.ip g with out := (w.ip g).out ++ l } ∧ l.length ≤ 2 ∧ carry (w.versioned p) l) ∧
      mapKept w.ips t.ips [g.val] ∧ t.tim = { w.tim with starts := t.tim.starts } ∧
      kget? t.tim.starts g = some (kgetD w.tim.starts g 0 + 1) ∧ mapKept w.tim.starts t.tim.starts [g.val] ∧
      t = { w with
        tim := t.tim, regs := t.regs, tbl := t.tbl, ver := t.ver, ips := t.ips, sch := t.sch, flt := t.flt,
        evt := t.evt, out := t.out, pci := w.pciBut t } := by
  have hexec : exec (.ingressPacket g) s = .next ((w.slotStart g).ingress g p) := by
    change execIngressPacket g s = _
    rw [execIngressPacket, hrun, hfwd, hu, hnext]
    rfl
  obtain ⟨hout, hips, ht⟩ := handed_frame ((w.slotStart g).ingress_handed g p)
  refine ⟨_, hexec, hout, hips, ?_⟩
  generalize (w.slotStart g).ingress g p = t at ht ⊢
  have htim : t.tim = (w.slotStart g).tim := (congrArg State.tim ht :)
  refine ⟨by rw [htim]; rfl, ?_, ?_, ht.trans (by rw [htim]; rfl)⟩
  · rw [htim, State.slotStart, kget?_kset, if_pos rfl]
  · intro k hk
    rw [htim, State.slotStart, kget?_kset, if_neg (by simpa using hk)]

/-! ### A late ICV (R279, R280) -/

/-- What the rules and the policers hold. -/
def State.rules (s : State) : Tbl × Ver × Sch := (s.tbl, s.ver, s.sch)

theorem State.setPeer_rules (s : State) (v : Nat) : (s.setPeer v).rules = s.rules := by
  unfold State.setPeer
  split
  · rfl
  · simp [State.rules]

theorem State.journalPut_rules (s : State) (e : JEntry) : (s.journalPut e).rules = s.rules := rfl

theorem State.bulkBegin_rules (s : State) : s.bulkBegin.rules = s.rules := by
  refine Eq.trans ?_ (s.setPeer_rules stSyncing)
  simp [State.rules, State.bulkBegin, State.journalPut]

theorem State.resyncPoll_rules (s : State) : s.resyncPoll.rules = s.rules := by
  unfold State.resyncPoll
  split
  · exact s.bulkBegin_rules
  · rfl

theorem State.peerStale_rules (s : State) : s.peerStale.rules = s.rules := by
  unfold State.peerStale
  extract_lets stale
  refine (State.resyncPoll_rules _).trans ?_
  change stale.rules = s.rules
  dsimp only [stale]
  split
  · rfl
  · refine Eq.trans ?_ (s.setPeer_rules stStale)
    simp [State.rules]

theorem State.journal_rules (s : State) (e : JEntry) : (s.journal e).rules = s.rules := by
  unfold State.journal
  split
  · split
    · exact s.journalPut_rules e
    · refine (State.peerStale_rules _).trans ?_
      simp [State.rules]
  · rfl

theorem ite_rules (c : Prop) [Decidable c] (a b : State) :
    (if c then a else b).rules = if c then a.rules else b.rules :=
  apply_ite State.rules c a b

theorem State.wr64_rules (s : State) (lo hi v : Nat) : (s.wr64 lo hi v).rules = s.rules := by simp [State.rules]
theorem State.event_rules (s : State) (page code amt : Nat) (q : Nat → Bool) :
    (s.event page code amt q).rules = s.rules := by simp [State.rules]
theorem State.saCount_rules (s : State) (sa i : Nat) : (s.saCount sa i).rules = s.rules := by
  simp [State.rules, State.saCount]
theorem State.saCount_bare (s : State) (sa i : Nat) : (s.saCount sa i).bare = s.bare := s.bump_bare ..
theorem State.pnMark_rules (s : State) (sa : Nat) : (s.pnMark sa).rules = s.rules := s.journal_rules ..
theorem State.pnMark_bare (s : State) (sa : Nat) : (s.pnMark sa).bare = s.bare := s.journal_bare ..

theorem State.setNextPn_rules (s : State) (sa pn : Nat) : (s.setNextPn sa pn).rules = s.rules := by
  simp only [State.setNextPn, ite_rules, State.pnMark_rules, State.wr64_rules, ite_self]

theorem State.setNextPn_bare (s : State) (sa pn : Nat) : (s.setNextPn sa pn).bare = s.bare := by
  simp only [State.setNextPn, ite_bare, State.pnMark_bare, State.wr64_bare, ite_self]

theorem State.secAccept_rules (s : State) (sa pn : Nat) : (s.secAccept sa pn).rules = s.rules := by
  simp only [State.secAccept, ite_rules, State.setNextPn_rules, State.saCount_rules, State.event_rules, ite_self]

theorem State.secAccept_bare (s : State) (sa pn : Nat) : (s.secAccept sa pn).bare = s.bare := by
  simp only [State.secAccept, ite_bare, State.setNextPn_bare, State.saCount_bare, State.event_bare, ite_self]

/-- Work that keeps rules and policers and has no business with a piste leaves of the state all but its registers,
faults on their way, the journal and what is sent. -/
theorem eq_of_bare_rules {s t : State} (hbare : t.bare = s.bare) (hrules : t.rules = s.rules) :
    t = { s with regs := t.regs, flt := t.flt, evt := t.evt, out := t.out, pci := s.pciBut t } := by
  have htbl : t.tbl = s.tbl := congrArg (·.1) hrules
  have hver : t.ver = s.ver := congrArg (·.2.1) hrules
  have hsch : t.sch = s.sch := congrArg (·.2.2) hrules
  exact (eq_of_bare hbare).trans (by rw [htbl, hver, hsch])

theorem exec_icvComplete_ok {p : Port} {i : Icv} {rest : List Icv} {s : State} (hicv : (s.port p).icv = i :: rest)
    (hok : i.ok = true) (hnew : s.replayed i.sa i.pn = false) :
    exec (.icvComplete p) s = .next ((s.setPort p { s.port p with icv := rest }).secAccept i.sa i.pn) := by
  have hnew : (s.setPort p { s.port p with icv := rest }).replayed i.sa i.pn = false := hnew
  change Host.Outcome.next (s.icvNext p) = _
  simp [State.icvNext, hicv, State.icvDone, hnew, hok]

/-- Settles O18: each input's packet is taken by the equation of `ingressNext`, and `exec_ingressPacket_of_next` says
what its way through the piste leaves. -/
theorem ingressComplete : Obligations.IngressComplete := by
  unfold Obligations.IngressComplete
  refine ⟨?_, ?_, ?_, ?_⟩
  · intro g p rest v s u hrun hfwd hrx hpass hcur hu
    have hpg : u.pg g = s.pg g := by rw [← hu, State.until_pg]
    have hip : u.ip g = s.ip g := by rw [← hu, State.until_ip]
    have hpgs : u.pgs = s.pgs := by rw [← hu, State.until_pgs]
    have hips : u.ips = s.ips := by rw [← hu, State.until_ips]
    have hver : u.ver = s.ver := by rw [← hu, State.until_ver]
    have hnow : u.now = s.slotsFrom g := by rw [← hu, State.until_slotsFrom_now]
    obtain ⟨t, hexec, ⟨l, hout, hn, hl⟩, hkept, htim, hstart, hstarts, ht⟩ :=
      exec_ingressPacket_of_next hrun hfwd hu (State.ingressNext_of_rxbuf (hpg ▸ hrx))
    rw [State.setPg_ips, hips] at hkept
    have hout : t.ip g = { s.ip g with out := (s.ip g).out ++ l } := by rw [hout, ← hip]; rfl
    have htp : t.pgs = (s.setPg g { s.pg g with rxbuf := rest }).pgs := by
      rw [State.setPg, ← hpgs, ← hpg]
      exact (congrArg State.pgs ht :)
    refine ⟨t, hexec, ?_, htp, ⟨l, by rw [hout], hn, ?_⟩, by rw [hout], by rw [hout], hkept, ?_, htim,
      hstart, hstarts, ?_⟩
    · rw [State.pg, htp, ← State.pg, State.pg_setPg, if_pos rfl]
    · intro o ho
      obtain ⟨hbytes, hsrc, htag, htok, hst, -⟩ := hl o ho
      refine ⟨hbytes, hsrc, htag.trans ?_, htok, hst⟩
      simp [State.versioned, hpass, hver, hcur]
    · exact (congrArg State.now ht :).trans hnow
    · exact (congrArg (fun x : State => { x with pgs := t.pgs }) ht :)
  · intro g p rest s u hrun hfwd hrx hlift hpass hu
    have hpg : u.pg g = s.pg g := by rw [← hu, State.until_pg]
    have hip : u.ip g = s.ip g := by rw [← hu, State.until_ip]
    have hep : u.ep g = s.ep g := by rw [← hu, State.until_ep]
    have hips : u.ips = s.ips := by rw [← hu, State.until_ips]
    have heps : u.eps = s.eps := by rw [← hu, State.until_eps]
    obtain ⟨t, hexec, ⟨l, hout, hn, hl⟩, hkept, htim, hstart, hstarts, ht⟩ :=
      exec_ingressPacket_of_next hrun hfwd hu (State.ingressNext_of_lift (hpg ▸ hrx) (hep ▸ hlift))
    rw [State.setEp_ips, hips] at hkept
    have hout : t.ip g = { s.ip g with out := (s.ip g).out ++ l } := by rw [hout, ← hip]; rfl
    have hte : t.eps = (s.setEp g { s.ep g with lift := rest }).eps := by
      rw [State.setEp, ← heps, ← hep]
      exact (congrArg State.eps ht :)
    refine ⟨t, hexec, hte, by rw [hout], ⟨l, by rw [hout], hn, ?_⟩, by rw [hout], hkept, hstart, hstarts, htim, ?_⟩
    · intro o ho
      obtain ⟨hbytes, hsrc, htag, htok, hst, hps⟩ := hl o ho
      refine ⟨hbytes, hsrc, htag.trans ?_, htok, hst, hps⟩
      simp [State.versioned, hpass]
    · exact (congrArg (fun x : State => { x with eps := t.eps }) ht :)
  · intro g p rest v s u hrun hfwd hrx hlift hcpu hpass hcur hu
    have hpg : u.pg g = s.pg g := by rw [← hu, State.until_pg]
    have hip : u.ip g = s.ip g := by rw [← hu, State.until_ip]
    have hep : u.ep g = s.ep g := by rw [← hu, State.until_ep]
    have hips : u.ips = s.ips := by rw [← hu, State.until_ips]
    have heps : u.eps = s.eps := by rw [← hu, State.until_eps]
    have hver : u.ver = s.ver := by rw [← hu, State.until_ver]
    obtain ⟨t, hexec, ⟨l, hout, hn, hl⟩, hkept, htim, hstart, hstarts, ht⟩ :=
      exec_ingressPacket_of_next hrun hfwd hu (State.ingressNext_of_cpuIn (hpg ▸ hrx) (hep ▸ hlift) (hip ▸ hcpu))
    rw [State.ip_setIp, if_pos rfl, hip] at hout
    have hkept : mapKept s.ips t.ips [g.val] := by
      intro k hk
      rw [hkept k hk, State.setIp, kget?_kset, if_neg (by simpa using hk), hips]
    have hte : t.eps = s.eps := (congrArg State.eps ht :).trans heps
    refine ⟨t, hexec, hte, by rw [hout], ⟨l, by rw [hout], hn, ?_⟩, by rw [hout], hkept, hstart, hstarts, htim, ?_⟩
    · intro o ho
      obtain ⟨hbytes, hsrc, htag, htok, hst, hps⟩ := hl o ho
      refine ⟨hbytes, hsrc, htag.trans ?_, htok, hst, hps⟩
      simp [State.versioned, hpass, hver, hcur]
    · exact (congrArg (fun x : State => { x with eps := t.eps }) ht :)
  · intro p i rest s hicv hok hnew
    let w := s.setPort p { s.port p with icv := rest }
    have hports := ports_of_bare (w.secAccept_bare i.sa i.pn)
    have ht := eq_of_bare_rules (w.secAccept_bare i.sa i.pn) (w.secAccept_rules i.sa i.pn)
    refine ⟨w.secAccept i.sa i.pn, exec_icvComplete_ok hicv hok hnew, ?_, ?_, ht, rfl⟩
    · rw [State.port, hports, ← State.port, State.port_setPort, if_pos rfl]
    · intro k hk
      rw [hports, show w.ports = kset s.ports p { s.port p with icv := rest } from rfl, kget?_kset,
        if_neg (by simpa using hk)]

end Sys2Proof.Machine
